-- ==== Sys2Proof/Word.lean ====
section
/-! DEFINITION. The word types of the XM-960 and the shape of its sparse tables (00_scope.md R1; 01_device_and_beat.md R40). -/

namespace Sys2Proof

/-- One byte of a frame, record or MRAM image. -/
abbrev Byte := BitVec 8
/-- A 16-bit field. -/
abbrev Half := BitVec 16
/-- One 32-bit transfer of the service fabric: the manual's `word` (R7). -/
abbrev Word := BitVec 32
/-- A ledger term or performance counter: 48 bits, wrapping (R40, R529). -/
abbrev Count48 := BitVec 48
/-- A 64-bit field: beat numbers, device time, identities. -/
abbrev Long := BitVec 64

/-- A sparse table by number, in one canonical form: keys strictly rising, and no entry equal to what an
unlisted key reads as.  The form is `Tab.Canon`; every write goes through `Tab.set`. -/
abbrev Tab (α : Type) := List (Nat × α)

end Sys2Proof
end

