-- ==== Sys2Proof/Syntax/Image.lean ====
section
/-! DEFINITION. The configuration image as the loader reads it: header, directory, sections and companion tables
(02_schedule_contract.md, 03_image_start_resets.md and the table of each chapter). -/

namespace Sys2Proof

/-- One entry of the recorder's rate table (Table 17.2). -/
structure RateEntry where
  code     : Half
  burst    : Nat
  noGlobal : Bool
  refillMs : Nat
deriving DecidableEq, Repr

/-- An operation descriptor (Table 2.3). -/
structure OpDesc where
  opcode    : Half
  flags     : Half
  notBefore : Word
  deadline  : Word
  operand   : Word
deriving DecidableEq, Repr

/-- One beat list of an engine (R57). -/
structure BeatList where
  budget : Word
  ops    : List OpDesc
deriving DecidableEq, Repr

/-- One directory entry of an engine with its beat index (R56). -/
structure EngineDir where
  engine  : Byte
  budget  : Word
  opTotal : Word
  beats   : List BeatList
deriving DecidableEq, Repr

/-- A variant entry (Table 2.9). -/
structure VariantEntry where
  id        : Half
  nVar      : Byte
  nDev      : Byte
  lossMask  : BitVec 48
  lockMask  : BitVec 48
  structSig : Word
  problem   : Word
  nProj     : Half
  proj      : Word
deriving DecidableEq, Repr

/-- A range entry (R77). -/
structure RangeEntry where
  qid      : Half
  intBits  : Byte
  fracBits : Byte
  min      : Word
  max      : Word
  block    : Half
deriving DecidableEq, Repr

/-- The bank header (Table 2.2). -/
structure BankHeader where
  magic       : Word
  format      : Half
  compat      : Half
  imageId     : Long
  layoutSig   : Long
  period      : Half
  nEngine     : Byte
  flags       : Byte
  worstCycles : Word
  worstBeat   : Half
  nVariant    : Half
  nRange      : Half
  nTranslate  : Half
  acceptCompat : List Half
  runDir      : Word
  watchDir    : Word
  variantOfs  : Word
  rangeOfs    : Word
  translateOfs : Word
  bankBytes   : Word
  compBytes   : Word
  ovrLimit    : Byte
  ovrRounds   : Byte
  reservedZero : Bool
deriving DecidableEq, Repr

/-- A region entry of the host table (R412). -/
structure RegionEntry where
  id     : Half
  role   : Byte
  runtime : Bool
  target : Word
  length : Word
  qid    : Half
deriving DecidableEq, Repr

/-- One port of NET_CFG (Table 14.6). -/
structure NetPort where
  address : Word
  prefixLen : Byte
  vlan    : Half
  gateway : Word
deriving DecidableEq, Repr

/-- One stream destination of NET_CFG (Table 14.6). -/
structure NetDest where
  address : Word
  port    : Half
  ports   : Byte
  ttl     : Byte
deriving DecidableEq, Repr

/-- The NET_CFG section (Table 14.6). -/
structure NetCfg where
  magic          : Word
  format         : Half
  streamInterval : Byte
  streamSlot     : Byte
  idleS          : Half
  ptpMaster      : Byte
  priority1      : Byte
  priority2      : Byte
  mtu            : Byte
  cmdQueue       : Byte
  cmdPerBeat     : Byte
  ports          : List NetPort
  dests          : List NetDest
deriving DecidableEq, Repr

/-- One sensor-model entry of TIME_CFG (Table 4.3). -/
structure ModelEntry where
  source    : Half
  model     : Byte
  stamp     : Byte
  latencyNs : Word
  readmit   : Byte
  rateLog2  : Byte
deriving DecidableEq, Repr

/-- The TIME_CFG section (Table 4.3). -/
structure TimeCfg where
  magic       : Word
  format      : Half
  sources     : Byte
  ptpPorts    : Byte
  ptpDomain   : Byte
  busChannel  : Byte
  extSerial   : Byte
  qualCount   : Byte
  slewPpm     : Half
  armWindow   : Half
  jumpUs      : Word
  lockBandNs  : Word
  ppsInDelay  : Int
  ppsWidthMs  : Half
  ppsFlags    : Byte
  utcDefault  : Half
  kpLog2      : Byte
  kiLog2      : Byte
  models      : List ModelEntry
deriving DecidableEq, Repr

/-- One entry of the conditioning table (Table 5.5), with its FIR coefficients. -/
structure CndEntry where
  source    : Byte
  altSource : Byte
  sinc      : Byte
  firKind   : Byte
  osr       : Half
  clkDiv    : Half
  dcbMhz    : Half
  maLen     : Half
  firTaps   : Byte
  fastOsr   : Byte
  freezeAtStart : Bool
  autoFreeze : Bool
  seqPos    : Byte
  stepThr   : Word
  firOfs    : Word
  fir       : List (BitVec 32)
  gdFirMin  : Word
  ovlSwitch : Half
deriving DecidableEq, Repr

/-- The conditioning table (Table 5.5). -/
structure CndTable where
  magic   : Word
  format  : Half
  seq0Len : Half
  seq1Len : Half
  entries : List CndEntry
deriving DecidableEq, Repr

/-- One stream entry of the GNSS table (Table 6.10). -/
structure GnsStreamCfg where
  rate : Byte
  bits : Byte
  band : Byte
  ifHz : Int
deriving DecidableEq, Repr

/-- One antenna entry of the GNSS table. -/
structure GnsAntenna where
  leverX  : Int
  leverY  : Int
  leverZ  : Int
  posSlot : Half
  hdgSlot : Half
deriving DecidableEq, Repr

/-- One channel entry of the GNSS table (CHAN_OFS). -/
structure GnsChanCfg where
  delaySlot   : Half
  carrierSlot : Half
  pinSignal   : Byte
  pinSv       : Half
  spacing     : Byte
deriving DecidableEq, Repr

/-- One entry of the front-end write list (R170). -/
structure SpiWrite where
  port    : Byte
  verify  : Bool
  address : Half
  value   : Word
deriving DecidableEq, Repr

/-- The GNSS table (Table 6.10).  `priority` is the order of signals, `biases` and `models` the tables of MODEL_OFS. -/
structure GnsTable where
  magic       : Word
  format      : Half
  latchBeats  : Byte
  kSigma      : Byte
  signals     : Word
  cohMs       : Byte
  nonCoh      : Byte
  doppMax     : Half
  acqThr      : Half
  cn0Min      : Half
  pullBeats   : Byte
  coastBeats  : Byte
  elevMask    : Byte
  exclMax     : Byte
  rateSigma   : Half
  resThr      : Half
  clkJump     : Word
  clkDrift    : Half
  doppThr     : Half
  xbandM      : Byte
  xantM       : Byte
  agcLo       : Half
  agcHi       : Half
  readmit     : Byte
  spoofClear  : Byte
  spoofPhase  : Half
  fixResMm    : Half
  notchDb     : Byte
  burstBeats  : Byte
  burstBeat   : Half
  streams     : List GnsStreamCfg
  antennas    : List GnsAntenna
  chans       : List GnsChanCfg
  spi         : List SpiWrite
  priority    : List Byte
  modelOfs    : Word
deriving DecidableEq, Repr

/-- A problem descriptor (Table 7.7). -/
structure ProblemDesc where
  /-- Its offset in the companion area, as the OPERAND of its operations names it. -/
  ofs       : Word
  slot      : Half
  kind      : Byte
  clusters  : Byte
  n         : Half
  m         : Half
  structSig : Word
  iter      : Half
  pivotThr  : Word
  delta     : Word
  rho       : Word
  sigma     : Word
  resThr    : Word
  loadCyc   : Word
  factorCyc : Word
  iterCyc   : Word
  patternOfs : Word
  permOfs   : Word
  dataOfs   : Word
  resultOfs : Word
  qidX      : Half
  qidY      : Half
  qidD      : Half
  qidRes    : Half
  qidAcc    : Half
  qidRho    : Half
  factorSrc : Half
deriving DecidableEq, Repr

/-- A projection table (Table 7.4): source indices of the target's variables and rows. -/
structure ProjTable where
  fromSig : Word
  toSig   : Word
  nTo     : Half
  mTo     : Half
  mapX    : List Half
  mapR    : List Half
deriving DecidableEq, Repr

/-- One entry of the estimator table (Table 8.8). -/
structure EstEntry where
  kind      : Byte
  side      : Byte
  source    : Half
  leverX    : Int
  leverY    : Int
  leverZ    : Int
  sigmaNom  : Half
  sigmaMax  : Half
  jumpLim   : Half
  freezeN   : Byte
  readmit   : Byte
  staleBeats : Half
  maxD      : Byte
  useReported : Bool
  target    : Bool
deriving DecidableEq, Repr

/-- The estimator table (Table 8.8); `motMed` are the six limits of MOT_MED, all 0 when it is absent. -/
structure EstTable where
  magic     : Word
  format    : Half
  slotUpd   : Half
  slotCov   : Half
  initBeats : Half
  drLimit   : Half
  drLimitWatch : Half
  peThr     : Half
  medMm     : Half
  medAng    : Word
  driftMm   : Half
  driftTc   : Half
  driftAng  : Word
  medMin    : Byte
  modelOfs  : Word
  windOfs   : Word
  motMed    : List Word
  /-- ω₀ in mrad/s and ζ in 0.001 for north, east and heading, of the model block. -/
  omega0    : List Half
  zeta      : List Half
  /-- The rest of the model block and the wind block, as Sirlek packs them (MODEL_OFS, WIND_OFS). -/
  model     : List Int
  wind      : List Int
  /-- The observer's image values, raw codes, and the factor of the initial variances. -/
  initState : List Int
  initSigma : List Int
  entries   : List EstEntry
deriving DecidableEq, Repr

/-- One camera entry of the Luna table (Table 9.8). -/
structure CameraCfg where
  lanes     : Byte
  vc        : Byte
  dataType  : Byte
  width     : Half
  height    : Half
  laneMbps  : Half
  embTsLine : Half
  fsOffset  : Word
deriving DecidableEq, Repr

/-- One lidar entry of the Luna table with its parser descriptor (Tables 9.1, 9.7). -/
structure LidarCfg where
  port      : Byte
  udpPort   : Half
  mode      : Byte
  intOfs    : Byte
  hdrBytes  : Half
  stride    : Half
  coordOfs  : Byte
  ptimeOfs  : Byte
  tsOfs     : Half
  scaleUm   : Half
  sweepMax  : Word
deriving DecidableEq, Repr

/-- The Luna table (Table 9.7). -/
structure LunaTable where
  magic     : Word
  format    : Half
  cell      : Byte
  nClass    : Byte
  gridX0    : Int
  gridY0    : Int
  ageMax    : Half
  detCh     : Byte
  detThr    : Int
  ofsXCh    : Byte
  ofsYCh    : Byte
  classCh   : Byte
  birthN    : Byte
  birthM    : Byte
  confK     : Byte
  missMax   : Byte
  gate      : Half
  detSig    : Word
  qTrack    : Word
  confSig   : Word
  waterline : Int
  gain      : List Half
  frameBeats : List Byte
  quota     : List Word
  cameras   : List CameraCfg
  lidars    : List LidarCfg
deriving DecidableEq, Repr

/-- A layer of a network (Table 9.2, R258), with its weights and biases. -/
structure LunLayer where
  op       : Byte
  kernel   : Nat
  stride   : Nat
  dilation : Nat
  pad      : Nat
  average  : Bool
  /-- Input tensors, by number in the order the network produced them; tensor 0 is the ingested one. -/
  inputs   : List Nat
  outH     : Nat
  outW     : Nat
  outC     : Nat
  zpOut    : Int
  actLo    : Int
  weights  : List Int
  bias     : List Int
  mult     : List Int
  shift    : List Nat
  /-- A weight or bias reference lies beyond the section. -/
  refBad   : Bool
deriving DecidableEq, Repr

/-- One network of LUNA_WEIGHTS (R257). -/
structure LunNet where
  source   : Byte
  /-- The largest pair of live tensors, in bytes. -/
  live     : Nat
  layers   : List LunLayer
deriving DecidableEq, Repr

/-- The LUNA_WEIGHTS section (R257, R259). -/
structure LunWeights where
  magic : Word
  nets  : List LunNet
deriving DecidableEq, Repr

/-- One entry of CAL_BASELINE (R271): sensor, LEARN and six parameters. -/
structure CalEntry where
  sensor : Byte
  learn  : Bool
  params : List Int
deriving DecidableEq, Repr

/-- The CAL_BASELINE section (R271); `crc` is the section's CRC-32. -/
structure CalBaseline where
  magic   : Word
  format  : Half
  stepMm  : Half
  devMm   : Half
  stepAng : Word
  devAng  : Word
  entries : List CalEntry
  crc     : Word
deriving DecidableEq, Repr

/-- A sector of a thrust device (Table 10.3): KIND 1 PASS_ZERO, 2 BLOCKED. -/
structure SectorCfg where
  start   : Word
  width   : Word
  kind    : BitVec 2
  atStart : Bool
deriving DecidableEq, Repr

/-- A device entry of the allocation table (Table 10.3). -/
structure AlcDevCfg where
  kind        : Byte
  noLock      : Bool
  statusField : Half
  posX        : Int
  posY        : Int
  rated       : Word
  dir         : Word
  revFrac     : Half
  tRate       : Half
  aRate       : Word
  aMax        : Word
  liftAhead   : Half
  liftAstern  : Half
  wPower      : Half
  wChange     : Half
  fbField     : Half
  fbSide      : Byte
  lockBeats   : Byte
  lockTol     : Word
  fbTimeout   : Half
  passFrac    : Half
  tMinAngle   : Half
  uFade       : Half
  eMin        : Half
  sectors     : List SectorCfg
deriving DecidableEq, Repr

/-- A thrust group (R283). -/
structure AlcGroup where
  mask       : BitVec 48
  availField : Half
  limitN     : Word
deriving DecidableEq, Repr

/-- The allocation table (Table 10.2). -/
structure AlcTable where
  magic      : Word
  format     : Half
  slot       : Half
  sectorPress : Half
  forceRef   : Word
  momentRef  : Word
  wSlack     : List Half
  slackWarn  : Half
  slackWarnBeats : Half
  devices    : List AlcDevCfg
  groups     : List AlcGroup
deriving DecidableEq, Repr

/-- A slot entry of the control table (Table 11.2). -/
structure SlotCfg where
  order    : Byte
  tag      : Byte
  perBeat  : Byte
  flags    : Byte
  every    : Half
  phase    : Half
  input    : Word
  qidX     : Half
  qidY     : Half
  b        : List Int
  a        : List Int
  sb       : List Nat
  sa       : List Nat
  outMin   : Int
  outMax   : Int
  stateMin : Int
  stateMax : Int
deriving DecidableEq, Repr

/-- A winch entry (R323). -/
structure WinchCfg where
  outKind   : Byte
  outIndex  : Half
  tension   : Half
  ahc       : Half
  leverX    : Int
  leverY    : Int
  speedMax  : Word
deriving DecidableEq, Repr

/-- A stabiliser entry (R323). -/
structure StabCfg where
  kind     : Byte
  outKind  : Byte
  outIndex : Half
  slot     : Half
  minSpeed : Word
deriving DecidableEq, Repr

/-- The control table (Table 11.9). -/
structure CtlTable where
  magic     : Word
  format    : Half
  posMin    : Byte
  ffWind    : List Half
  ffCurrent : List Half
  joyField  : Half
  joyTimeout : Half
  joyScale  : List Word
  tgtLossBeats : Half
  slackHold : Half
  vMaxPos   : Word
  aMaxPos   : Word
  vMaxPsi   : Word
  aMaxPsi   : Word
  eDoneMm   : Word
  eDoneAng  : Word
  sumList   : List (List Half)
  slots     : List SlotCfg
  winches   : List WinchCfg
  stabs     : List StabCfg
deriving DecidableEq, Repr

/-- An output entry of OUT_CFG (Table 12.6). -/
structure OutCfg where
  kind      : Byte
  srcKind   : Byte
  srcIndex  : Half
  gain      : Int
  shift     : Nat
  latchFail : Bool
  sync      : Bool
  invert    : Bool
  holdLimit : Half
  offset    : Int
  minCode   : Word
  maxCode   : Word
  failKind  : Byte
  safeLink  : Byte
  slew      : Half
  periodTicks : Word
  failCode  : Word
deriving DecidableEq, Repr

/-- A segment binding (Table 12.6). -/
structure SegCfg where
  kind     : Byte
  bitNo    : Byte
  blink    : BitVec 2
  fbBlink  : BitVec 2
  fbOn     : Bool
  arg      : Word
deriving DecidableEq, Repr

/-- The OUT_CFG section (Table 12.6): outputs 0 to 111, segments 0 to 191. -/
structure OutTable where
  magic     : Word
  format    : Half
  annBias   : Byte
  vlcdCode  : Byte
  refresh   : Byte
  loopCount : Byte
  loopTol   : Half
  outputs   : List OutCfg
  segments  : List SegCfg
deriving DecidableEq, Repr

/-- A message entry (Table 13.1); `ident` is the identifier word with EXT at bit 29. -/
structure MsgEntry where
  ident    : Word
  channel  : BitVec 4
  tx       : Bool
  fd       : Bool
  brs      : Bool
  command  : Bool
  len      : Byte
  node     : Half
  capture  : Byte
  ring     : Byte
  bufWin   : Half
  quotaEvery : Half
  phase    : Half
deriving DecidableEq, Repr

/-- A capture field (R358). -/
structure CapField where
  source : Half
  offset : Byte
  length : Byte
  format : Byte
deriving DecidableEq, Repr

/-- An output field (R359). -/
structure OutField where
  entry    : Half
  offset   : Byte
  length   : Byte
  srcKind  : Byte
  high     : Bool
  bigEndian : Bool
  srcIndex : Half
deriving DecidableEq, Repr

/-- The message table (R357). -/
structure MsgTable where
  magic     : Word
  format    : Half
  chEnable  : Half
  entries   : List MsgEntry
  fields    : List CapField
  outFields : List OutField
deriving DecidableEq, Repr

/-- A channel entry of NODE_TABLE (R388); identifiers carry EXT at bit 29 and VALID at bit 30. -/
structure ChanCfg where
  role       : Byte
  nom        : Byte
  data       : Byte
  autoRecover : Bool
  shared     : Bool
  nomDefault : Byte
  dataDefault : Byte
  arbMax     : Byte
  replyBeats : Byte
  refId      : Word
  lifeId     : Word
  amdQueryId : Word
  amdAnswerBase : Word
  lifeWindow : Byte
  amdWindow  : Byte
  hostWindow : Byte
  refSilent  : Byte
  freshPropose : Half
  syncOffer  : Byte
deriving DecidableEq, Repr

/-- A node entry of NODE_TABLE (R388). -/
structure NodeCfg where
  channel   : Byte
  address   : Byte
  syncReq   : Byte
  fdAllowed : Bool
  freshMax  : Half
deriving DecidableEq, Repr

/-- A sentence entry of NODE_TABLE (R388). -/
structure SentCfg where
  port     : Byte
  decode   : Byte
  capture  : Byte
  ring     : Byte
  address  : List Byte
  checksumReq : Bool
  useTagTime : Bool
  quota    : Half
  group    : Word
  udpPort  : Half
  tagSrc   : List Byte
  fields   : List Byte
  scales   : List Int
deriving DecidableEq, Repr

/-- A ring entry of NODE_TABLE (Table 13.9). -/
structure RingCfg where
  depth    : Half
  entryBytes : Half
  producer : Byte
  consumer : Byte
  stale    : Half
  take     : Byte
  serPort  : Byte
deriving DecidableEq, Repr

/-- The NODE_TABLE section (Table 13.9); `windows` are the 32 windows of each channel, channel 0 first. -/
structure NodeTable where
  magic     : Word
  format    : Half
  serRate   : List Byte
  channels  : List ChanCfg
  windows   : List Word
  rings     : List RingCfg
  nodes     : List NodeCfg
  sentences : List SentCfg
deriving DecidableEq, Repr

/-- The pair table (Table 15.13). -/
structure PairTable where
  magic        : Word
  format       : Half
  takeoverMask : Half
  stateBytes   : Word
  fastBytes    : Word
  dirtyThr     : Byte
  dirtyMax     : Byte
  proveRounds  : Half
  exclLimit    : Byte
  sigMissLimit : Byte
  alignNs      : Half
  scrubLimit   : Half
deriving DecidableEq, Repr

/-- One operation of a translation table (Table 15.11): OP 1 COPY, 2 SHIFT, 3 FILL. -/
structure TransOp where
  src   : Word
  dst   : Word
  len   : Word
  op    : Byte
  shift : Int
deriving DecidableEq, Repr

/-- A translation table (Table 15.11). -/
structure TransTable where
  fromSig : Long
  toSig   : Long
  ops     : List TransOp
deriving DecidableEq, Repr

/-- An SI pair of SAFETY_CFG (Table 16.5a). -/
structure SiCfg where
  mode     : Byte
  filterMs : Byte
  discMs   : Half
  tpSo     : Byte
deriving DecidableEq, Repr

/-- An SO pair of SAFETY_CFG (Table 16.5a). -/
structure SoCfg where
  used    : Bool
  reqKind : Byte
  reqQid  : Half
  reqBit  : Byte
  siStop  : Byte
  tpW     : Byte
deriving DecidableEq, Repr

/-- A sensing entry of SAFETY_CFG (Table 16.5a). -/
structure SenseCfg where
  kind     : Byte
  srcA     : Byte
  srcB     : Byte
  shiftA   : Nat
  shiftB   : Nat
  gainA    : Int
  gainB    : Int
  offsetA  : Int
  offsetB  : Int
  plausTol : Half
  plausMs  : Byte
deriving DecidableEq, Repr

/-- A function of SAFETY_CFG (Table 16.5a); `sectors` are START and WIDTH. -/
structure FuncCfg where
  kind      : Byte
  sense     : Byte
  sense2    : Byte
  enableSi  : Byte
  soMask    : Byte
  dirOrN    : Byte
  lookahead : Half
  limitLo   : Int
  limitHi   : Int
  sectors   : List (Half × Half)
deriving DecidableEq, Repr

/-- The SAFETY_CFG section (R476); `crc` is the section's CRC-32. -/
structure SafetyCfg where
  magic    : Word
  format   : Half
  configId : Word
  sackLow  : Bool
  si       : List SiCfg
  so       : List SoCfg
  sense    : List SenseCfg
  funcs    : List FuncCfg
  /-- An unused entry is not all zero. -/
  dirty    : Bool
  crc      : Word
deriving DecidableEq, Repr

/-- The power table (Table 18.3): IDLE_MS of PD_HWK, PD_LUN, PD_GNS, PD_CND. -/
structure PowerTable where
  magic  : Word
  format : Half
  idleMs : List Half
deriving DecidableEq, Repr

/-- The host table (Table 14.4). -/
structure HostTable where
  magic    : Word
  format   : Half
  regions  : List RegionEntry
  userQids : List Half
deriving DecidableEq, Repr

/-- The recorder's rate table (Table 17.2). -/
structure RateTable where
  magic   : Word
  format  : Half
  entries : List RateEntry
deriving DecidableEq, Repr

/-- The companion area and header of a schedule bank, as the device reads them: one typed table for each part the
chapters place there. -/
structure Schedule where
  header    : BankHeader
  runDir    : List EngineDir
  watchDir  : List EngineDir
  /-- A directory, beat index or list lies outside the bank, or a table outside the companion area. -/
  dirBad    : Bool
  variants  : List VariantEntry
  ranges    : List RangeEntry
  translate : List TransTable
  host      : Option HostTable
  rate      : Option RateTable
  problems  : List ProblemDesc
  projections : List ProjTable
  cnd       : Option CndTable
  gns       : Option GnsTable
  est       : Option EstTable
  luna      : Option LunaTable
  alc       : Option AlcTable
  ctl       : Option CtlTable
  msg       : Option MsgTable
  pair      : Option PairTable
  power     : Option PowerTable
  /-- A reserved byte of a table is not 0, or an offset or count breaks its "0 if and only if" rule. -/
  dirty     : Bool
deriving DecidableEq, Repr


/-- The image header (Table 3.1). -/
structure ImageHeader where
  magic      : Word
  format     : Half
  nSection   : Half
  imageId    : Long
  imageBytes : Word
  secver     : Half
  keySlot    : Byte
  flags      : Byte
  dirOfs     : Word
  sigOfs     : Word
  reservedZero : Bool
deriving DecidableEq, Repr

/-- A section directory entry (R89); `crcOk` says whether the section's CRC-32 matches. -/
structure DirEntry where
  type     : Half
  reserved : Half
  offset   : Word
  length   : Word
  crcOk    : Bool
deriving DecidableEq, Repr

/-- An image as read: its header, directory, signature block and sections. -/
structure ImageDesc where
  /-- The read completed; otherwise the error of step 1 of R92 (1 NVM_DISCOVERY, 2 NVM_READ). -/
  readError : BitVec 8
  header    : ImageHeader
  dir       : List DirEntry
  /-- SHA-256(X ‖ Y) of the signature block, and whether the signature verifies (R91). -/
  keyHash   : BitVec 256
  sigOk     : Bool
  sched     : Option Schedule
  luna      : Option LunWeights
  cal       : Option CalBaseline
  safety    : Option SafetyCfg
  out       : Option OutTable
  net       : Option NetCfg
  nodes     : Option NodeTable
  time      : Option TimeCfg
  /-- Section types with a byte not listed that is not 0. -/
  dirty     : List Half
deriving DecidableEq, Repr

end Sys2Proof
end

