-- ==== Sys2Proof/Syntax/Operands.lean ====
section
/-! DEFINITION. Operands that several commands share: host references, capture items, operation runs. -/

namespace Sys2Proof

/-- The request a command answers: session, HOST_SEQ and REQ_ID (Table 14.2). -/
structure HostRef where
  session : BitVec 8
  hostSeq : Word
  reqId   : Word
deriving DecidableEq, Repr

/-- A command admitted through XHP or staged, on its way to the capture union (R20, R403). -/
structure HostCmd where
  ref     : HostRef
  opcode  : Half
  /-- 32-bit check of the payload (R18). -/
  check   : Word
  payload : List Word
deriving DecidableEq, Repr

/-- Table 1.2's item kinds, 1 to 8. -/
abbrev ItemKind := BitVec 4

/-- A capture-set item (R15, R18). -/
structure Item where
  kind    : ItemKind
  channel : Half
  ident   : Word
  sideB   : Bool
  shared  : Bool
  check   : Word
  source  : Half
  bytes   : Nat
  /-- The instant the item describes, device time in ns. -/
  instant : Nat
  payload : List Word
  host    : Option HostCmd
deriving DecidableEq, Repr

/-- One operation executed by an engine, with the cycles at which it was issued, began and completed (Table 19.5). -/
structure OpRun where
  engine   : BitVec 4
  pair     : Bool
  opIndex  : Half
  issue    : BitVec 20
  start    : BitVec 20
  stall    : BitVec 20
  complete : BitVec 20
deriving DecidableEq, Repr

/-- What a conditioning channel's converter delivers for one chain sample (R144 to R148): modulator bits oldest
first, a SAR code, or a monitor's Q1.31 value. -/
inductive CndInput where
  | bits (l : List Bool) | code (c : Half) | monitor (v : BitVec 32)
deriving DecidableEq, Repr

/-- One stream's inputs over the beat that ends at an edge (R167 to R171): clocks counted, the latched sample index
and fraction, the AGC fill, clipped samples, and the strongest line above the median bin (kHz offset, dB). -/
structure StreamIn where
  stream   : BitVec 4
  clocks   : Nat
  index    : Nat
  fraction : Nat
  fill     : Half
  clips    : Nat
  line     : Option (Int × Nat)
deriving DecidableEq, Repr

/-- One correlator dump of a tracking channel (R173): prompt, early and late values, the symbol decided, and, when frame
synchronisation gives it, the transmit time of the code oscillator's phase 0, in 2⁻³² ms. -/
structure Dump where
  promptI : Int
  promptQ : Int
  earlyI  : Int
  earlyQ  : Int
  lateI   : Int
  lateQ   : Int
  pilot   : Bool
  symbol  : Option Bool
  txTime  : Option Long
deriving DecidableEq, Repr

/-- A search result (R180, R181): code phase in half chips and Doppler bin from the window's centre, the ratio of
peak to mean power in Q8.8, and whether the peak lies in an outermost bin. -/
structure AcqPeak where
  codeBin : Int
  doppBin : Int
  ratio   : Nat
  outer   : Bool
deriving DecidableEq, Repr

/-- What the feeding engine wrote into a problem's data area (R201): the box, the row bounds, and every other value,
as raw codes. -/
structure ProblemData where
  lx    : List Int
  ux    : List Int
  l     : List Int
  u     : List Int
  other : List Int
deriving DecidableEq, Repr

/-- Who makes a register access: the fabric input of Table 19.1, the XHP session (0 none) and the role
(0 none, 1 Observer to 4 Maintainer, R530). -/
structure Who where
  input   : BitVec 4
  session : BitVec 8
  role    : BitVec 3
deriving DecidableEq, Repr

/-- A CAN frame on a bus: the identifier word with EXT at bit 29, its form and data, and the rate codes it decoded at
(R353, R354). -/
structure CanFrame where
  ident : Word
  remote : Bool
  fd    : Bool
  brs   : Bool
  data  : List Byte
  nom   : BitVec 3
  dat   : BitVec 3
deriving DecidableEq, Repr

/-- The header of a received Swallowtail frame (Table 15.1); `ok` says that SYNC and CRC were right. -/
structure LinkHdr where
  ok    : Bool
  retry : Bool
  beat  : Word
  seq   : Half
  ack   : Half
deriving DecidableEq, Repr

/-- The TOKEN payload (Table 15.3). -/
structure Token where
  beat      : Long
  items     : Word
  bytes     : Word
  setCheck  : Word
  health    : Word
  role      : BitVec 3
  sideB     : Bool
  claiming  : Bool
  gateOpen  : Bool
  partnerClaimed : Bool
  join      : BitVec 3
  txTime    : Long
  echoTx    : Long
  echoRx    : Long
  time      : List Word
  stepEdge  : Long
  stepK     : Int
  imageId   : Long
  layoutSig : Long
  compat    : Half
deriving DecidableEq, Repr

/-- The fields of JOIN_REQ (Table 15.6a). -/
structure JoinReq where
  deviceId  : Long
  imageId   : Long
  layoutSig : Long
  compat    : Half
  accepts   : List Half
  sideB     : Bool
  stepUsed  : Bool
  translate : Bool
  health    : Word
deriving DecidableEq, Repr

/-- What the safety island latches at an edge (R458 to R460, R469): the 10 µs samples of each safe input channel over
the beat as runs of level and length (channel 2k is SIkA), the encoder counts with a bad transition, the level read
at SACK after its glitch filter, the re-phase mark of PD_TIME, and the safe output pairs of which a channel's readback disagrees with the
state driven (R462). -/
structure IslandIn where
  samples : List (List (Bool × Nat))
  encoder : List (Int × Bool)
  sack    : Bool
  rephase : Bool
  readBad : Byte
deriving DecidableEq, Repr

/-- What the device measures over the beat that ends at an edge: its GNSS streams and the levels at its GPIO inputs. -/
structure EdgeIn where
  streams : List StreamIn
  gpio    : Long
deriving DecidableEq, Repr

/-- An XHP datagram as it arrives on EH0 or EH1: the source address and the bytes, TAG included (R396). -/
structure XhpRequest where
  port    : BitVec 2
  address : Word
  bytes   : List Byte
deriving DecidableEq, Repr

/-- An item that OTP_PROG writes (R528). -/
inductive OtpItem where
  | hostKey (slot : BitVec 3) (key : BitVec 256) (role : BitVec 2)
  | imageKey (slot : BitVec 2) (hash : BitVec 256)
  | recovery (net : NetCfg)
  | debugState (state : BitVec 2)
deriving DecidableEq, Repr

/-- The work of a compensator operation (R301, R324): the start of the beat's CTL work, the reference models and errors,
a group of slots, the law that sums them, or the winch and stabiliser loops. -/
inductive CmpStep where
  | begin_ | advance | runSlots (slots : List Nat) | law | loops
deriving DecidableEq, Repr

/-- The work of a Luna operation: the next layers of a source's network, the fusion, or the tracks (R257, R263, R266). -/
inductive LunWork where
  | layers (source : BitVec 3) (count : Nat) | fuse | track
deriving DecidableEq, Repr

end Sys2Proof
end

