-- ==== Sys2Proof/Syntax.lean ====
section
/-! DEFINITION. The commands of the XM-960: one constructor per row of the table of operations and events. -/

namespace Sys2Proof

/-- A command: an operation or event that changes the device's state, whole and indivisible. -/
inductive Instr where
  /-- BEAT_EDGE (R28): A beat edge arrives from device time: the capture instant of the new beat, at which the staged outputs of the previous beat switch and round-boundary work falls due. -/
  | beatEdge (inp : EdgeIn)
  /-- END (R59): An engine executes its end-of-beat marker. -/
  | endOp (op : OpRun)
  /-- WAIT_CYCLE (R59): An engine idles until the cycle named in OPERAND. -/
  | waitCycle (op : OpRun) (until_ : BitVec 20)
  /-- SIGNAL (R59): An engine raises a synchronisation event. -/
  | signalOp (op : OpRun) (event : BitVec 8)
  /-- WAIT_EVENT (R59): An engine idles until a synchronisation event has been raised in the beat. -/
  | waitEvent (op : OpRun) (event : BitVec 8)
  /-- WAIT_RELEASE (R59): A waiting engine resumes when its cycle is reached or its event is raised. -/
  | waitRelease (op : OpRun)
  /-- CAPTURE_OP (R15): A capture operation collects, exchanges, merges and admits capture items. -/
  | captureOp (op : OpRun)
  /-- LOAD (R210): The solver fetches the Praline entry, takes a warm, mapped or cold start, and projects it onto the bounds. -/
  | loadOp (op : OpRun) (desc : Nat) (data : ProblemData)
  /-- FACTOR (R204): The solver forms and factorises the matrix K in its compiled pivot order. -/
  | factorOp (op : OpRun) (slot : Byte)
  /-- ITERATE (R206): The solver runs ITER iterations with a projected write after each. -/
  | iterateOp (op : OpRun) (slot : Byte)
  /-- STORE (R213): The solver writes the result record and the Praline entry and raises the completion event. -/
  | storeOp (op : OpRun) (slot : Byte)
  /-- BA_SLICE (R220): One slice of the background bundle-adjustment job runs. -/
  | baSlice (op : OpRun) (slot : Byte) (slices : Nat)
  /-- SOLVER_DEADLINE (R214): The DEADLINE cycle is reached with a solver operation unfinished, so the problem skips to STORE. -/
  | solverDeadline (op : OpRun) (slot : Byte) (deadline : BitVec 20) (column : Nat) (done : Nat)
  /-- COMPENSATOR_OP (R301): A compensator slot group runs its difference equations. -/
  | compensatorOp (op : OpRun) (step : CmpStep)
  /-- PUBLISH_OP (R35): The published state record is written, and outputs and frames are staged. -/
  | publishOp (op : OpRun)
  /-- LUNA_OP (R257): A Luna operation runs network layers, fusion or track update. -/
  | lunaOp (op : OpRun) (work : LunWork)
  /-- SELF_TEST_OP (R437): A guard-phase self-test operation runs a logic slice, a memory scrub and the output loopback. -/
  | selfTestOp (op : OpRun) (sliceOk : Bool) (corrected : Half) (readings : List (BitVec 7 × Int))
  /-- OVERRUN_CHECK (R61): At cycle 768,000 the sequencer checks that every engine has executed END. -/
  | overrunCheck
  /-- BEAT_RESTART_RESUME (R64): At edge n+10 after a Beat restart the first capture runs and the schedule resumes. -/
  | beatRestartResume
  /-- BEAT_FAULT (R107): An uncorrectable beat-domain fault causes a Beat restart by fault, or an Image reset on the second within a round. -/
  | beatFault (source : Word) (address : Word)
  /-- BANK_LOAD_BEGIN (R70): BANK_LOAD BEGIN clears the inactive bank and enters LOADING. -/
  | bankLoadBegin (h : HostRef) (offset : Word) (nData : Nat)
  /-- BANK_LOAD_DATA (R70): BANK_LOAD DATA stores image bytes at OFFSET. -/
  | bankLoadData (h : HostRef) (offset : Word) (data : List Byte)
  /-- BANK_LOAD_END (R70): BANK_LOAD END moves the bank to VERIFY. -/
  | bankLoadEnd (h : HostRef) (offset : Word) (nData : Nat)
  /-- BANK_LOAD_ABORT (R70): BANK_LOAD ABORT returns the bank to EMPTY. -/
  | bankLoadAbort (h : HostRef) (nData : Nat)
  /-- BANK_VERIFY_DONE (R68): Verification of a loaded bank ends, with the bank READY or EMPTY and END answered. -/
  | bankVerifyDone (img : ImageDesc)
  /-- BANK_LOAD_TIMEOUT (R68): 10 s without data aborts a bank load. -/
  | bankLoadTimeout
  /-- BANK_SWITCH (R71): BANK_SWITCH is checked in the union and makes the target bank PENDING or is refused. -/
  | bankSwitch (h : HostRef) (imageId : Long)
  /-- BANK_SWITCH_APPLY (R71): At the round boundary a pending switch makes the bank active, translating state if needed. -/
  | bankSwitchApply
  /-- SCH_OVR_CFG_WRITE (R82): A write to SCH_OVR_CFG takes effect or is refused with CFG_REFUSED. -/
  | schOvrCfgWrite (who : Who) (value : Word)
  /-- PEAK_CLEAR (R81): Writing CLEAR resets the selected engine's PEAK and PEAK_BEAT. -/
  | peakClear (who : Who)
  /-- POWER_GOOD (R97): Power good starts a Cold start: the power-cycle count, the strap sampling and the safety self-test begin. -/
  | powerGood (cocoon : Bool) (straps : BitVec 4) (sideB : Bool) (lockBad : BitVec 2)
  /-- FUSES_READ (R10): The identification fuses have been read and PARAMS_VALID becomes 1. -/
  | fusesRead
  /-- NRESET_OUT_RELEASE (R97): At 2 ms nRESET_OUT is released and the interfaces are enabled in listen-only. -/
  | nresetOutRelease
  /-- NVM_DISCOVERY (R84): The SFDP read completes and the NVM mode is selected. -/
  | nvmDiscovery (sfdp0 : Bool) (sfdp1 : Bool) (modes : BitVec 3) (maxMhz : BitVec 8) (sizeLog2 : BitVec 8)
  /-- PROVISIONAL_APPLY (R98): The directory, NET_CFG and TIME_CFG have been read and are applied provisionally. -/
  | provisionalApply (net : Option NetCfg) (time : Option TimeCfg)
  /-- IMAGE_READ_DONE (R92): An image has been read and checked, and is accepted or refused. -/
  | imageReadDone (img : ImageDesc) (us : Word)
  /-- NVM_READ_STALL (R94): 100 ms without read progress fails the image with NVM_READ. -/
  | nvmReadStall
  /-- SECTIONS_DELIVERED (R97): Sections are delivered to their blocks, bank 0 becomes active and pair-domain state is initialised. -/
  | sectionsDelivered
  /-- FIRST_BEAT (R97): The first beat edge after delivery and time-taking or 300 ms starts the schedule and releases FAULT_OUT. -/
  | firstBeat (t : Nat) (us : Word)
  /-- FRONT_END_READBACK (R170): The readback of verified entries completes, and a mismatch disables the port. -/
  | frontEndReadback (port : BitVec 2) (values : List Word)
  /-- NRESET_IN_ASSERT (R108): nRESET_IN low for 1 µs or more starts an Image reset. -/
  | nresetInAssert (widthNs : Nat)
  /-- NRESET_IN_RELEASE (R108): Release of nRESET_IN starts the image load. -/
  | nresetInRelease
  /-- RESET_IMAGE (R109): XHP RESET_IMAGE resets the receiving device at the end of the publish phase. -/
  | resetImage (h : HostRef)
  /-- SUPPLY_TRIP (R543): A supply monitor trip or a loss of power good causes a Cold start. -/
  | supplyTrip
  /-- PTP_MESSAGE_RECEIVE (R394): A PTP event or general message is received and timestamped, and the offset is measured. -/
  | ptpMessageReceive (port : BitVec 2) (parentClass : Byte) (offset : Option Int) (portState : Byte) (utcOffset : Option Half) (t : Nat)
  /-- PTP_MASTER_SEND (R395): A master port sends Sync and Announce with its clockClass. -/
  | ptpMasterSend (port : BitVec 2)
  /-- PPS_IN_EDGE (R135): A PPS_IN edge is timestamped into TIM_PPSIN. -/
  | ppsInEdge (t : Nat) (label : Option Nat)
  /-- PPS_IN_TIMEOUT (R135): A PPS_IN edge missing for 1.5 s removes the qualification of external GNSS. -/
  | ppsInTimeout
  /-- PPS_OUT_PULSE_END (R134): The PPS_OUT pulse width expires and the pulse ends. -/
  | ppsOutPulseEnd
  /-- TIME_STEP_ARM (R128): TIME_STEP_ARM arms a host-ordered step for ARM_WINDOW seconds. -/
  | timeStepArm (h : HostRef)
  /-- ARM_EXPIRED (R128): An unused time-step arm runs out. -/
  | armExpired
  /-- TIME_STEP_APPLY (R129): At edge E a pending step of device time by k ms is applied and beat-numbered state is shifted. -/
  | timeStepApply
  /-- LEAP_SECOND (R118): A new TAI − UTC difference is applied at the announced instant. -/
  | leapSecond (diff : Half) (atTime : Nat) (fromGnss : Bool)
  /-- LEARNED_RATE_SAVE (R123): The learned rate is saved to MRAM every 1,000 rounds. -/
  | learnedRateSave
  /-- ALARM_REACHED (R130): Device time reaches an alarm time. -/
  | alarmReached (alarm : Nat)
  /-- CHAIN_SAMPLE (R150): A conditioning channel processes one chain sample through its fine chain and validity logic. -/
  | chainSample (channel : BitVec 6) (input : CndInput) (otherBad : Bool)
  /-- SOURCE_STUCK (R158): SDIn_DAT unchanged for 4,096 clocks marks a bitstream source stuck. -/
  | sourceStuck (channel : BitVec 6)
  /-- CND_FREEZE (R160): A write of CND_C_CTRL.FREEZE requests holding the DC offset. -/
  | cndFreeze (channel : BitVec 6) (value : Bool)
  /-- SRC_RETURN (R159): A write of SRC_RETURN requests a return to the primary source. -/
  | srcReturn (channel : BitVec 6)
  /-- CND_CTRL_APPLY (R160): CND_C_CTRL writes take effect at the first chain sample after the next edge. -/
  | cndCtrlApply (channel : BitVec 6)
  /-- CORRELATOR_DUMP (R173): A channel's correlators dump at the end of an epoch, updating C/N0, lock and slips. -/
  | correlatorDump (channel : BitVec 9) (d : Dump)
  /-- ACQ_RECORD_DONE (R180): An acquisition record has been captured and its search can run. -/
  | acqRecordDone
  /-- ACQ_SEARCH_DONE (R180): An acquisition search finishes with a peak or none, and the window is widened or the channel released. -/
  | acqSearchDone (peak : Option AcqPeak)
  /-- ACQ_HANDOFF (R180): At the next edge the detected code phase and Doppler are handed to the channel, which enters PULL_IN. -/
  | acqHandoff (channel : BitVec 9)
  /-- PULL_IN_DONE (R176): PULL_BEATS have elapsed with lock and C/N0 met, and the channel enters TRACK. -/
  | pullInDone (channel : BitVec 9)
  /-- PULL_IN_TIMEOUT (R176): 200 beats in PULL_IN without lock return the channel to SEARCH. -/
  | pullInTimeout (channel : BitVec 9)
  /-- TRACK_LOW_CN0 (R176): Low C/N0 for 20 beats, or 8 saturated latches, moves the channel to HOLD. -/
  | trackLowCn0 (channel : BitVec 9)
  /-- COAST_EXPIRED (R176): COAST_BEATS elapse in HOLD and the channel re-acquires. -/
  | coastExpired (channel : BitVec 9)
  /-- NOTCH_RELEASE (R171): A notch releases after 100 beats below the threshold. -/
  | notchRelease (stream : BitVec 4)
  /-- SPOOF_CLEAR (R189): Spoofing suspicion clears after SPOOF_CLEAR_ROUNDS clean rounds. -/
  | spoofClear (sideB : Bool)
  /-- GNSS_AID (R179): GNSS_AID supplies a host aiding position. -/
  | gnssAid (h : HostRef) (north : Int) (east : Int) (sigma : Word)
  /-- GNSS_EPH (R179): GNSS_EPH supplies ephemeris or almanac words. -/
  | gnssEph (h : HostRef) (sv : BitVec 12) (words : List Word)
  /-- GNSS_AMB_READ (R191): GNSS_AMB_READ returns float ambiguities and their covariance for a latch beat. -/
  | gnssAmbRead (h : HostRef) (latchBeat : Long)
  /-- GNSS_AMB_FIX (R191): GNSS_AMB_FIX supplies integer ambiguities, which are accepted or refused STALE or RESIDUAL. -/
  | gnssAmbFix (h : HostRef) (latchBeat : Long) (sats : List Nat) (ints : List Int)
  /-- WATCH_BURST_START (R192): PD_GNS powers at BURST_BEAT and tracked channels re-enter PULL_IN. -/
  | watchBurstStart
  /-- WATCH_BURST_END (R192): A Watch burst ends after BURST_BEATS with its latch edge. -/
  | watchBurstEnd
  /-- REFERENCE_STALE (R236): A reference with no applied sample for STALE_BEATS becomes STALE. -/
  | referenceStale (slot : BitVec 6)
  /-- INIT_BEATS_END (R240): After INIT_BEATS the prediction test applies and INIT clears. -/
  | initBeatsEnd
  /-- DESELECT (R236): A staged EST_R_CTRL DESELECT sets a reference's weight to 0. -/
  | deselectRef (h : HostRef) (slot : BitVec 6)
  /-- SELECT (R236): A staged EST_R_CTRL SELECT returns a reference to ACQUIRE. -/
  | selectRef (h : HostRef) (slot : BitVec 6)
  /-- RESET_ORIGIN (R241): A staged RESET_ORIGIN moves a REL_POS reference to ACQUIRE. -/
  | resetOrigin (h : HostRef) (slot : BitVec 6)
  /-- CSI_FRAME_START (R254): A CSI-2 Frame Start is timestamped for the frame instant. -/
  | csiFrameStart (port : BitVec 2) (vc : Byte) (dataType : Byte) (t : Nat)
  /-- CSI_FRAME_END (R255): A camera frame completes and is kept waiting, replaces another, or is dropped on error. -/
  | csiFrameEnd (port : BitVec 2) (vc : Byte) (dataType : Byte) (error : Byte) (stamp : Option Nat) (data : List Int) (t : Nat)
  /-- LIDAR_DATAGRAM (R256): A lidar datagram is parsed into points, and a sweep may close. -/
  | lidarDatagram (source : BitVec 2) (data : List Byte) (t : Nat)
  /-- TARGET_BIND (R268): A staged LUN_TGTk write with VALID 1 binds a track to a slot or is refused. -/
  | targetBind (h : HostRef) (binding : BitVec 3) (track : BitVec 12) (gen : Half) (slot : BitVec 4)
  /-- TARGET_CLEAR (R270): A staged LUN_TGTk write with VALID 0 clears a binding. -/
  | targetClear (h : HostRef) (binding : BitVec 3)
  /-- CAL_FREEZE (R273): LUN_CAL_CTRL FREEZE is queued for the sensors' next boundary. -/
  | calFreeze (h : HostRef) (sensors : Byte)
  /-- CAL_UNFREEZE (R273): LUN_CAL_CTRL UNFREEZE is queued. -/
  | calUnfreeze (h : HostRef) (sensors : Byte)
  /-- CAL_ACCEPT (R273): LUN_CAL_CTRL ACCEPT is queued. -/
  | calAccept (h : HostRef) (sensors : Byte)
  /-- CAL_RESET (R273): LUN_CAL_CTRL RESET is queued. -/
  | calReset (h : HostRef) (sensors : Byte)
  /-- CALIBRATION_APPLY (R272): At the round boundary calibration commands and bounded candidates are applied and the MRAM record written. -/
  | calibrationApply
  /-- DEVICE_OUT (R284): A staged ALC_D_CTRL OUT takes a thrust device out. -/
  | deviceOut (h : HostRef) (device : BitVec 6)
  /-- DEVICE_IN (R284): A staged IN returns a lost device or is refused. -/
  | deviceIn (h : HostRef) (device : BitVec 6)
  /-- DEVICE_UNLOCK (R284): A staged UNLOCK clears an azimuth lock or is refused. -/
  | deviceUnlock (h : HostRef) (device : BitVec 6)
  /-- SECTOR_ENABLE (R290): A staged ALC_D_SECTOR write changes sector enables. -/
  | sectorEnable (h : HostRef) (device : BitVec 6) (mask : BitVec 4)
  /-- VARIANT_OVERRIDE (R293): An override of the allocation variant is applied or refused. -/
  | variantOverride (h : HostRef) (variant : BitVec 12) (enable : Bool)
  /-- SET_MODE (R315): A DP mode request from SET_MODE or CTL_MODE_REQ is judged against the permissives. -/
  | setMode (h : HostRef) (mode : Byte)
  /-- SET_POINT (R318): SET_POINT commits a setpoint request with its GO bits and TURN. -/
  | setPoint (h : HostRef) (north : Int) (east : Int) (heading : Word) (goPos : Bool) (goPsi : Bool) (turn : BitVec 2)
  /-- GO_POS (R318): A CTL_SP_CTRL GO_POS commit starts or supersedes the position ramp. -/
  | goPos (h : HostRef)
  /-- GO_PSI (R318): A CTL_SP_CTRL GO_PSI commit starts or supersedes the heading ramp. -/
  | goPsi (h : HostRef) (turn : BitVec 2) (withPos : Bool)
  /-- SET_TARGET (R314): SET_TARGET selects the target binding for FOLLOW_TARGET. -/
  | setTarget (h : HostRef) (binding : BitVec 3)
  /-- WINCH_MODE_REQUEST (R321): A CTL_WINCHw request changes a winch mode or is refused. -/
  | winchModeRequest (h : HostRef) (winch : BitVec 5) (mode : BitVec 2)
  /-- STAB_ENABLE (R323): A CTL_STABs write enables or disables a stabiliser loop. -/
  | stabEnable (h : HostRef) (stab : BitVec 3) (enable : Bool)
  /-- COEF_APPLY (R307): CTL_S_CTRL.APPLY applies a slot's new coefficient set or refuses it. -/
  | coefApply (who : Who) (h : HostRef) (slot : BitVec 11)
  /-- JOY_TIMEOUT (R310): The joystick field has had no entry for JOY_TIMEOUT beats and becomes stale. -/
  | joyTimeout
  /-- TARGET_LOSS (R315): TGT_VALID clear for TGT_LOSS_BEATS drops FOLLOW_TARGET to AUTO_POSITION. -/
  | targetLoss
  /-- HOLD_TIMEOUT (R338): 1,100 µs after the last commit with no edge, the output domain enters HOLD. -/
  | holdTimeout (t : Nat)
  /-- HOLD_LIMIT_EXPIRE (R338): An output's HOLD_LIMIT runs out and it takes its fail value. -/
  | holdLimitExpire (output : BitVec 7) (atEdge : Bool)
  /-- OUTPUT_RELEASE (R340): RELEASE frees a latched failed output or is refused. -/
  | outputRelease (who : Who) (output : BitVec 7)
  /-- HOST_VALUE_WRITE (R336): A write to OUT_O_HOST sets the output's host value for the next commit. -/
  | hostValueWrite (who : Who) (output : BitVec 7) (value : Word)
  /-- VLCD_FAULT (R347): The charge pump out of regulation for 100 ms sets VLCD_FAULT. -/
  | vlcdFault
  /-- CAN_FRAME_RECEIVE (R360): A CAN frame is received and matched to capture, ring and buffer, or counted unmatched. -/
  | canFrameReceive (channel : BitVec 4) (frame : CanFrame) (t : Nat)
  /-- TRANSMIT_WINDOW_OPEN (R363): A window opens and the channel starts eligible frames, or aborts those gated or listen-only. -/
  | transmitWindowOpen (channel : BitVec 4) (window : BitVec 5) (t : Nat)
  /-- FRAME_SENT (R366): A frame completes on the bus and is counted sent. -/
  | frameSent (channel : BitVec 4)
  /-- ARBITRATION_LOST (R364): A frame loses arbitration and is retried or aborted ARB_LIMIT. -/
  | arbitrationLost (channel : BitVec 4)
  /-- BUS_ERROR (R356): An error updates the error counts and may enter error passive or bus-off. -/
  | busError (channel : BitVec 4) (tec : Half) (rxc : Half)
  /-- WINDOW_ABORT (R364): A frame can no longer complete in its window and is aborted WINDOW. -/
  | windowAbort (channel : BitVec 4)
  /-- BUS_OFF_RECOVERED (R356): Bus-off recovery completes and the channel is error active. -/
  | busOffRecovered (channel : BitVec 4)
  /-- FORCE_ACTIVE (R355): FBU_C_CTRL.FORCE_ACTIVE takes a mismatched channel active at its fixed rate. -/
  | forceActive (who : Who) (channel : BitVec 4)
  /-- RECOVER (R356): FBU_C_CTRL.RECOVER starts a further bus-off recovery. -/
  | recover (who : Who) (channel : BitVec 4)
  /-- RENEGOTIATE (R376): FBU_C_CTRL.RENEGOTIATE re-queues every node of the channel. -/
  | renegotiate (who : Who) (channel : BitVec 4)
  /-- BUFFER_HEAD_READ (R361): A read of FBU_B_HEAD locks the receive buffer to the requester. -/
  | bufferHeadRead (who : Who) (channel : BitVec 4) (buffer : BitVec 9)
  /-- BUFFER_END_READ (R361): A read of FBU_B_END releases the lock and promotes a shadow frame. -/
  | bufferEndRead (who : Who) (channel : BitVec 4) (buffer : BitVec 9)
  /-- LOCK_EXPIRED (R361): A buffer lock held for 1,000 µs is released by the device. -/
  | lockExpired (channel : BitVec 4) (buffer : BitVec 9)
  /-- WINDOW_COPY_WRITE (R367): A write to a window copy is stored or refused. -/
  | windowCopyWrite (who : Who) (channel : BitVec 4) (copy : Bool) (window : BitVec 5) (value : Word)
  /-- WIN_SWITCH (R367): A write to FBU_WIN_SWITCH requests a window-table switch. -/
  | winSwitch (who : Who) (mask : Half)
  /-- WINDOW_SWITCH_APPLY (R367): At the round boundary the inactive window copy is checked and made active or cancelled. -/
  | windowSwitchApply
  /-- REF_SILENT (R370): Reference frames missing for REF_SILENT beats set the field-bus health bit. -/
  | refSilent (channel : BitVec 4)
  /-- REPLY_TIMEOUT (R377): A node query times out and the node goes to RETRY or ABSENT. -/
  | replyTimeout (channel : BitVec 4) (address : BitVec 7)
  /-- SENTENCE_COMPLETE (R380): A serial sentence completes and is checked, matched and offered. -/
  | sentenceComplete (port : BitVec 4) (text : List Byte) (t : Nat)
  /-- SERIAL_RATE_DETECT (R379): An AUTO port detects its rate again after errors or 2 s without a valid sentence. -/
  | serialRateDetect (port : BitVec 4) (rate : BitVec 3)
  /-- ETH_SENSOR_DATAGRAM (R382): An IEC 61162-450 datagram on ES0 or ES1 is read sentence by sentence. -/
  | ethSensorDatagram (port : Bool) (group : Word) (udpPort : Half) (lines : List (List Byte)) (t : Nat)
  /-- RING_RESET (R386): FBU_R_CTRL.RESET discards every entry of a ring. -/
  | ringReset (who : Who) (ring : BitVec 6)
  /-- XHP_REQUEST (R402): An XHP datagram is received, tag-checked and admitted, or dropped or refused. -/
  | xhpRequest (q : XhpRequest)
  /-- XHP_RESPONSE (R407): After the publish phase of the handling beat the receiving device answers a command. -/
  | xhpResponse
  /-- OPEN (R399): OPEN derives a session number and key in the union and replies. -/
  | openSession (h : HostRef) (slot : BitVec 3) (role : BitVec 2) (nonceH : BitVec 128)
  /-- CLOSE (R401): CLOSE closes the session. -/
  | closeSession (h : HostRef)
  /-- KEEPALIVE (R401): KEEPALIVE restarts the idle count of the session. -/
  | keepalive (h : HostRef)
  /-- SESSION_IDLE (R401): A session idle for IDLE_S seconds closes. -/
  | sessionIdle (session : BitVec 8)
  /-- READ_SNAPSHOT (R413): READ_SNAPSHOT returns extents from one stored record. -/
  | readSnapshot (h : HostRef) (beat : Long) (extents : List (Half × Half))
  /-- READ_REG (R414): READ_REG returns register values from the latest record or live. -/
  | readReg (h : HostRef) (addresses : List Word)
  /-- READ_RECORDER (R491): READ_RECORDER returns a snapshot of records from FROM_SEQ. -/
  | readRecorder (h : HostRef) (fromSeq : Word) (maxRecords : Byte)
  /-- RING_READ (R383): RING_READ consumes entries of a HOST ring. -/
  | ringRead (h : HostRef) (ring : Byte) (maxEntries : Byte)
  /-- RING_WRITE (R384): RING_WRITE produces an entry or is refused RING_FULL. -/
  | ringWrite (h : HostRef) (ring : Byte) (data : List Byte)
  /-- STREAM_ADD (R416): STREAM_CTRL ADD adds a stream destination. -/
  | streamAdd (h : HostRef) (dest : NetDest)
  /-- STREAM_REMOVE (R416): STREAM_CTRL REMOVE removes a destination the session added. -/
  | streamRemove (h : HostRef) (dest : NetDest)
  /-- REGION_WRITE (R410): REGION_WRITE parts accumulate, and the whole set is applied or refused at its last part. -/
  | regionWrite (h : HostRef) (region : Half) (part : Half) (offset : Word) (data : List Word) (lastPart : Bool)
  /-- WRITE_REG (R408): WRITE_REG writes registers, staged for pair-domain ones. -/
  | writeReg (h : HostRef) (pairs : List (Word × Word))
  /-- NVM_WRITE (R408): NVM_WRITE programs data into the configuration NVM. -/
  | nvmWrite (h : HostRef) (chip : Byte) (address : Word) (data : List Byte)
  /-- NVM_ERASE (R408): NVM_ERASE erases a range of the configuration NVM. -/
  | nvmErase (h : HostRef) (chip : Byte) (address : Word) (length : Word) (eraseSize : Word)
  /-- OTP_REVOKE (R91): OTP_REVOKE permanently revokes an image-key or host-key slot. -/
  | otpRevoke (h : HostRef) (hostSlot : Bool) (slot : Byte)
  /-- OTP_MIN_SECVER (R91): OTP_MIN_SECVER raises the minimum security version. -/
  | otpMinSecver (h : HostRef) (secver : Half)
  /-- ETH_LINK_CHANGE (R393): An Ethernet link goes up or down. -/
  | ethLinkChange (port : BitVec 2) (up : Bool) (mbit : Half)
  /-- PAIR_ACT_IN_EDGE (R425): A claiming device sees its partner claimed, and side B withdraws. -/
  | pairActInEdge (t : Nat)
  /-- PAIR_ACT_IN_SILENT (R438): PAIR_ACT_IN shows no edge for 20 µs and the partner is declared lost. -/
  | pairActInSilent (t : Nat)
  /-- CLAIM_ARM_EXPIRE (R423): A claim arm not renewed by 995 µs stops the toggling. -/
  | claimArmExpire
  /-- LINK_TRAINED (R427): Swallowtail link training completes on four or two lanes. -/
  | linkTrained (lanes : BitVec 3)
  /-- LINK_DOWN (R427): Loss of block lock takes the link down for retraining. -/
  | linkDown
  /-- LINK_RETRY (R429): 4 µs without acknowledgement starts a go-back pass; three passes take the link down. -/
  | linkRetry
  /-- CAPTURE (R430): A CAPTURE frame from the partner delivers capture items for a beat. -/
  | linkCapture (hdr : LinkHdr) (items : List Item)
  /-- TOKEN (R433): A TOKEN frame is received, checked and used to measure the partner offset. -/
  | linkToken (hdr : LinkHdr) (token : Token) (t : Nat)
  /-- TOKEN_DEADLINE (R432): At 60 µs the Active decides INCLUDE and sends COMMIT. -/
  | tokenDeadline
  /-- COMMIT (R432): A COMMIT frame tells the partner which sets form the union. -/
  | linkCommit (hdr : LinkHdr) (beat : Long) (incl : Bool) (check : Word)
  /-- COMMIT_DEADLINE (R438): At 90 µs a missing TOKEN or COMMIT from the Active declares it lost. -/
  | commitDeadline
  /-- SIGNATURE (R434): A SIGNATURE frame delivers the partner's beat signature. -/
  | linkSignature (hdr : LinkHdr) (beat : Long) (sig : Long)
  /-- SIGNATURE_COMPARE (R434): At 920 µs the signatures are compared, and missing ones are counted. -/
  | signatureCompare
  /-- JOIN_REQ (R442): JOIN_REQ is received, and the Active accepts it with a kind or refuses it. -/
  | joinReq (hdr : LinkHdr) (req : JoinReq)
  /-- JOIN_ACCEPT (R442): The joiner takes PAIR_ID from JOIN_ACCEPT and awaits the copy. -/
  | joinAccept (hdr : LinkHdr) (kind : Byte) (pairId : Long)
  /-- JOIN_REFUSE (R442): The joiner receives a refusal cause. -/
  | joinRefuse (hdr : LinkHdr) (cause : Byte)
  /-- PAGE (R443): A PAGE frame of slow state is received and held. -/
  | linkPage (hdr : LinkHdr) (number : Word) (data : List Byte)
  /-- FAST (R443): A FAST frame of fast state is received and held. -/
  | linkFast (hdr : LinkHdr) (offset : Word) (data : List Byte)
  /-- ADOPT (R444): ADOPT names the adoption beat a. -/
  | linkAdopt (hdr : LinkHdr) (beat : Long)
  /-- ADOPT_END (R444): ADOPT_END closes the final transfer of beat a. -/
  | adoptEnd (hdr : LinkHdr) (beat : Long) (pages : Word)
  /-- ADOPTION_DEADLINE (R444): At 70 µs of beat a+1 the joiner adopts the state or abandons with LATE. -/
  | adoptionDeadline
  /-- DEMOTE (R435): A DEMOTE frame sends the partner to Joining with every page dirty. -/
  | linkDemote (hdr : LinkHdr) (cause : Byte)
  /-- HEALTH (R437): A HEALTH frame delivers a health word, and TAKEOVER_REQ declares the Active lost. -/
  | linkHealth (hdr : LinkHdr) (word : Word)
  /-- PROVING_COMPLETE (R447): PROVE_ROUNDS clean rounds in Shadow set PROVED. -/
  | provingComplete
  /-- PAIR_SWAP (R449): PAIR_CMD SWAP schedules a role swap at edge c+2 or is refused. -/
  | pairSwap (h : HostRef)
  /-- PAIR_DEMOTE (R448): PAIR_CMD DEMOTE makes the Active send DEMOTE with cause 2. -/
  | pairDemote (h : HostRef)
  /-- JOIN_BLOCK (R448): PAIR_CMD JOIN_BLOCK refuses new joins. -/
  | joinBlock (h : HostRef)
  /-- JOIN_ALLOW (R448): PAIR_CMD JOIN_ALLOW ends JOIN_BLOCK. -/
  | joinAllow (h : HostRef)
  /-- ACTIVE_CLAIM_STOP (R449): At 980 µs an Active that swaps or requests takeover stops toggling. -/
  | activeClaimStop
  /-- SWAP_CLAIM (R449): At 990 µs the swap partner starts toggling, or cancels the swap if its partner still claims. -/
  | swapClaim (t : Nat)
  /-- ISLAND_CYCLE (R458): At each beat edge the safety island latches its inputs, evaluates every function and switches affected pairs off. -/
  | islandCycle (inp : IslandIn)
  /-- SI_DISCREPANCY (R459): Safe input channels that disagree longer than DISC_MS fault the pair. -/
  | siDiscrepancy (pair : BitVec 3)
  /-- SO_TEST_PULSE (R462): Each on safe output channel receives its off test pulse every 10 ms. -/
  | soTestPulse (pair : BitVec 3) (seen : Byte)
  /-- SO_READBACK_FAULT (R462): Safe output readback disagreeing with the driven state faults the pair. -/
  | soReadbackFault (pair : BitVec 3)
  /-- PLAUSIBILITY_TIMEOUT (R463): Sensing sources that differ beyond PLAUS_TOL for PLAUS_MS fault the entry. -/
  | plausibilityTimeout (entry : BitVec 4)
  /-- GLOBAL_FAULT (R467): An island diagnostic fails, latching every pair and setting GLOBAL_LOCKOUT. -/
  | globalFault (diagnostic : Byte) (detail : Word)
  /-- SAF_RESET_ARM (R469): SAF_RESET_ARM arms a lock-out reset for 10 s with a mask. -/
  | safResetArm (h : HostRef) (mask : BitVec 9)
  /-- SAF_ARM_EXPIRED (R470): An unused reset arm runs out and event 0x0F06 is recorded. -/
  | safArmExpired
  /-- ISLAND_SELF_TEST_DONE (R471): The island's full self-test completes. -/
  | islandSelfTestDone (us : Word)
  /-- EVENT_RAISE (R487): A block raises an event, which is admitted to the write queue or suppressed. -/
  | eventRaise (code : Half) (params : List Word)
  /-- RECORD_WRITE (R486): A queued event is written and committed as a record. -/
  | recordWrite (secs : Word)
  /-- BUCKET_REFILL (R488): A code or global token bucket gains a token. -/
  | bucketRefill (code : Option Half)
  /-- RECORDER_SCAN (R486): The start scan of all slots completes and NEWEST is set. -/
  | recorderScan
  /-- DEFERRED_EVENT_RELEASE (R483): When PD_SVC runs again, blocks raise their held events in order. -/
  | deferredEventRelease
  /-- OPSEC_SAVE (R481): The operating-seconds count is saved to MRAM every 64 s. -/
  | opsecSave (secs : Word)
  /-- RECORD_WINDOW_LOCK (R492): A read of REC_R_W0 copies and locks a record in the window. -/
  | recordWindowLock (who : Who)
  /-- RECORD_WINDOW_RELEASE (R492): A read of REC_R_W7 releases the record window. -/
  | recordWindowRelease (who : Who)
  /-- DOMAIN_IDLE_EXPIRE (R496): A domain idle for IDLE_MS is gated. -/
  | domainIdleExpire (domain : BitVec 4)
  /-- POWER_RUN (R501): POWER_CMD RUN orders a return to the RUN program. -/
  | powerRun (h : HostRef) (flags : Byte) (address : Byte) (alarm : Long)
  /-- POWER_WATCH (R501): POWER_CMD WATCH orders the WATCH program after the entry checks. -/
  | powerWatch (h : HostRef) (flags : Byte) (address : Byte) (alarm : Long)
  /-- POWER_CHRYSALIS (R504): POWER_CMD CHRYSALIS is checked and starts the block handshake. -/
  | powerChrysalis (h : HostRef) (flags : Byte) (address : Byte) (alarm : Long)
  /-- POWER_COCOON (R504): POWER_CMD COCOON is checked and starts the block handshake. -/
  | powerCocoon (h : HostRef) (flags : Byte) (address : Byte) (alarm : Long)
  /-- HANDSHAKE_ANSWER (R504): A block answers the entry handshake with ACK or REFUSE after any delay. -/
  | handshakeAnswer (calWriting : Bool)
  /-- HANDSHAKE_TIMEOUT (R504): Delays reaching 10 ms refuse the entry with cause TIMEOUT. -/
  | handshakeTimeout
  /-- PROGRAM_SWITCH (R501): At the round boundary the WATCH or RUN program is selected. -/
  | programSwitch
  /-- LOW_POWER_ENTRY (R505): At edge E the device applies fail values, latches pads, closes sessions and stops clocks. -/
  | lowPowerEntry
  /-- WAKE_PORT_MATCH (R508): A matching address on the wake port acknowledges and wakes the device. -/
  | wakePortMatch (address : BitVec 7) (t : Nat)
  /-- WAKE_PIN (R507): WAKE_IN held at its level for 10 µs wakes the device. -/
  | wakePin (low : Bool) (t : Nat)
  /-- CHRYSALIS_FIRST_BEAT (R509): The first beat after a Chrysalis wake runs at least 2 ms after the wake event. -/
  | chrysalisFirstBeat (t : Nat)
  /-- PAD_RELEASE_DIRECT (R512): PWR_PADREL.DIRECT releases the PWM, GPIO and PPS_OUT pads at the next edge. -/
  | padReleaseDirect (who : Who)
  /-- PAD_RELEASE_ANN (R512): PWR_PADREL.ANN releases the annunciator pads at the next edge. -/
  | padReleaseAnn (who : Who)
  /-- REQUEST_RAISE (R516): A requester raises its service-fabric request. -/
  | requestRaise (input : BitVec 4) (cycle : Nat)
  /-- ARBITER_DECISION (R519): During the last word of a grant the arbiter picks the next grant, reserved or by rank. -/
  | arbiterDecision (cycle : Nat) (wordStart : Nat) (words : Nat)
  /-- HOLD_LIMIT_CUT (R520): A grant that reaches HOLD_LIMIT is cut. -/
  | holdLimitCut (address : Word) (words : Nat) (cycle : Nat)
  /-- ARB_CFG_WRITE (R521): A write to SVC_ARB_CFG is accepted or refused. -/
  | arbCfgWrite (who : Who) (value : Word)
  /-- PAIR_LOW_READ (R524): A read of the low word of a 64-bit pair copies the high word into a holding register. -/
  | pairLowRead (who : Who) (address : Word)
  /-- REGISTER_WRITE (R4): A write to a register without behaviour of its own is applied by its access code, or ignored and counted if unmapped. -/
  | registerWrite (who : Who) (address : Word) (value : Word)
  /-- EXTEST (R526): JTAG EXTEST drives the pins by boundary scan while nRESET_IN is low. -/
  | extest (bits : List Bool)
  /-- SAMPLE_PRELOAD (R526): JTAG SAMPLE/PRELOAD accesses the boundary scan. -/
  | samplePreload (bits : List Bool)
  /-- IDCODE (R526): JTAG IDCODE shifts out the 32-bit device identity. -/
  | idcode
  /-- BYPASS (R526): JTAG BYPASS selects the 1-bit register. -/
  | bypass
  /-- DBG_CHALLENGE (R526): DBG_CHALLENGE shifts out a fresh nonce. -/
  | dbgChallenge (nonce : BitVec 128)
  /-- DBG_AUTH (R527): DBG_AUTH checks a tag and grants authenticated debug or refuses it. -/
  | dbgAuth (slot : Byte) (tag : BitVec 128)
  /-- DBG_ACCESS (R526): DBG_ACCESS performs a register read or write through the DBG requester. -/
  | dbgAccess (address : Word) (data : Word) (write : Bool)
  /-- OTP_PROG (R528): OTP_PROG programs one OTP item. -/
  | otpProg (item : OtpItem)
  /-- JTAG_TRST (R526): JTAG_TRST_N low resets the port to IDCODE and ends authenticated access. -/
  | jtagTrst
  /-- DEBUG_AUTH_TIMEOUT (R527): 600 s without DBG_ACCESS ends authenticated debug. -/
  | debugAuthTimeout
  /-- COUNTER_COLLECTION (R532): The counter reader collects every counter into snapshots and deltas. -/
  | counterCollection (t0 : Nat) (latNs : Half)
  /-- COUNTER_CONFIG_WRITE (R531): A counter configuration or window write is accepted for the next collection or refused. -/
  | counterConfigWrite (who : Who) (address : Word) (value : Word)
  /-- TAG_SEED_WRITE (R534): A write to SVC_TAG_SEED loads the LFSR or is refused. -/
  | tagSeedWrite (who : Who) (value : Word)
  /-- TAGGER_ENABLE (R534): Enabling the tagger advances the LFSR and loads the countdown. -/
  | taggerEnable (who : Who) (value : Word)
  /-- TAG_COMPLETE (R535): A tagged operation completes, its entry is written and the countdown reloads. -/
  | tagComplete (cycle : BitVec 20) (stall : BitVec 20) (stopped : Bool)
  /-- TAG_WINDOW_LOCK (R535): A read of SVC_T_W0 copies a tag entry into the window. -/
  | tagWindowLock (who : Who)
  /-- TAG_WINDOW_RELEASE (R535): A read of SVC_T_W7 releases the tag window. -/
  | tagWindowRelease (who : Who)
  /-- IDLE (R429): An IDLE link frame from the partner is received, carrying the ACK that acknowledges frames, cleans copied pages and ends copy passes. -/
  | linkIdle (hdr : LinkHdr)
  /-- ARP_ICMP_ECHO (R393): An ARP request or ICMP echo request arrives on an Ethernet MAC and is answered. -/
  | arpIcmpEcho (port : BitVec 2)
  /-- NVM_ACCESS_COMPLETE (R504): An NVM_WRITE or NVM_ERASE in progress on the configuration NVM finishes. -/
  | nvmAccessComplete
deriving DecidableEq, Repr

end Sys2Proof
end

