-- ==== Sys2Proof/Decode.lean ====
section
/-! DEFINITION. The command a table word spells: no row of the table of commands gives bits. -/

namespace Sys2Proof

/-- The command spelt by a word of `nbits` bits.  No row gives an encoding, so no word spells a command. -/
def decodeTableWord (_nbits _w : Nat) : Option Instr := none

end Sys2Proof
end

