-- ==== Sys2Proof/Config.lean ====
section
/-! DEFINITION. What the spec leaves open, as constants without a body: nothing can evaluate them, and a claim about
the machine holds whatever they are.  Each is named in the assumption log. -/

namespace Sys2Proof.Config

/-- Does the quotient `num / den` of rule `site` round up, where the rule gives the division but not its rounding? -/
opaque roundsUp : (site : Nat) → (num : Int) → (den : Nat) → Bool

/-- What rule `site` makes of a division by zero. -/
opaque quotByZero : (site : Nat) → (num : Int) → Int

/-- The reciprocal of a moving average's length and its number of fraction bits, which Sirlek supplies (R152). -/
opaque maReciprocal : (length : Nat) → Int
opaque maShift : Nat

/-- A result the spec does not state; `site` is the rule's number and `k` the model's counter of free values. -/
opaque freeInt : (site : Nat) → (k : Nat) → Int

/-- The DEVICE_ID of a partner that a joiner knows by PAIR_ID alone: no frame of Table 15.6a gives it. -/
opaque partnerOf : (pairId own : Long) → Long

/-- HMAC-SHA-256 of a message under a 256-bit key (R399), named by the manual and defined outside it. -/
opaque hmac : (key : BitVec 256) → (message : List Byte) → BitVec 256

/-- The DC block's coefficient alpha, Q1.31, that Sirlek derives from the corner in mHz at a chain rate in kHz (R150). -/
opaque dcAlpha : (cornerMhz rateKhz : Nat) → Int

/-- The satellites visible from a position, with their elevations in 0.01 degree, highest first: the visibility
computation of R177, which the spec names and does not lay out. -/
opaque visible : (orbits : Tab (List Word)) → (north east : Int) → (time : Nat) → List (Nat × Int)

/-- Is a satellite's orbit data valid at a time (R179)? -/
opaque orbitValid : (orbit : List Word) → (time : Nat) → Bool

/-- C/N0 in 0.01 dB-Hz from the narrowband to wideband power ratio of the last 100 prompt dumps (R178). -/
opaque cn0Of : (dumps : List (Int × Int)) → Half

/-- The phase of a prompt in Q1.31 of ±0.5 cycle: atan2(Q, I) of Table 6.3. -/
opaque phaseOf : (q i : Int) → Int

/-- The raw pivot at position `k` of the static pivot order, from the problem's data and the pivots in use before it
(R204): the formats of the factor's temporaries are Sirlek's. -/
opaque pivotAt : (data : ProblemData) → (before : List Int) → (k : Nat) → Int

/-- Sums of products in a problem's formats (R198, R199), whose shifts and order Sirlek fixes: `matVec` is M·v of R207 with the
problem's matrix (P, or the normal matrix), `rightHand` its b, `colVec` P·x + q + Aᵀ·y and `rowVec` A·x of R206. -/
opaque matVec : (data : ProblemData) → (v : List Int) → List Int
opaque rightHand : (data : ProblemData) → List Int
opaque colVec : (data : ProblemData) → (x y : List Int) → List Int
opaque rowVec : (data : ProblemData) → (x : List Int) → List Int

/-- The substitutions of R206 and R207 with the factor: of K·(x~, ν) = (σx − q, w), and of K·s = r. -/
opaque kktSolve : (data : ProblemData) → (factor x w : List Int) → List Int × List Int
opaque ldlSolve : (data : ProblemData) → (factor r : List Int) → List Int

/-- A dot product, a quotient of two of them, and a vector times such a quotient, in a problem's formats (R207). -/
opaque dotOf : (data : ProblemData) → (u v : List Int) → Int
opaque ratioOf : (data : ProblemData) → (num den : Int) → Int
opaque scaleBy : (data : ProblemData) → (a : Int) → (v : List Int) → List Int

/-- v/ρ in the format of z, and ρ·v in the format of y (R206). -/
opaque overRho : (data : ProblemData) → (v : List Int) → List Int
opaque timesRho : (data : ProblemData) → (v : List Int) → List Int

/-- The normalised residuals of the least-squares kinds (R207). -/
opaque normResiduals : (data : ProblemData) → (x : List Int) → List Int

/-- Does an accumulator saturate in an operation on this data (R197)? -/
opaque solverSat : (opcode : Nat) → (data : ProblemData) → (x : List Int) → Bool

/-- The synchronisation event a slot's completion raises (R203): no table of the spec numbers it. -/
opaque completionEvent : (slot : Nat) → BitVec 8

/-- Does the square root of `v` in rule `site` round up, where the rule does not state the rounding? -/
opaque sqrtRoundsUp : (site : Nat) → (v : Int) → Bool

/-- An observer component in interface units, from its raw code in the format the range table gives it (R225, Table 0.1), and
the raw code of a value in interface units. -/
opaque estShown : (par : List Int) → (component : Nat) → (raw : Int) → Int
opaque estRaw : (par : List Int) → (component : Nat) → (value : Int) → Int

/-- R234 step 1: the observer predicted by one beat under the thrust and wind forces, with the model of R226 in the parameters
`par`, linearised about the heading of `xHat`. -/
opaque predict : (par xHat tau : List Int) → List Int

/-- R234 step 3: a state carried over `dt` ns by Φ, linearised about the heading of the state `about`. -/
opaque propagate : (par about : List Int) → (dt : Int) → (x : List Int) → List Int

/-- R234 step 3: h_eff·gap, with h_eff the Jacobian of the measurement at `xh` times Φ over `dt` ns backwards; position or
heading rows. -/
opaque seenBack : (par about : List Int) → (heading : Bool) → (xh : List Int) → (dt : Int) → (gap : List Int) → List Int

/-- R234 step 3: the diagonal of h_eff·p_prior·h_effᵀ plus that of h·q·hᵀ, in squared slot units. -/
opaque predVar : (par about : List Int) → (heading : Bool) → (factor xh : List Int) → (dt : Int) → List Int

/-- R229: the north and east offset of a sensor from the vessel reference point, for its lever arm under a heading, a roll and
a pitch. -/
opaque leverOffset : (x y z heading roll pitch : Int) → Int × Int

/-- R234 step 6: x_prior + s_f·w. -/
opaque estCombine : (par prior factor w : List Int) → List Int

/-- R234 step 6: j_acc with this beat's information added. -/
opaque estInform : (par jAcc factor weights : List Int) → List Int

/-- R234 step 7: the new s_f from s_f, j_acc and the covariance result. -/
opaque covStep : (par factor jAcc result : List Int) → List Int

/-- The k-th element of the diagonal of s_f·s_fᵀ, in squared interface units (R234, Table 8.6). -/
opaque priorVar : (factor : List Int) → (k : Nat) → Int

/-- R238 DRIFT: the low-pass of time constant `tc` beats. -/
opaque lowPass : (tc : Nat) → (prev input : Int) → Int

/-- R243: the wind force and moment from the voted speed and direction. -/
opaque windForce : (block : List Int) → (speed dir : Int) → List Int

/-- A body-frame position turned by a heading: R(ψ)·p of R264, R269 and R319; the trigonometry's rounding is not stated. -/
opaque rotate : (heading x y : Int) → Int × Int

/-- The layers of Table 9.2 whose arithmetic the spec does not lay out (INGEST_IMAGE, POINT_SCATTER, GRID_PROJECT, RESIZE,
POOL's average and ADD): the output values from the inputs, the layer's and the table's parameters and the sensor's
calibration, and how many of them were clamped. -/
opaque lunLayer : (op : Nat) → (inputs : List (List Int)) → (params calibration : List Int) → (size : Nat) → List Int
opaque lunClamps : (op : Nat) → (inputs : List (List Int)) → (params calibration : List Int) → Nat

/-- The correction of a background slice for one parameter set is the solver's; here the tile set a network's final
tensor covers: R262 gives the item per tile, not which tiles a network produces. -/
opaque tilesOf : (source : Nat) → (tensor : List Int) → List (Nat × List Int)

/-- atan2(y, x) as a binary angle (R295, R319): its rounding is not stated. -/
opaque atan2 : (y x : Int) → Int

/-- tan of a binary angle times a value (R288). -/
opaque tanMul : (angle v : Int) → Int

/-- R288's lift bound cl·u·(a − d), the angle difference in radians, in the unit of u. -/
opaque liftBound : (cl : Nat) → (u angle : Int) → Int

/-- R295's rudder angle d + (l − cl·d·u)/(cl·u_p) before its clamp, as a binary angle. -/
opaque rudderAngle : (cl : Nat) → (dp up u l : Int) → Int

/-- R288's cap limit_n·a^(2/3)/force_ref of a thrust group, Q1.31. -/
opaque groupCap : (limit : Nat) → (avail : Int) → (forceRef : Nat) → Int

/-- The value of a pair-domain quantity of the current beat that no slot of the control table produces (Table 11.1,
kind 2): the spec names quantities by QID and lays out no map from QIDs to blocks. -/
opaque quantity : (qid : Nat) → (beat : Nat) → Int

/-- The longest a frame lasts with worst-case stuffing, in µs (R363, R364): ISO 11898-1 fixes it, outside the spec. -/
opaque frameUs : (len : Nat) → (ext fd brs : Bool) → (nom data : Nat) → Nat

/-- Latitude and longitude fields of a sentence as north and east mm of the local origin (R381, R187). -/
opaque toLocal : (lat lon : List Byte) → (south west : Bool) → Int × Int

/-- The fix quality of a GNS sentence's mode indicator (Table 13.7: "As GGA"). -/
opaque gnsQuality : List Byte → Int

/-- How many OPEN requests the device can hold before it answers BUSY_OPEN (Table 14.7). -/
opaque openBuffers : Nat

end Sys2Proof.Config
end

