-- ==== Sys2Proof/Machine/Tab.lean ====
section
/-! DEFINITION. Sparse tables: the one read, the one write and the canonical form that writes keep. -/

namespace Sys2Proof

/-- What key `k` reads as: its entry, or the default `d`. -/
def Tab.get {α : Type} (d : α) : Tab α → Nat → α
  | [], _ => d
  | (j, v) :: t, k => if j = k then v else Tab.get d t k

/-- Remove key `k`. -/
def Tab.erase {α : Type} : Tab α → Nat → Tab α
  | [], _ => []
  | (j, w) :: t, k => if j = k then Tab.erase t k else (j, w) :: Tab.erase t k

/-- Insert or replace the entry of key `k`, keeping the keys rising. -/
def Tab.insert {α : Type} : Tab α → Nat → α → Tab α
  | [], k, v => [(k, v)]
  | (j, w) :: t, k, v =>
    if j = k then (k, v) :: t else if k < j then (k, v) :: (j, w) :: t else (j, w) :: Tab.insert t k v

/-- Write `v` at key `k`: writing the default removes the entry. -/
def Tab.set {α : Type} [DecidableEq α] (d : α) (t : Tab α) (k : Nat) (v : α) : Tab α :=
  if v = d then Tab.erase t k else Tab.insert t k v

/-- Apply `f` to the entry of key `k`. -/
def Tab.modify {α : Type} [DecidableEq α] (d : α) (t : Tab α) (k : Nat) (f : α → α) : Tab α :=
  Tab.set d t k (f (Tab.get d t k))

/-- Apply `f` to the entry of every key of the list, first to last. -/
def Tab.modifyAll {α : Type} [DecidableEq α] (d : α) (t : Tab α) (ks : List Nat) (f : Nat → α → α) : Tab α :=
  ks.foldl (fun t k => Tab.modify d t k (f k)) t

/-- Apply `f` to every entry; what becomes the default goes. -/
def Tab.mapVals {α : Type} [DecidableEq α] (d : α) (t : Tab α) (f : α → α) : Tab α :=
  (t.map (fun p => (p.1, f p.2))).filter (fun p => decide (p.2 ≠ d))

/-- The keys are all above `lo` and strictly rising, and no entry is the default. -/
def Tab.canonFrom {α : Type} [DecidableEq α] (d : α) : Option Nat → Tab α → Bool
  | _, [] => true
  | none, (j, v) :: t => decide (v ≠ d) && Tab.canonFrom d (some j) t
  | some lo, (j, v) :: t => decide (lo < j) && decide (v ≠ d) && Tab.canonFrom d (some j) t

/-- The canonical form: strictly rising keys, no default entry. -/
def Tab.canon {α : Type} [DecidableEq α] (d : α) (t : Tab α) : Bool := Tab.canonFrom d none t

/-- The keys that hold something other than the default, in rising order. -/
def Tab.keys {α : Type} (t : Tab α) : List Nat := t.map Prod.fst

end Sys2Proof
end

