-- ==== Sys2Proof/Machine/Arith.lean ====
section
/-! DEFINITION. The exact arithmetic the manual states: rounding, saturation, wrapping comparison, counters. -/

namespace Sys2Proof.Machine

/-- `a / b` rounded to nearest with halves away from zero (R198, R559); 0 when `b` is 0. -/
def rndDiv (a : Int) (b : Nat) : Int :=
  if b = 0 then 0
  else if 0 ≤ a then (2 * a + b) / (2 * b) else -((2 * (-a) + b) / (2 * b))

/-- `a / 2^s` rounded to nearest with halves away from zero. -/
def rndShift (a : Int) (s : Nat) : Int := rndDiv a (2 ^ s)

/-- Clamp `a` to lo..hi. -/
def clampI (lo hi a : Int) : Int := if a < lo then lo else if hi < a then hi else a

/-- The largest and smallest value of a signed field of `w` bits. -/
def maxS (w : Nat) : Int := 2 ^ (w - 1) - 1
def minS (w : Nat) : Int := -(2 ^ (w - 1))

/-- Clamp to a signed field of `w` bits (R78, R198). -/
def satS (w : Nat) (a : Int) : Int := clampI (minS w) (maxS w) a

/-- An integer as a 32-bit word, saturating at the signed limits (R143). -/
def satWord (a : Int) : Word := BitVec.ofInt 32 (satS 32 a)

/-- A natural number as a 32-bit word, saturating. -/
def satWordU (a : Nat) : Word := if 2 ^ 32 ≤ a then BitVec.allOnes 32 else BitVec.ofNat 32 a

/-- Low and high words of a 64-bit value. -/
def lo32 (a : Nat) : Word := BitVec.ofNat 32 a
def hi32 (a : Nat) : Word := BitVec.ofNat 32 (a / 2 ^ 32)

/-- Signed 64-bit value of an integer, wrapping. -/
def long64 (a : Int) : Long := BitVec.ofInt 64 a

/-- One more, staying at the largest value. -/
def satInc {w : Nat} (a : BitVec w) : BitVec w := if a = BitVec.allOnes w then a else a + 1

/-- R136's signed difference of two values of a field modulo `m`. -/
def wrapDiff (m a b : Nat) : Int :=
  let d := (a + (m - b % m)) % m
  if 2 * d ≥ m then (d : Int) - m else d

/-- R136: `a` is later than `b`. -/
def wrapLater (m a b : Nat) : Bool := decide (0 < wrapDiff m a b)

/-- R137: bus time of an instant, in µs. -/
def busTime (ns : Nat) : Word := BitVec.ofNat 32 (ns / 1000)

/-- A Bool as one bit of a register. -/
def bit (b : Bool) (k : Nat) : Word := if b then BitVec.ofNat 32 (2 ^ k) else 0

/-- A value placed at bit `k` of a register. -/
def fld (v : Nat) (k : Nat) : Word := BitVec.ofNat 32 (v * 2 ^ k)

/-- Bits hi..lo of a word, as a number. -/
def bits (w : Word) (hi lo : Nat) : Nat := (w.toNat / 2 ^ lo) % 2 ^ (hi + 1 - lo)

/-- Bit `k` of a word. -/
def bitOf (w : Word) (k : Nat) : Bool := decide ((w.toNat / 2 ^ k) % 2 = 1)

/-- The low word of a 48-bit or 64-bit count. -/
def lowOf {w : Nat} (c : BitVec w) : Word := lo32 c.toNat
/-- The high word of a 48-bit or 64-bit count. -/
def highOf {w : Nat} (c : BitVec w) : Word := hi32 c.toNat

/-- Insert into a list kept rising by a key; equal keys keep their order of arrival. -/
def insertBy {α : Type} (key : α → Nat) (x : α) : List α → List α
  | [] => [x]
  | y :: t => if key x < key y then x :: y :: t else y :: insertBy key x t

/-- Stable sort by a key. -/
def sortBy {α : Type} (key : α → Nat) (l : List α) : List α := l.foldl (fun acc x => insertBy key x acc) []

/-- An integer as a 32-bit word, wrapping. -/
def wordI (a : Int) : Word := BitVec.ofInt 32 a

/-- A natural number as a 32-bit word, wrapping. -/
def wordN (a : Nat) : Word := BitVec.ofNat 32 a

/-- The bytes of a list of words, little-endian (R1). -/
def wordBytes (l : List Word) : List Byte :=
  l.flatMap (fun w => [BitVec.ofNat 8 w.toNat, BitVec.ofNat 8 (w.toNat / 256), BitVec.ofNat 8 (w.toNat / 65536),
                       BitVec.ofNat 8 (w.toNat / 16777216)])

/-- Bytes packed into words, little-endian; a short last word is filled with zeros. -/
def packBytes : List Byte → List Word
  | a :: b :: c :: d :: t =>
    BitVec.ofNat 32 (a.toNat + 256 * b.toNat + 65536 * c.toNat + 16777216 * d.toNat) :: packBytes t
  | [a, b, c] => [BitVec.ofNat 32 (a.toNat + 256 * b.toNat + 65536 * c.toNat)]
  | [a, b] => [BitVec.ofNat 32 (a.toNat + 256 * b.toNat)]
  | [a] => [BitVec.ofNat 32 a.toNat]
  | [] => []

/-- Unsigned little-endian value of `n` bytes at `ofs` of a payload; bytes beyond it read 0. -/
def leAt (l : List Byte) (ofs n : Nat) : Nat :=
  ((l.drop ofs).take n).foldr (fun b acc => b.toNat + 256 * acc) 0

/-- Signed little-endian value of `n` bytes at `ofs`. -/
def leAtS (l : List Byte) (ofs n : Nat) : Int :=
  let v := leAt l ofs n
  if 2 * v ≥ 256 ^ n then (v : Int) - (256 ^ n : Nat) else v

/-- An 8-bit mask bit by number. -/
def maskBit {w : Nat} (m : BitVec w) (k : Nat) : Bool := m.getLsbD k

/-- A mask with bit `k` set. -/
def setBit {w : Nat} (m : BitVec w) (k : Nat) : BitVec w := m ||| BitVec.ofNat w (2 ^ k)

/-- A mask with bit `k` cleared. -/
def clrBit {w : Nat} (m : BitVec w) (k : Nat) : BitVec w := m &&& ~~~ (BitVec.ofNat w (2 ^ k))

/-- A mask from a list of bit numbers. -/
def maskOf (w : Nat) (l : List Nat) : BitVec w := l.foldl setBit 0

/-- Largest r with r² ≤ n, built bit by bit from bit k − 1 down. -/
def isqrtBits : Nat → Nat → Nat → Nat
  | 0, r, _ => r
  | k + 1, r, n => if (r + 2 ^ k) * (r + 2 ^ k) ≤ n then isqrtBits k (r + 2 ^ k) n else isqrtBits k r n

/-- Square root rounded to nearest (R558). -/
def isqrt (n : Nat) : Nat :=
  let r := isqrtBits 64 0 n
  if n - r * r > r then r + 1 else r

end Sys2Proof.Machine

namespace Sys2Proof.Config

open Sys2Proof.Machine

/-- The quotient `num / den` of rule `site`, which does not state its rounding: exact where it is whole, else one of its two
neighbours (log 11). -/
def quot (site : Nat) (num : Int) (den : Nat) : Int :=
  if den = 0 then quotByZero site num
  else if num % den = 0 then num / den
  else num / den + (if roundsUp site num den then 1 else 0)

/-- The square root of rule `site`, which does not state its rounding: exact where it is whole, else one of its two neighbours; 0 of
a negative value (log 11). -/
def sqrtOf (site : Nat) (v : Int) : Int :=
  let r := isqrtBits 64 0 v.toNat
  if r * r = v.toNat then r else r + (if sqrtRoundsUp site v then 1 else 0)

end Sys2Proof.Config

namespace Sys2Proof.Machine

/-- One byte into a reflected CRC-32C register (R428). -/
def crc32cBits : Nat → BitVec 32 → BitVec 32
  | 0, c => c
  | k + 1, c => crc32cBits k (if c.getLsbD 0 then (c >>> 1) ^^^ 0x82F63B78 else c >>> 1)

/-- CRC-32C (Castagnoli) of R428. -/
def crc32c (l : List Byte) : BitVec 32 :=
  l.foldl (fun c b => crc32cBits 8 (c ^^^ BitVec.setWidth 32 b)) (BitVec.allOnes 32) ^^^ BitVec.allOnes 32

/-- The bits of one byte through an unreflected CRC-64 register (R434). -/
def crc64Bits : Nat → BitVec 64 → BitVec 64
  | 0, c => c
  | k + 1, c => crc64Bits k (if c.getLsbD 63 then (c <<< 1) ^^^ 0x42F0E1EBA9EA3693 else c <<< 1)

/-- The CRC-64 of R434. -/
def crc64 (l : List Byte) : BitVec 64 :=
  l.foldl (fun c b => crc64Bits 8 (c ^^^ (BitVec.setWidth 64 b <<< 56))) 0

/-- `n` bytes of a number, little-endian (R1). -/
def leBytes : Nat → Nat → List Byte
  | 0, _ => []
  | k + 1, v => BitVec.ofNat 8 v :: leBytes k (v / 256)

end Sys2Proof.Machine
end

