-- ==== Sys2Proof/Machine/StFbu.lean ====
section
/-! DEFINITION. State of the FBU block: channels, nodes, buffers, serial ports, rings (13_field_bus.md). -/

namespace Sys2Proof.Machine

/-- FBU_C_STATE.MODE. -/
inductive ChanMode where
  | off | listen | active | busOff
deriving DecidableEq, Repr

/-- The code of a channel's mode. -/
def ChanMode.code : ChanMode → Nat
  | .off => 0 | .listen => 1 | .active => 2 | .busOff => 3

/-- Kinds of transmitted frames (R356, R362 to R374, R387). -/
inductive TxKind where
  | reference | lifeSign | command | amdun | message | ringFrame
deriving DecidableEq, Repr

/-- A requested frame (R362). -/
structure TxFrame where
  kind   : TxKind
  window : Nat
  frame  : CanFrame
  arb    : Nat
deriving DecidableEq, Repr

/-- Transmit abort reasons (Table 13.3). -/
inductive AbortReason where
  | gated | arbLimit | errorPassive | busOff | restart | window | listen
deriving DecidableEq, Repr

/-- The transmit ledger of a channel (R366). -/
structure TxLedger where
  requested : Count48
  sent      : Count48
  gated     : Count48
  arbLimit  : Count48
  errorPassive : Count48
  busOff    : Count48
  restart   : Count48
  window    : Count48
  listen    : Count48
deriving DecidableEq, Repr

/-- A clear transmit ledger. -/
def TxLedger.zero : TxLedger :=
  { requested := 0, sent := 0, gated := 0, arbLimit := 0, errorPassive := 0, busOff := 0, restart := 0, window := 0, listen := 0 }

/-- One CAN channel. -/
structure ChanSt where
  mode       : ChanMode
  nom        : BitVec 3
  dat        : BitVec 3
  passive    : Bool
  mismatch   : Bool
  txErr      : Nat
  rxErr      : Nat
  /-- Consecutive error-free frames at a nominal and a data rate in listen-only, and what has been detected (R354). -/
  runNom     : BitVec 3 × Nat
  runDat     : BitVec 3 × Nat
  detNom     : Option (BitVec 3)
  detDat     : Option (BitVec 3)
  /-- Nominal and data rate codes at which a frame decoded. -/
  seenNom    : BitVec 8
  seenDat    : BitVec 8
  activity   : Bool
  forceNext  : Bool
  recoveries : Nat
  /-- A recovery in progress: started by the host. -/
  recovering : Option Bool
  busOffsRound : Nat
  staged     : List TxFrame
  pending    : List TxFrame
  current    : Option TxFrame
  openWindow : Option Nat
  nonce      : Option Byte
  firstPass  : List Nat
  lastFirst  : Option Nat
  retry      : List Nat
  hello      : List Nat
  roundWait  : List Nat
  refMissing : Nat
  refSilent  : Bool
  ledger     : TxLedger
  ledgerSnap : TxLedger
  rxFrames   : Word
  rxUnmatched : Word
  rxErrors   : Word
  startFrames : Word
  refLate    : Word
  busOffs    : Word
  lostLocked : Word
  lockExpired : Word
  amdIgnored : Word
deriving DecidableEq, Repr

/-- A channel after reset: off. -/
def ChanSt.zero : ChanSt :=
  { mode := .off, nom := 0, dat := 0, passive := false, mismatch := false, txErr := 0, rxErr := 0, runNom := (0, 0), runDat := (0, 0),
    detNom := none, detDat := none, seenNom := 0, seenDat := 0, activity := false, forceNext := false, recoveries := 0,
    recovering := none, busOffsRound := 0, staged := [], pending := [], current := none, openWindow := none, nonce := none,
    firstPass := [], lastFirst := none, retry := [], hello := [], roundWait := [], refMissing := 0, refSilent := false,
    ledger := TxLedger.zero, ledgerSnap := TxLedger.zero, rxFrames := 0, rxUnmatched := 0, rxErrors := 0, startFrames := 0,
    refLate := 0, busOffs := 0, lostLocked := 0, lockExpired := 0, amdIgnored := 0 }

/-- Node states (FBU_C_NODEa.STATE). -/
inductive NodeState where
  | none | unsettled | queried | retry | settled | refused | absent
deriving DecidableEq, Repr

/-- The code of a node's state. -/
def NodeState.code : NodeState → Nat
  | .none => 0 | .unsettled => 1 | .queried => 2 | .retry => 3 | .settled => 4 | .refused => 5 | .absent => 6

/-- What kind of query a node waits on (R376). -/
inductive QueryKind where
  | first | retry | hello | round
deriving DecidableEq, Repr

/-- One node (R376), keyed channel × 128 + address. -/
structure NodeSt where
  state  : NodeState
  rate   : BitVec 3
  cls    : BitVec 2
  best   : BitVec 3
  fresh  : BitVec 10
  /-- The query in flight: beat, kind and NONCE. -/
  query  : Option (Nat × QueryKind × Byte)
  sent   : Nat
deriving DecidableEq, Repr

/-- A node that is not configured. -/
def NodeSt.zero : NodeSt := { state := .none, rate := 0, cls := 0, best := 0, fresh := 0, query := Option.none, sent := 0 }

/-- One receive buffer (R361), keyed channel × 512 + buffer. -/
structure RxBuf where
  frame  : Option (CanFrame × Nat)
  shadow : Option (CanFrame × Nat)
  lock   : Option (BitVec 4 × BitVec 8)
  lost   : Byte
deriving DecidableEq, Repr

/-- An empty buffer. -/
def RxBuf.zero : RxBuf := { frame := none, shadow := none, lock := none, lost := 0 }

/-- One serial port (R379). -/
structure SerSt where
  rate      : BitVec 3
  auto      : Bool
  sentences : Word
  bad       : Word
  unmatched : Word
  /-- Text last sent from a SERIAL_TX ring. -/
  sent      : List Byte
deriving DecidableEq, Repr

/-- A port that is off. -/
def SerSt.zero : SerSt := { rate := 0, auto := false, sentences := 0, bad := 0, unmatched := 0, sent := [] }

/-- One entry of a ring (R385); `word` holds bytes 12 to 15. -/
structure RingEntry where
  seq     : Word
  beat    : Word
  epoch   : Bool
  trunc   : Bool
  sideB   : Bool
  kind    : Byte
  word    : Word
  payload : List Byte
deriving DecidableEq, Repr

/-- The ledger of a ring (R40). -/
structure RingLedger where
  produced : Count48
  consumed : Count48
  full     : Count48
  reset    : Count48
  restart  : Count48
  stale    : Count48
deriving DecidableEq, Repr

/-- A clear ring ledger. -/
def RingLedger.zero : RingLedger := { produced := 0, consumed := 0, full := 0, reset := 0, restart := 0, stale := 0 }

/-- One ring (R383 to R386). -/
structure RingSt where
  entries : List RingEntry
  seq     : Word
  epoch   : Bool
  ledger  : RingLedger
  snap    : RingLedger
  snapOcc : Nat
deriving DecidableEq, Repr

/-- A ring after a start: empty, SEQ from 0, EPOCH on the first entry (R389). -/
def RingSt.zero : RingSt := { entries := [], seq := 0, epoch := true, ledger := RingLedger.zero, snap := RingLedger.zero, snapOcc := 0 }

/-- The FBU block. -/
structure FbuSt where
  msgs     : Option MsgTable
  table    : Option NodeTable
  channels : Tab ChanSt
  nodes    : Tab NodeSt
  buffers  : Tab RxBuf
  serial   : Tab SerSt
  rings    : Tab RingSt
  /-- Window copies that differ from the image's, by channel × 64 + copy × 32 + window. -/
  windows  : Tab (Option Word)
  winActive : BitVec 16
  winPend  : BitVec 16
  /-- The frames requested in the last publish phase, in request order with their channels (R434). -/
  requested : List (Nat × TxFrame)
  flags    : BitVec 8
  ethIgnored : Word
  /-- The interfaces are enabled (R97, 2 ms). -/
  enabled  : Bool
deriving DecidableEq, Repr

/-- The FBU block after reset (Table 13.11). -/
def FbuSt.reset : FbuSt :=
  { msgs := none, table := none, channels := [], nodes := [], buffers := [], serial := [], rings := [], windows := [], winActive := 0,
    winPend := 0, requested := [], flags := 0, ethIgnored := 0, enabled := false }

end Sys2Proof.Machine
end

