-- ==== Sys2Proof/Machine/StTim.lean ====
section
/-! DEFINITION. State of the TIM block: device time, sources, the step, sensor models (04_device_time.md). -/

namespace Sys2Proof.Machine

/-- TIM_STATUS.STATE (Table 4.2). -/
inductive TimeState where
  | unset | free | locked | holdover
deriving DecidableEq, Repr

/-- The code of TIM_STATUS.STATE. -/
def TimeState.code : TimeState → Word
  | .unset => 0 | .free => 1 | .locked => 2 | .holdover => 3

/-- The sources of Table 4.1, in priority order. -/
inductive TimeSource where
  | partner | gnss | ptp | bus
deriving DecidableEq, Repr

/-- The code of TIM_STATUS.SOURCE. -/
def TimeSource.code : TimeSource → Nat
  | .partner => 1 | .gnss => 2 | .ptp => 3 | .bus => 4

/-- The state of one source in TIM_SRC. -/
inductive SourceState where
  | absent | qualifying | qualified | refused
deriving DecidableEq, Repr

/-- The code of a source's state in TIM_SRC. -/
def SourceState.code : SourceState → Word
  | .absent => 0 | .qualifying => 1 | .qualified => 2 | .refused => 3

/-- What the time keeper holds about one source (R119, R121, R126). -/
structure SourceSt where
  state    : SourceState
  /-- Consecutive agreeing measurements toward QUAL_COUNT. -/
  good     : Nat
  /-- The last offset measured, source time minus device time, in ns. -/
  offset   : Option Int
  /-- The beat number during which it was measured. -/
  beat     : Nat
  /-- The latest offset measured at or before the last beat edge, with its beat (R129). -/
  atEdge   : Option (Int × Nat)
  /-- Measured since the last beat edge. -/
  fresh    : Bool
  /-- Consecutive measurements within JUMP_US since the source was refused. -/
  returned : Nat
deriving DecidableEq, Repr

/-- A source not heard of. -/
def SourceSt.zero : SourceSt :=
  { state := .absent, good := 0, offset := none, beat := 0, atEdge := none, fresh := false, returned := 0 }

/-- A step waiting for its edge (R129).  `age` counts the beats that ran since its condition arose. -/
structure PendStep where
  source : TimeSource
  byArm  : Bool
  age    : Nat
deriving DecidableEq, Repr

/-- An arm in force (R128); `left` counts beats. -/
structure ArmSt where
  session : BitVec 8
  left    : Nat
deriving DecidableEq, Repr

/-- TIM_M_STATE (R139). -/
inductive ModelState where
  | acquire | admitted | timeLost
deriving DecidableEq, Repr

/-- One sensor time model (R138, R139).  `rate` is in ppt. -/
structure SensorModel where
  state     : ModelState
  good      : BitVec 8
  offset    : Int
  rate      : Int
  s0        : Int
  resid     : Int
  losts     : Word
  discarded : Word
deriving DecidableEq, Repr

/-- A model after reset: acquire (R139). -/
def SensorModel.zero : SensorModel :=
  { state := .acquire, good := 0, offset := 0, rate := 0, s0 := 0, resid := 0, losts := 0, discarded := 0 }

/-- The TIM block. -/
structure TimSt where
  /-- Device time in ns at the latest instant the model has reached (R116). -/
  now        : Nat
  /-- The fraction of device time below its ns count, in fs (R559). -/
  fracFs     : Nat
  state      : TimeState
  selected   : Option TimeSource
  stepUsed   : Bool
  arm        : Option ArmSt
  pending    : Option PendStep
  theta      : Int
  learned    : Int
  applied    : Int
  settled    : Bool
  sources    : Tab SourceSt
  cfg        : Option TimeCfg
  /-- TAI − UTC in s; 0 unknown. -/
  utc        : Half
  /-- Who gave it: 0 none, 1 image default, 2 PTP, 3 GNSS (R118's preference, rising). -/
  utcFrom    : BitVec 2
  flJumpRefused : Bool
  flStepApplied : Bool
  flHoldover : Bool
  flSourceChanged : Bool
  flArmExpired : Bool
  flModelLost : Bool
  flPpsIn    : Bool
  /-- Beats in the current or last holdover. -/
  holdBeats  : Nat
  /-- Class of the last locked source for Table 14.1. -/
  lastClass  : Byte
  parentClass : Byte
  ppsIn      : Nat
  refusals   : Word
  stepK      : Int
  stepBeat   : Long
  /-- Width in ms of the pulse in progress on PPS_OUT. -/
  ppsOut     : Option Nat
  models     : Tab SensorModel
  /-- The learned rate saved in MRAM and the rounds since (R123). -/
  learnedSaved : Int
  roundsSinceSave : Nat
  /-- TIME_STEP of the next published record (R129). -/
  recStep    : Bool
deriving DecidableEq, Repr

/-- The TIM block after reset (Table 4.4). -/
def TimSt.reset : TimSt :=
  { now := 0, fracFs := 0, state := .unset, selected := none, stepUsed := false, arm := none, pending := none,
    theta := 0, learned := 0, applied := 0, settled := false, sources := [], cfg := none, utc := 0, utcFrom := 0,
    flJumpRefused := false, flStepApplied := false, flHoldover := false, flSourceChanged := false,
    flArmExpired := false, flModelLost := false, flPpsIn := false, holdBeats := 0, lastClass := 0, parentClass := 0,
    ppsIn := 0, refusals := 0, stepK := 0, stepBeat := 0, ppsOut := none, models := [],
    learnedSaved := 0, roundsSinceSave := 0, recStep := false }

end Sys2Proof.Machine
end

