-- ==== Sys2Proof/Machine/TimeKeeper.lean ====
section
/-! DEFINITION. The time keeper: qualification, selection, refusal, steering, steps, sensor models (04_device_time.md). -/

namespace Sys2Proof.Machine

/-- An event on its way to the recorder: code and parameters. -/
abbrev Ev := Half × List Word

/-- The source's key in the table of sources. -/
def TimeSource.key (s : TimeSource) : Nat := s.code

/-- What a source's entry reads as. -/
def TimSt.src (t : TimSt) (s : TimeSource) : SourceSt := Tab.get SourceSt.zero t.sources s.key

/-- Write a source's entry. -/
def TimSt.setSrc (t : TimSt) (s : TimeSource) (v : SourceSt) : TimSt :=
  { t with sources := Tab.set SourceSt.zero t.sources s.key v }

/-- Is the source enabled in the TIME_CFG in force (Table 4.3)?  PARTNER needs no enable. -/
def TimSt.enabled (t : TimSt) (s : TimeSource) : Bool :=
  match t.cfg with
  | none => false
  | some c =>
    match s with
    | .partner => true
    | .gnss => c.sources.getLsbD 0
    | .ptp => c.sources.getLsbD 1
    | .bus => c.sources.getLsbD 2

/-- JUMP_US in ns. -/
def TimSt.jumpNs (t : TimSt) : Nat := match t.cfg with | none => 0 | some c => c.jumpUs.toNat * 1000
/-- LOCK_BAND_NS. -/
def TimSt.lockBand (t : TimSt) : Nat := match t.cfg with | none => 0 | some c => c.lockBandNs.toNat
/-- QUAL_COUNT. -/
def TimSt.qualCount (t : TimSt) : Nat := match t.cfg with | none => 0 | some c => c.qualCount.toNat
/-- SLEW_PPM. -/
def TimSt.slewPpm (t : TimSt) : Nat := match t.cfg with | none => 0 | some c => c.slewPpm.toNat

/-- A source that may be steered to: enabled, qualified and not refused (R119). -/
def TimSt.selectable (t : TimSt) (s : TimeSource) : Bool :=
  t.enabled s && decide ((t.src s).state = .qualified)

/-- The highest-priority source of those that `ok` admits; PARTNER counts only where the role admits it (Table 4.1). -/
def firstSource (ok : TimeSource → Bool) (partnerOk : Bool) : Option TimeSource :=
  if partnerOk && ok .partner then some .partner
  else if ok .gnss then some .gnss
  else if ok .ptp then some .ptp
  else if ok .bus then some .bus
  else none

/-- The highest-priority selectable source (R119). -/
def TimSt.best (t : TimSt) (partnerOk : Bool) : Option TimeSource := firstSource t.selectable partnerOk

/-- The highest-priority selectable source whose last offset is within JUMP_US (Table 4.2). -/
def TimSt.bestNear (t : TimSt) (partnerOk : Bool) : Option TimeSource :=
  firstSource (fun s => t.selectable s && (t.src s).offset.any (fun o => decide (o.natAbs ≤ t.jumpNs))) partnerOk

/-- The highest-priority qualified source, refused or not, for an armed step (R128). -/
def TimSt.bestForArm (t : TimSt) : Option TimeSource :=
  let ok := fun s => t.enabled s && (decide ((t.src s).state = .qualified) || decide ((t.src s).state = .refused))
  if ok .gnss then some .gnss else if ok .ptp then some .ptp else if ok .bus then some .bus else none

/-- The class of a lock for Table 14.1's holdover rows: a lock to PTP counts with class 13, whatever its parent's class. -/
def classOf (s : TimeSource) : Byte :=
  match s with
  | .gnss => 6 | .ptp => 13 | .partner => 13 | .bus => 13

/-- Choose the source again and move the state by Table 4.2 (R120, R131). -/
def TimSt.reselect (t : TimSt) (partnerOk : Bool) : TimSt × List Ev :=
  match t.state with
  | .unset => (t, [])
  | .free =>
    match t.bestNear partnerOk with
    | none => (t, [])
    | some s =>
      if t.pending.isSome then (t, [])
      else ({ t with state := .locked, selected := some s, lastClass := classOf s }, [])
  | .locked =>
    match t.best partnerOk with
    | some s =>
      if t.selected = some s then ({ t with lastClass := classOf s }, [])
      else
        let old := match t.selected with | none => 0 | some o => o.code
        let ofs := match (t.src s).offset with | none => 0 | some o => o
        ({ t with selected := some s, flSourceChanged := true, lastClass := classOf s },
         [(0x0306, [BitVec.ofNat 32 old, BitVec.ofNat 32 s.code, satWord ofs])])
    | none =>
      let old := match t.selected with | none => 0 | some o => o.code
      ({ t with state := .holdover, selected := none, flHoldover := true, holdBeats := 0, settled := false,
                applied := t.learned },
       [(0x0304, [BitVec.ofNat 32 old, satWord t.learned])])
  | .holdover =>
    match t.bestNear partnerOk with
    | none => (t, [])
    | some s =>
      let ofs := match (t.src s).offset with | none => 0 | some o => o
      ({ t with state := .locked, selected := some s, lastClass := classOf s },
       [(0x0305, [BitVec.ofNat 32 s.code, satWord ofs, BitVec.ofNat 32 (t.holdBeats / 1000)])])

/-- A source loses its qualification condition and must qualify again from the beginning (R121).  A step of R127
that waited for it is cancelled (R129). -/
def TimSt.disqualify (t : TimSt) (s : TimeSource) (present : Bool) : TimSt :=
  let st : SourceSt := { SourceSt.zero with state := if present then .qualifying else .absent }
  let t := t.setSrc s st
  match t.pending with
  | some p => if p.source = s && !p.byArm then { t with pending := none } else t
  | none => t

/-- The exact first setting of device time (R124, R125): event 0x0301. -/
def TimSt.setExactly (t : TimSt) (s : TimeSource) (theta : Int) : TimSt × List Ev :=
  let now := ((t.now : Int) + theta).toNat
  ({ t with now := now, ppsIn := if t.ppsIn = 0 then 0 else ((t.ppsIn : Int) + theta).toNat, state := .locked, selected := some s, stepUsed := true, theta := 0,
            sources := Tab.mapVals SourceSt.zero t.sources (fun o => { o with offset := o.offset.map (fun x => x - theta) }),
            lastClass := classOf s },
   [(0x0301, [BitVec.ofNat 32 s.code, lo32 now, hi32 now, 0])])

/-- Consecutive measurements toward QUAL_COUNT (Table 4.1): offsets within LOCK_BAND of the one before, or pulses of external
GNSS, whose spacing their edge has been held to.  Internal GNSS and PARTNER qualify at once. -/
def TimSt.agree (t : TimSt) (s : TimeSource) (theta : Int) : Nat :=
  let o := t.src s
  match o.offset with
  | none => 1
  | some last => if s = .gnss ∨ (theta - last).natAbs ≤ t.lockBand then o.good + 1 else 1

/-- Mark a source REFUSED, once for each refusal episode (R126). -/
def TimSt.refuse (t : TimSt) (s : TimeSource) (theta : Int) : TimSt × List Ev :=
  let o := t.src s
  if o.state = .refused then (t.setSrc s { o with returned := 0 }, [])
  else
    ({ (t.setSrc s { o with state := .refused, returned := 0 }) with
         flJumpRefused := true, refusals := t.refusals + 1 },
     [(0x0303, [BitVec.ofNat 32 s.code, satWord (rndDiv theta 1000),
                (match t.cfg with | none => 0 | some c => c.jumpUs), if t.stepUsed then 1 else 0])])

/-- Beats since the union that carried the arm in force (R128, R129). -/
def TimSt.armAge (t : TimSt) : Nat :=
  match t.cfg, t.arm with
  | some c, some a => c.armWindow.toNat * 1000 - a.left
  | _, _ => 0

/-- The jump test and what follows from a measurement of a qualified source once device time is set or the first
beat has run (R126 to R128). -/
def TimSt.judge (t : TimSt) (s : TimeSource) (theta : Int) : TimSt × List Ev :=
  let o := t.src s
  if t.arm.isSome && decide (t.bestForArm = some s) then
    match t.pending with
    | some _ => (t, [])
    | none => ({ t with pending := some { source := s, byArm := true, age := t.armAge } }, [])
  else if theta.natAbs > t.jumpNs then
    if t.state = .free && !t.stepUsed then
      match t.pending with
      | some _ => (t, [])
      | none => ({ t with pending := some { source := s, byArm := false, age := 0 } }, [])
    else t.refuse s theta
  else if o.state = .refused then
    if o.returned + 1 ≥ t.qualCount then
      (t.setSrc s { o with state := .qualified, returned := 0 }, [])
    else (t.setSrc s { o with returned := o.returned + 1 }, [])
  else (t, [])

/-- A source gives an offset (R119, R125 to R127).  `atOnce`: its condition qualifies it without a count;
`firstRan`: the first beat has run; `accepted`: the image whose TIME_CFG is in force has been accepted. -/
def TimSt.measure (t : TimSt) (s : TimeSource) (theta : Int) (atOnce firstRan accepted partnerOk : Bool) (beat : Nat) :
    TimSt × List Ev :=
  if !t.enabled s then (t, [])
  else
    let o := t.src s
    let good := if atOnce then t.qualCount else t.agree s theta
    let st := match o.state with
      | .qualified => .qualified
      | .refused => .refused
      | _ => if good ≥ t.qualCount then SourceState.qualified else .qualifying
    let t1 := t.setSrc s { o with state := st, good := good, offset := some theta, beat := beat, fresh := true }
    if st = .qualifying then (t1, [])
    else if t1.state = .unset && !firstRan then
      if accepted && decide (t1.best partnerOk = some s) then t1.setExactly s theta else (t1, [])
    else
      let (t2, e1) := t1.judge s theta
      let (t3, e2) := t2.reselect partnerOk
      (t3, e1 ++ e2)

/-- R123 and R559: the steering of one beat edge, in ppt. -/
def TimSt.steer (t : TimSt) : TimSt :=
  match t.selected, t.cfg with
  | some s, some c =>
    let o := t.src s
    if o.fresh then
      match o.offset with
      | none => t
      | some theta =>
        let q := rndShift (theta * 1000000) c.kpLog2.toNat
        let lim : Int := (t.slewPpm : Int) * 1000000
        let pull := clampI (-lim) lim q
        let learned :=
          if pull = q then clampI (-100000000) 100000000 (t.learned + rndShift (theta * 1000000) c.kiLog2.toNat)
          else t.learned
        { t with theta := theta, learned := learned, applied := learned + pull,
                 settled := decide (theta.natAbs < t.lockBand) }
    else t
  | _, _ => { t with applied := t.learned }

/-- R132: the holdover flag. -/
def TimSt.holdFlag (t : TimSt) : Bool :=
  match t.state with
  | .locked => !t.settled
  | _ => true

/-- R134: the width in ms of the pulse that starts at a round boundary; 0 for none. -/
def TimSt.ppsWidth (t : TimSt) : Nat :=
  match t.cfg with
  | none => 0
  | some c =>
    match t.state with
    | .unset => 0
    | .free => if c.ppsFlags.getLsbD 2 then 2 * c.ppsWidthMs.toNat else 0
    | _ => if t.holdFlag then 2 * c.ppsWidthMs.toNat else c.ppsWidthMs.toNat

/-- What one edge does to the time keeper's counts: measurements age, holdover and arms count beats. -/
def TimSt.edge (t : TimSt) : TimSt :=
  let t := t.steer
  { t with
    sources := Tab.mapVals SourceSt.zero t.sources (fun o => { o with fresh := false, atEdge := o.offset.map (fun th => (th, o.beat)) }),
    holdBeats := if t.state = .holdover then t.holdBeats + 1 else t.holdBeats,
    arm := t.arm.map (fun a => { a with left := a.left - 1 }),
    pending := t.pending.map (fun p => { p with age := p.age + 1 }),
    fracFs := 0 }

/-- Does the step that waits take place at the coming edge E, a round boundary (R129)?  `n` is the beat before E;
`standby`: the published DP mode is STANDBY. -/
def TimSt.stepDue (t : TimSt) (n : Nat) (standby : Bool) : Option (TimeSource × Int) :=
  match t.pending with
  | none => none
  | some p =>
    match (t.src p.source).atEdge with
    | none => none
    | some (theta, beat) =>
      if (n + 1) % 1000 = 0 && decide (2 ≤ p.age + 1) && standby && decide (max (n + 1 - 1000) t.stepBeat.toNat ≤ beat) && decide (beat ≤ n)
        && (!p.byArm || t.arm.isSome)
      then some (p.source, theta) else none

/-- R129 step 1: k, the whole milliseconds of the offset, a half rounded away from zero. -/
def stepBeats (theta : Int) : Int := rndDiv theta 1000000

/-- A source's offsets and beats on the scale after a step of k ms (R129 step 4). -/
def SourceSt.shift (o : SourceSt) (k : Int) : SourceSt :=
  { o with
    offset := o.offset.map (fun th => th - k * 1000000), beat := ((o.beat : Int) + k).toNat
    atEdge := o.atEdge.map (fun x => (x.1 - k * 1000000, ((x.2 : Int) + k).toNat)) }

/-- Apply a step of k beats at E, with remainder r in ns (R129 steps 2, 4, 6, 7 and R130), to everything the time keeper holds. -/
def TimSt.applyStep (t : TimSt) (s : TimeSource) (k r : Int) (newBeat : Nat) : TimSt × List Ev :=
  let now := ((t.now : Int) + k * 1000000).toNat
  let o := (t.src s).shift k
  let t1 := { t with
    now := now, state := .locked, selected := some s, stepUsed := true, arm := none, pending := none,
    flStepApplied := true, stepK := k, stepBeat := BitVec.ofNat 64 newBeat, recStep := true,
    theta := r,
    models := Tab.mapVals SensorModel.zero t.models (fun m => { m with offset := m.offset + k * 1000000 }),
    ppsIn := if t.ppsIn = 0 then 0 else ((t.ppsIn : Int) + k * 1000000).toNat,
    sources := Tab.mapVals SourceSt.zero t.sources (fun o => o.shift k),
    lastClass := classOf s }
  (t1.setSrc s { o with state := .qualified, returned := 0 },
   [(0x0302, [BitVec.ofNat 32 s.code, BitVec.ofInt 32 k, lo32 newBeat, satWord r])])

/-- The entry of TIME_CFG that gives a capture source its model (R138). -/
def TimSt.modelOf (t : TimSt) (source : Half) : Option ModelEntry :=
  match t.cfg with
  | none => none
  | some c => c.models.find? (fun m => decide (m.source = source))

/-- A sensor's stamp as TAI ns: STAMP 1 TAI, 2 UTC, 3 GPST (TAI − 19 s) (R118, R139, Table 4.3). -/
def TimSt.stampToTai (t : TimSt) (stamp : Byte) (s : Int) : Int :=
  if stamp = 2 then s + (t.utc.toNat : Int) * 1000000000
  else if stamp = 3 then s + 19000000000
  else s

/-- The prediction of a model: s + offset + rate·(s − s0), with the rate in ppt. -/
def SensorModel.predict (m : SensorModel) (s : Int) : Int := s + m.offset + rndDiv (m.rate * (s - m.s0)) 1000000000000

/-- R139: one sample with sensor time `s` (TAI ns) that completes at `a`.  Answers the model, the sample's instant
when it is admitted, and the events.  `divOfs` and `divRate` are the divisions by 2^rate_log2, whose rounding the
spec does not state (Config.modelDiv). -/
def SensorModel.sample (m : SensorModel) (e : ModelEntry) (s a : Int) (divOfs : Int → Int) (divRate : Int → Nat → Int) :
    SensorModel × Option Int × List Ev :=
  let lat : Int := e.latencyNs.toNat
  let resid := a - lat - m.predict s
  match m.state with
  | .admitted =>
    if resid.natAbs > 1000000 then
      ({ m with state := .timeLost, good := 0, resid := resid, losts := m.losts + 1, discarded := 1 }, none,
       [(0x0309, [BitVec.ofNat 32 e.model.toNat, satWord resid])])
    else
      let d := divOfs resid
      let span := (if s - m.s0 < 1 then 1 else s - m.s0).toNat
      ({ m with offset := m.offset + d, rate := m.rate + divRate resid span, resid := resid },
       some (m.predict s + d), [])
  | _ =>
    let m1 :=
      if m.good = 0 then { m with offset := a - lat - s, rate := 0, s0 := s, good := 1 }
      else if resid.natAbs ≤ 1000000 then { m with good := satInc m.good } else { m with good := 0 }
    let m2 := { m1 with resid := resid, discarded := m.discarded + 1 }
    if m2.good.toNat ≥ e.readmit.toNat then
      ({ m2 with state := .admitted, discarded := 0 }, none,
       [(0x030A, [BitVec.ofNat 32 e.model.toNat, m2.discarded])])
    else (m2, none, [])

end Sys2Proof.Machine
end

