-- ==== Sys2Proof/Machine/FieldBus.lean ====
section
/-! DEFINITION. Field buses: reception, fields, transmission, windows, Amdun, buffers, rings (13_field_bus.md). -/

namespace Sys2Proof.Machine

/-- What a channel reads as. -/
def FbuSt.chan (f : FbuSt) (c : Nat) : ChanSt := Tab.get ChanSt.zero f.channels c
/-- Write a channel. -/
def FbuSt.setChan (f : FbuSt) (c : Nat) (v : ChanSt) : FbuSt := { f with channels := Tab.set ChanSt.zero f.channels c v }
/-- A channel's configuration, when it is enabled (R357, R388). -/
def FbuSt.cfg (f : FbuSt) (c : Nat) : Option ChanCfg :=
  match f.table, f.msgs with
  | some t, some m => if m.chEnable.getLsbD c then t.channels[c]? else none
  | _, _ => none
/-- What a node reads as. -/
def FbuSt.node (f : FbuSt) (k : Nat) : NodeSt := Tab.get NodeSt.zero f.nodes k
/-- Write a node. -/
def FbuSt.setNode (f : FbuSt) (k : Nat) (v : NodeSt) : FbuSt := { f with nodes := Tab.set NodeSt.zero f.nodes k v }
/-- A ring and its configuration. -/
def FbuSt.ring (f : FbuSt) (r : Nat) : RingSt := Tab.get RingSt.zero f.rings r
/-- Write a ring. -/
def FbuSt.setRing (f : FbuSt) (r : Nat) (v : RingSt) : FbuSt := { f with rings := Tab.set RingSt.zero f.rings r v }
/-- A ring's configuration; a ring of depth 0 is absent. -/
def FbuSt.ringCfg (f : FbuSt) (r : Nat) : Option RingCfg :=
  match f.table with
  | none => none
  | some t => (t.rings[r]?).filter (fun c => decide (c.depth ≠ 0))

/-- A window of a copy: the runtime value, or the image's (R367). -/
def FbuSt.window (f : FbuSt) (c copy w : Nat) : Word :=
  match Tab.get none f.windows (c * 64 + copy * 32 + w) with
  | some v => v
  | none => match f.table with | none => 0 | some t => t.windows.getD (c * 32 + w) 0

/-- The active copy of a channel. -/
def FbuSt.activeCopy (f : FbuSt) (c : Nat) : Nat := if f.winActive.getLsbD c then 1 else 0

/-- START_US, LEN_US and KIND of a window (R363). -/
def winStart (w : Word) : Nat := bits w 9 0
def winLen (w : Word) : Nat := bits w 19 10
def winKind (w : Word) : Nat := bits w 22 20

/-- R363's rules on one channel's 32 windows, for its role; `need w` is the µs an EXCLUSIVE window's one entry takes. -/
def windowsOk (role : Byte) (ws : List Word) (need : Nat → Option Nat) : Bool :=
  if role = 0 then true
  else
    let used := (List.range ws.length).filter (fun k => decide (winKind (ws.getD k 0) ≠ 0))
    used.all (fun k =>
      let w := ws.getD k 0
      decide (winKind w ≤ 4) && decide (winStart w + winLen w ≤ 1000) &&
      used.all (fun j => decide (j = k) || decide (winStart w + winLen w ≤ winStart (ws.getD j 0)) ||
        decide (winStart (ws.getD j 0) + winLen (ws.getD j 0) ≤ winStart w)) &&
      (if winKind w = 1 then decide (role = 1) && decide (k = 0) && decide (winStart w = 0) else true) &&
      (if winKind w = 2 then (match need k with | none => false | some u => decide (u ≤ winLen w)) else true)) &&
    (if role = 1 then decide (winKind (ws.getD 0 0) = 1) && decide (winStart (ws.getD 0 0) = 0) else true)

/-- What an EXCLUSIVE window of a channel needs: the longest time of the one TX entry it serves; none when it serves not
exactly one. -/
def exclusiveNeed (m : MsgTable) (c nom dat : Nat) (w : Nat) : Option Nat :=
  match m.entries.filter (fun e => e.tx && decide (e.channel.toNat = c) && decide (e.bufWin.toNat = w)) with
  | [e] => some (Config.frameUs e.len.toNat (e.ident.getLsbD 29) e.fd e.brs nom dat)
  | _ => none

/-- The payload of a frame's item: its data bytes, and after them a word of the model with their number, FD (bit 8) and BRS
(bit 9). -/
def framePayload (fr : CanFrame) : List Word :=
  packBytes fr.data ++ [wordN (fr.data.length + (if fr.fd then 256 else 0) + (if fr.brs then 512 else 0))]

/-- The data bytes of a frame's item. -/
def payloadData (p : List Word) : List Byte := (wordBytes p).take (bits (p.getLastD 0) 7 0)

/-- Is the frame of an item an FD frame? -/
def payloadFd (p : List Word) : Bool := (p.getLastD 0).getLsbD 8

/-- The last item of a source in the union (R358). -/
def lastItem (union : List Item) (source : Half) : Option Item :=
  (union.reverse).find? (fun i => decide (i.source = source))

/-- R358: the bytes a capture field reads, or the decoded value of a sentence; and the field. -/
def FbuSt.fieldRaw (f : FbuSt) (union : List Item) (no : Half) : Option (CapField × List Byte × Option Int) :=
  match f.msgs with
  | none => none
  | some m =>
    if no = 0 then none
    else
      match m.fields[no.toNat - 1]? with
      | none => none
      | some c =>
        if c.source.getLsbD 15 then
          match lastItem union (0x4001 + (c.source &&& 0x7FFF)) with
          | none => none
          | some i =>
            if (i.payload.getD 0 0).getLsbD c.offset.toNat then
              some (c, [], some (i.payload.getD (1 + c.offset.toNat) 0).toInt)
            else none
        else
          match lastItem union (c.source + 1) with
          | none => none
          | some i =>
            let d := payloadData i.payload
            if c.offset.toNat + c.length.toNat ≤ d.length then some (c, (d.drop c.offset.toNat).take c.length.toNat, none) else none

/-- The value of a capture field by its FORMAT, and its length in bytes (R358). -/
def FbuSt.field (f : FbuSt) (union : List Item) (no : Half) : Option (Int × Nat) :=
  match f.fieldRaw union no with
  | none => none
  | some (_, _, some v) => some (v, 4)
  | some (c, d, none) =>
    let n := d.length
    match c.format.toNat with
    | 2 => some (leAtS d 0 n, n)
    | 3 => some (leAt d.reverse 0 n, n)
    | 4 => some (leAtS d.reverse 0 n, n)
    | _ => some (leAt d 0 n, n)

/-- The unsigned value of a field and its length, for drive status and feedback (R285). -/
def FbuSt.fieldU (f : FbuSt) (union : List Item) (no : Half) : Option (Nat × Nat) :=
  (f.field union no).map (fun (p : Int × Nat) => ((p.1 % ((2 : Int) ^ (8 * p.2))).toNat, p.2))

/-- R366: settle one frame; requested and its fate count together. -/
def TxLedger.settle (l : TxLedger) (why : Option AbortReason) : TxLedger :=
  let r := { l with requested := l.requested + 1 }
  match why with
  | none => { r with sent := r.sent + 1 }
  | some .gated => { r with gated := r.gated + 1 }
  | some .arbLimit => { r with arbLimit := r.arbLimit + 1 }
  | some .errorPassive => { r with errorPassive := r.errorPassive + 1 }
  | some .busOff => { r with busOff := r.busOff + 1 }
  | some .restart => { r with restart := r.restart + 1 }
  | some .window => { r with window := r.window + 1 }
  | some .listen => { r with listen := r.listen + 1 }

/-- Settle a frame on a channel. -/
def ChanSt.settle (c : ChanSt) (why : Option AbortReason) : ChanSt := { c with ledger := c.ledger.settle why }

/-- Settle every frame of a list alike. -/
def ChanSt.settleAll (c : ChanSt) (l : List TxFrame) (why : Option AbortReason) : ChanSt := l.foldl (fun a _ => a.settle why) c

/-- A frame is requested (R355, R356, R366): aborted at once on a listen-only or bus-off channel, else staged. -/
def ChanSt.request (c : ChanSt) (x : TxFrame) : ChanSt :=
  match c.mode with
  | .listen => c.settle (some .listen)
  | .busOff => c.settle (some .busOff)
  | .off => c
  | .active => { c with staged := c.staged ++ [x] }

/-- Requests on a channel of the block. -/
def FbuSt.request (f : FbuSt) (ch : Nat) (x : TxFrame) : FbuSt :=
  { (f.setChan ch ((f.chan ch).request x)) with requested := f.requested ++ [(ch, x)] }

/-- At an edge every window of the beat before has ended: a frame not sent is aborted WINDOW (R364).  The staged frames enter
their windows (R362). -/
def ChanSt.edge (c : ChanSt) : ChanSt :=
  { (c.settleAll (c.pending ++ c.current.toList) (some .window)) with pending := c.staged, current := none, staged := [], openWindow := none }

/-- Does a frame of this kind go out while the channel is error passive (R356)? -/
def TxKind.passesPassive : TxKind → Bool
  | .message => false
  | .ringFrame => false
  | _ => true

/-- Is the window single shot (Table 13.2)? -/
def singleShot (kind : Nat) : Bool := decide (kind = 1) || decide (kind = 2)

/-- The next frame of a window: lowest identifier first, frames of one identifier in request order (Table 13.2). -/
def nextFrame (l : List TxFrame) (w : Nat) : Option TxFrame :=
  (l.filter (fun x => decide (x.window = w))).foldl (fun (b : Option TxFrame) x => match b with
    | none => some x
    | some y => if (x.frame.ident &&& 0x1FFFFFFF).toNat < (y.frame.ident &&& 0x1FFFFFFF).toNat then some x else some y) none

/-- Remove the first occurrence of a frame. -/
def dropFrame (x : TxFrame) : List TxFrame → List TxFrame
  | [] => []
  | y :: t => if y = x then t else y :: dropFrame x t

/-- R363 to R366, R368: a window opens, or the bus is idle in it: frames that meet an abort condition at their planned start
are aborted, and the next one starts.  A reference frame takes its bus time here. -/
def ChanSt.start (c : ChanSt) (w : Nat) (gate : Bool) (t : Nat) : ChanSt :=
  let mine := c.pending.filter (fun x => decide (x.window = w))
  let rest := c.pending.filter (fun x => decide (x.window ≠ w))
  match c.mode with
  | .listen => { (c.settleAll mine (some .listen)) with pending := rest, openWindow := some w }
  | .busOff => { (c.settleAll mine (some .busOff)) with pending := rest, openWindow := some w }
  | .off => c
  | .active =>
    if !gate then { (c.settleAll mine (some .gated)) with pending := rest, openWindow := some w }
    else
      let bad := if c.passive then mine.filter (fun x => !x.kind.passesPassive) else []
      let c1 := { (c.settleAll bad (some .errorPassive)) with
        pending := if c.passive then c.pending.filter (fun x => !(decide (x.window = w) && !x.kind.passesPassive)) else c.pending,
        openWindow := some w }
      match c1.current with
      | some _ => c1
      | none =>
        match nextFrame c1.pending w with
        | none => c1
        | some x =>
          let bt := busTime t
          let fr := if x.kind = .reference then
              { x.frame with data := x.frame.data.take 1 ++ wordBytes [bt] ++ x.frame.data.drop 5 } else x.frame
          { c1 with current := some { x with frame := fr }, pending := dropFrame x c1.pending }

/-- Error-passive by the error counts (R356). -/
def ChanSt.recount (c : ChanSt) (tec rxc : Nat) : ChanSt :=
  { c with txErr := tec, rxErr := rxc, passive := decide (128 ≤ tec) || decide (128 ≤ rxc) }

/-- R366: the frame in progress has been sent; the transmit error count falls by 1 (R356). -/
def ChanSt.sent (c : ChanSt) : ChanSt :=
  match c.current with
  | none => c
  | some _ => { (c.settle none).recount (c.txErr - 1) c.rxErr with current := none }

/-- R356: a frame received without error: the receive error count falls by 1, and from above 127 to a value between 119 and 127,
which `free` leaves open. -/
def ChanSt.goodFrame (c : ChanSt) (free : Int) : ChanSt :=
  c.recount c.txErr (if c.rxErr ≤ 127 then c.rxErr - 1 else 119 + (free % 9).toNat)

/-- Abort the frame in progress. -/
def ChanSt.abortCurrent (c : ChanSt) (why : AbortReason) : ChanSt :=
  match c.current with
  | none => c
  | some _ => { (c.settle (some why)) with current := none }

/-- R365: the gate closes during a frame. -/
def ChanSt.gateClosed (c : ChanSt) : ChanSt := c.abortCurrent .gated

/-- R364: the frame in progress loses arbitration. -/
def ChanSt.arbLost (c : ChanSt) (kind arbMax : Nat) : ChanSt :=
  match c.current with
  | none => c
  | some x =>
    if singleShot kind ∨ x.arb + 1 > arbMax then c.abortCurrent .arbLimit
    else { c with current := some { x with arb := x.arb + 1 } }

/-- R356: every staged frame of the channel is aborted BUS_OFF. -/
def ChanSt.enterBusOff (c : ChanSt) : ChanSt :=
  let all := c.staged ++ c.pending ++ (match c.current with | none => [] | some x => [x])
  { (c.settleAll all (some .busOff)) with staged := [], pending := [], current := none, mode := .busOff, busOffs := c.busOffs + 1,
                                          busOffsRound := c.busOffsRound + 1 }

/-- R356: an error on the bus with the counts that ISO 11898-1 gives after it. -/
def ChanSt.busError (c : ChanSt) (ch tec rec_ kind : Nat) (autoRecover : Bool) : ChanSt × List Ev × BitVec 8 :=
  let wasPassive := c.passive
  let passive := decide (128 ≤ tec) || decide (128 ≤ rec_)
  let c0 := { c with txErr := tec, rxErr := rec_, passive := passive, rxErrors := c.rxErrors + 1 }
  let c1 := match c0.current with
    | some x =>
      if singleShot kind then c0.abortCurrent .window
      else if passive && !x.kind.passesPassive && decide (tec < 256) then c0.abortCurrent .errorPassive
      else c0
    | none => c0
  let evP : List Ev := if passive && !wasPassive then [(0x0C03, [wordN ch, wordN tec, wordN rec_])] else []
  if 256 ≤ tec ∧ c1.mode = .active then
    let c2 := c1.enterBusOff
    let auto := autoRecover && decide (c2.recoveries < 3)
    ({ c2 with recovering := if auto then some false else none, recoveries := if auto then c2.recoveries + 1 else c2.recoveries },
     evP ++ [(0x0C04, [wordN ch, wordN c2.busOffsRound])], (if passive && !wasPassive then 4 else 0) ||| 2)
  else (c1, evP, if passive && !wasPassive then 4 else 0)

/-- R356: recovery completes. -/
def ChanSt.recovered (c : ChanSt) (ch : Nat) : ChanSt × List Ev :=
  match c.recovering with
  | none => (c, [])
  | some host =>
    if c.mode = .busOff then
      ({ c with mode := .active, recovering := none, txErr := 0, rxErr := 0, passive := false }, [(0x0C05, [wordN ch, if host then 1 else 0])])
    else (c, [])

/-- R99, R354: a frame in listen-only before the first beat. -/
def ChanSt.listenFrame (c : ChanSt) (fr : CanFrame) : ChanSt :=
  let rn := if c.runNom.1 = fr.nom then (fr.nom, c.runNom.2 + 1) else (fr.nom, 1)
  let rd := if fr.brs then (if c.runDat.1 = fr.dat then (fr.dat, c.runDat.2 + 1) else (fr.dat, 1)) else c.runDat
  { c with
    startFrames := c.startFrames + 1, activity := true, runNom := rn, runDat := rd,
    detNom := if c.detNom.isNone && decide (16 ≤ rn.2) then some rn.1 else c.detNom,
    detDat := if c.detDat.isNone && decide (16 ≤ rd.2) then some rd.1 else c.detDat,
    seenNom := setBit c.seenNom fr.nom.toNat, seenDat := if fr.brs then setBit c.seenDat fr.dat.toNat else c.seenDat }

/-- R100 for one rate: the rate taken, or none when the channel stays in listen-only. -/
def rateChoice (cfg : Nat) (deflt : Nat) (det : Option (BitVec 3)) (seen : BitVec 8) (activity : Bool) : Option (BitVec 3) :=
  if cfg = 5 then (match det with | some d => some d | none => some (BitVec.ofNat 3 deflt))
  else
    let r := BitVec.ofNat 3 cfg
    if !activity then some r
    else if seen.getLsbD cfg && (match det with | none => true | some d => decide (d = r)) then some r
    else none

/-- R100: a channel at the first beat. -/
def ChanSt.leaveListen (c : ChanSt) (k : Nat) (f : ChanCfg) : ChanSt × List Ev :=
  let n := rateChoice f.nom.toNat f.nomDefault.toNat c.detNom c.seenNom c.activity
  let d := rateChoice f.data.toNat f.dataDefault.toNat c.detDat c.seenDat (decide (c.seenDat ≠ 0))
  match n, d with
  | some n, some d =>
    ({ c with mode := .active, nom := n, dat := d, mismatch := false },
     [(0x0C01, [wordN k, wordN n.toNat, wordN d.toNat, if f.nom = 5 ∧ c.detNom.isSome then 1 else 0])])
  | _, _ =>
    ({ c with mode := .listen, mismatch := true },
     [(0x0C02, [wordN k, wordN f.nom.toNat, match c.detNom with | none => 0 | some r => wordN r.toNat])])

/-- FORCE_ACTIVE at the edge (R355): the channel goes active at its fixed rates, an AUTO rate at the one detected or its default. -/
def ChanSt.force (c : ChanSt) (k : Nat) (g : ChanCfg) : ChanSt × List Ev :=
  if c.forceNext && decide (c.mode = .listen) then
    let rate := fun (code deflt : Byte) (det : Option (BitVec 3)) => if code = 5 then det.getD (deflt.setWidth 3) else code.setWidth 3
    let n := rate g.nom g.nomDefault c.detNom
    let d := rate g.data g.dataDefault c.detDat
    ({ c with forceNext := false, mode := .active, mismatch := false, nom := n, dat := d }, [(0x0C01, [wordN k, n.setWidth 32, d.setWidth 32, 0])])
  else ({ c with forceNext := false }, [])

/-- R370 at an edge: a MASTER channel whose gate is closed while the partner's claim toggles counts the beats since its last
reference frame, the one that begins included. -/
def ChanSt.countRef (c : ChanSt) (monitor : Bool) : ChanSt :=
  if monitor then { c with refMissing := c.refMissing + 1 } else { c with refMissing := 0, refSilent := false }

/-- The channels at a beat edge; `monitor` says that the gate is closed and the partner's claim toggles. -/
def FbuSt.edge (f : FbuSt) (monitor : Bool) : FbuSt × List Ev :=
  (List.range 16).foldl (fun (a : FbuSt × List Ev) k =>
    match a.1.cfg k with
    | none => a
    | some g =>
      let r := (a.1.chan k).edge.force k g
      (a.1.setChan k (r.1.countRef (monitor && decide (g.role = 1))), a.2 ++ r.2)) (f, [])

/-- The configured nodes of a channel, by address: the start order of R104. -/
def FbuSt.nodesOf (f : FbuSt) (ch : Nat) : List NodeCfg :=
  match f.table with
  | none => []
  | some t => sortBy (fun n => n.address.toNat) (t.nodes.filter (fun n => decide (n.channel.toNat = ch)))

/-- R104, R376: every node of a channel UNSETTLED and queued in the start order. -/
def FbuSt.requeue (f : FbuSt) (ch : Nat) : FbuSt :=
  let ns := (f.nodesOf ch).map (fun n => n.address.toNat)
  let f1 := ns.foldl (fun (a : FbuSt) x => a.setNode (ch * 128 + x) { NodeSt.zero with state := .unsettled }) f
  f1.setChan ch { f1.chan ch with firstPass := ns, lastFirst := none, retry := [], hello := [], roundWait := [] }

/-- The nodes to query in beat n on a channel, at most 8, in the order of R377, with their kinds. -/
def ChanSt.pickQueries (c : ChanSt) (n reply : Nat) : List (Nat × QueryKind) :=
  let retryOk := c.firstPass.isEmpty && (match c.lastFirst with | none => true | some q => decide (q + reply + 1 ≤ n))
  ((c.firstPass.map (fun a => (a, QueryKind.first))) ++ (if retryOk then c.retry.map (fun a => (a, QueryKind.retry)) else []) ++
    (c.hello.map (fun a => (a, QueryKind.hello))) ++ (c.roundWait.map (fun a => (a, QueryKind.round)))).take 8

/-- The data bytes of a QUERY frame (Table 13.4). -/
def queryBytes (g : ChanCfg) (nonce : Byte) (first : Nat) (mask : Byte) (dat : BitVec 3) : List Byte :=
  [0x51, 0x01, nonce, BitVec.ofNat 8 first, mask,
   (if dat = 0 then 0 else BitVec.ofNat 8 (2 ^ (dat.toNat - 1))) ||| (g.syncOffer <<< 4),
   BitVec.ofNat 8 g.freshPropose.toNat, BitVec.ofNat 8 (g.freshPropose.toNat / 256)]

/-- A classical 8-byte frame at the nominal rate. -/
def classical (id : Word) (d : List Byte) : CanFrame := { ident := id &&& 0x3FFFFFFF, remote := false, fd := false, brs := false, data := d, nom := 0, dat := 0 }

/-- One query frame for an aligned block of 8 addresses (R377). -/
def FbuSt.queryBlock (n ch : Nat) (g : ChanCfg) (picks : List (Nat × QueryKind)) (f : FbuSt) (block : Nat) : FbuSt :=
  let mine := picks.filter (fun (p : Nat × QueryKind) => decide (p.1 / 8 = block))
  if mine.isEmpty then f
  else
    let c := f.chan ch
    let nonce : Byte := match c.nonce with | none => BitVec.ofNat 8 n | some x => x + 1
    let mask : Byte := maskOf 8 (mine.map (fun (p : Nat × QueryKind) => p.1 % 8))
    let fr := classical g.amdQueryId (queryBytes g nonce (block * 8) mask c.dat)
    let x : TxFrame := { kind := .amdun, window := g.amdWindow.toNat, frame := fr, arb := 0 }
    let f1 := { (f.setChan ch { (c.request x) with nonce := some nonce }) with requested := f.requested ++ [(ch, x)] }
    mine.foldl (fun (a : FbuSt) (p : Nat × QueryKind) =>
      let k := ch * 128 + p.1
      let v := a.node k
      a.setNode k { v with state := .queried, query := some (n, p.2, nonce), sent := v.sent + 1 }) f1

/-- AMDUN_QUERY_STAGE (R104, R376, R377) on one channel in the publish phase of beat n. -/
def FbuSt.stageQueries (f : FbuSt) (n ch : Nat) : FbuSt :=
  match f.cfg ch with
  | none => f
  | some g =>
    let c0 := f.chan ch
    let due := (f.nodesOf ch).filterMap (fun nd =>
      let a := nd.address.toNat
      if n % 1000 = a ∧ (f.node (ch * 128 + a)).state = .absent ∧ ¬ c0.roundWait.contains a ∧ ¬ c0.hello.contains a then some a else none)
    let c := { c0 with roundWait := c0.roundWait ++ due }
    let picks := c.pickQueries n g.replyBeats.toNat
    let took := fun (k : QueryKind) (a : Nat) => picks.any (fun p => decide (p = (a, k)))
    let c1 := { c with
      firstPass := c.firstPass.filter (fun a => !took .first a), retry := c.retry.filter (fun a => !took .retry a),
      hello := c.hello.filter (fun a => !took .hello a), roundWait := c.roundWait.filter (fun a => !took .round a),
      lastFirst := if picks.any (fun p => decide (p.2 = .first)) then some n else c.lastFirst }
    ((List.range 16).map id).foldl (FbuSt.queryBlock n ch g picks) (f.setChan ch c1)

/-- R376, R377: the reply timeout of a node's query. -/
def FbuSt.replyTimeout (f : FbuSt) (n ch a : Nat) : FbuSt × List Ev :=
  match f.cfg ch with
  | none => (f, [])
  | some g =>
    let k := ch * 128 + a
    let v := f.node k
    match v.state, v.query with
    | .queried, some (q, kind, _) =>
      if q + g.replyBeats.toNat ≤ n then
        match kind with
        | .retry => (f.setNode k { v with state := .absent, query := none }, [(0x0C08, [wordN k, wordN v.sent])])
        | .round => (f.setNode k { v with state := .absent, query := none }, [])
        | _ =>
          let f1 := f.setNode k { v with state := .retry, query := none }
          (f1.setChan ch { f1.chan ch with retry := (f1.chan ch).retry ++ [a] }, [])
      else (f, [])
    | _, _ => (f, [])

/-- The highest rate code in a mask, 0 when it is empty (R375). -/
def bestRate (mask : Nat) : Nat := (List.range 4).foldl (fun b k => if mask.testBit k then k + 1 else b) 0

/-- Is a frame to a node at rate 0 within 8 bytes for every COMMAND entry of it (R375)? -/
def FbuSt.fitsClassical (f : FbuSt) (node : Nat) : Bool :=
  match f.msgs with
  | none => true
  | some m => m.entries.all (fun e => !(e.command && decide (e.node.toNat = node)) || decide (e.len.toNat ≤ 8))

/-- The refusal cause of an answer, 0 when it passes (R375). -/
def FbuSt.answerCause (f : FbuSt) (g : ChanCfg) (nd : NodeCfg) (node : Nat) (dat : BitVec 3) (d : List Byte) : Nat :=
  let b := fun (k : Nat) => (d.getD k 0).toNat
  let rate := b 4 % 16
  let cls := b 4 / 16
  let fresh := b 5 + 256 * b 6
  if b 7 ≠ 1 then 1
  else if !(g.syncOffer.toNat.testBit cls) ∨ cls < nd.syncReq.toNat then 2
  else if fresh < g.freshPropose.toNat ∨ nd.freshMax.toNat < fresh then 3
  else if !(decide (rate = 0) || (decide (rate = dat.toNat) && nd.fdAllowed)) then 4
  else if rate = 0 ∧ ¬ f.fitsClassical node then 4
  else 0

/-- One more Amdun frame without effect. -/
def FbuSt.amdIgnore (f : FbuSt) (ch : Nat) : FbuSt :=
  f.setChan ch { f.chan ch with amdIgnored := (f.chan ch).amdIgnored + 1 }

/-- An ANSWER of the union (R375, R376). -/
def FbuSt.answer (f : FbuSt) (n ch a : Nat) (g : ChanCfg) (nd : NodeCfg) (d : List Byte) : FbuSt × List Ev :=
  let k := ch * 128 + a
  let v := f.node k
  match v.state, v.query with
  | .queried, some (q, _, nonce) =>
    if d.getD 2 0 ≠ nonce ∨ q + g.replyBeats.toNat < n then (f.amdIgnore ch, [])
    else
      let cause := f.answerCause g nd k (f.chan ch).dat d
      let mask := (d.getD 3 0).toNat % 16
      if cause = 0 then
        let rate := (d.getD 4 0).toNat % 16
        let cls := (d.getD 4 0).toNat / 16
        let fresh := (d.getD 5 0).toNat + 256 * (d.getD 6 0).toNat
        (f.setNode k { v with state := .settled, rate := BitVec.ofNat 3 rate, cls := BitVec.ofNat 2 cls, best := BitVec.ofNat 3 (bestRate mask),
                              fresh := BitVec.ofNat 10 fresh, query := none },
         [(0x0C06, [wordN k, wordN rate, wordN cls, wordN fresh])])
      else
        ({ f.setNode k { v with state := .refused, query := none } with flags := f.flags ||| 8 }, [(0x0C07, [wordN k, wordN cause])])
  | _, _ => (f.amdIgnore ch, [])

/-- A HELLO of the union (R376). -/
def FbuSt.helloFrom (f : FbuSt) (ch a : Nat) : FbuSt × List Ev :=
  let k := ch * 128 + a
  let v := f.node k
  let c := f.chan ch
  match v.state with
  | .settled =>
    ((f.setNode k { v with state := .queried, query := none }).setChan ch { c with hello := c.hello ++ [a] }, [(0x0C09, [wordN k])])
  | .absent =>
    if c.hello.contains a then (f.amdIgnore ch, [])
    else (f.setChan ch { c with hello := c.hello ++ [a], roundWait := c.roundWait.filter (fun x => decide (x ≠ a)) }, [])
  | _ => (f.amdIgnore ch, [])

/-- R557: one Amdun item of the union. -/
def FbuSt.amdunItem (n : Nat) (acc : FbuSt × List Ev) (i : Item) : FbuSt × List Ev :=
  let ch := i.channel.toNat % 16
  match acc.1.cfg ch with
  | none => acc
  | some g =>
    let d := payloadData i.payload
    let fd := payloadFd i.payload
    let a := (i.ident &&& 0x1FFFFFFF).toNat - (g.amdAnswerBase &&& 0x1FFFFFFF).toNat
    match (acc.1.nodesOf ch).find? (fun nd => decide (nd.address.toNat = a)) with
    | none => (acc.1.amdIgnore ch, acc.2)
    | some nd =>
      if fd ∨ d.length ≠ 8 then (acc.1.amdIgnore ch, acc.2)
      else if d.getD 0 0 = 0xA1 then let r := acc.1.answer n ch a g nd d; (r.1, acc.2 ++ r.2)
      else if d.getD 0 0 = 0xA3 then let r := acc.1.helloFrom ch a; (r.1, acc.2 ++ r.2)
      else (acc.1.amdIgnore ch, acc.2)

/-- AMDUN_ANSWER and AMDUN_HELLO of a capture union (R375, R376, R557). -/
def FbuSt.amdunUnion (f : FbuSt) (n : Nat) (union : List Item) : FbuSt × List Ev :=
  (union.filter (fun i => decide (i.kind = 5) && i.channel.getLsbD 15)).foldl (FbuSt.amdunItem n) (f, [])

/-- One field of an output frame (R359). -/
def fillField (d : List Byte) (o : OutField) (v : Int) : List Byte :=
  let n := o.length.toNat
  let raw : Nat := if o.high then ((BitVec.ofInt 32 v).toNat / 2 ^ (32 - 8 * n)) else ((satS (8 * n) v) % ((2 : Int) ^ (8 * n))).toNat
  let bs := (List.range n).map (fun k => BitVec.ofNat 8 (raw / 2 ^ (8 * k)))
  let bs := if o.bigEndian then bs.reverse else bs
  d.take o.offset.toNat ++ bs ++ d.drop (o.offset.toNat + n)

/-- FRAME_REQUEST (R362, R375): the frame of a TX entry in beat n. -/
def FbuSt.txFrame (f : FbuSt) (m : MsgTable) (idx n : Nat) (e : MsgEntry) (src : Nat → Nat → Int) : TxFrame :=
  let d0 : List Byte := List.replicate e.len.toNat 0
  let d1 := if e.command then [BitVec.ofNat 8 n, BitVec.ofNat 8 (n / 256)] ++ d0.drop 2 else d0
  let d2 := (m.outFields.filter (fun o => decide (o.entry.toNat = idx))).foldl (fun d o => fillField d o (src o.srcKind.toNat o.srcIndex.toNat)) d1
  let classic := e.command && decide ((f.node e.node.toNat).rate = 0)
  { kind := if e.command then .command else .message, window := e.bufWin.toNat, arb := 0,
    frame := { ident := e.ident &&& 0x3FFFFFFF, remote := false, fd := e.fd && !classic, brs := e.brs && !classic, data := d2, nom := 0, dat := 0 } }

/-- R362: every due TX entry of beat n; a COMMAND entry of an unsettled node is not requested (R105). -/
def FbuSt.requestFrames (f : FbuSt) (n : Nat) (src : Nat → Nat → Int) : FbuSt :=
  match f.msgs with
  | none => f
  | some m =>
    (List.range m.entries.length).foldl (fun (a : FbuSt) idx =>
      match m.entries[idx]? with
      | none => a
      | some e =>
        if e.tx && decide (e.quotaEvery ≠ 0) && decide (n % e.quotaEvery.toNat = e.phase.toNat) &&
            (!e.command || decide ((a.node e.node.toNat).state = .settled)) then
          a.request e.channel.toNat (a.txFrame m idx n e src)
        else a) f

/-- What the life sign and the reference frame carry of the pair (R368, R371). -/
structure PairView where
  role     : Nat
  sideB    : Bool
  holdover : Bool
  dpMode   : Nat
  pairId   : Word
deriving DecidableEq, Repr

/-- R371: the life-sign frame of beat n. -/
def lifeFrame (g : ChanCfg) (n : Nat) (p : PairView) : TxFrame :=
  { kind := .lifeSign, window := g.lifeWindow.toNat, arb := 0,
    frame := classical g.lifeId ([BitVec.ofNat 8 n, BitVec.ofNat 8 (n / 256), BitVec.ofNat 8 p.dpMode,
      BitVec.ofNat 8 (p.role % 8 + (if p.holdover then 8 else 0) + (if p.sideB then 16 else 0))] ++ wordBytes [p.pairId]) }

/-- R368: the reference frame staged for beat `next`; its bus time is filled at its start. -/
def refFrame (g : ChanCfg) (next : Nat) (p : PairView) : TxFrame :=
  { kind := .reference, window := 0, arb := 0,
    frame := classical g.refId ([BitVec.ofNat 8 (next % 64 + (if p.holdover then 128 else 0)), 0, 0, 0, 0,
      BitVec.ofNat 8 ((if p.sideB then 1 else 0) + (if p.role = 0 ∨ p.role = 3 then 0 else 2)), BitVec.ofNat 8 next, BitVec.ofNat 8 (next / 256)]) }

/-- The FBU staging of beat n (R362, R368, R371, R377). -/
def FbuSt.stage (f : FbuSt) (n : Nat) (src : Nat → Nat → Int) (p : PairView) : FbuSt :=
  let f1 := { f with requested := [] }.requestFrames n src
  (List.range 16).foldl (fun (a : FbuSt) ch =>
    match a.cfg ch with
    | none => a
    | some g =>
      let a1 := if n % 10 = 0 then a.request ch (lifeFrame g n p) else a
      let a2 := a1.stageQueries n ch
      if g.role = 1 then a2.request ch (refFrame g (n + 1) p) else a2) f1

/-- R385: an entry for a ring; TRUNC cuts the payload. -/
def ringEntry (c : RingCfg) (r : RingSt) (beat : Word) (kind : Byte) (word : Word) (sideB : Bool) (payload : List Byte) : RingEntry :=
  let room := c.entryBytes.toNat - 16
  { seq := r.seq, beat := beat, epoch := r.epoch, trunc := decide (room < payload.length), sideB := sideB, kind := kind, word := word,
    payload := payload.take room }

/-- R384: a beat-domain producer writes an entry, or discards it FULL.  The Bool says FULL. -/
def RingSt.produce (r : RingSt) (c : RingCfg) (beat : Word) (kind : Byte) (word : Word) (sideB : Bool) (payload : List Byte) : RingSt × Bool :=
  if r.entries.length < c.depth.toNat then
    ({ r with entries := r.entries ++ [ringEntry c r beat kind word sideB payload], seq := r.seq + 1, epoch := false,
              ledger := { r.ledger with produced := r.ledger.produced + 1 } }, false)
  else ({ r with ledger := { r.ledger with produced := r.ledger.produced + 1, full := r.ledger.full + 1 } }, true)

/-- Is an entry stale for the current beat (R386)? -/
def staleEntry (stale : Half) (beat : Word) (e : RingEntry) : Bool :=
  decide (stale ≠ 0) && decide ((stale.toNat : Int) < wrapDiff (2 ^ 32) beat.toNat e.beat.toNat)

/-- R384, R386: the consumer takes up to `k` entries, discarding stale ones. -/
def RingSt.consume (stale : Half) (beat : Word) : Nat → Nat → RingSt → RingSt × List RingEntry
  | 0, _, r => (r, [])
  | fuel + 1, k, r =>
    match r.entries with
    | [] => (r, [])
    | e :: t =>
      if k = 0 then (r, [])
      else if staleEntry stale beat e then
        RingSt.consume stale beat fuel k { r with entries := t, ledger := { r.ledger with stale := r.ledger.stale + 1 } }
      else
        let x := RingSt.consume stale beat fuel (k - 1) { r with entries := t, ledger := { r.ledger with consumed := r.ledger.consumed + 1 } }
        (x.1, e :: x.2)

/-- Take up to `k` entries of a ring. -/
def FbuSt.takeRing (f : FbuSt) (rg k : Nat) (beat : Word) : FbuSt × List RingEntry :=
  match f.ringCfg rg with
  | none => (f, [])
  | some c =>
    let x := RingSt.consume c.stale beat 257 k (f.ring rg)
    (f.setRing rg x.1, x.2)

/-- R386: every entry discarded with reason RESET; SEQ goes on and the next entry carries EPOCH (R46). -/
def RingSt.resetRing (r : RingSt) : RingSt :=
  { r with entries := [], epoch := true, ledger := { r.ledger with reset := r.ledger.reset + BitVec.ofNat 48 r.entries.length } }

/-- R43, R386: a Beat restart discards the entries of a ring with a beat-domain endpoint. -/
def RingSt.discardRestart (r : RingSt) : RingSt :=
  { r with entries := [], ledger := { r.ledger with restart := r.ledger.restart + BitVec.ofNat 48 r.entries.length } }

/-- Has a ring a beat-domain endpoint (Table 13.8)? -/
def beatRing (c : RingCfg) : Bool := !(decide (c.producer = 3) && (decide (c.consumer = 3) || decide (c.consumer = 4)))

/-- A beat-domain producer offers an entry to ring number `rg`; a RECORDER consumer takes it as event 0x0C0F. -/
def FbuSt.offerRing (f : FbuSt) (rg : Nat) (beat : Word) (kind : Byte) (word : Word) (sideB : Bool) (payload : List Byte) : FbuSt × List Ev :=
  match f.ringCfg rg with
  | none => (f, [])
  | some c =>
    let p := (f.ring rg).produce c beat kind word sideB payload
    let f1 := { f.setRing rg p.1 with flags := if p.2 then f.flags ||| 128 else f.flags }
    if c.consumer = 4 then
      let x := f1.takeRing rg 1 beat
      (x.1, x.2.map (fun e => ((0x0C0F : Half), (packBytes ((e.payload ++ List.replicate 16 0).take 16)))))
    else (f1, [])

/-- The frame payload of a ring entry (R385): identifier word with FD and BRS, the u64 end-of-frame time, the data. -/
def ringFramePayload (fr : CanFrame) (t : Nat) : List Byte :=
  wordBytes [fr.ident ||| (if fr.fd then 0x40000000 else 0) ||| (if fr.brs then 0x80000000 else 0), lo32 t, hi32 t] ++ fr.data

/-- R361: a frame arrives for a buffer. -/
def RxBuf.arrive (b : RxBuf) (fr : CanFrame) (t : Nat) : RxBuf × Bool :=
  match b.lock with
  | none => ({ b with frame := some (fr, t) }, false)
  | some _ =>
    match b.shadow with
    | none => ({ b with shadow := some (fr, t) }, false)
    | some _ => ({ b with shadow := some (fr, t), lost := satInc b.lost }, true)

/-- R361: the lock is released; a shadow frame becomes the buffer's frame. -/
def RxBuf.release (b : RxBuf) : RxBuf :=
  { b with lock := none, lost := 0, frame := match b.shadow with | some s => some s | none => b.frame, shadow := none }

/-- The RX entry a frame matches (R360), with its index. -/
def FbuSt.matchRx (f : FbuSt) (ch : Nat) (fr : CanFrame) : Option (Nat × MsgEntry) :=
  match f.msgs with
  | none => none
  | some m =>
    (List.range m.entries.length).findSome? (fun k => match m.entries[k]? with
      | none => none
      | some e =>
        if !e.tx && decide (e.channel.toNat = ch) && decide (e.ident &&& 0x3FFFFFFF = fr.ident &&& 0x3FFFFFFF) then some (k, e) else none)

/-- R557: is a frame on an answer identifier of the channel? -/
def FbuSt.isAmdun (f : FbuSt) (ch : Nat) (g : ChanCfg) (fr : CanFrame) : Bool :=
  let base := (g.amdAnswerBase &&& 0x1FFFFFFF).toNat
  let id := (fr.ident &&& 0x1FFFFFFF).toNat
  !(f.nodesOf ch).isEmpty && decide (fr.ident.getLsbD 29 = g.amdAnswerBase.getLsbD 29) && decide (base ≤ id) && decide (id ≤ base + 127)

/-- R361, R385: what reception does to an entry's ring and buffer. -/
def FbuSt.deliver (f : FbuSt) (ch idx : Nat) (e : MsgEntry) (fr : CanFrame) (t : Nat) (beat : Word) (sideB : Bool) : FbuSt × List Ev :=
  let r := if e.ring = 0 then (f, []) else
    f.offerRing (e.ring.toNat - 1) beat 1 (wordN (idx + ch * 65536)) sideB (ringFramePayload fr t)
  if e.bufWin.getLsbD 15 then
    let k := ch * 512 + e.bufWin.toNat % 512
    let b := (Tab.get RxBuf.zero r.1.buffers k).arrive fr t
    let f1 := { r.1 with buffers := Tab.set RxBuf.zero r.1.buffers k b.1 }
    if b.2 then
      ({ f1.setChan ch { f1.chan ch with lostLocked := (f1.chan ch).lostLocked + 1 } with flags := f1.flags ||| 16 }, r.2)
    else (f1, r.2)
  else r

/-- R367 at the boundary: the inactive copy is checked and made active, or the switch cancelled; event 0x0C0B. -/
def FbuSt.switchWindow (acc : FbuSt × List Ev) (ch : Nat) : FbuSt × List Ev :=
  let f := acc.1
  if f.winPend.getLsbD ch then
    let other := 1 - f.activeCopy ch
    let ws := (List.range 32).map (fun w => f.window ch other w)
    let ok := match f.cfg ch, f.msgs with
      | some g, some m => windowsOk g.role ws (exclusiveNeed m ch (f.chan ch).nom.toNat (f.chan ch).dat.toNat)
      | _, _ => false
    let act := if ok then (if other = 1 then setBit f.winActive ch else clrBit f.winActive ch) else f.winActive
    let f1 := { f with winPend := clrBit f.winPend ch, winActive := act }
    (f1, acc.2 ++ [(0x0C0B, [wordN ch, wordN (f1.activeCopy ch), if ok then 0 else 1])])
  else acc

/-- The windows of an image, with copy 0 active and no switch pending (R389). -/
def FbuSt.imageWindows (f : FbuSt) : FbuSt := { f with windows := [], winActive := 0, winPend := 0 }

/-- Ledgers and occupancies captured at the round boundary (R41); per-round counts begin again. -/
def FbuSt.snapshot (f : FbuSt) : FbuSt :=
  { f with
    channels := Tab.modifyAll ChanSt.zero f.channels (Tab.keys f.channels) (fun _ c => { c with ledgerSnap := c.ledger, recoveries := 0, busOffsRound := 0 }),
    rings := Tab.modifyAll RingSt.zero f.rings (Tab.keys f.rings) (fun _ r => { r with snap := r.ledger, snapOcc := r.entries.length }) }

/-- A step of device time or a wake queues every node again (R376, R509). -/
def FbuSt.renegotiateAll (f : FbuSt) : FbuSt :=
  (List.range 16).foldl (fun (a : FbuSt) ch => if (a.cfg ch).isSome then a.requeue ch else a) f

/-- R43, R64: what a Beat restart discards. -/
def FbuSt.beatRestart (f : FbuSt) : FbuSt :=
  let ch := Tab.modifyAll ChanSt.zero f.channels (Tab.keys f.channels) (fun _ c =>
    { (c.settleAll c.staged (some .restart)) with staged := [] })
  let rg := Tab.modifyAll RingSt.zero f.rings (Tab.keys f.rings) (fun k r =>
    match f.ringCfg k with | none => r | some c => if beatRing c then r.discardRestart else r)
  { f with channels := ch, rings := rg, windows := [], winActive := 0, winPend := 0 }

/-- FBU after a Cold start or Image reset. -/
def FbuSt.imageReset (_ : FbuSt) : FbuSt := FbuSt.reset

/-- R388, R357: the tables of an image are delivered; channels listen. -/
def FbuSt.load (f : FbuSt) (m : Option MsgTable) (t : Option NodeTable) : FbuSt :=
  let f1 := { f with msgs := m, table := t }
  let ser := match t with
    | none => f1.serial
    | some n => Tab.modifyAll SerSt.zero f1.serial (List.range 12) (fun p s =>
        let r := (n.serRate.getD p 0).toNat
        { s with auto := decide (r = 5), rate := if r = 5 then s.rate else BitVec.ofNat 3 r })
  { f1 with serial := ser }

/-- Sentence text up to its checksum, and the two characters after "*" when it carries them (R380). -/
def splitStar : List Byte → List Byte → List Byte × Option (List Byte)
  | acc, [] => (acc.reverse, none)
  | acc, b :: t => if b = 0x2A then (acc.reverse, some (t.take 2)) else splitStar (b :: acc) t

/-- A hexadecimal digit of a sentence. -/
def hexVal (b : Byte) : Nat :=
  let n := b.toNat
  if 48 ≤ n ∧ n ≤ 57 then n - 48 else if 65 ≤ n ∧ n ≤ 70 then n - 55 else if 97 ≤ n ∧ n ≤ 102 then n - 87 else 256

/-- R380: is a sentence's form right, with its checksum where it carries one?  `text` runs from its first character to
before <CR><LF>. -/
def sentenceOk (text : List Byte) : Bool :=
  match text with
  | [] => false
  | b :: t =>
    let s := splitStar [] t
    (decide (b = 0x24) || decide (b = 0x21)) && decide (text.length + 2 ≤ 82) &&
    (match s.2 with
     | none => true
     | some h => decide (h.length = 2) &&
        decide (hexVal (h.getD 0 0) * 16 + hexVal (h.getD 1 0) = (s.1.foldl (fun x y => x ^^^ y) (0 : Byte)).toNat))

/-- Does a sentence carry a checksum? -/
def hasChecksum (text : List Byte) : Bool := (splitStar [] text).2.isSome

/-- Does an address field match an entry's ADDRESS, where "-" matches any character (R380)? -/
def addressMatch (pat text : List Byte) : Bool :=
  (List.range 5).all (fun k => decide (pat.getD k 0 = 0x2D) || decide (pat.getD k 0 = text.getD (k + 1) 0))

/-- The comma-separated fields of a sentence without its checksum. -/
def commaFields (text : List Byte) : List (List Byte) :=
  let t := (splitStar [] text).1
  let r := t.foldl (fun (a : List (List Byte) × List Byte) b => if b = 0x2C then (a.1 ++ [a.2], []) else (a.1, a.2 ++ [b])) ([], [])
  r.1 ++ [r.2]

/-- A decimal field as an integer and its number of fraction digits; none when it is empty or not a number. -/
def decimal (f : List Byte) : Option (Int × Nat) :=
  match f with
  | [] => none
  | c :: t =>
    let neg := decide (c = 0x2D)
    let ds := if neg then t else c :: t
    let r := ds.foldl (fun (a : Option (Nat × Nat × Bool)) b => match a with
      | none => none
      | some (v, d, pt) =>
        let n := b.toNat
        if n = 46 then (if pt then none else some (v, d, true))
        else if 48 ≤ n ∧ n ≤ 57 then some (v * 10 + (n - 48), if pt then d + 1 else d, pt)
        else none) (some (0, 0, false))
    match r with
    | none => none
    | some (v, d, _) => if ds = [] then none else some (if neg then -(v : Int) else v, d)

/-- A decimal field times num/10^k, rounded to an integer (R381 states no rounding). -/
def scaled (f : List Byte) (num : Int) : Option Int := (decimal f).map (fun p => Config.quot 381 (p.1 * num) (10 ^ p.2))

/-- A position sentence's values (Table 13.7, GGA and GNS). -/
def positionValues (fs : List (List Byte)) (alt : Nat) (quality : Option Int) : List (Option Int) :=
  let fd := fun (k : Nat) => fs.getD k []
  let ok := !(fd 2).isEmpty && !(fd 4).isEmpty
  let p := Config.toLocal (fd 2) (fd 4) (decide ((fd 3).getD 0 0 = 0x53)) (decide ((fd 5).getD 0 0 = 0x57))
  [if ok then some p.1 else none, if ok then some p.2 else none, scaled (fd alt) 1000, quality, scaled (fd 7) 1, scaled (fd 8) 100]

/-- R381, Table 13.7: up to 6 decoded values. -/
def decodeSentence (s : SentCfg) (text : List Byte) : List (Option Int) :=
  let fs := commaFields text
  let fd := fun (k : Nat) => fs.getD k []
  let angle := fun (f : List Byte) => (decimal f).map (fun p => Config.quot 381 (p.1 * 2 ^ 32) (360 * 10 ^ p.2))
  match s.decode.toNat with
  | 1 => positionValues fs 9 (scaled (fd 6) 1)
  | 2 => positionValues fs 9 (some (Config.gnsQuality (fd 6)))
  | 3 => [scaled (fd 6) 1000, scaled (fd 7) 1000]
  | 4 => [angle (fd 1)]
  | 5 => [if (fd 2).getD 0 0 = 0x41 then angle (fd 1) else none]
  | 6 =>
    let rel := decide ((fd 2).getD 0 0 = 0x52) && decide ((fd 5).getD 0 0 = 0x41)
    let sp := match (fd 4).getD 0 0 with
      | 0x4D => scaled (fd 3) 100
      | 0x4E => (decimal (fd 3)).map (fun p => Config.quot 381 (p.1 * 185200) (3600 * 10 ^ p.2))
      | 0x4B => (decimal (fd 3)).map (fun p => Config.quot 381 (p.1 * 100000) (3600 * 10 ^ p.2))
      | _ => none
    if rel then [sp, angle (fd 1)] else [none, none]
  | 8 => (List.range 4).map (fun k =>
      let n := (s.fields.getD k 0).toNat
      if n = 0 then none
      else
        let sc := s.scales.getD k 0
        (decimal (fd n)).map (fun p => if 0 ≤ sc then Config.quot 381 (p.1 * 10 ^ sc.toNat) (10 ^ p.2) else Config.quot 381 p.1 (10 ^ (p.2 + sc.natAbs))))
  | _ => []

/-- The payload of a sentence item: validity mask, six values, then the text (R381). -/
def sentencePayload (vals : List (Option Int)) (text : List Byte) : List Word :=
  maskOf 32 ((List.range 6).filter (fun k => (vals.getD k none).isSome)) ::
    (List.range 6).map (fun k => satWord ((vals.getD k none).getD 0)) ++ packBytes text

/-- The first sentence entry in table order that names the port and matches the address (R380), with its index. -/
def FbuSt.matchSentence (f : FbuSt) (port : Nat) (text : List Byte) : Option (Nat × SentCfg) :=
  match f.table with
  | none => none
  | some t =>
    (List.range t.sentences.length).findSome? (fun k => match t.sentences[k]? with
      | none => none
      | some s => if decide (s.port.toNat = port) && addressMatch s.address text then some (k, s) else none)

end Sys2Proof.Machine
end

