-- ==== Sys2Proof/Machine/StSaf.lean ====
section
/-! DEFINITION. State of the SAF block: the safety island, its latch and its reset procedure (16_safety_functions.md). -/

namespace Sys2Proof.Machine

/-- SAF_STATUS.ISLAND. -/
inductive IslandPhase where
  | selftest | run | fault
deriving DecidableEq, Repr

/-- The code of SAF_STATUS.ISLAND. -/
def IslandPhase.code : IslandPhase → Nat
  | .selftest => 0 | .run => 1 | .fault => 2

/-- One MRAM copy of the lock-out latch (R468). -/
structure LockRec where
  pairs  : Byte
  global : Bool
  valid  : Bool
deriving DecidableEq, Repr

/-- A copy with nothing latched. -/
def LockRec.zero : LockRec := { pairs := 0, global := false, valid := true }

/-- An arm of the reset procedure (R469). -/
structure SafArm where
  mask    : BitVec 9
  session : BitVec 8
  /-- Beats left of the 10 s window. -/
  left    : Nat
deriving DecidableEq, Repr

/-- A sampled channel (R459): the filtered level, and how many samples the other level has lasted. -/
structure SiChan where
  level : Bool
  run   : Nat
deriving DecidableEq, Repr

/-- A channel that reads low. -/
def SiChan.zero : SiChan := { level := false, run := 0 }

/-- The SAF block. -/
structure SafSt where
  island    : IslandPhase
  cfg       : Option SafetyCfg
  channels  : Tab SiChan
  siOn      : Byte
  /-- Pairs faulted by discrepancy, and by a missing test pulse. -/
  siDisc    : Byte
  siPulse   : Byte
  /-- Beats each SI pair has disagreed. -/
  disRun    : Tab Nat
  encCount  : Tab Int
  encBad    : Byte
  soOn      : Byte
  soFault   : Byte
  /-- Values of the sources at the last edge at which they delivered one, and the entries whose source delivered one at the last edge. -/
  senseA    : Tab Int
  senseB    : Tab Int
  hasA      : Half
  hasB      : Half
  /-- Entries faulted for want of a valid source, and by plausibility. -/
  senseBad  : Half
  senseLate : Half
  senseRun  : Tab Nat
  violated  : Half
  enabled   : Half
  values    : Tab Int
  fnTrips   : Tab Word
  lockA     : LockRec
  lockB     : LockRec
  arm       : Option SafArm
  sack      : Bool
  /-- Beats of the SACK pulse in progress, whether it rose after the arm, and whether it was counted bad. -/
  sackBeats : Nat
  sackGood  : Bool
  sackCounted : Bool
  /-- The first beat has delivered its inputs; the three conditions of R102 have held. -/
  started   : Bool
  released  : Bool
  /-- The first setting of device time lies behind: another re-phase is a fault (R458). -/
  rephased  : Bool
  /-- A self-test has passed since the last global fault (R470). -/
  testedSince : Bool
  /-- The start or reset that the self-test in progress answers. -/
  testKind  : BitVec 2
  onReq     : Byte
  /-- Events of decisions that take effect at the next edge (R458, R467), and the trip line to PD_OUT, a bit for each pair (R341). -/
  pendEvs   : List (Half × List Word)
  tripLine  : Byte
  lastCode  : Half
  flags     : BitVec 6
  trips     : Word
  resets    : Word
  sackBad   : Word
deriving DecidableEq, Repr

/-- The SAF block after reset (Table 16.6): self-test, every pair off, nothing latched in a new device. -/
def SafSt.reset : SafSt :=
  { island := .selftest, cfg := none, channels := [], siOn := 0, siDisc := 0, siPulse := 0, disRun := [], encCount := [], encBad := 0,
    soOn := 0, soFault := 0, senseA := [], senseB := [], hasA := 0, hasB := 0, senseBad := 0, senseLate := 0, senseRun := [], violated := 0,
    enabled := 0, values := [], fnTrips := [], lockA := LockRec.zero, lockB := LockRec.zero, arm := none, sack := false, sackBeats := 0,
    sackGood := false, sackCounted := false, started := false, released := false, rephased := false, testedSince := true, testKind := 0, onReq := 0, pendEvs := [], tripLine := 0,
    lastCode := 0, flags := 0, trips := 0, resets := 0, sackBad := 0 }

end Sys2Proof.Machine
end

