-- ==== Sys2Proof/Machine/Island.lean ====
section
/-! DEFINITION. The safety island: inputs, sensing, functions, outputs, lock-out and its reset (16_safety_functions.md). -/

namespace Sys2Proof.Machine

open Sys2Proof

/-- An island action: the new state and the events it raises. -/
structure SafR where
  saf   : SafSt
  evs   : List Ev

/-- An action. -/
def SafR.of (s : SafSt) (evs : List Ev) : SafR := { saf := s, evs := evs }

/-- SAF_LAST holds the code of the last event of Table 16.5. -/
def SafSt.last (s : SafSt) (evs : List Ev) : SafSt := match evs.getLast? with | some e => { s with lastCode := e.1 } | none => s

/-- Bit numbers 0 to n − 1 for which `f` holds, as a mask. -/
def maskWhere (w n : Nat) (f : Nat → Bool) : BitVec w := maskOf w ((List.range n).filter f)

/-- The entries in force. -/
def SafSt.si (s : SafSt) (k : Nat) : Option SiCfg := match s.cfg with | none => none | some c => (c.si[k]?).filter (fun e => decide (e.mode ≠ 0))
def SafSt.so (s : SafSt) (k : Nat) : Option SoCfg := match s.cfg with | none => none | some c => (c.so[k]?).filter (fun e => e.used)
def SafSt.sense (s : SafSt) (k : Nat) : Option SenseCfg :=
  match s.cfg with | none => none | some c => (c.sense[k]?).filter (fun e => decide (e.kind ≠ 0))
def SafSt.func (s : SafSt) (k : Nat) : Option FuncCfg :=
  match s.cfg with | none => none | some c => (c.funcs[k]?).filter (fun e => decide (e.kind ≠ 0))

/-- The pairs the configuration uses. -/
def SafSt.used (s : SafSt) : Byte := maskWhere 8 8 (fun k => (s.so k).isSome)

/-- The latch: the pairs latched in either copy; a copy that fails its CRC counts as fully latched (R468). -/
def LockRec.pairsOf (l : LockRec) : Byte := if l.valid then l.pairs else 0xFF
def LockRec.globalOf (l : LockRec) : Bool := !l.valid || l.global
def SafSt.latched (s : SafSt) : Byte := s.lockA.pairsOf ||| s.lockB.pairsOf
def SafSt.globalLock (s : SafSt) : Bool := s.lockA.globalOf || s.lockB.globalOf

/-- Pairs kept off by the latch: a GLOBAL_LOCKOUT locks every pair (R467). -/
def SafSt.locked (s : SafSt) : Byte := if s.globalLock then 0xFF else s.latched

/-- Write both copies of the latch (R468). -/
def SafSt.writeLock (s : SafSt) (pairs : Byte) (global : Bool) : SafSt :=
  { s with lockA := { pairs := pairs, global := global, valid := true }, lockB := { pairs := pairs, global := global, valid := true } }

/-- LOCKOUT or GLOBAL_LOCKOUT is non-zero (R473). -/
def SafSt.anyLock (s : SafSt) : Bool := s.globalLock || decide (s.latched ≠ 0)

/-- The pairs a function names. -/
def SafSt.fnPairs (s : SafSt) (f : FuncCfg → Bool) : Byte :=
  (List.range 16).foldl (fun m k => match s.func k with | some c => if f c then m ||| c.soMask else m | none => m) 0

/-- The pairs that violated functions name. -/
def SafSt.violPairs (s : SafSt) : Byte :=
  (List.range 16).foldl (fun m k => match s.func k with | some c => if maskBit s.violated k then m ||| c.soMask else m | none => m) 0

/-- SO pairs whose SI_STOP names SI pair k. -/
def SafSt.stopPairs (s : SafSt) (k : Nat) : Byte := maskWhere 8 8 (fun j => match s.so j with | some c => maskBit c.siStop k | none => false)

/-- The pairs a local fault affects (Table 16.2): kind 1 SI, 2 encoder, 3 sensing, 4 SO. -/
def SafSt.faultPairs (s : SafSt) (kind k : Nat) : Byte :=
  match kind with
  | 1 => s.stopPairs k ||| s.fnPairs (fun c => decide (c.enableSi.toNat = k))
  | 2 => s.fnPairs (fun c => [c.sense, c.sense2].any (fun e => match s.sense e.toNat with
      | some x => decide (x.srcA.toNat = 0x80 + k) || decide (x.srcB.toNat = 0x80 + k) | none => false))
  | 3 => s.fnPairs (fun c => decide (c.sense.toNat = k) || decide (c.sense2.toNat = k))
  | _ => maskWhere 8 8 (fun j => decide (j = k))

/-- R461, R102: the pairs that are on. -/
def SafSt.wanted (s : SafSt) : Byte :=
  if s.island = .run ∧ s.released then
    maskWhere 8 8 (fun k => match s.so k with
      | none => false
      | some c => !maskBit s.locked k && !maskBit s.violPairs k && decide (c.siStop &&& ~~~ s.siOn = 0) && (decide (c.reqKind = 0) || maskBit s.onReq k))
  else 0

/-- Switch the outputs as R461 says. -/
def SafSt.switch (s : SafSt) : SafSt :=
  let rel := s.released || (decide (s.island = .run) && s.started && !s.anyLock)
  let s := { s with released := rel }
  { s with soOn := s.wanted }

/-- R467, steps 1 and 2: latch pairs for a violation or demand (flag TRIP) or a fault (flag FAULT).  The rest follows under R458. -/
def SafSt.latch (s : SafSt) (pairs : Byte) (flag : Nat) (ev : Byte → Ev) : SafR :=
  let pairs := pairs &&& s.used
  let s := if pairs = 0 then s else s.writeLock (s.latched ||| pairs) s.globalLock
  .of { s with flags := if pairs = 0 then s.flags else setBit s.flags flag,
               trips := if flag = 0 ∧ pairs ≠ 0 then s.trips + 1 else s.trips, pendEvs := s.pendEvs ++ [ev pairs] } []

/-- R467, steps 3 to 5, and R458: the decisions made so far take effect: the pairs switch, the trip line follows the latches of the
used pairs once the device has started (R341), and the events are recorded. -/
def SafSt.flush (s : SafSt) : SafR :=
  let q := (({ s with pendEvs := [] } : SafSt).last s.pendEvs).switch
  .of { q with tripLine := if q.started then q.locked &&& q.used else 0 } s.pendEvs

/-- One action after another. -/
def SafR.then_ (r : SafR) (f : SafSt → SafR) : SafR :=
  let q := f r.saf
  { saf := q.saf, evs := r.evs ++ q.evs }

/-- The same action for each number of a list. -/
def SafR.each (r : SafR) (l : List Nat) (f : Nat → SafSt → SafR) : SafR := l.foldl (fun a k => a.then_ (f k)) r

-- ## Safe inputs

/-- R459: a run of samples through the filter of a channel. -/
def SiChan.take (filterMs : Nat) (c : SiChan) (level : Bool) (n : Nat) : SiChan :=
  if n = 0 then c
  else if level = c.level then { c with run := 0 }
  else if filterMs * 100 ≤ c.run + n then { level := level, run := 0 }
  else { c with run := c.run + n }

/-- Latch the channels' samples of the beat. -/
def SafSt.sampleAll (s : SafSt) (samples : List (List (Bool × Nat))) : SafSt :=
  let one (t : Tab SiChan) (ch : Nat) : Tab SiChan :=
    let filt := match s.si (ch / 2) with | some e => e.filterMs.toNat | none => 0
    Tab.set SiChan.zero t ch ((samples.getD ch []).foldl (fun c (x : Bool × Nat) => SiChan.take filt c x.1 x.2) (Tab.get SiChan.zero t ch))
  { s with channels := (List.range 16).foldl one s.channels }

/-- Does channel A or B of a pair show ON (R459)? -/
def SafSt.shows (s : SafSt) (k : Nat) (e : SiCfg) : Bool × Bool :=
  let a := (Tab.get SiChan.zero s.channels (2 * k)).level
  let b := (Tab.get SiChan.zero s.channels (2 * k + 1)).level
  (a, if e.mode = 2 then !b else b)

/-- R459, R461: the pair state, the discrepancy timer and the demand. -/
def SafSt.evalSi (k : Nat) (s : SafSt) : SafR :=
  match s.si k with
  | none => .of s []
  | some e =>
    if e.mode = 3 then .of s []
    else
      let sh := s.shows k e
      let was := maskBit s.siOn k
      let on := sh.1 && sh.2
      let dis := decide (sh.1 ≠ sh.2)
      let s := { s with siOn := if on then setBit s.siOn k else clrBit s.siOn k,
                        disRun := Tab.set 0 s.disRun k (if dis then Tab.get 0 s.disRun k + 1 else 0),
                        siDisc := if dis then s.siDisc else clrBit s.siDisc k,
                        siPulse := if on then s.siPulse else clrBit s.siPulse k }
      if was ∧ !on ∧ s.stopPairs k &&& s.used ≠ 0 then s.latch (s.stopPairs k) 0 (fun p => (0x0F02, [wordN k, wordN p.toNat]))
      else .of s []

/-- R459: discrepancy beyond DISC_MS. -/
def SafSt.discrepancy (s : SafSt) (k : Nat) : SafR :=
  match s.si k with
  | none => .of s []
  | some e =>
    if e.mode ≠ 3 ∧ e.discMs.toNat < Tab.get 0 s.disRun k ∧ !maskBit s.siDisc k then
      ({ s with siDisc := setBit s.siDisc k }).latch (s.faultPairs 1 k) 1 (fun p => (0x0F03, [1, wordN k, wordN p.toNat]))
    else .of s []

/-- R460: the encoder counts of the beat, and a transition in which both phases change. -/
def SafSt.evalEnc (enc : List (Int × Bool)) (k : Nat) (s : SafSt) : SafR :=
  match s.si k with
  | none => .of s []
  | some e =>
    if e.mode ≠ 3 then .of s []
    else
      let x := enc.getD k (0, false)
      let was := maskBit s.encBad k
      let s := { s with encCount := Tab.set 0 s.encCount k x.1, encBad := if x.2 then setBit s.encBad k else clrBit s.encBad k }
      if x.2 ∧ !was then s.latch (s.faultPairs 2 k) 1 (fun p => (0x0F03, [2, wordN k, wordN p.toNat])) else .of s []

-- ## Sensing

/-- R463: one source converted; none where it delivers no value. -/
def SafSt.source (s : SafSt) (cnd : Nat → Option Int) (src : Byte) (gain : Int) (shift : Nat) (ofs : Int) : Option Int :=
  let raw : Option Int := if src.toNat < 0x80 then cnd src.toNat else some (Tab.get 0 s.encCount (src.toNat - 0x80))
  raw.map (fun r => rndShift (r * gain) shift + ofs)

/-- An encoder source that is faulted (R463). -/
def SafSt.encFault (s : SafSt) (src : Byte) : Bool := decide (0x80 ≤ src.toNat) && maskBit s.encBad (src.toNat - 0x80)

/-- Do two values differ by more than PLAUS_TOL?  Angles by signed difference, the tolerance in 2⁻¹⁶ turn (R463). -/
def implausible (e : SenseCfg) (a b : Int) : Bool :=
  if e.kind = 3 then
    decide (e.plausTol.toNat * 65536 < (wrapDiff 4294967296 (a % 4294967296).toNat (b % 4294967296).toNat).natAbs)
  else decide (e.plausTol.toNat < (a - b).natAbs)

/-- R463: evaluate a sensing entry. -/
def SafSt.evalSense (cnd : Nat → Option Int) (k : Nat) (s : SafSt) : SafR :=
  match s.sense k with
  | none => .of s []
  | some e =>
    let a := s.source cnd e.srcA e.gainA e.shiftA e.offsetA
    let b := s.source cnd e.srcB e.gainB e.shiftB e.offsetB
    let bad := a.isNone || b.isNone || s.encFault e.srcA || s.encFault e.srcB
    let dis : Bool := match a, b with | some x, some y => implausible e x y | _, _ => false
    let was := maskBit s.senseBad k
    let s := { s with senseA := Tab.set 0 s.senseA k (a.getD (Tab.get 0 s.senseA k)), senseB := Tab.set 0 s.senseB k (b.getD (Tab.get 0 s.senseB k)),
                      hasA := if a.isSome then setBit s.hasA k else clrBit s.hasA k, hasB := if b.isSome then setBit s.hasB k else clrBit s.hasB k,
                      senseBad := if bad then setBit s.senseBad k else clrBit s.senseBad k,
                      senseRun := Tab.set 0 s.senseRun k (if dis then Tab.get 0 s.senseRun k + 1 else 0),
                      senseLate := if dis then s.senseLate else clrBit s.senseLate k }
    if bad ∧ !was then s.latch (s.faultPairs 3 k) 1 (fun p => (0x0F03, [3, wordN k, wordN p.toNat])) else .of s []

/-- R463: beyond PLAUS_TOL for longer than PLAUS_MS. -/
def SafSt.plausibility (s : SafSt) (k : Nat) : SafR :=
  match s.sense k with
  | none => .of s []
  | some e =>
    if e.plausMs.toNat < Tab.get 0 s.senseRun k ∧ !maskBit s.senseLate k then
      ({ s with senseLate := setBit s.senseLate k }).latch (s.faultPairs 3 k) 1 (fun p => (0x0F03, [3, wordN k, wordN p.toNat]))
    else .of s []

-- ## Functions

/-- The look-ahead of SLP (Table 16.1). -/
def lookAhead (p v : Int) (ms : Nat) : Int := p + rndDiv (rndShift (v * ms) 4) 625

/-- SDI_SECTOR: the angle lies in a sector, START clockwise through START + WIDTH. -/
def inSdiSector (f : FuncCfg) (angle : Int) : Bool :=
  (f.sectors.take f.dirOrN.toNat).any (fun (x : Half × Half) =>
    decide ((((angle % 4294967296).toNat + 4294967296 - x.1.toNat * 65536) % 4294967296) ≤ x.2.toNat * 65536))

/-- The values each function compares, every combination of sources that deliver one (R463). -/
def SafSt.values_ (s : SafSt) (f : FuncCfg) : List (Int × Int) :=
  let v (k : Nat) : List Int :=
    (if maskBit s.hasA k then [Tab.get 0 s.senseA k] else []) ++ (if maskBit s.hasB k then [Tab.get 0 s.senseB k] else [])
  let first := v f.sense.toNat
  if f.sense2 = 0xFF then first.map (fun a => (a, 0)) else first.flatMap (fun a => (v f.sense2.toNat).map (fun b => (a, b)))

/-- The value a combination is compared at, and whether it breaks the limit (Table 16.1). -/
def fnBreaks (f : FuncCfg) (x : Int × Int) : Int × Bool :=
  match f.kind.toNat with
  | 1 => (x.1, decide (f.limitHi < x.1.natAbs))
  | 2 => let p := if f.sense2 = 0xFF then x.1 else lookAhead x.1 x.2 f.lookahead.toNat
         (p, decide (p < f.limitLo) || decide (f.limitHi < p))
  | 3 => (x.1, if f.dirOrN = 1 then decide (x.1 < -f.limitLo) else decide (f.limitLo < x.1))
  | _ => (x.1, inSdiSector f x.1 && decide (f.limitLo < x.2.natAbs))

/-- A value in 32 bits: an angle is a binary angle; a value of another kind outside the format is not stated (R463, R478). -/
def valueWord (angle : Bool) (v : Int) : Word :=
  if angle ∨ (-2147483648 ≤ v ∧ v ≤ 2147483647) then wordI v
  else BitVec.ofInt 32 (Config.freeInt 463 (if 0 ≤ v then 2 * v.natAbs else 2 * v.natAbs + 1))

/-- A function is enabled while its ENABLE_SI pair is ON; a faulted enable input is taken as ON (R464, R466). -/
def SafSt.fnEnabled (s : SafSt) (f : FuncCfg) : Bool :=
  decide (f.enableSi = 0xFF) || maskBit (s.siOn ||| s.siDisc ||| s.siPulse) f.enableSi.toNat

/-- R464: evaluate one function. -/
def SafSt.evalFn (k : Nat) (s : SafSt) : SafR :=
  match s.func k with
  | none => .of s []
  | some f =>
    let rs := (s.values_ f).map (fnBreaks f)
    let hit := s.fnEnabled f && rs.any (fun (x : Int × Bool) => x.2)
    let val := match rs.find? (fun (x : Int × Bool) => x.2) with | some x => x.1 | none => (rs.headD (Tab.get 0 s.values k, false)).1
    let was := maskBit s.violated k
    let s := { s with enabled := if s.fnEnabled f then setBit s.enabled k else clrBit s.enabled k,
                      violated := if hit then setBit s.violated k else clrBit s.violated k, values := Tab.set 0 s.values k val }
    if hit ∧ !was then
      ({ s with fnTrips := Tab.set 0 s.fnTrips k (Tab.get 0 s.fnTrips k + 1) }).latch f.soMask 0
        (fun p => (0x0F01, [wordN k, wordN p.toNat, valueWord (decide (f.kind = 4)) val]))
    else if hit then .of (if f.soMask &&& s.used &&& ~~~ s.latched = 0 then s else s.writeLock (s.latched ||| (f.soMask &&& s.used)) s.globalLock) []
    else .of s []

-- ## The reset procedure

/-- A cause still present for a pair: a violation, a demand or a fault, a global one among them (R469). -/
def SafSt.causeOf (s : SafSt) (k : Nat) : Bool :=
  decide (s.island ≠ .run) || maskBit s.violPairs k ||
  (match s.so k with | some c => decide (c.siStop &&& ~~~ s.siOn ≠ 0) | none => false) ||
  (List.range 8).any (fun i => (maskBit (s.siDisc ||| s.siPulse) i && maskBit (s.faultPairs 1 i) k) ||
    (maskBit s.encBad i && maskBit (s.faultPairs 2 i) k) || (maskBit s.soFault i && decide (i = k))) ||
  (List.range 16).any (fun i => maskBit (s.senseBad ||| s.senseLate) i && maskBit (s.faultPairs 3 i) k)

/-- The latches a valid pulse clears: masked, latched and free of cause; GLOBAL_LOCKOUT only after a self-test (R469, R470). -/
def SafSt.clearable (s : SafSt) (mask : BitVec 9) : BitVec 9 :=
  maskWhere 9 9 (fun k => maskBit mask k &&
    (if k = 8 then s.globalLock && s.testedSince && decide (s.island = .run) else maskBit s.latched k && !s.causeOf k))

/-- The masked latches that stay. -/
def SafSt.refusedMask (s : SafSt) (mask : BitVec 9) : BitVec 9 :=
  maskWhere 9 9 (fun k => maskBit mask k && (if k = 8 then s.globalLock else maskBit s.latched k) && !maskBit (s.clearable mask) k)

/-- The falling edge of a valid pulse while an arm is valid (R469). -/
def SafSt.pulse (s : SafSt) (a : SafArm) : SafR :=
  let c := s.clearable a.mask
  let r := s.refusedMask a.mask
  let pairs := BitVec.setWidth 8 c
  let s1 := if c = 0 then s else s.writeLock (s.latched &&& ~~~ pairs) (s.globalLock && !maskBit c 8)
  let s2 := { s1 with arm := none, resets := if c = 0 then s.resets else s.resets + 1,
                      flags := (if c = 0 then id else fun f => setBit f 2) ((if r = 0 then id else fun f => setBit f 3) s.flags) }
  let evs : List Ev := (if c = 0 then [] else [(0x0F05, [wordN c.toNat, wordN a.session.toNat])]) ++
    (if r = 0 then [] else [(0x0F06, [1, wordN r.toNat])])
  .of (s2.last evs) evs

/-- Count a bad SACK pulse once (R470). -/
def SafSt.badPulse (s : SafSt) : SafSt :=
  if s.sackCounted then s else { s with sackBad := s.sackBad + 1, flags := setBit s.flags 4, sackCounted := true }

/-- SACK at a beat edge (R469, R470); `active` is its filtered level against the configured polarity. -/
def SafSt.sackEdge (active : Bool) (s : SafSt) : SafR :=
  if active then
    let n := if s.sack then s.sackBeats + 1 else 0
    let s := if s.sack then { s with sackBeats := n }
             else { s with sack := true, sackBeats := 0, sackGood := s.arm.isSome, sackCounted := false }
    .of (if 2001 ≤ n then s.badPulse else s) []
  else if s.sack then
    let w := s.sackBeats + 1
    let s' := { s with sack := false, sackBeats := 0 }
    if w < 100 ∨ 2000 < w then .of s'.badPulse []
    else match s.arm with
      | some a => if s.sackGood ∧ 0 < a.left then s'.pulse a else .of s' []
      | none => .of s' []
  else .of s []

/-- R469: an arm; a second one replaces the mask and restarts the window. -/
def SafSt.armReset (s : SafSt) (mask : BitVec 9) (session : BitVec 8) : SafSt :=
  { s with arm := some { mask := mask, session := session, left := 10001 }, sackGood := false }

/-- R470: the window ran out. -/
def SafSt.armExpired (s : SafSt) : SafR :=
  match s.arm with
  | some a => if a.left ≤ 1 then
      let e : List Ev := [(0x0F06, [2, wordN a.mask.toNat])]
      .of ({ s with arm := none, flags := setBit s.flags 3 }.last e) e
    else .of s []
  | none => .of s []

-- ## Cycle, faults, self-test

/-- A global fault (R467): every pair latched, GLOBAL_LOCKOUT, FAULT until a self-test passes.  It waits for no edge, which may never
come. -/
def SafSt.globalFault (s : SafSt) (diagnostic : Nat) (detail : Word) : SafR :=
  { s.writeLock 0xFF true with
    island := .fault, testedSince := false, flags := setBit s.flags 1
    pendEvs := s.pendEvs ++ [(0x0F04, [wordN diagnostic, detail])] }.flush

/-- R462: readback disagrees with the driven state. -/
def SafSt.readback (s : SafSt) (k : Nat) : SafR :=
  match s.so k with
  | none => .of s []
  | some _ =>
    if maskBit s.soFault k then .of s []
    else ({ s with soFault := setBit s.soFault k }).latch (s.faultPairs 4 k) 1 (fun p => (0x0F03, [4, wordN k, wordN p.toNat]))

/-- R462: the readback of a pair; a fault ends once the readback agrees with the state driven. -/
def SafSt.evalReadback (bad : Byte) (k : Nat) (s : SafSt) : SafR :=
  if maskBit bad k then s.readback k else .of { s with soFault := clrBit s.soFault k } []

/-- The island's evaluation on the values latched at a beat edge. -/
def SafSt.evaluate (s : SafSt) (c : SafetyCfg) (inp : IslandIn) (cnd : Nat → Option Int) : SafR :=
  let r := (SafR.of (s.sampleAll inp.samples) []).each (List.range 8) SafSt.evalSi
  let r := r.each (List.range 8) (SafSt.evalEnc inp.encoder)
  let r := r.each (List.range 16) (SafSt.evalSense cnd)
  let r := r.each (List.range 16) SafSt.evalFn
  let r := r.each (List.range 8) (SafSt.evalReadback inp.readBad)
  r.then_ (SafSt.sackEdge (decide (inp.sack ≠ c.sackLow)))

/-- A beat edge (R458): the decisions made since the last edge take effect, then the island evaluates; `cnd` gives the value of a
conditioning channel, none where it delivers none; `beatRuns`: the edge begins a beat that delivers its inputs (R102).  SACK is read in
every phase. -/
def SafSt.cycle (s : SafSt) (inp : IslandIn) (cnd : Nat → Option Int) (beatRuns : Bool) : SafR :=
  let late := s.rephased || s.started
  let r := { s with started := s.started || beatRuns, rephased := late || inp.rephase,
                    arm := s.arm.map (fun (a : SafArm) => { a with left := a.left - 1 }) }.flush
  if inp.rephase ∧ late then r.then_ (fun q => q.globalFault 5 (BitVec.ofInt 32 (Config.freeInt 458 0)))
  else match s.cfg with
    | none => r
    | some c =>
      if s.island = .run then r.then_ (fun q => q.evaluate c inp cnd)
      else r.then_ (SafSt.sackEdge (decide (inp.sack ≠ c.sackLow)))

/-- R459, R462: the test pulse of a pair that is on; `seen` are the SI pairs that saw it. -/
def SafSt.testPulse (s : SafSt) (k : Nat) (seen : Byte) : SafR :=
  if maskBit s.soOn k then
    (SafR.of s []).each (List.range 8) (fun i q => match q.si i with
      | some e =>
        if e.tpSo.toNat = k ∧ e.mode ≠ 3 ∧ maskBit q.siOn i then
          if maskBit seen i then .of { q with siPulse := clrBit q.siPulse i } []
          else if maskBit q.siPulse i then .of q []
          else ({ q with siPulse := setBit q.siPulse i }).latch (q.faultPairs 1 i) 1 (fun p => (0x0F03, [1, wordN i, wordN p.toNat]))
        else .of q []
      | none => .of q [])
  else .of s []

/-- The runtime state cleared when a self-test or a new configuration begins: every pair off without latching. -/
def SafSt.clearRun (s : SafSt) : SafSt :=
  { s with channels := [], siOn := 0, siDisc := 0, siPulse := 0, disRun := [], encCount := [], encBad := 0, soOn := 0, soFault := 0,
           senseA := [], senseB := [], hasA := 0, hasB := 0, senseBad := 0, senseLate := 0, senseRun := [], violated := 0, enabled := 0,
           values := [] }

/-- R471: start the full self-test of a Cold start or Cocoon wake; a latch copy that fails its CRC is fully latched (R468). -/
def SafSt.start (s : SafSt) (kind : BitVec 2) (badCopies : BitVec 2) : SafR :=
  let a := { s.lockA with valid := s.lockA.valid && !maskBit badCopies 0 }
  let b := { s.lockB with valid := s.lockB.valid && !maskBit badCopies 1 }
  let e : List Ev := if badCopies = 0 then [] else [(0x0F09, [wordN badCopies.toNat])]
  let q := { SafSt.reset with lockA := a, lockB := b, testKind := kind, testedSince := false }
  .of (q.last e) e

/-- R471: the self-test passes; the island enters RUN, and no pair counts as having been ON. -/
def SafSt.tested (s : SafSt) (us : Word) : SafR :=
  if s.island = .run then .of s []
  else
    let e : List Ev := [(0x0F07, [wordN s.testKind.toNat, us])]
    .of ({ s.clearRun with island := .run, testedSince := true }.last e).switch e

/-- The configuration delivered at a start (R97). -/
def SafSt.load (s : SafSt) (c : SafetyCfg) : SafSt := { s with cfg := some c }

/-- R472: at an Image reset a SAFETY_CFG whose CRC differs is loaded after every pair is off. -/
def SafSt.compare (s : SafSt) (c : SafetyCfg) : SafR :=
  match s.cfg with
  | none => .of (s.load c) []
  | some old =>
    if old.crc = c.crc then .of s []
    else
      let e : List Ev := [(0x0F08, [old.configId, c.configId])]
      let s1 := { s.clearRun with cfg := some c, island := .selftest, testKind := 2, flags := setBit s.flags 5, fnTrips := [] }
      let kept := if s.latched &&& ~~~ s1.used = 0 then s1 else s1.writeLock (s.latched &&& s1.used) s.globalLock
      let f := kept.flush
      .of (f.saf.last e) (f.evs ++ e)

/-- R470, R478: resets cancel the arm; a Cold or Image reset clears the flags and counts. -/
def SafSt.onReset (s : SafSt) (counts : Bool) : SafSt :=
  let s := { s with arm := none }
  if counts then { s with flags := 0, trips := 0, resets := 0, sackBad := 0, fnTrips := [] } else s

/-- R471: entry to Chrysalis or Cocoon switches every pair off without latching and cancels the arm; what was decided before takes
effect. -/
def SafSt.lowPower (s : SafSt) : SafR := { s with arm := none, started := false, released := false, siOn := 0, violated := 0 }.flush

-- ## Views

/-- The 32-byte status of R473 as eight words. -/
def SafSt.status (s : SafSt) : List Word :=
  [fld (s.island.code + 1) 0 ||| fld s.siOn.toNat 8 ||| fld (s.siDisc ||| s.siPulse ||| s.encBad).toNat 16 ||| fld s.soOn.toNat 24,
   fld s.soFault.toNat 0 ||| fld s.latched.toNat 8 ||| bit s.globalLock 16 ||| bit s.arm.isSome 17 ||| bit s.sack 18,
   fld s.violated.toNat 0 ||| fld s.enabled.toNat 16, fld (s.senseBad ||| s.senseLate).toNat 0, wordN s.lastCode.toNat, s.trips, 0, 0]

/-- T_filter of a source in ns (R465); `gd` is CND_C_GD_TOTAL of a conditioning channel. -/
def filterNs (gd : Nat → Nat) (src : Byte) : Nat := if src.toNat < 0x80 then gd src.toNat else 1000000

/-- T_filter of an entry and T_resp of a function, µs; the rounding of ns to µs is not stated. -/
def SafSt.filterUs (s : SafSt) (gd : Nat → Nat) (k : Nat) : Nat :=
  match s.sense k with
  | some e =>
    let ns := max (filterNs gd e.srcA) (filterNs gd e.srcB)
    if ns % 1000 = 0 then ns / 1000 else (Config.quot 465 ns 1000).toNat
  | none => 0
def SafSt.respUs (s : SafSt) (gd : Nat → Nat) (k : Nat) : Nat :=
  match s.func k with
  | some f => max (s.filterUs gd f.sense.toNat) (if f.sense2 = 0xFF then 0 else s.filterUs gd f.sense2.toNat) + 2100
  | none => 0

/-- A SAF register (Table 16.6); `fn` and `se` are the CHSEL selections. -/
def SafSt.read (s : SafSt) (gd : Nat → Nat) (fn se ofs : Nat) : Option Word :=
  match ofs with
  | 0x0000 => some 0x0F010000
  | 0x0004 => some (fld s.island.code 0 ||| bit s.globalLock 2 ||| bit s.arm.isSome 3 ||| bit s.sack 4 ||| fld s.soOn.toNat 8 ||| fld s.latched.toNat 16)
  | 0x0020 => some (match s.cfg with | some c => c.configId | none => 0)
  | 0x0024 => some (fld s.siOn.toNat 0 ||| fld (s.siDisc ||| s.siPulse ||| s.encBad).toNat 8)
  | 0x0028 => some (fld (maskWhere 8 8 (fun k => match s.so k with | some c => decide (c.reqKind = 0) || maskBit s.onReq k | none => false)).toNat 0 |||
      fld s.soFault.toNat 8)
  | 0x002C => some (match s.arm with | some a => fld a.mask.toNat 0 ||| fld (min 10 ((a.left + 999) / 1000)) 16 | none => 0)
  | 0x0030 => some (wordN s.lastCode.toNat)
  | 0x0034 => some (wordN s.flags.toNat)
  | 0x0038 => some s.trips
  | 0x003C => some s.resets
  | 0x0040 => some s.sackBad
  | 0x8000 => some (match s.func fn with
    | some f => fld f.kind.toNat 0 ||| fld f.sense.toNat 4 ||| fld f.sense2.toNat 8 ||| fld f.soMask.toNat 16 ||| fld f.enableSi.toNat 24
    | none => 0xFF00FF00)
  | 0x8004 => some (match s.func fn with
    | some f => fld (if maskBit s.violated fn then 3 else if maskBit s.enabled fn then 2 else 1) 0 |||
        bit (maskBit (s.senseBad ||| s.senseLate) f.sense.toNat || (decide (f.sense2 ≠ 0xFF) && maskBit (s.senseBad ||| s.senseLate) f.sense2.toNat)) 2
    | none => 0)
  | 0x8008 => some (match s.func fn with | some f => valueWord (decide (f.kind = 4)) (Tab.get 0 s.values fn) | none => 0)
  | 0x800C => some (wordN (s.respUs gd fn))
  | 0x8010 => some (Tab.get 0 s.fnTrips fn)
  | 0x9000 => some (match s.sense se with | some e => fld e.kind.toNat 0 ||| fld e.srcA.toNat 8 ||| fld e.srcB.toNat 16 | none => 0)
  | 0x9004 => some (match s.sense se with | some e => valueWord (decide (e.kind = 3)) (Tab.get 0 s.senseA se) | none => 0)
  | 0x9008 => some (match s.sense se with | some e => valueWord (decide (e.kind = 3)) (Tab.get 0 s.senseB se) | none => 0)
  | 0x900C => some (bit (maskBit (s.senseBad ||| s.senseLate) se) 0 ||| bit (decide (Tab.get 0 s.senseRun se ≠ 0)) 1)
  | 0x9010 => some (wordN (s.filterUs gd se))
  | _ => none

/-- W1C of SAF_FLAGS. -/
def SafSt.clearFlags (s : SafSt) (w : Word) : SafSt := { s with flags := s.flags &&& ~~~ (BitVec.ofNat 6 w.toNat) }

-- ## SAFETY_CFG rules (R476)

/-- Is SI pair k a used pair that is no encoder? -/
def safPlainSi (c : SafetyCfg) (k : Nat) : Bool := match c.si[k]? with | some e => decide (e.mode = 1) || decide (e.mode = 2) | none => false
/-- Is SI pair k an encoder? -/
def safEncoderSi (c : SafetyCfg) (k : Nat) : Bool := match c.si[k]? with | some e => decide (e.mode = 3) | none => false
/-- Is SO pair k used? -/
def safUsedSo (c : SafetyCfg) (k : Nat) : Bool := match c.so[k]? with | some e => e.used | none => false
/-- The KIND of a sensing entry; 0 unused. -/
def safSenseKind (c : SafetyCfg) (k : Nat) : Nat := match c.sense[k]? with | some e => e.kind.toNat | none => 0
/-- Bits of a pair mask all satisfy `f`. -/
def maskAll (m : Byte) (f : Nat → Bool) : Bool := (List.range 8).all (fun k => !maskBit m k || f k)

/-- The rules of an SI entry. -/
def safSiOk (c : SafetyCfg) (e : SiCfg) : Bool :=
  decide (e.mode = 0) ||
  (decide (e.mode.toNat ≤ 3) && decide (e.filterMs.toNat ≤ 50) && (decide (e.mode ≠ 3) || (decide (e.filterMs = 0) && decide (e.discMs = 0))) &&
    (decide (e.mode = 3) || (decide (10 ≤ e.discMs.toNat) && decide (e.discMs.toNat ≤ 500))) &&
    (decide (e.tpSo = 0xFF) || (decide (e.tpSo.toNat ≤ 7) && safUsedSo c e.tpSo.toNat)))

/-- The rules of an SO entry; `qids` tells whether bank 0's range table holds a QID (R461). -/
def safSoOk (c : SafetyCfg) (qids : Half → Bool) (e : SoCfg) : Bool :=
  !e.used || (decide (e.reqKind.toNat ≤ 1) && (if e.reqKind = 1 then decide (e.reqQid ≠ 0) && qids e.reqQid else decide (e.reqQid = 0)) &&
    decide (e.reqBit.toNat ≤ 31) && maskAll e.siStop (safPlainSi c) && decide (10 ≤ e.tpW.toNat) && decide (e.tpW.toNat ≤ 100))

/-- A source that the KIND may name (R460, R463). -/
def safSrcOk (c : SafetyCfg) (kind : Byte) (src : Byte) : Bool :=
  decide (src.toNat < 0x40) || (decide (kind = 2) && decide (0x80 ≤ src.toNat) && decide (src.toNat ≤ 0x87) && safEncoderSi c (src.toNat - 0x80))

/-- The rules of a sensing entry. -/
def safSenseOk (c : SafetyCfg) (e : SenseCfg) : Bool :=
  decide (e.kind = 0) ||
  (decide (e.kind.toNat ≤ 3) && safSrcOk c e.kind e.srcA && safSrcOk c e.kind e.srcB && decide (e.srcA ≠ e.srcB) && decide (e.shiftA ≤ 31) &&
    decide (e.shiftB ≤ 31) && decide (e.gainA ≠ 0) && decide (e.gainB ≠ 0) && decide (e.plausTol ≠ 0) && decide (1 ≤ e.plausMs.toNat) &&
    decide (e.plausMs.toNat ≤ 100))

/-- The rules of a function. -/
def safFuncOk (c : SafetyCfg) (f : FuncCfg) : Bool :=
  decide (f.kind = 0) ||
  (decide (f.kind.toNat ≤ 4) &&
    decide (safSenseKind c f.sense.toNat = (match f.kind.toNat with | 1 => 2 | 2 => 1 | 3 => 2 | _ => 3)) &&
    (match f.kind.toNat with
     | 2 => decide (f.sense2 = 0xFF) || decide (safSenseKind c f.sense2.toNat = 2)
     | 4 => decide (safSenseKind c f.sense2.toNat = 2)
     | _ => decide (f.sense2 = 0xFF)) &&
    (decide (f.enableSi = 0xFF) || safPlainSi c f.enableSi.toNat) && decide (f.soMask ≠ 0) && maskAll f.soMask (safUsedSo c) &&
    (match f.kind.toNat with
     | 3 => decide (f.dirOrN = 1) || decide (f.dirOrN = 2)
     | 4 => decide (1 ≤ f.dirOrN.toNat) && decide (f.dirOrN.toNat ≤ 4)
     | _ => decide (f.dirOrN = 0)) &&
    (if f.kind = 2 then decide (f.lookahead.toNat ≤ 2000) else decide (f.lookahead = 0)) &&
    (if f.kind = 2 then decide (f.limitLo < f.limitHi) else true) && (if f.kind = 1 then decide (0 < f.limitHi) else true) &&
    (if f.kind = 4 then (f.sectors.take f.dirOrN.toNat).all (fun (x : Half × Half) => decide (x.2 ≠ 0)) else true))

/-- R476: the loader's rules. -/
def safOk (c : SafetyCfg) (qids : Half → Bool) : Bool :=
  decide (c.magic = 0x46415358) && decide (c.format = 1) && decide (c.configId ≠ 0) && !c.dirty && c.si.all (safSiOk c) && c.so.all (safSoOk c qids) &&
    c.sense.all (safSenseOk c) && c.funcs.all (safFuncOk c)

end Sys2Proof.Machine
end

