-- ==== Sys2Proof/Machine/StPai.lean ====
section
/-! DEFINITION. State of the PAI block: claim, link, roles, join, exchange (15_swallowtail_pairing.md). -/

namespace Sys2Proof.Machine

/-- Roles (Table 15.5). -/
inductive Role where
  | solo | joining | standby | active | shadow
deriving DecidableEq, Repr

/-- The code of a role. -/
def Role.code : Role → Nat
  | .solo => 0 | .joining => 1 | .standby => 2 | .active => 3 | .shadow => 4

/-- Join phases (PAI_STATUS.JOIN). -/
inductive JoinPhase where
  | none | requested | copy | adopting | checking | proving
deriving DecidableEq, Repr

/-- The code of a join phase. -/
def JoinPhase.code : JoinPhase → Nat
  | .none => 0 | .requested => 1 | .copy => 2 | .adopting => 3 | .checking => 4 | .proving => 5

/-- PAI_STATUS.LINK. -/
inductive LinkPhase where
  | down | training | up
deriving DecidableEq, Repr

/-- The code of a link phase. -/
def LinkPhase.code : LinkPhase → Nat
  | .down => 0 | .training => 1 | .up => 2

/-- What a frame carries (Tables 15.2 and 15.6a). -/
inductive LinkBody where
  | idle
  | capture (items : List Item)
  | token (t : Token)
  | commit (beat : Long) (included : Bool) (check : Word)
  | signature (beat sig : Long)
  | joinReq (r : JoinReq)
  | joinAccept (kind : Byte) (pairId : Long)
  | joinRefuse (cause : Byte)
  | adopt (beat : Long)
  | adoptEnd (beat : Long) (pages : Word)
  | demote (cause : Byte)
  | health (word : Word)
  | fast (offset : Word) (data : List Byte)
  | page (number : Word) (data : List Byte)
deriving DecidableEq, Repr

/-- A frame sent and not yet acknowledged (R429). -/
structure TxRec where
  seq   : Half
  beat  : Word
  retry : Bool
  body  : LinkBody
deriving DecidableEq, Repr

/-- The causes a claim waits for at the next edge (R426, R438). -/
inductive ClaimNext where
  | no | takeover | solo
deriving DecidableEq, Repr

/-- The PAI block. -/
structure PaiSt where
  sideB      : Bool
  toggling   : Bool
  /-- The claim was re-armed in this beat's publish phase (R423). -/
  armed      : Bool
  /-- Device time of the last edge on PAIR_ACT_IN. -/
  lastIn     : Option Nat
  /-- The first beat edge after a start, restart or wake has still to come (R426). -/
  first      : Bool
  claimNext  : ClaimNext
  /-- Enters Joining at the next edge (R441). -/
  toJoining  : Bool
  link       : LinkPhase
  lanes      : BitVec 3
  txSeq      : Half
  rxSeq      : Half
  unacked    : List TxRec
  passes     : Nat
  /-- Bytes sent in this beat, framing included (R443). -/
  sentBytes  : Nat
  /-- Partner items received, with the low word of the beat each names. -/
  rxItems    : List (Word × Item)
  /-- The partner's TOKEN of this beat, its arrival, and the last TOKEN of any beat. -/
  tokenNow   : Option (Token × Nat)
  tokenLast  : Option (Token × Nat)
  commitNow  : Option (Bool × Word)
  /-- Own decision on INCLUDE in this beat. -/
  included   : Bool
  /-- The TIME entry of this side as its TOKEN of the beat carried it (Table 15.3). -/
  timeSent   : List Word
  sigOwn     : Option Long
  sigPartner : Option Long
  sigMiss    : Nat
  theta      : Int
  delay      : Int
  role       : Role
  join       : JoinPhase
  /-- Join kind (Table 15.9); 0 none. -/
  kind       : Nat
  adopted    : Bool
  proved     : Bool
  /-- PAIR_ID in force; none: DEVICE_ID (R452). -/
  pairId     : Option Long
  partnerId  : Long
  /-- DEVICE_ID of the twin that joined under this PAIR_ID, as the pair section shows it (Table 15.14); 0 none. -/
  joinedId   : Long
  /-- The partner's role as this device holds it; none: absent. -/
  partner    : Option Role
  partnerAdopted : Bool
  partnerKind : Nat
  /-- The partner's role as its last TOKEN gave it; 7 none (Table 15.16). -/
  partnerRole : BitVec 3
  partnerHealth : Word
  health     : Word
  slice      : BitVec 16
  logicBad   : Bool
  memoryBad  : Bool
  thermal    : Bool
  /-- Corrected SRAM errors counted in this round. -/
  corrected  : Nat
  scrubAt    : Nat
  takeoverReq : Bool
  takeoverRec : Bool
  exclRun    : Word
  exclNow    : Bool
  /-- Active: content of each page as last sent and whether it was acknowledged; pages left in the pass. -/
  pages      : Tab (List Byte × Bool)
  passLeft   : List Nat
  pass       : Half
  adoptBeat  : Option Long
  /-- Joiner: pages and fast state held, the end of the final transfer. -/
  heldPages  : Tab (List Byte)
  heldFast   : Tab (List Byte)
  adoptEnd   : Option (Long × Word)
  /-- Joiner: the page received last, by which it counts the passes. -/
  lastPage   : Option Nat
  misaligned : Nat
  /-- Beats left in the checking round, or in the round of the proving period; none before it begins. -/
  checkLeft  : Option Nat
  proveDone  : Nat
  /-- The proving round in progress has been clean so far. -/
  roundClean : Bool
  takeoversPair : Word
  /-- Beat of a pending SWAP (R449). -/
  swap       : Option Long
  joinBlock  : Bool
  lastRefuse : Nat
  flags      : Byte
  takeovers  : Word
  excluded   : Word
  mismatches : Word
  sigMissing : Word
  linkCrc    : Word
  linkRetry  : Word
  joins      : Word
  shadowDiff : Word
  lastLoss   : BitVec 2
  lossBeat   : Word
deriving DecidableEq, Repr

/-- The PAI block after reset (Table 15.16): Solo, no claim, link down. -/
def PaiSt.reset : PaiSt :=
  { sideB := false, toggling := false, armed := false, lastIn := none, first := true, claimNext := .no, toJoining := false,
    link := .down, lanes := 0, txSeq := 0, rxSeq := 0, unacked := [], passes := 0, sentBytes := 0, rxItems := [], tokenNow := none,
    tokenLast := none, commitNow := none, included := false, timeSent := [], sigOwn := none, sigPartner := none, sigMiss := 0, theta := 0, delay := 0,
    role := .solo, join := .none, kind := 0, adopted := false, proved := false, pairId := none, partnerId := 0, joinedId := 0, partner := none,
    partnerAdopted := false, partnerKind := 0, partnerRole := 7, partnerHealth := 0, health := 0, slice := 0, logicBad := false,
    memoryBad := false, thermal := false, corrected := 0, scrubAt := 0, takeoverReq := false, takeoverRec := false, exclRun := 0,
    exclNow := false, pages := [], passLeft := [], pass := 0, adoptBeat := none, heldPages := [], heldFast := [], adoptEnd := none,
    lastPage := none, misaligned := 0, checkLeft := none, proveDone := 0, roundClean := true, takeoversPair := 0, swap := none,
    joinBlock := false, lastRefuse := 0, flags := 0, takeovers := 0, excluded := 0, mismatches := 0, sigMissing := 0,
    linkCrc := 0, linkRetry := 0, joins := 0, shadowDiff := 0, lastLoss := 0, lossBeat := 0 }

end Sys2Proof.Machine
end

