-- ==== Sys2Proof/Machine/Pairing.lean ====
section
/-! DEFINITION. Swallowtail pairing: claims, link frames, roles, exchange, divergence, joins, swaps (15_swallowtail_pairing.md). -/

namespace Sys2Proof.Machine

open Sys2Proof

/-- A pairing action: the new state and the events it raises, in order. -/
abbrev PaiR := PaiSt × List Ev

/-- R422: the partner counts as claimed while PAIR_ACT_IN has shown an edge within the last 8 µs. -/
def PaiSt.claimed (p : PaiSt) (now : Nat) : Bool :=
  match p.lastIn with | none => false | some t => decide (now ≤ t + 8000)

/-- R424: the exclusive gate. -/
def PaiSt.gate (p : PaiSt) (now : Nat) : Bool := p.toggling && !p.claimed now

/-- Set a sticky flag of PAI_FLAGS. -/
def PaiSt.flag (p : PaiSt) (k : Nat) : PaiSt := { p with flags := setBit p.flags k }

/-- Standby, adopted Joining or Shadow: the roles that use the Active's COMMIT (Table 15.5). -/
def PaiSt.follows (p : PaiSt) : Bool :=
  decide (p.role = .standby) || decide (p.role = .shadow) || (decide (p.role = .joining) && p.adopted)

/-- The partner is Standby, Shadow or adopted Joining, as the Active holds it (R432). -/
def PaiSt.inPair (p : PaiSt) : Bool :=
  match p.partner with
  | some .standby => true
  | some .shadow => true
  | some .joining => p.partnerAdopted
  | _ => false

/-- PAIR_ID in force (R452). -/
def PaiSt.pairIdOf (p : PaiSt) (deviceId : Long) : Long := p.pairId.getD deviceId

-- ## Frames

/-- Payload bytes of a frame (Table 15.2). -/
def LinkBody.size : LinkBody → Nat
  | .idle => 0
  | .capture items => items.foldl (fun n i => n + 12 + i.bytes) 0
  | .token _ => 104
  | .commit _ _ _ => 16
  | .signature _ _ => 16
  | .joinReq _ => 39
  | .joinAccept _ _ => 10
  | .joinRefuse _ => 2
  | .adopt _ => 9
  | .adoptEnd _ _ => 13
  | .demote _ => 2
  | .health _ => 5
  | .fast _ d => 4 + d.length
  | .page _ d => 8 + d.length

/-- R428: bytes a frame takes on the link, with header, CRC and padding to whole stripes of `lanes` blocks. -/
def frameBytes (lanes : Nat) (b : LinkBody) : Nat :=
  let stripe := 16 * (if lanes = 0 then 4 else lanes)
  ((16 + b.size + 4 + stripe - 1) / stripe) * stripe

/-- R427: bytes the link carries in a beat. -/
def linkCapacity (lanes : Nat) : Nat := if lanes = 4 then 3938461 else 1969230

/-- Send a frame: SEQ one more than the last, held until acknowledged (R429).  Nothing is sent while the link is not UP. -/
def PaiSt.send (p : PaiSt) (beat : Nat) (b : LinkBody) : PaiSt :=
  if p.link = .up then
    { p with txSeq := p.txSeq + 1, sentBytes := p.sentBytes + frameBytes p.lanes.toNat b,
             unacked := p.unacked ++ [{ seq := p.txSeq + 1, beat := wordN beat, retry := false, body := b }] }
  else p

/-- Pages whose frames an acknowledgement covers become clean (R443). -/
def ackPages (acked : List TxRec) (pages : Tab (List Byte × Bool)) : Tab (List Byte × Bool) :=
  acked.foldl (fun t r => match r.body with
    | .page k d => let e := Tab.get ([], false) t k.toNat
                   if e.1 = d then Tab.set ([], false) t k.toNat (d, true) else t
    | _ => t) pages

/-- The acknowledgement of a received frame (R429): every frame up to ACK is done with. -/
def PaiSt.acknowledge (p : PaiSt) (ack : Half) : PaiSt :=
  let done := p.unacked.filter (fun r => !wrapLater 65536 r.seq.toNat ack.toNat)
  { p with unacked := p.unacked.filter (fun r => wrapLater 65536 r.seq.toNat ack.toNat),
           passes := if done = [] then p.passes else 0, pages := ackPages done p.pages }

/-- R429: is a frame accepted?  Frames count only while the link is UP and in SEQ order; a wrong SYNC or CRC is counted. -/
def PaiSt.accept (p : PaiSt) (h : LinkHdr) : Bool × PaiSt :=
  if p.link ≠ .up then (false, p)
  else if !h.ok then (false, { p with linkCrc := p.linkCrc + 1 })
  else if h.seq ≠ p.rxSeq + 1 then (false, p)
  else (true, { p with rxSeq := h.seq }.acknowledge h.ack)

/-- R429: with no frame sent since the acknowledgement fell due, IDLE carries it. -/
def PaiSt.idleIfDue (p : PaiSt) (before : Half) (beat : Nat) : PaiSt :=
  if p.txSeq = before then p.send beat .idle else p

/-- A list of items in frames of at most 4,128 payload bytes, none of them split (R430): `cur`, newest first, is the frame being
filled and `n` its payload. -/
def splitItems : List Item → List Item → Nat → List (List Item)
  | [], cur, _ => if cur.isEmpty then [] else [cur.reverse]
  | i :: l, cur, n =>
    if cur.isEmpty || decide (n + 12 + i.bytes ≤ 4128) then splitItems l (i :: cur) (n + 12 + i.bytes)
    else cur.reverse :: splitItems l [i] (12 + i.bytes)

/-- Send items in CAPTURE frames. -/
def PaiSt.sendItems (p : PaiSt) (beat : Nat) (items : List Item) : PaiSt :=
  (splitItems items [] 0).foldl (fun (q : PaiSt) l => q.send beat (.capture l)) p

-- ## Link state

/-- The link trains when PD_LNK powers up (R427): event 0x0E0C. -/
def PaiSt.startTraining (p : PaiSt) : PaiR :=
  if p.link = .down then ({ p with link := .training }, [(0x0E0C, [1, 0])]) else (p, [])

/-- The link has four or two lanes after training (R427). -/
def PaiSt.trained (p : PaiSt) (lanes : BitVec 3) : PaiR :=
  if p.link = .up ∨ ¬ (lanes = 2 ∨ lanes = 4) then (p, [])
  else ({ p with link := .up, lanes := lanes, txSeq := 0, rxSeq := 0, unacked := [], passes := 0 }, [(0x0E0C, [2, wordN lanes.toNat])])

/-- Every page becomes dirty and the copy starts again (R441, R446); what was proved of the partner goes. -/
def PaiSt.allDirty (p : PaiSt) : PaiSt :=
  { p with pages := [], passLeft := [], pass := 0, adoptBeat := none, proved := false, proveDone := 0, checkLeft := none }

/-- Event 0x0E0B for a swap that a takeover or a demotion cancels (R449): old role, new role, 2. -/
def PaiSt.swapCancelled (p : PaiSt) (new : Role) : List Ev := if p.swap.isSome then [(0x0E0B, [wordN p.role.code, wordN new.code, 2])] else []

/-- A join at this device ends or resumes: event 0x0E0A with its cause (R446). -/
def PaiSt.abandon (p : PaiSt) (cause : Nat) (resumeCopy : Bool) : PaiR :=
  ({ p.flag 5 with role := .joining, adopted := false, proved := false, join := if resumeCopy then .copy else .none,
                   kind := if resumeCopy then p.kind else 0, heldPages := [], heldFast := [], adoptEnd := none, adoptBeat := none,
                   checkLeft := none, sigMiss := 0, misaligned := 0, proveDone := 0, swap := none, pass := 0, lastPage := none },
   (0x0E0A, [wordN cause]) :: p.swapCancelled .joining)

/-- The Active is left without a partner: PAIR_STATE SOLO (Table 15.6). -/
def PaiSt.dropPartner (p : PaiSt) : PaiSt :=
  { p.allDirty with partner := none, partnerAdopted := false, partnerId := 0, joinedId := 0, partnerKind := 0, join := .none,
                    exclRun := 0, exclNow := false, swap := none }

/-- The Active's partner is lost (Table 15.6): event 0x0E03 and PAIR_STATE SOLO.  R438 numbers no cause for it; 2 is recorded, since
its TOKEN does not arrive any more (log 75). -/
def PaiSt.activeLoses (p : PaiSt) (beat : Nat) : PaiR :=
  ({ p.dropPartner with lastLoss := 2, lossBeat := wordN beat }, (0x0E03, [2, wordN beat]) :: p.swapCancelled .active)

/-- R427, R429: the link is down; the frames not delivered are lost and the link retrains.  A join starts again from JOIN_REQ
(R446), and an Active has lost its partner. -/
def PaiSt.linkLost (p : PaiSt) (beat : Nat) : PaiR :=
  if p.link = .up then
    let q := { p.flag 6 with link := .training, lanes := 0, unacked := [], passes := 0, rxItems := [], roundClean := false }
    let ev : List Ev := [(0x0E0C, [0, 0]), (0x0E0C, [1, 0])]
    match p.role with
    | .joining => if p.join = .none then (q, ev) else
        let r := q.abandon 4 false
        (r.1, ev ++ r.2)
    | .active => if p.partner.isNone then (q, ev) else
        let r := q.activeLoses beat
        (r.1, ev ++ r.2)
    | _ => (q, ev)
  else (p, [])

/-- R429: 4 µs without acknowledgement: the unacknowledged frames go again with RETRY set; the third pass without progress
takes the link down. -/
def PaiSt.goBack (p : PaiSt) (beat : Nat) : PaiR :=
  if p.link ≠ .up ∨ p.unacked = [] then (p, [])
  else
    let again := (p.unacked.map (fun r => frameBytes p.lanes.toNat r.body)).sum
    let q := { p with linkRetry := p.linkRetry + 1, passes := p.passes + 1, sentBytes := p.sentBytes + again
                      unacked := p.unacked.map (fun r => { r with retry := true }) }
    if 3 ≤ q.passes then q.linkLost beat else (q, [])

-- ## Claims

/-- Begin toggling at an edge (R426); event 0x0E01. -/
def PaiSt.claim (p : PaiSt) (cause : Nat) : PaiR :=
  ({ p with toggling := true, armed := false }, [(0x0E01, [wordN p.role.code, wordN cause])])

/-- Enter Joining with nothing adopted. -/
def PaiSt.enterJoining (p : PaiSt) : PaiSt :=
  { p with role := .joining, join := .none, kind := 0, adopted := false, proved := false, heldPages := [], heldFast := [],
           adoptEnd := none, adoptBeat := none, checkLeft := none, partnerAdopted := false, takeoverReq := false, swap := none,
           claimNext := .no, sigMiss := 0, misaligned := 0 }

/-- Withdrawal of a claim (R425, R437): event 0x0E02; a Solo or Active device enters Joining (Table 15.6). -/
def PaiSt.withdraw (p : PaiSt) (cause : Nat) : PaiR :=
  let q := { p.flag 1 with toggling := false }
  (if q.role = .solo ∨ q.role = .active then q.enterJoining else q, [(0x0E02, [wordN cause])])

/-- The toggling stops without a withdrawal of role (R423). -/
def PaiSt.stopToggle (p : PaiSt) : PaiSt := { p with toggling := false }

/-- The partner's PAIR_SIDE equals the device's own, as its last TOKEN shows. -/
def PaiSt.sameSide (p : PaiSt) : Bool :=
  match p.tokenLast with | some (t, _) => decide (t.sideB = p.sideB) | none => false

/-- Event 0x0E07 for a refusal: recorded only when the cause differs from the previous refusal's (R442). -/
def PaiSt.refuse (p : PaiSt) (cause : Nat) (id : Long) : PaiR :=
  ({ p.flag 4 with lastRefuse := cause }, if p.lastRefuse = cause then [] else [(0x0E07, [wordN cause, lowOf id])])

/-- R425: an edge on PAIR_ACT_IN.  A claiming side B withdraws unless both devices are strapped to one side. -/
def PaiSt.actEdge (p : PaiSt) (now : Nat) : PaiR :=
  let q := { p with lastIn := some now }
  if !p.toggling then (q, [])
  else if p.sameSide then q.refuse 1 p.partnerId
  else if p.sideB then q.withdraw 1
  else (q, [])

/-- The device that declares its partner lost (R438, R439): Active for the rest of the beat, claims at the next edge. -/
def PaiSt.takeOver (p : PaiSt) (cause beat : Nat) : PaiR :=
  ({ p.flag 0 with role := .active, join := .none, kind := 0, adopted := false, proved := false, partner := none,
                   partnerAdopted := false, claimNext := .takeover, takeovers := p.takeovers + 1,
                   takeoversPair := p.takeoversPair + 1, takeoverRec := true, lastLoss := BitVec.ofNat 2 cause,
                   lossBeat := wordN beat, checkLeft := none, swap := none, exclRun := 0, exclNow := false, pages := [],
                   passLeft := [], pass := 0, partnerId := 0, joinedId := 0 },
   (0x0E03, [wordN cause, wordN beat]) :: p.swapCancelled .active)

/-- R438 and Table 15.6: a partner lost for a reason of R438. -/
def PaiSt.lost (p : PaiSt) (cause beat : Nat) : PaiR :=
  if p.follows then p.takeOver cause beat
  else if p.role = .joining then
    ({ p with claimNext := .solo, join := .none, lastLoss := BitVec.ofNat 2 cause, lossBeat := wordN beat },
     [(0x0E03, [wordN cause, wordN beat])])
  else (p, [])

/-- A lost partner sends a Joining device that has adopted nothing to DP mode STANDBY (Table 15.6). -/
def PaiSt.lossStandby (p : PaiSt) : Bool := decide (p.role = .joining) && !p.adopted

/-- The first edge after a start, a Beat restart or a Chrysalis wake (R103, R426). -/
def PaiSt.firstEdge (p : PaiSt) (now : Nat) : PaiR :=
  let q := { p with first := false, role := .solo, claimNext := .no, toJoining := false }
  if q.claimed now then (q.enterJoining, [(0x0E02, [5])]) else q.claim 1

/-- A pending claim at an edge (R426, R438). -/
def PaiSt.pendingClaim (p : PaiSt) (now : Nat) : PaiR :=
  match p.claimNext with
  | .no => (p, [])
  | .takeover =>
    let q := { p with claimNext := .no }
    if q.claimed now && q.sideB then (q.enterJoining, [(0x0E02, [5])]) else q.claim 2
  | .solo =>
    let q := { p with claimNext := .no, role := .solo, pairId := none, partner := none, partnerId := 0, joinedId := 0, takeoversPair := 0 }
    if q.claimed now then (q.enterJoining, [(0x0E02, [5])]) else q.claim 1

/-- R449: the swap edge S is the edge of beat c + 2. -/
def PaiSt.swapEdge (p : PaiSt) (n now : Nat) (sameImage : Bool) : PaiR :=
  match p.swap with
  | none => (p, [])
  | some c =>
    if n < c.toNat + 2 then (p, [])
    else if p.role = .active then
      if p.claimed now then
        let r : Role := if sameImage then .standby else .shadow
        ({ p with swap := none, role := r, proved := !sameImage, partner := some .active, partnerAdopted := false, toggling := false,
                  join := .none, kind := if sameImage then 1 else 2 },
         [(0x0E0B, [3, wordN r.code, 0])])
      else
        let q := { p with swap := none }.claim 3
        (q.1, (0x0E0B, [3, 3, 2]) :: q.2)
    else if p.follows then
      ({ p with swap := none, role := .active, partner := some (if sameImage then .standby else .shadow), partnerAdopted := true,
                adopted := false, proved := !sameImage, join := .none },
       [(0x0E0B, [wordN p.role.code, 3, 0])])
    else ({ p with swap := none }, [])

/-- A proving period of R447 runs: at the Shadow, and at the Active of a Shadow, which holds PROVED with it (Table 15.14). -/
def PaiSt.proves (p : PaiSt) : Bool :=
  !p.proved && (decide (p.role = .shadow) || (decide (p.role = .active) && decide (p.partner = some .shadow)))

/-- Rounds in Shadow (R447): a whole clean round counts, and one that is not clean starts the count again. -/
def PaiSt.proveRound (p : PaiSt) : PaiSt :=
  if p.proves then { p with proveDone := if p.roundClean then p.proveDone + 1 else 0, roundClean := true, checkLeft := some 1000 } else p

/-- PROVE_ROUNDS clean rounds set PROVED (R447); the Shadow records the event. -/
def PaiSt.proveEnd (p : PaiSt) (cfg : PairTable) : PaiR :=
  if p.proves ∧ cfg.proveRounds ≠ 0 ∧ cfg.proveRounds.toNat ≤ p.proveDone then
    ({ p with proved := true, join := .none, checkLeft := none }, if p.role = .shadow then [(0x0E0E, [wordN p.proveDone])] else [])
  else (p, [])

/-- R445: the checking round of a NORMAL join, counted edge by edge; a round that matched throughout makes the joiner Standby
at the round boundary, and the Active takes its partner as Standby. -/
def PaiSt.checkEdge (p : PaiSt) (n : Nat) (boundary : Bool) : PaiR :=
  if p.join = .proving then ({ p with checkLeft := p.checkLeft.map (fun k => k - 1) }, [])
  else if p.join ≠ .checking then (p, [])
  else match p.checkLeft with
    | none => if boundary then ({ p with checkLeft := some 1000 }, []) else (p, [])
    | some k =>
      if boundary ∨ k ≤ 1 then
        if p.role = .joining then
          ({ p with role := .standby, adopted := false, join := .none, checkLeft := none }, [(0x0E09, [wordN n])])
        else ({ p with partner := some .standby, partnerAdopted := true, join := .none, checkLeft := none }, [])
      else ({ p with checkLeft := some (k - 1) }, [])

/-- The work of the PAI block at a beat edge before the exchange (R423, R426, R438, R441, R445, R447, R449). -/
def PaiSt.edge (p : PaiSt) (cfg : PairTable) (n now : Nat) (boundary sameImage : Bool) : PaiR :=
  let p := { p with armed := false, sentBytes := 0, tokenNow := none, commitNow := none, included := false, sigOwn := none,
                    sigPartner := none, exclNow := false, rxItems := p.rxItems.filter (fun (x : Word × Item) => decide (x.1 = wordN n)) }
  if p.first then p.firstEdge now
  else
    let a : PaiR := if p.toJoining then (({ p with toJoining := false }.abandon 1 true).1, []) else (p, [])
    let b := a.1.swapEdge n now sameImage
    let c := b.1.pendingClaim now
    let d := c.1.checkEdge n boundary
    let q := if boundary then
        { d.1.proveRound with corrected := 0, memoryBad := decide (cfg.scrubLimit ≠ 0) && decide (cfg.scrubLimit.toNat < d.1.corrected) }
      else d.1
    (q, a.2 ++ b.2 ++ c.2 ++ d.2)

-- ## Exchange

/-- The bytes of an item's header in a CAPTURE frame (R430). -/
def itemHeader (i : Item) (order : Nat) : List Byte :=
  [BitVec.ofNat 8 i.kind.toNat, 0] ++ leBytes 2 i.channel.toNat ++ leBytes 4 i.ident.toNat ++ leBytes 2 order ++ leBytes 2 i.bytes

/-- The payload bytes of an item. -/
def itemBytes (i : Item) : List Byte := (wordBytes i.payload).take i.bytes

/-- The bytes of SET_CHECK: headers and payloads in send order, ORDER counted from 0 (R430, Table 15.3). -/
def setBytes (items : List Item) : List Byte :=
  (items.zipIdx).flatMap (fun (x : Item × Nat) => itemHeader x.1 x.2 ++ itemBytes x.1)

/-- SET_CHECK of a capture set. -/
def setCheck (items : List Item) : Word := crc32c (setBytes items)

/-- The 32-bit payload check of R18, the CRC-32C of the item payload (R430). -/
def payloadCheck (payload : List Word) : Word := crc32c (wordBytes payload)

/-- The partner's items of a beat. -/
def PaiSt.itemsOf (p : PaiSt) (beat : Nat) : List Item :=
  (p.rxItems.filter (fun (x : Word × Item) => decide (x.1 = wordN beat))).map Prod.snd

/-- R432: ITEMS, BYTES and SET_CHECK agree with the items received. -/
def PaiSt.tokenAgrees (p : PaiSt) (t : Token) : Bool :=
  let items := p.itemsOf t.beat.toNat
  decide (t.items = wordN items.length) && decide (t.bytes = wordN (items.foldl (fun n i => n + i.bytes) 0)) &&
    decide (t.setCheck = setCheck items)

/-- R433: offset to the partner and link delay. -/
def tokenTheta (t : Token) (t4 : Nat) : Int :=
  rndDiv ((t.echoRx.toNat - t.echoTx.toNat : Int) + (t.txTime.toNat - t4 : Int)) 2
def tokenDelay (t : Token) (t4 : Nat) : Int :=
  rndDiv ((t4 - t.echoTx.toNat : Int) - (t.txTime.toNat - t.echoRx.toNat : Int)) 2

/-- R442 to R446 at the Active: a partner in the pair shows COPY again, so the copy resumes with every page dirty; a partner that
shows Solo, or Joining without a join, has left. -/
def PaiSt.followJoiner (p : PaiSt) (t : Token) (beat : Nat) : PaiR :=
  if p.role = .active ∧ p.inPair ∧ t.role = 1 ∧ t.join = 2 then
    ({ p.allDirty with partner := some .joining, partnerAdopted := false, join := .copy, swap := none }, p.swapCancelled .active)
  else if p.role = .active ∧ p.partner.isSome ∧ (t.role = 0 ∨ (t.role = 1 ∧ t.join = 0)) then p.activeLoses beat
  else (p, [])

/-- LOGIC or MEMORY of a health word. -/
def healthBad (w : Word) : Bool := bitOf w 1 || bitOf w 2

/-- A TOKEN of this beat or a later one arrives at `now` (R425, R431 to R433, R438). -/
def PaiSt.token (p : PaiSt) (t : Token) (n now : Nat) : PaiR :=
  let q := { p with theta := tokenTheta t now, delay := tokenDelay t now, tokenLast := some (t, now), partnerRole := t.role,
                    partnerHealth := t.health, tokenNow := if t.beat.toNat = n then some (t, now) else p.tokenNow }
  let q := if t.echoTx = 0 then { q with theta := p.theta, delay := p.delay } else q
  let f := q.followJoiner t n
  let q : PaiSt := if f.1.role = .active ∧ f.1.partner = some .shadow ∧ healthBad t.health then { f.1 with roundClean := false } else f.1
  if q.follows ∧ bitOf t.health 0 then q.lost 3 n
  else if t.gateOpen ∧ t.beat.toNat = n ∧ q.gate now ∧ q.sideB ∧ t.sideB ≠ q.sideB then
    let w := q.withdraw 2
    (w.1, f.2 ++ w.2)
  else (q, f.2)

/-- R432 at 60 µs: the Active decides INCLUDE and sends COMMIT; an excluded partner is counted, and EXCL_LIMIT consecutive
exclusions send DEMOTE. -/
def PaiSt.decide_ (p : PaiSt) (cfg : PairTable) (n edge : Nat) : PaiR :=
  if p.role ≠ .active then (p, [])
  else
    let cause : Nat := match p.tokenNow with
      | none => 1
      | some (t, at_) => if edge + 60000 < at_ then 1 else if p.tokenAgrees t then 0 else 2
    let incl := p.inPair && decide (cause = 0)
    let check : Word := match p.tokenNow with | some (t, _) => if incl then t.setCheck else 0 | none => 0
    let q := { p with included := incl }.send n (.commit (BitVec.ofNat 64 n) incl check)
    if !p.inPair ∨ incl then ({ q with exclRun := 0 }, [])
    else
      let q := { q.flag 2 with excluded := q.excluded + 1, exclRun := q.exclRun + 1, exclNow := true }
      let ev : List Ev := [(0x0E04, [wordN n, wordN cause])]
      if cfg.exclLimit.toNat ≤ q.exclRun.toNat then
        let d := (q.send n (.demote 1)).allDirty
        ({ d with partner := some .joining, partnerAdopted := false, join := .copy, exclRun := 0, swap := none }, ev ++ p.swapCancelled .active)
      else (q, ev)

/-- R432: COMMIT(n) arrives. -/
def PaiSt.commit (p : PaiSt) (beat : Long) (incl : Bool) (check : Word) (n : Nat) : PaiSt :=
  if beat.toNat = n then
    { p with commitNow := some (incl, check), exclNow := p.follows && !incl,
             exclRun := if p.follows && !incl then p.exclRun + 1 else 0 }
  else p

/-- R438 cause 2 at 90 µs. -/
def PaiSt.commitDeadline (p : PaiSt) (n edge : Nat) : PaiR :=
  let late : Bool := match p.tokenNow with | none => true | some (_, t) => decide (edge + 90000 < t)
  if p.follows ∧ (late ∨ p.commitNow.isNone) then p.lost 2 n else (p, [])

/-- Which sets form the union (R18, R19, R432): own, partner's.  A device that took over in this beat still goes by a COMMIT it holds
(R439). -/
def PaiSt.setsUsed (p : PaiSt) : Bool × Bool :=
  if p.follows || (decide (p.role = .active) && decide (p.claimNext = .takeover)) then
    match p.commitNow with
    | some (incl, _) => (incl, true)
    | none => (true, false)
  else (true, decide (p.role = .active) && p.included)

/-- The sets that form the union: own, partner's. -/
def PaiSt.unionSets (p : PaiSt) (n : Nat) (own : List Item) : List Item × List Item :=
  (if p.setsUsed.1 then own else [], if p.setsUsed.2 then p.itemsOf n else [])

-- ## Signatures

/-- Signatures are compared at the Active with a Standby or adopted Joining partner, and at those partners (Table 15.5). -/
def PaiSt.compares (p : PaiSt) : Bool :=
  !p.toJoining && (decide (p.role = .standby) || (decide (p.role = .joining) && p.adopted) ||
    (decide (p.role = .active) && (decide (p.partner = some .standby) || (decide (p.partner = some .joining) && p.partnerAdopted))))

/-- R437: the Active asks for takeover and says so at once in a HEALTH frame. -/
def PaiSt.askTakeover (p : PaiSt) (n : Nat) : PaiSt :=
  let q := { p with takeoverReq := true, health := setBit p.health 0 }
  q.send n (.health q.health)

/-- R441, R446: a mismatch in beat n. -/
def PaiSt.mismatch (p : PaiSt) (n : Nat) (own partner : Long) : PaiR :=
  let q := { p.flag 3 with mismatches := p.mismatches + 1, sigMiss := 0 }
  let ev : List Ev := [(0x0E05, [wordN n, lowOf own, lowOf partner])]
  let activeBad := if p.role = .active then healthBad p.health && !healthBad p.partnerHealth
                   else healthBad p.partnerHealth && !healthBad p.health
  if p.role = .active then
    if activeBad then (q.askTakeover n, ev)
    else ({ q.allDirty with partner := some .joining, partnerAdopted := false, join := .copy, swap := none }, ev ++ p.swapCancelled .active)
  else if activeBad then (q, ev)
  else if p.role = .joining then
    let r := q.abandon 1 true
    (r.1, ev ++ r.2)
  else ({ q.flag 5 with toJoining := true, swap := none }, ev ++ (0x0E0A, [1]) :: p.swapCancelled .joining)

/-- R434, R447 at 920 µs. -/
def PaiSt.compare (p : PaiSt) (cfg : PairTable) (n : Nat) : PaiR :=
  match p.sigOwn, p.sigPartner with
  | some a, some b =>
    if p.role = .shadow then ({ p with shadowDiff := if a = b then p.shadowDiff else p.shadowDiff + 1 }, [])
    else if !p.compares then (p, [])
    else if a = b then ({ p with sigMiss := 0 }, [])
    else p.mismatch n a b
  | own, none =>
    if !p.compares then (p, [])
    else
      let q := { p with sigMissing := p.sigMissing + 1, sigMiss := p.sigMiss + 1 }
      if cfg.sigMissLimit.toNat ≤ q.sigMiss then q.mismatch n (own.getD 0) 0 else (q, [])
  | none, some _ => (p, [])

-- ## Health

/-- R437: a partner is fit. -/
def PaiSt.partnerFit (p : PaiSt) (cfg : PairTable) : Bool :=
  p.inPair && decide (p.partnerHealth.toNat &&& (cfg.takeoverMask.toNat &&& 0xEE) = 0)

/-- The health word of Table 15.7 from its bits; `output`, `fieldbus`, `safety` and `thermal` are other blocks'. -/
def PaiSt.healthWord (p : PaiSt) (output fieldbus safety : Bool) : Word :=
  bit p.takeoverReq 0 ||| bit p.logicBad 1 ||| bit p.memoryBad 2 ||| bit output 3 ||| bit fieldbus 4 ||| bit (decide (p.lanes = 2)) 5 |||
    bit safety 6 ||| bit p.thermal 7 ||| fld p.slice.toNat 16

/-- A health word for a TOKEN (R437): a bit of [7:1] that rises is event 0x0E0D; an Active with a TAKEOVER_MASK bit and a fit
partner asks for takeover. -/
def PaiSt.setHealth (p : PaiSt) (cfg : PairTable) (n : Nat) (w : Word) : PaiR :=
  let rises := decide ((w.toNat &&& 0xFE) &&& ((p.health ^^^ w).toNat) ≠ 0)
  let q : PaiSt := { (if rises then p.flag 7 else p) with health := w, roundClean := p.roundClean && !(decide (p.role = .shadow) && healthBad w) }
  let ev : List Ev := if rises then [(0x0E0D, [w])] else []
  let mask := cfg.takeoverMask.toNat &&& 0xFE
  if q.role = .active ∧ !q.takeoverReq ∧ w.toNat &&& mask ≠ 0 ∧ q.partnerFit cfg then (q.askTakeover n, ev) else (q, ev)

/-- A logic slice and a scrub slice of the guard phase of beat `n` (R437): 1,000 slices, one full pass in each round; 65,536 bytes a
beat, 1,024 beats a pass. -/
def PaiSt.selfTest (p : PaiSt) (n : Nat) (sliceOk : Bool) (corrected : Nat) : PaiSt :=
  { p with slice := BitVec.ofNat 16 (n % 1000), logicBad := p.logicBad || !sliceOk, corrected := p.corrected + corrected,
           scrubAt := (p.scrubAt + 1) % 1024 }

/-- A HEALTH frame (R437, R438). -/
def PaiSt.healthFrame (p : PaiSt) (w : Word) (n : Nat) : PaiR :=
  let q := { p with partnerHealth := w }
  if q.follows ∧ bitOf w 0 then q.lost 3 n else (q, [])

-- ## Joining

/-- What the Active's answer to JOIN_REQ depends on outside the block. -/
structure JoinView where
  imageId   : Long
  layoutSig : Long
  compat    : Half
  accepts   : List Half
  jumpNs    : Nat
  bankPending : Bool
  watch     : Bool
  deviceId  : Long

/-- COMPAT compatible (R80). -/
def compatOk (v : JoinView) (r : JoinReq) : Bool :=
  (decide (v.compat = r.compat) || v.accepts.contains r.compat) && (decide (v.compat = r.compat) || r.accepts.contains v.compat)

/-- The join kind of Table 15.9; 0 none.  A NORMAL join also needs COMPAT and LAYOUT_SIG equal (R80). -/
def joinKind (v : JoinView) (r : JoinReq) : Nat :=
  if r.imageId = v.imageId ∧ r.layoutSig = v.layoutSig ∧ r.compat = v.compat then 1
  else if r.imageId ≠ v.imageId ∧ r.layoutSig = v.layoutSig ∧ compatOk v r then 2
  else if r.layoutSig ≠ v.layoutSig ∧ compatOk v r ∧ r.translate then 3
  else 0

/-- The first refusal cause of Table 15.10 that applies; 0 none. -/
def PaiSt.joinRefusal (p : PaiSt) (v : JoinView) (r : JoinReq) : Nat :=
  if r.sideB = p.sideB then 1
  else if joinKind v r = 0 then 2
  else if r.stepUsed ∧ v.jumpNs < p.theta.natAbs then 3
  else if healthBad r.health then 4
  else if p.lanes ≠ 4 then 5
  else if p.joinBlock then 6
  else if v.bankPending then 7
  else if v.watch then 8
  else 0

/-- R442: JOIN_REQ at a Solo device or an Active with no partner. -/
def PaiSt.joinReq (p : PaiSt) (v : JoinView) (r : JoinReq) (n : Nat) : PaiR :=
  if p.role = .solo ∨ (p.role = .active ∧ p.partner.isNone) then
    let c := p.joinRefusal v r
    if c ≠ 0 then (p.send n (.joinRefuse (BitVec.ofNat 8 c))).refuse c r.deviceId
    else
      let k := joinKind v r
      let id := p.pairIdOf v.deviceId
      ({ (p.send n (.joinAccept (BitVec.ofNat 8 k) id)).allDirty with
            role := .active, partner := some .joining, partnerAdopted := false, partnerKind := k, kind := k, partnerId := r.deviceId,
            joinedId := r.deviceId, pairId := some id, join := .copy },
       [(0x0E06, [lowOf r.deviceId, wordN k])])
  else (p, [])

/-- R442: an unadopted Joining device asks every tenth beat, from its guard phase. -/
def PaiSt.sendJoinReq (p : PaiSt) (r : JoinReq) (n now : Nat) : PaiSt :=
  if p.role = .joining ∧ !p.adopted ∧ (p.join = .none ∨ p.join = .requested) ∧ n % 10 = 0 ∧ p.lanes = 4 ∧ p.link = .up ∧ p.claimed now ∧
      !healthBad p.health then
    { p.send n (.joinReq r) with join := .requested }
  else p

/-- R442: JOIN_ACCEPT at the joiner `own`.  It names no DEVICE_ID of its sender, so PARTNER_ID is a free value there (log 77). -/
def PaiSt.joinAccept (p : PaiSt) (own : Long) (kind : Byte) (pairId : Long) : PaiR :=
  if p.role = .joining ∧ !p.adopted ∧ p.join = .requested then
    let partner := Config.partnerOf pairId own
    ({ p with join := .copy, kind := kind.toNat, pairId := some pairId, partnerId := partner, joinedId := own, heldPages := [], heldFast := [],
              adoptEnd := none, pass := 0, lastPage := none }, [(0x0E06, [lowOf partner, wordN kind.toNat])])
  else (p, [])

/-- R442: JOIN_REFUSE at the joiner. -/
def PaiSt.joinRefused (p : PaiSt) : PaiSt :=
  if p.role = .joining ∧ p.join = .requested then { p.flag 4 with join := .none } else p

/-- R443: the joiner holds a page, or a part of the fast state.  A pass sends pages in ascending order, so a page not above the one
before it begins the next pass; the final transfer of R444 is none. -/
def PaiSt.holdPage (p : PaiSt) (k : Word) (d : List Byte) : PaiSt :=
  if p.role = .joining ∧ !p.adopted then
    let next := decide (p.join = .copy) && !p.lastPage.any (fun x => decide (x < k.toNat))
    { p with heldPages := Tab.set [] p.heldPages k.toNat d, lastPage := some k.toNat, pass := if next then p.pass + 1 else p.pass }
  else p
def PaiSt.holdFast (p : PaiSt) (ofs : Word) (d : List Byte) : PaiSt :=
  if p.role = .joining ∧ !p.adopted then { p with heldFast := Tab.set [] p.heldFast ofs.toNat d } else p

/-- R444: ADOPT names the adoption beat. -/
def PaiSt.adoptNamed (p : PaiSt) (a : Long) : PaiSt :=
  if p.role = .joining ∧ !p.adopted ∧ p.join = .copy then { p with join := .adopting, adoptBeat := some a, adoptEnd := none } else p

/-- R444: ADOPT_END closes the final transfer. -/
def PaiSt.adoptEnded (p : PaiSt) (a : Long) (pages : Word) : PaiSt :=
  if p.join = .adopting ∧ p.adoptBeat = some a ∧ p.role = .joining then { p with adoptEnd := some (a, pages) } else p

/-- R444 at 70 µs of beat a + 1: does the joiner adopt now? -/
def PaiSt.adoptsNow (p : PaiSt) (n : Nat) : Bool :=
  decide (p.role = .joining) && decide (p.join = .adopting) &&
    (match p.adoptBeat, p.adoptEnd with | some a, some (b, _) => decide (a = b) && decide (n = a.toNat + 1) | _, _ => false)

/-- The deadline of R444 passed without the whole transfer. -/
def PaiSt.adoptMissed (p : PaiSt) (n : Nat) : Bool :=
  decide (p.role = .joining) && decide (p.join = .adopting) &&
    (match p.adoptBeat with | some a => decide (a.toNat + 1 ≤ n) | none => false) && !p.adoptsNow n

/-- Adoption at the joiner (R444, Table 15.6): event 0x0E08; a NORMAL join goes on to its checking round, which begins with this beat
where its edge was a round `boundary` (R445). -/
def PaiSt.adoptDone (p : PaiSt) (boundary : Bool) : PaiR :=
  let a := (p.adoptBeat.getD 0)
  let pages := (p.adoptEnd.map Prod.snd).getD 0
  let q := { p with joins := p.joins + 1, adoptBeat := none, adoptEnd := none, heldPages := [], heldFast := [], partner := some .active,
                    sigMiss := 0, misaligned := 0, checkLeft := if boundary then some 1000 else none }
  (if p.kind = 1 then { q with adopted := true, join := .checking }
   else { q with role := .shadow, adopted := false, join := .proving, proveDone := 0, roundClean := boundary },
   [(0x0E08, [lowOf a, pages, wordN p.pass.toNat])])

/-- R443: the pages of the slow state. -/
def pageCount (cfg : PairTable) : Nat := cfg.stateBytes.toNat / 4096

/-- A page is dirty until the content it has now was sent and acknowledged (R443). -/
def PaiSt.dirtyPages (p : PaiSt) (cfg : PairTable) (content : Nat → List Byte) : List Nat :=
  (List.range (pageCount cfg)).filter (fun k => decide (Tab.get ([], false) p.pages k ≠ (content k, true)))

/-- Send one page. -/
def PaiSt.sendPage (p : PaiSt) (n k : Nat) (d : List Byte) : PaiSt :=
  { p.send n (.page (wordN k) d) with pages := Tab.set ([], false) p.pages k (d, false) }

/-- Send pages in order while the beat's capacity lasts; the rest of the pass waits. -/
def PaiSt.sendPages (p : PaiSt) (n : Nat) (content : Nat → List Byte) : List Nat → PaiSt
  | [] => { p with passLeft := [] }
  | k :: ks =>
    if p.sentBytes + frameBytes 4 (.page 0 (List.replicate 4096 0)) ≤ linkCapacity p.lanes.toNat then
      (p.sendPage n k (content k)).sendPages n content ks
    else { p with passLeft := k :: ks }

/-- The whole fast state in frames of at most 4,096 bytes (R443). -/
def PaiSt.sendFast (p : PaiSt) (n : Nat) (fast : List Byte) : PaiSt :=
  (List.range ((fast.length + 4095) / 4096)).foldl (fun q i => q.send n (.fast (wordN (4096 * i)) ((fast.drop (4096 * i)).take 4096))) p

/-- R443, R444: a pass has been sent and acknowledged.  With at most DIRTY_THR dirty pages and |θ| ≤ ALIGN_NS the Active names
the next beat; otherwise the next pass takes the pages dirty now. -/
def PaiSt.passEnd (p : PaiSt) (cfg : PairTable) (content : Nat → List Byte) (n : Nat) : PaiSt :=
  if p.role = .active ∧ p.partner = some .joining ∧ !p.partnerAdopted ∧ p.join = .copy ∧ p.passLeft = [] ∧
      !p.unacked.any (fun r => match r.body with | .page _ _ => true | _ => false) then
    let d := p.dirtyPages cfg content
    if p.pass ≠ 0 ∧ d.length ≤ cfg.dirtyThr.toNat ∧ p.theta.natAbs ≤ cfg.alignNs.toNat then
      { p.send n (.adopt (BitVec.ofNat 64 (n + 1))) with join := .adopting, adoptBeat := some (BitVec.ofNat 64 (n + 1)) }
    else { p with pass := p.pass + 1, passLeft := d }
  else p

/-- R443, R444: the Active's copying from 850 µs of a beat. -/
def PaiSt.copyBeat (p : PaiSt) (cfg : PairTable) (content : Nat → List Byte) (fast : List Byte) (n : Nat) : PaiSt :=
  if p.role = .active ∧ p.partner = some .joining ∧ !p.partnerAdopted then
    match p.join with
    | .copy => let q := (p.sendFast n fast).passEnd cfg content n
               q.sendPages n content q.passLeft
    | .adopting =>
      if p.adoptBeat = some (BitVec.ofNat 64 n) then
        let d := p.dirtyPages cfg content
        let q := (p.sendFast n fast).sendPages n content d
        let q := q.send n (.adoptEnd (BitVec.ofNat 64 n) (wordN d.length))
        { q with passLeft := [], partnerAdopted := true, join := if p.partnerKind = 1 then .checking else .proving, checkLeft := none,
                 proveDone := 0, roundClean := false, partner := if p.partnerKind = 1 then some .joining else some .shadow }
      else p
    | _ => p
  else p

/-- R446: |θ| above ALIGN_NS for 10 consecutive beats after adoption abandons the join. -/
def PaiSt.alignBeat (p : PaiSt) (cfg : PairTable) : PaiR :=
  if p.role = .joining ∧ p.adopted then
    if cfg.alignNs.toNat < p.theta.natAbs then
      if 9 ≤ p.misaligned then p.abandon 3 true else ({ p with misaligned := p.misaligned + 1 }, [])
    else ({ p with misaligned := 0 }, [])
  else (p, [])

/-- DEMOTE at the partner (R435, R446): Joining with every page dirty. -/
def PaiSt.demoted (p : PaiSt) : PaiR :=
  if p.follows then
    p.abandon 6 true
  else (p, [])

/-- R446: a bank switch on either device starts a join in progress again from JOIN_REQ. -/
def PaiSt.bankSwitched (p : PaiSt) : PaiR :=
  if p.role = .joining ∧ p.join ≠ .none then p.abandon 5 false
  else if p.role = .active ∧ p.partner = some .joining then (p.dropPartner, [])
  else (p, [])

-- ## Pair commands

/-- R448: SWAP is applied when the partner is Standby, or Shadow with PROVED.  On the partner itself the Active is its partner
and its own role is judged. -/
def PaiSt.swapOk (p : PaiSt) : Bool :=
  match p.role with
  | .active => decide (p.partner = some .standby) || (decide (p.partner = some .shadow) && p.proved)
  | .standby => true
  | .shadow => p.proved
  | _ => false

/-- R448: DEMOTE is applied when the partner is Standby, adopted Joining or Shadow. -/
def PaiSt.demoteOk (p : PaiSt) : Bool := (decide (p.role = .active) && p.inPair) || p.follows

/-- R448: the Active sends DEMOTE with cause 2; a takeover of the pair's swap ends (R449). -/
def PaiSt.sendDemote (p : PaiSt) (n : Nat) : PaiR :=
  if p.role = .active then
    ({ (p.send n (.demote 2)).allDirty with partner := some .joining, partnerAdopted := false, join := .copy, swap := none },
     p.swapCancelled .active)
  else (p, [])

/-- R437, R449 at 980 µs: an Active that swaps in the beat before S, or asks for takeover, stops toggling. -/
def PaiSt.activeStop (p : PaiSt) (n : Nat) : PaiR :=
  if p.role = .active ∧ p.toggling then
    if p.swap.any (fun c => decide (n = c.toNat + 1)) then ({ p.stopToggle.flag 1 with armed := false }, [(0x0E02, [4])])
    else if p.takeoverReq then p.withdraw 3
    else (p, [])
  else (p, [])

/-- R449 at 990 µs: the partner in a swap starts toggling, or the swap is cancelled. -/
def PaiSt.swapClaim (p : PaiSt) (n now : Nat) : PaiR :=
  if p.follows ∧ p.swap.any (fun c => decide (n = c.toNat + 1)) then
    if p.claimed now then ({ p with swap := none }, [(0x0E02, [5]), (0x0E0B, [wordN p.role.code, wordN p.role.code, 2])])
    else
      let r := p.claim 3
      ({ r.1 with armed := true }, r.2)
  else (p, [])

-- ## Restarts

/-- R66, R452, Table 3.7: Solo, PAIR_ID equal to DEVICE_ID, JOIN_BLOCK cleared; counts kept. -/
def PaiSt.restart (p : PaiSt) : PaiSt :=
  { PaiSt.reset with
      sideB := p.sideB, lastIn := p.lastIn, link := p.link, lanes := p.lanes, txSeq := p.txSeq, rxSeq := p.rxSeq,
      unacked := p.unacked, passes := p.passes, theta := p.theta, delay := p.delay, tokenLast := p.tokenLast, partnerRole := p.partnerRole,
      partnerHealth := p.partnerHealth, health := p.health, slice := p.slice, logicBad := p.logicBad, memoryBad := p.memoryBad,
      thermal := p.thermal, corrected := p.corrected, scrubAt := p.scrubAt, flags := p.flags, takeovers := p.takeovers,
      excluded := p.excluded, mismatches := p.mismatches, sigMissing := p.sigMissing, linkCrc := p.linkCrc, linkRetry := p.linkRetry,
      joins := p.joins, shadowDiff := p.shadowDiff, lastLoss := p.lastLoss, lossBeat := p.lossBeat }

/-- R455, Table 20.10: an Image reset also clears the flags, the counts and the self-test results, and the link trains anew. -/
def PaiSt.imageReset (p : PaiSt) : PaiSt :=
  { p.restart with
      flags := 0, takeovers := 0, excluded := 0, mismatches := 0, sigMissing := 0, linkCrc := 0, linkRetry := 0, joins := 0,
      shadowDiff := 0, lastLoss := 0, lossBeat := 0, logicBad := false, memoryBad := false, corrected := 0, health := 0, slice := 0,
      scrubAt := 0, partnerHealth := 0, partnerRole := 7, theta := 0, delay := 0, tokenLast := none, link := .training, lanes := 0
      txSeq := 0, rxSeq := 0, unacked := [], passes := 0 }

-- ## Views

/-- PAIR_STATE: 0 SOLO, 1 JOINING, 2 PAIRED, 3 SHADOW (Table 14.5). -/
def PaiSt.pairState (p : PaiSt) : Nat :=
  match p.role with
  | .solo => 0
  | .joining => 1
  | .standby => 2
  | .shadow => 3
  | .active => match p.partner with
    | some .standby => 2
    | some .shadow => 3
    | some .joining => 1
    | _ => 0

/-- The role code shown for the partner: 7 absent. -/
def PaiSt.partnerCode (p : PaiSt) : Nat := match p.partner with | some r => r.code | none => 7

/-- CHECK_LEFT (Table 15.14): beats left in the checking round or the proving period. -/
def PaiSt.checkLeftBeats (p : PaiSt) (cfg : PairTable) : Nat :=
  match p.join with
  | .checking => p.checkLeft.getD 1000
  | .proving => match p.checkLeft with
    | some k => 1000 * (cfg.proveRounds.toNat - p.proveDone - 1) + k
    | none => 1000 * cfg.proveRounds.toNat
  | _ => 0

/-- The pair section (Table 15.14), eight words. -/
def PaiSt.section_ (p : PaiSt) (cfg : PairTable) : List Word :=
  let a := if p.sideB then p.partnerCode else p.role.code
  let b := if p.sideB then p.role.code else p.partnerCode
  [lowOf p.joinedId, highOf p.joinedId,
   fld a 0 ||| fld b 8 ||| fld p.join.code 16 ||| bit p.proved 24 ||| bit p.exclNow 25 ||| bit p.takeoverRec 26 ||| bit p.joinBlock 27,
   p.exclRun, p.takeoversPair, wordN (p.checkLeftBeats cfg), 0, 0]

/-- A PAI register (Table 15.16); none where the block has no register. -/
def PaiSt.read (p : PaiSt) (cfg : PairTable) (deviceId : Long) (now : Nat) (dirty : Nat) (ofs : Nat) : Option Word :=
  match ofs with
  | 0x0000 => some 0x0E010000
  | 0x0004 => some (fld p.role.code 0 ||| bit p.sideB 3 ||| bit p.toggling 4 ||| bit (p.claimed now) 5 ||| bit (p.gate now) 6 |||
      fld p.partnerRole.toNat 7 ||| fld p.join.code 10 ||| bit p.proved 13 ||| fld p.link.code 14 ||| fld p.lanes.toNat 16 |||
      bit p.joinBlock 19)
  | 0x0020 => some (lowOf deviceId)
  | 0x0024 => some (highOf deviceId)
  | 0x0028 => some (lowOf (p.pairIdOf deviceId))
  | 0x002C => some (highOf (p.pairIdOf deviceId))
  | 0x0030 => some (lowOf p.partnerId)
  | 0x0034 => some (highOf p.partnerId)
  | 0x0038 => some p.health
  | 0x003C => some p.partnerHealth
  | 0x0040 => some (satWord p.theta)
  | 0x0044 => some (satWord p.delay)
  | 0x0048 => some (fld (dirty % 65536) 0 ||| fld p.pass.toNat 16)
  | 0x004C => some (wordN (p.checkLeftBeats cfg))
  | 0x0050 => some (wordN p.flags.toNat)
  | 0x0054 => some p.takeovers
  | 0x0058 => some p.excluded
  | 0x005C => some p.mismatches
  | 0x0060 => some p.sigMissing
  | 0x0064 => some p.linkCrc
  | 0x0068 => some p.linkRetry
  | 0x006C => some p.joins
  | 0x0070 => some p.shadowDiff
  | 0x0074 => some (wordN p.lastLoss.toNat)
  | 0x0078 => some p.lossBeat
  | _ => none

/-- W1C of PAI_FLAGS. -/
def PaiSt.clearFlags (p : PaiSt) (w : Word) : PaiSt := { p with flags := p.flags &&& ~~~ (BitVec.ofNat 8 w.toNat) }

-- ## Translation

/-- A little-endian word of a byte string. -/
def wordAt (l : List Byte) (o : Nat) : Int := leAtS l o 4

/-- Overwrite bytes at an offset. -/
def putBytes (l : List Byte) (o : Nat) (d : List Byte) : List Byte := l.take o ++ d ++ l.drop (o + d.length)

/-- One operation of a translation table (Table 15.11): COPY, SHIFT by words with R198 rounding or R78 clamping, FILL. -/
def transOp (src dst : List Byte) (o : TransOp) : List Byte :=
  let len := o.len.toNat
  match o.op.toNat with
  | 1 => putBytes dst o.dst.toNat ((src.drop o.src.toNat).take len)
  | 2 => putBytes dst o.dst.toNat ((List.range (len / 4)).flatMap (fun i =>
      let v := wordAt src (o.src.toNat + 4 * i)
      wordBytes [if 0 ≤ o.shift then satWord (rndShift v o.shift.toNat) else satWord (v * 2 ^ (-o.shift).toNat)]))
  | 3 => putBytes dst o.dst.toNat ((List.range (len / 4)).flatMap (fun _ => wordBytes [o.src]))
  | _ => dst

/-- The whole table in order, over the target image's initial bytes (R447). -/
def translate (t : TransTable) (src init : List Byte) : List Byte := t.ops.foldl (transOp src) init

/-- The rules of Table 15.11 that need no size of either state. -/
def transTableOk (t : TransTable) (bankSig : Long) : Bool :=
  decide (t.fromSig ≠ 0) && decide (t.toSig = bankSig) && decide (0 < t.ops.length) && decide (t.ops.length ≤ 65535) &&
    t.ops.all (fun o => (decide (o.op = 1) || decide (o.op = 2) || decide (o.op = 3)) && decide (o.len ≠ 0) && decide (o.len.toNat % 4 = 0) &&
      decide (-31 ≤ o.shift) && decide (o.shift ≤ 31) && (decide (o.op = 2) || decide (o.shift = 0)))

/-- The rules of Table 15.13. -/
def pairTableOk (t : PairTable) : Bool :=
  decide (t.magic = 0x49415058) && decide (t.format = 1) && !maskBit t.takeoverMask 0 && decide (t.takeoverMask.toNat < 256) &&
    decide (4096 ≤ t.stateBytes.toNat) && decide (t.stateBytes.toNat ≤ 33554432) && decide (t.stateBytes.toNat % 4096 = 0) &&
    decide (64 ≤ t.fastBytes.toNat) && decide (t.fastBytes.toNat ≤ 262144) && decide (t.fastBytes.toNat % 64 = 0) &&
    decide (1 ≤ t.dirtyThr.toNat) && decide (t.dirtyThr.toNat ≤ 48) && decide (t.dirtyMax.toNat ≤ t.dirtyThr.toNat) &&
    decide (1 ≤ t.proveRounds.toNat) && decide (t.proveRounds.toNat ≤ 3600) && decide (t.exclLimit ≠ 0) && decide (t.sigMissLimit ≠ 0) &&
    decide (100 ≤ t.alignNs.toNat) && decide (t.alignNs.toNat ≤ 10000)

end Sys2Proof.Machine
end

