-- ==== Sys2Proof/Machine/StImg.lean ====
section
/-! DEFINITION. State of the IMG block: start phases, resets, OTP and MRAM counts (03_image_start_resets.md). -/

namespace Sys2Proof.Machine

/-- IMG_STATUS.PHASE (Table 3.9). -/
inductive StartPhase where
  | discover | loadA | loadB | init | waitTime | running | noImage
deriving DecidableEq, Repr

/-- IMG_STATUS.PHASE as its code. -/
def StartPhase.code : StartPhase → Word
  | .discover => 0 | .loadA => 1 | .loadB => 2 | .init => 3 | .waitTime => 4 | .running => 5 | .noImage => 6

/-- Reset kinds, encoded as under Table 3.8. -/
inductive ResetKind where
  | cold | cocoonWake | image | beatRestart
deriving DecidableEq, Repr

/-- The code of a reset kind in events and in IMG_RESET.KIND. -/
def ResetKind.code : ResetKind → Word
  | .cold => 0 | .cocoonWake => 1 | .image => 2 | .beatRestart => 3

/-- Causes of an Image reset, encoded as under Table 3.8. -/
inductive ResetCause where
  | pin | host | escalationOverrun | escalationFault
deriving DecidableEq, Repr

/-- The code of an Image reset cause. -/
def ResetCause.code : ResetCause → Word
  | .pin => 0 | .host => 1 | .escalationOverrun => 2 | .escalationFault => 3

/-- An OTP slot's state (R91, R398). -/
inductive SlotState where
  | empty | valid | revoked
deriving DecidableEq, Repr

/-- IMG_KEYSLOT's two bits of a slot. -/
def SlotState.code : SlotState → Word
  | .empty => 0 | .valid => 1 | .revoked => 2

/-- An OTP image-key slot with the hash of its public key (R91). -/
structure ImageKeySlot where
  state : SlotState
  hash  : BitVec 256
deriving DecidableEq, Repr

/-- An OTP host-key slot (R398).  Roles are 0 Observer to 3 Maintainer. -/
structure HostKeySlot where
  state : SlotState
  key   : BitVec 256
  role  : BitVec 2
deriving DecidableEq, Repr

/-- The one-time-programmable items. -/
structure OtpSt where
  imageKeys  : Tab ImageKeySlot
  hostKeys   : Tab HostKeySlot
  minSecver  : Half
  /-- Recovery network settings (R96), `none` when EMPTY. -/
  recovery   : Option NetCfg
  /-- 0 OPEN, 1 AUTH, 2 CLOSED (R527). -/
  debugState : BitVec 2
  /-- Identity programmed by Kravex (R528). -/
  deviceId   : Long
  macBase    : BitVec 48
deriving DecidableEq, Repr

/-- An empty image-key slot. -/
def ImageKeySlot.none : ImageKeySlot := { state := .empty, hash := 0 }
/-- An empty host-key slot. -/
def HostKeySlot.none : HostKeySlot := { state := .empty, key := 0, role := 0 }

/-- The OTP of a new device: every slot EMPTY, debug OPEN (R527).  The identity is a DESIGN CHOICE (log 5). -/
def OtpSt.new : OtpSt :=
  { imageKeys := [], hostKeys := [], minSecver := 0, recovery := Option.none, debugState := 0, deviceId := 1, macBase := 0 }

/-- The three runtime-change counts held in MRAM (R112). -/
structure Changes where
  regions   : Word
  setpoints : Word
  gains     : Word
deriving DecidableEq, Repr

/-- The IMG block. -/
structure ImgSt where
  powered    : Bool
  paramsValid : Bool
  phase      : StartPhase
  /-- Image being tried or loaded: false A, true B. -/
  imageB     : Bool
  forceB     : Bool
  nvmMap     : Bool
  strap2     : Bool
  strap3     : Bool
  provisional : Bool
  nvmMode    : BitVec 2
  nvmMhz     : BitVec 8
  nvmSize    : BitVec 8
  errA       : BitVec 8
  errASec    : Half
  errB       : BitVec 8
  errBSec    : Half
  /-- Images still to be tried in this start, in order (R95); false A, true B. -/
  order      : List Bool
  imageId    : Long
  secver     : Half
  loadUs     : Word
  startUs    : Word
  kind       : ResetKind
  cause      : ResetCause
  /-- The image that ran when the device escalated (R95). -/
  escalated  : Option Bool
  nresetIn   : Bool
  nresetOut  : Bool
  faultOut   : Bool
  faultRst   : Word
  /-- Round of the last uncorrectable beat-domain fault, for the escalation of Table 3.6. -/
  faultRound : Option Nat
  pwrcyc     : BitVec 22
  changes    : Changes
  /-- The image accepted in this start. -/
  accepted   : Option ImageDesc
  delivered  : Bool
  otp        : OtpSt
deriving DecidableEq, Repr

/-- The IMG block after reset (Table 3.9). -/
def ImgSt.reset : ImgSt :=
  { powered := false, paramsValid := false, phase := .discover, imageB := false, forceB := false, nvmMap := false,
    strap2 := false, strap3 := false, provisional := false, nvmMode := 3, nvmMhz := 0,
    nvmSize := 0, errA := 0, errASec := 0xFFFF, errB := 0, errBSec := 0xFFFF, order := [], imageId := 0,
    secver := 0, loadUs := 0, startUs := 0, kind := .cold, cause := .pin, escalated := Option.none, nresetIn := false,
    nresetOut := true, faultOut := true, faultRst := 0, faultRound := Option.none, pwrcyc := 0,
    changes := { regions := 0, setpoints := 0, gains := 0 }, accepted := Option.none, delivered := false,
    otp := OtpSt.new }

end Sys2Proof.Machine
end

