-- ==== Sys2Proof/Machine/Loader.lean ====
section
/-! DEFINITION. The image loader's checks, each error of Table 3.3 in the order of R92 (03_image_start_resets.md and the
table of each chapter). -/

namespace Sys2Proof.Machine

open Sys2Proof

/-- `lo ≤ a ≤ hi`. -/
def within (lo hi a : Nat) : Bool := decide (lo ≤ a) && decide (a ≤ hi)

/-- No value twice. -/
def noDup (l : List Nat) : Bool :=
  match l with
  | [] => true
  | a :: t => !t.contains a && noDup t

/-- Strictly rising. -/
def rising (l : List Nat) : Bool :=
  match l with
  | [] => true
  | [_] => true
  | a :: b :: t => decide (a < b) && rising (b :: t)

/-- The error of the first check that fails; 0 when none does. -/
def firstErr (l : List (Bool × Nat)) : Nat :=
  match l with
  | [] => 0
  | (ok, e) :: t => if ok then firstErr t else e

-- ## Step 2: the header (R88, R90)

/-- Table 3.1, and FLAGS.SCHED_ONLY as the purpose asks. -/
def headerErr (h : ImageHeader) (schedOnly : Bool) : Nat :=
  firstErr
    [(decide (h.magic = 0x474D4958), 0x03), (decide (h.format = 1), 0x04), (within 1 32 h.nSection.toNat, 0x04),
     (decide (h.imageId ≠ 0), 0x13), (within 4096 50331648 h.imageBytes.toNat, 0x05), (decide (h.keySlot.toNat ≤ 3), 0x07),
     (decide (h.flags = if schedOnly then 1 else 0), 0x04), (decide (64 ≤ h.dirOfs.toNat), 0x04),
     (decide (h.sigOfs.toNat + 128 = h.imageBytes.toNat), 0x04), (h.reservedZero, 0x04)]

-- ## Step 3: the directory (R89)

/-- The length limit of a section type (Table 3.2); 0 for a type the table does not list. -/
def sectionLimit (type : Nat) : Nat :=
  match type with
  | 1 => 4194304 | 2 => 8388608 | 3 => 25165824 | 4 => 65536 | 5 => 65536 | 6 => 16384 | 7 => 4096 | 8 => 262144 | 9 => 4096
  | _ => 0

/-- Do two sections share a byte? -/
def overlaps (a b : DirEntry) : Bool :=
  decide (a.offset.toNat < b.offset.toNat + b.length.toNat) && decide (b.offset.toNat < a.offset.toNat + a.length.toNat)

/-- One entry's rules, against the entries before it. -/
def dirEntryOk (sigOfs : Nat) (before : List DirEntry) (e : DirEntry) : Bool :=
  decide (0 < sectionLimit e.type.toNat) && decide (e.reserved = 0) && decide (e.offset.toNat % 256 = 0) &&
    within 1 (sectionLimit e.type.toNat) e.length.toNat && decide (e.offset.toNat + e.length.toNat ≤ sigOfs) && e.crcOk &&
    before.all (fun b => decide (b.type ≠ e.type) && !overlaps b e)

/-- The index of the first entry that breaks a rule. -/
def dirFail (sigOfs : Nat) : List DirEntry → List DirEntry → Nat → Option Nat
  | _, [], _ => none
  | before, e :: t, k => if dirEntryOk sigOfs before e then dirFail sigOfs (e :: before) t (k + 1) else some k

/-- The section types every image must hold. -/
def requiredTypes (schedOnly : Bool) : List Nat := if schedOnly then [1, 2] else [1, 2, 4, 5, 6, 7, 9]

/-- Where a type stands in the directory. -/
def dirIndex (dir : List DirEntry) (type : Nat) : Option Nat := dir.findIdx? (fun e => decide (e.type.toNat = type))

/-- A directory index as an event parameter (R94), or 0xFFFFFFFF. -/
def idxWord (o : Option Nat) : Word := match o with | some k => wordN k | none => 0xFFFFFFFF

/-- Step 3: the error and the failing index. -/
def dirErr (img : ImageDesc) (schedOnly : Bool) : Nat × Word :=
  match dirFail img.header.sigOfs.toNat [] img.dir 0 with
  | some k => (6, wordN k)
  | none =>
    if img.dir.length ≠ img.header.nSection.toNat then (6, 0xFFFFFFFF)
    else if (requiredTypes schedOnly).any (fun t => (dirIndex img.dir t).isNone) then (6, 0xFFFFFFFF)
    else match (if schedOnly then img.dir.findIdx? (fun e => decide (2 < e.type.toNat)) else none) with
      | some k => (4, wordN k)
      | none => (0, 0xFFFFFFFF)

-- ## Step 4: the signature block (R91)

/-- Key slot, key hash, signature, rollback. -/
def signErr (img : ImageDesc) (otp : OtpSt) : Nat :=
  let slot := Tab.get ImageKeySlot.none otp.imageKeys img.header.keySlot.toNat
  firstErr
    [(decide (slot.state = .valid), 0x07), (decide (slot.hash = img.keyHash), 0x08), (img.sigOk, 0x09),
     (decide (otp.minSecver.toNat ≤ img.header.secver.toNat), 0x0A)]

-- ## Step 5: the schedule (R55 to R59, R75 to R77)

/-- The opcodes of Table 2.4. -/
def opcodeOk (op : Half) : Bool :=
  within 1 4 op.toNat || within 1 6 (op.toNat / 256)

/-- One directory entry's lists: the first error in list order. -/
def listErr (l : BeatList) : Nat :=
  firstErr
    [(decide (l.ops ≠ []), 0x11), (decide (l.budget ≠ 0), 0x11), (decide (l.budget.toNat ≤ 736000), 0x17),
     (l.ops.all (fun o => decide (o.opcode ≠ 0) && opcodeOk o.opcode), 0x1B),
     (l.ops.all (fun o => decide (o.flags.toNat < 2)), 0x11),
     (l.ops.all (fun o => decide (o.deadline = 0) || decide (o.opcode.toNat / 256 = 2)), 0x1C),
     (decide ((l.ops.filter (fun o => decide (o.opcode = 1))).length = 1) &&
        (match l.ops.getLast? with | some o => decide (o.opcode = 1) | none => false), 0x1D)]

/-- The first error of a list of beat lists. -/
def listsErr (ls : List BeatList) : Nat := ls.foldl (fun e l => if e = 0 then listErr l else e) 0

/-- An engine directory of a program whose period is `period` (R50, R56, R57). -/
def engineErr (dir : List EngineDir) (n period : Nat) : Nat :=
  let e := firstErr
    [(decide (dir.length = n), 0x16), (dir.all (fun d => decide (d.engine.toNat ≤ 13)), 0x16),
     (noDup (dir.map (fun d => d.engine.toNat)), 0x16), (dir.all (fun d => decide (d.beats.length = period)), 0x11)]
  if e ≠ 0 then e else dir.foldl (fun x d => if x = 0 then listsErr d.beats else x) 0

/-- Periods of R52. -/
def periodOk (p : Nat) : Bool := decide (p ≠ 0) && decide (1000 % p = 0)

/-- Table 2.2 in its order. -/
def bankErr (h : BankHeader) (imageId : Long) : Nat :=
  let watch := h.flags.getLsbD 0
  firstErr
    [(decide (h.imageId = imageId), 0x13), (decide (h.magic = 0x48435358), 0x10), (decide (h.format = 1), 0x11),
     (decide (h.compat ≠ 0), 0x12), (decide (h.imageId ≠ 0), 0x13), (decide (h.layoutSig ≠ 0), 0x14), (periodOk h.period.toNat, 0x15),
     (within 1 14 h.nEngine.toNat, 0x16), (decide (h.flags.toNat < 2), 0x11), (within 1 736000 h.worstCycles.toNat, 0x17),
     (decide (h.worstBeat.toNat < h.period.toNat), 0x17), (within 1 4096 h.nVariant.toNat, 0x18), (decide (h.nRange ≠ 0), 0x19),
     (decide (h.runDir ≠ 0), 0x11), (decide (watch ↔ h.watchDir ≠ 0), 0x11),
     (decide (h.variantOfs ≠ 0), 0x11), (decide (h.rangeOfs ≠ 0), 0x11), (decide (h.translateOfs = 0 ↔ h.nTranslate = 0), 0x11),
     (within 256 4194304 h.bankBytes.toNat, 0x1A), (within 1 8388608 h.compBytes.toNat, 0x1A),
     (within 1 15 h.ovrLimit.toNat, 0x11), (within 1 255 h.ovrRounds.toNat, 0x11), (h.reservedZero, 0x11)]

/-- R75, R76 and R283's rules on the variant table. -/
def variantsOk (s : Schedule) : Bool :=
  let vs := s.variants
  let nDev := match s.alc with | some a => a.devices.length | none => 48
  let azimuth := fun (k : Nat) => match s.alc with
    | some a => (match a.devices[k]? with | some d => decide (d.kind = 1) | none => false)
    | none => true
  decide (vs.length = s.header.nVariant.toNat) && rising (vs.map (fun v => v.id.toNat)) &&
    vs.all (fun v => decide (v.id.toNat ≤ 4095) && decide (v.nVar ≠ 0) && within 1 48 v.nDev.toNat && decide (v.structSig ≠ 0) &&
      decide (v.problem ≠ 0) && decide (v.proj = 0 ↔ v.nProj = 0) && decide (v.lossMask &&& v.lockMask = 0) &&
      (List.range 48).all (fun k => (!(maskBit v.lossMask k) || decide (k < nDev)) && (!(maskBit v.lockMask k) || (decide (k < nDev) && azimuth k)))) &&
    vs.all (fun v => decide (v.id ≠ 0) || (decide (v.lossMask = 0) && decide (v.lockMask = 0))) &&
    vs.any (fun v => decide (v.id = 0)) &&
    noDup (vs.map (fun v => v.lossMask.toNat * 2 ^ 48 + v.lockMask.toNat))

/-- R77. -/
def rangesOk (s : Schedule) : Bool :=
  decide (s.ranges.length = s.header.nRange.toNat) && rising (s.ranges.map (fun r => r.qid.toNat)) &&
    s.ranges.all (fun r => decide (r.qid ≠ 0) && decide (r.intBits ≠ 0) && decide (r.intBits.toNat + r.fracBits.toNat ≤ 32) &&
      decide (r.min.toInt ≤ r.max.toInt))

/-- A QID that the range table lists. -/
def schedHasQid (s : Schedule) (q : Half) : Bool := s.ranges.any (fun r => decide (r.qid = q))

-- ## Step 5: the companion tables, all with error FORMAT

/-- L of a converter: 0 off, or 10 to 2,000 and a divisor of 2,000 (R147). -/
def seqOk (l : Half) : Bool := decide (l = 0) || (within 10 2000 l.toNat && decide (2000 % l.toNat = 0))

/-- The converter's L of an AIN source. -/
def cndLenOf (t : CndTable) (src : Byte) : Nat := if src.toNat < 0x2C then t.seq0Len.toNat else t.seq1Len.toNat

/-- A source's kind: 0 bitstream, 1 and 2 the converters, 3 monitor, 4 none, 5 no source of Table 5.1. -/
def srcKind (src : Byte) : Nat :=
  if src.toNat < 0x20 then 0 else if src.toNat < 0x2C then 1 else if src.toNat < 0x38 then 2 else if src.toNat < 0x40 then 3
  else if src = 0xFF then 4 else 5

/-- A channel's input rate in kHz, and whether it is an integer (R146, R149). -/
def chainRate (t : CndTable) (e : CndEntry) : Nat × Bool :=
  match srcKind e.source with
  | 0 => let d := e.clkDiv.toNat * e.osr.toNat; if d = 0 then (0, false) else (800000 / d, decide (800000 % d = 0))
  | 1 | 2 => let l := cndLenOf t e.source; if l = 0 then (0, false) else (2000 / l, decide (2000 % l = 0))
  | 3 => (8, true)
  | _ => (0, true)

/-- Table 5.5's rules on one entry. -/
def cndEntryOk (t : CndTable) (e : CndEntry) : Bool :=
  let k := srcKind e.source
  if k = 4 then
    decide (e.altSource = 0xFF) && decide (e.sinc = 0) && decide (e.firKind = 0) && decide (e.osr = 0) && decide (e.clkDiv = 0) &&
      decide (e.dcbMhz = 0) && decide (e.maLen = 0) && decide (e.firTaps = 0) && decide (e.fastOsr = 0) && !e.freezeAtStart &&
      !e.autoFreeze && decide (e.seqPos = 0) && decide (e.stepThr = 0) && decide (e.firOfs = 0) && decide (e.gdFirMin = 0) &&
      decide (e.ovlSwitch = 0)
  else if k = 5 then false
  else
    let bs := decide (k = 0)
    let ain := decide (k = 1) || decide (k = 2)
    (if bs then (decide (e.sinc = 3) || decide (e.sinc = 4)) && within 8 256 e.osr.toNat && within 40 800 e.clkDiv.toNat && within 4 64 e.fastOsr.toNat
      else decide (e.sinc = 0) && decide (e.osr = 0) && decide (e.clkDiv = 0) && decide (e.fastOsr = 0)) &&
    (decide (e.altSource = 0xFF) || (if ain then (decide (srcKind e.altSource = 1) || decide (srcKind e.altSource = 2)) &&
      decide (cndLenOf t e.altSource = cndLenOf t e.source) else decide (srcKind e.altSource = k))) &&
    (if ain then decide (e.seqPos.toNat < cndLenOf t e.source) else decide (e.seqPos = 0)) &&
    decide (e.firKind.toNat ≤ 2) && (decide (e.dcbMhz = 0) || within 10 10000 e.dcbMhz.toNat) && within 1 1024 e.maLen.toNat &&
    decide (e.firTaps.toNat ≤ 64) && decide (e.firTaps = 0 ↔ e.firKind = 0) && decide (e.firOfs = 0 ↔ e.firKind = 0) &&
    decide (e.fir.length = e.firTaps.toNat) && (decide (e.firKind ≠ 1) || decide (e.fir.reverse = e.fir)) &&
    (if e.firKind = 2 then decide (e.gdFirMin ≠ 0) else decide (e.gdFirMin = 0)) &&
    decide (e.stepThr.toNat ≤ 0x7FFFFFFF) && decide (e.ovlSwitch.toNat ≤ 1000) &&
    (chainRate t e).2 && within 1 200 (chainRate t e).1

/-- Table 5.5. -/
def cndTableOk (t : CndTable) : Bool :=
  decide (t.magic = 0x444E4358) && decide (t.format = 1) && seqOk t.seq0Len && seqOk t.seq1Len && decide (t.entries.length = 64) &&
    t.entries.all (cndEntryOk t) && decide ((t.entries.map (fun e => (chainRate t e).1)).foldl (· + ·) 0 ≤ 5120) &&
    -- A source feeds at most four channels (R144); channels on one AIN source share its position, others do not.
    t.entries.all (fun e => decide (srcKind e.source = 4) || decide ((t.entries.filter (fun f => decide (f.source = e.source))).length ≤ 4)) &&
    t.entries.all (fun e => t.entries.all (fun f =>
      !(decide (srcKind e.source = 1 ∨ srcKind e.source = 2) && decide (srcKind f.source = srcKind e.source)) ||
        decide ((e.seqPos = f.seqPos) ↔ (e.source = f.source))))

/-- The bits of SIGNALS that name a code. -/
def gnsSignalMask : Word := 0x030F0F3F

/-- Table 6.10; `slot k` says that a compensator slot is used. -/
def gnsTableOk (t : GnsTable) (period : Nat) (watch : Bool) : Bool :=
  decide (t.magic = 0x534E4758) && decide (t.format = 1) && within 1 100 t.latchBeats.toNat && decide (period % t.latchBeats.toNat = 0) &&
    within 1 6 t.kSigma.toNat && decide (t.signals &&& ~~~ gnsSignalMask = 0) && within 1 20 t.cohMs.toNat && within 1 16 t.nonCoh.toNat &&
    decide (t.cohMs.toNat * t.nonCoh.toNat ≤ 80) && within 1000 20000 t.doppMax.toNat && decide (t.acqThr ≠ 0) && within 2000 4500 t.cn0Min.toNat &&
    within 10 200 t.pullBeats.toNat && decide (t.coastBeats ≠ 0) && decide (t.elevMask.toNat ≤ 45) && decide (t.exclMax.toNat ≤ 2) &&
    within 1 1000 t.rateSigma.toNat && decide (t.resThr ≠ 0) && within 10 1000000 t.clkJump.toNat && within 1 10000 t.clkDrift.toNat &&
    within 1 1000 t.doppThr.toNat && decide (t.xbandM ≠ 0) && decide (t.xantM ≠ 0) && decide (t.readmit ≠ 0) && decide (t.spoofClear ≠ 0) &&
    decide (t.spoofPhase ≠ 0) && within 1 100 t.fixResMm.toNat && (decide (t.notchDb = 0) || within 6 40 t.notchDb.toNat) &&
    (if t.burstBeats = 0 then !watch else within 20 100 t.burstBeats.toNat) && decide (t.burstBeat.toNat ≤ 999) &&
    decide (t.burstBeat.toNat + t.burstBeats.toNat ≤ 1000) && decide (t.streams.length = 12) && decide (t.antennas.length = 3) &&
    t.streams.all (fun s => decide (s.rate.toNat ≤ 4) && (decide (s.rate = 0) || decide (s.bits = 2) || decide (s.bits = 4))) &&
    decide (t.chans.length = 384) && t.chans.all (fun c => within 5 50 c.spacing.toNat) && decide (t.modelOfs ≠ 0)

/-- The cluster masks of Table 7.7. -/
def clustersOk (b : Byte) : Bool := [0x1, 0x2, 0x4, 0x8, 0x3, 0xC, 0xF].contains b.toNat

/-- Table 7.7 on one descriptor. -/
def problemOk (s : Schedule) (d : ProblemDesc) : Bool :=
  let qp := decide (d.kind = 1)
  let rowed := qp || within 3 4 d.kind.toNat
  decide (d.slot.toNat ≤ 255) && within 1 5 d.kind.toNat && clustersOk d.clusters && within 1 4096 d.n.toNat &&
    (if rowed then within 1 8192 d.m.toNat else decide (d.m.toNat ≤ 8192)) && decide (d.n.toNat + d.m.toNat ≤ 8192) &&
    decide (d.structSig ≠ 0) && decide (d.iter.toNat ≤ 1000) && decide (0 < d.pivotThr.toInt) && decide (d.pivotThr.toInt ≤ d.delta.toInt) &&
    decide (d.rho = 0 ↔ d.kind ≠ 1) && decide (d.loadCyc ≠ 0) && decide (d.iterCyc ≠ 0) &&
    (decide (d.factorCyc ≠ 0) || (decide (d.kind = 2) && decide (d.factorSrc ≠ 0))) && decide (d.patternOfs ≠ 0) && decide (d.permOfs ≠ 0) &&
    decide (d.dataOfs ≠ 0) && decide (d.resultOfs ≠ 0) && decide (d.qidX ≠ 0) && decide (d.qidD ≠ 0) && decide (d.qidRes ≠ 0) &&
    decide (d.qidAcc ≠ 0) && decide (d.qidY = 0 ↔ d.kind ≠ 1) && decide (d.qidRho = 0 ↔ d.kind ≠ 1) &&
    (decide (d.factorSrc = 0) || s.problems.any (fun e => decide (e.slot.toNat + 1 = d.factorSrc.toNat) && decide (e.clusters = d.clusters) &&
      decide (e.patternOfs = d.patternOfs) && decide (e.n = d.n) && decide (e.m = d.m)))

/-- The engine's positions in a beat list of an operation on a descriptor. -/
def opsOn (codes : List Nat) (ofs : Word) (l : List OpDesc) : List (Nat × OpDesc) :=
  ((List.range l.length).zip l).filter (fun x => codes.contains x.2.opcode.toNat && decide (x.2.operand = ofs))

/-- R219 on one beat list: the problem's cycles fit between its earliest NOT_BEFORE and its DEADLINE, and a factor that it takes has been
made earlier in the list. -/
def problemFits (s : Schedule) (d : ProblemDesc) (l : List OpDesc) : Bool :=
  let mine := opsOn [0x0201, 0x0202, 0x0203] d.ofs l
  let first := mine.foldl (fun (m : Nat) x => min m x.2.notBefore.toNat) (2 ^ 32)
  let need := d.loadCyc.toNat + d.factorCyc.toNat + d.iter.toNat * d.iterCyc.toNat
  let made := s.problems.any (fun e => decide (e.slot.toNat + 1 = d.factorSrc.toNat) &&
    (opsOn [0x0202] e.ofs l).any (fun x => mine.all (fun y => decide (x.1 < y.1) || decide (y.2.opcode = 0x0201))))
  mine.isEmpty || (mine.all (fun x => decide (first + need ≤ x.2.deadline.toNat)) && (decide (d.factorSrc = 0) || made))

/-- Table 7.4: the tables of one target share no FROM_SIG, and a MAP entry lies below the source's N or M. -/
def projOk (s : Schedule) (t : ProjTable) : Bool :=
  let src := s.problems.find? (fun d => decide (d.structSig = t.fromSig))
  let tgt := s.problems.find? (fun d => decide (d.structSig = t.toSig))
  decide (t.fromSig ≠ 0) && decide (t.mapX.length = t.nTo.toNat) && decide (t.mapR.length = t.mTo.toNat) &&
    (match tgt with | some d => decide (d.n = t.nTo) && decide (d.m = t.mTo) | none => false) &&
    (match src with
     | some d => t.mapX.all (fun k => decide (k = 0xFFFF) || decide (k.toNat < d.n.toNat)) &&
         t.mapR.all (fun k => decide (k = 0xFFFF) || decide (k.toNat < d.m.toNat))
     | none => true) &&
    decide ((s.projections.filter (fun u => decide (u.toSig = t.toSig) && decide (u.fromSig = t.fromSig))).length = 1)

/-- Table 8.1's slot range of a reference kind. -/
def estKindOk (kind : Byte) (k : Nat) : Bool :=
  match kind.toNat with
  | 0 => true | 1 => decide (k ≤ 15) | 2 => decide (k ≤ 15) | 3 => within 16 23 k | 4 => within 24 31 k | 5 => within 32 39 k | _ => false

/-- One entry of Table 8.8. -/
def estEntryOk (k : Nat) (e : EstEntry) : Bool :=
  estKindOk e.kind k &&
    (if e.kind = 0 then
      decide (e.side = 0) && decide (e.source = 0) && decide (e.leverX = 0) && decide (e.leverY = 0) && decide (e.leverZ = 0) &&
        decide (e.sigmaNom = 0) && decide (e.sigmaMax = 0) && decide (e.jumpLim = 0) && decide (e.freezeN = 0) && decide (e.readmit = 0) &&
        decide (e.staleBeats = 0) && decide (e.maxD = 0) && !e.useReported && !e.target
     else
      decide (e.side.toNat ≤ 2) && decide (e.source ≠ 0) && decide (e.sigmaNom ≠ 0) && decide (e.freezeN ≠ 1) && decide (e.readmit ≠ 0) &&
        within 1 10000 e.staleBeats.toNat && decide (e.maxD.toNat ≤ 8))

/-- Table 8.8. -/
def estTableOk (t : EstTable) : Bool :=
  decide (t.magic = 0x54534558) && decide (t.format = 1) && within 1 256 t.slotUpd.toNat && within 1 256 t.slotCov.toNat &&
    within 1 1000 t.initBeats.toNat && within 1 60000 t.drLimit.toNat && decide (t.drLimitWatch.toNat ≤ 60000) && decide (t.medMm.toNat ≤ 50000) &&
    decide (t.driftMm.toNat ≤ 50000) && within 10 60000 t.driftTc.toNat && within 3 16 t.medMin.toNat && decide (t.modelOfs ≠ 0) &&
    decide (t.omega0.length = 3) && t.omega0.all (fun w => within 300 1600 w.toNat) && decide (t.zeta.length = 3) &&
    t.zeta.all (fun w => within 10 500 w.toNat) && decide (t.initState.length = 17) && decide (t.motMed.length = 6) &&
    decide (t.entries.length = 40) && (List.range 40).all (fun k => match t.entries[k]? with | some e => estEntryOk k e | none => false)

/-- Table 9.8. -/
def cameraOk (c : CameraCfg) : Bool :=
  if c.lanes = 0 then
    decide (c.vc = 0) && decide (c.dataType = 0) && decide (c.width = 0) && decide (c.height = 0) && decide (c.laneMbps = 0) &&
      decide (c.embTsLine = 0) && decide (c.fsOffset = 0)
  else
    [1, 2, 4].contains c.lanes.toNat && decide (c.vc.toNat ≤ 3) && [0x1E, 0x24, 0x2A, 0x2B, 0x2C].contains c.dataType.toNat &&
      within 1 4096 c.width.toNat && within 1 4096 c.height.toNat && decide (c.width.toNat * c.height.toNat ≤ 8388608) &&
      within 80 2500 c.laneMbps.toNat && decide (c.embTsLine.toNat ≤ 4) && decide (c.fsOffset.toNat ≤ 100000000)

/-- A lidar entry of Table 9.7 with Table 9.1. -/
def lidarOk (c : LidarCfg) : Bool :=
  if c.mode = 0 then
    decide (c.port = 0) && decide (c.udpPort = 0) && decide (c.intOfs = 0) && decide (c.hdrBytes = 0) && decide (c.stride = 0) &&
      decide (c.coordOfs = 0) && decide (c.ptimeOfs = 0) && decide (c.tsOfs = 0) && decide (c.scaleUm = 0) && decide (c.sweepMax = 0)
  else
    decide (c.mode.toNat ≤ 2) && (decide (c.port = 0x10) || decide (c.port = 0x11)) && decide (c.udpPort ≠ 0) && within 8 64 c.stride.toNat &&
      within 1 10000 c.scaleUm.toNat && within 1024 262144 c.sweepMax.toNat

/-- Is source `s` of the Luna table enabled? -/
def lunaOn (t : LunaTable) (s : Nat) : Bool :=
  if s < 4 then (match t.cameras[s]? with | some c => decide (c.lanes ≠ 0) | none => false)
  else (match t.lidars[s - 4]? with | some c => decide (c.mode ≠ 0) | none => false)

/-- Table 9.7. -/
def lunaTableOk (t : LunaTable) : Bool :=
  decide (t.magic = 0x44524758) && decide (t.format = 1) && decide (t.cell.toNat ≤ 3) && within 1 16 t.nClass.toNat &&
    decide (t.classCh.toNat + t.nClass.toNat ≤ 16) && within 1 65534 t.ageMax.toNat && decide (t.detCh.toNat ≤ 15) && decide (t.ofsXCh.toNat ≤ 15) &&
    decide (t.ofsYCh.toNat ≤ 15) && decide (t.classCh.toNat ≤ 15) && within 1 t.birthM.toNat t.birthN.toNat && decide (t.confK ≠ 0) &&
    decide (t.missMax ≠ 0) && decide (t.gate ≠ 0) && within 1 100000 t.detSig.toNat && within 1 100000 t.confSig.toNat &&
    decide (t.cameras.length = 4) && decide (t.lidars.length = 4) && t.cameras.all cameraOk && t.lidars.all lidarOk &&
    (List.range 8).all (fun s =>
      let g := (t.gain.getD s 0).toNat
      let f := (t.frameBeats.getD s 0).toNat
      let q := (t.quota.getD s 0).toNat
      if lunaOn t s then within 1 256 g && within 1 8 f && within 4112 1052672 q else decide (g = 0) && decide (f = 0) && decide (q = 0))

/-- Does a binary angle lie in the arc of a sector? -/
def arcHas (s : SectorCfg) (a : Word) : Bool := decide ((a - s.start).toNat ≤ s.width.toNat)

/-- Do two sectors overlap? -/
def arcsMeet (a b : SectorCfg) : Bool := arcHas a b.start || arcHas b a.start

/-- The free arc between one sector's end and the next start, over the sectors of a device. -/
def freeArc (l : List SectorCfg) (s : SectorCfg) : Nat :=
  (l.map (fun t => ((t.start - s.start - s.width).toNat))).foldl min (2 ^ 32 - s.width.toNat)

/-- Table 10.3 and the sector rules on one device. -/
def alcDevOk (d : AlcDevCfg) : Bool :=
  let az := decide (d.kind = 1)
  let mr := decide (d.kind = 3)
  let turn := az || mr
  within 1 4 d.kind.toNat && within 1 10000000 d.rated.toNat && (!turn || decide (d.dir = 0)) && decide (d.tRate ≠ 0) &&
    (if turn then decide (d.aRate ≠ 0) && decide (d.tMinAngle ≠ 0) else decide (d.aRate = 0)) &&
    (if mr then decide (d.aMax ≠ 0) && decide (d.aMax.toNat < 2 ^ 30) && decide (d.liftAhead ≠ 0) else decide (d.aMax = 0) && decide (d.liftAhead = 0)) &&
    decide (d.wPower ≠ 0) && decide (d.fbSide.toNat ≤ 2) && (decide (d.lockBeats = 0) || decide (d.lockTol ≠ 0)) &&
    decide (d.fbTimeout.toNat ≤ 1000) && decide (d.sectors.length ≤ 4) && (az || decide (d.sectors = [])) &&
    d.sectors.all (fun s => decide (s.width ≠ 0) && (decide (s.kind = 1) || decide (s.kind = 2))) &&
    (List.range d.sectors.length).all (fun i => (List.range i).all (fun j =>
      match d.sectors[i]?, d.sectors[j]? with | some a, some b => !(a.atStart && b.atStart && arcsMeet a b) | _, _ => true)) &&
    (decide (d.sectors = []) || d.sectors.any (fun s => decide (2 * d.aRate.toNat ≤ 1000 * freeArc d.sectors s)))

/-- Table 10.2. -/
def alcTableOk (t : AlcTable) : Bool :=
  let rated := (t.devices.map (fun d => d.rated.toNat)).foldl (· + ·) 0
  let mom := (t.devices.map (fun d => d.rated.toNat * (d.posX.natAbs + d.posY.natAbs))).foldl (· + ·) 0
  decide (t.magic = 0x434C4158) && decide (t.format = 1) && within 1 48 t.devices.length && decide (t.groups.length ≤ 8) && within 1 256 t.slot.toNat &&
    within 1 1000 t.sectorPress.toNat && decide (t.forceRef ≠ 0) && decide (rated ≤ t.forceRef.toNat) && decide (t.momentRef ≠ 0) &&
    decide (mom ≤ 10000 * t.momentRef.toNat) && decide (t.wSlack.length = 3) && t.wSlack.all (fun w => decide (w ≠ 0)) &&
    (decide (t.slackWarn = 0) || within 1 60000 t.slackWarnBeats.toNat) && t.devices.all alcDevOk && t.groups.all (fun g => decide (g.limitN ≠ 0))

/-- Table 11.1's kinds of an INPUT word. -/
def inputOk (w : Word) : Bool :=
  let k := bits w 31 28
  let i := bits w 27 0
  match k with
  | 1 => decide (i ≠ 0) | 2 => decide (i ≠ 0) | 3 => decide (i < 2048) | 4 => decide (i < 6) | 5 => decide (i < 768) | 6 => decide (i < 64)
  | 7 => decide (i < 32) | _ => false

/-- Table 11.2 on one slot. -/
def slotOk (s : Schedule) (c : SlotCfg) : Bool :=
  if c.order = 0 then
    decide (c.tag = 0) && decide (c.perBeat = 0) && decide (c.flags = 0) && decide (c.every = 0) && decide (c.phase = 0) && decide (c.input = 0) &&
      decide (c.qidX = 0) && decide (c.qidY = 0) && c.b.all (· = 0) && c.a.all (· = 0) && c.sb.all (· = 0) && c.sa.all (· = 0) &&
      decide (c.outMin = 0) && decide (c.outMax = 0) && decide (c.stateMin = 0) && decide (c.stateMax = 0)
  else
    (decide (c.order = 2) || decide (c.order = 3)) && (decide (c.tag = 1) || decide (c.tag = 2)) &&
      (if c.perBeat = 0 then within 2 1000 c.every.toNat && decide (s.header.period.toNat % c.every.toNat = 0) && decide (c.phase.toNat < c.every.toNat)
       else [1, 2, 4, 8].contains c.perBeat.toNat && decide (c.every = 0) && decide (c.phase = 0)) &&
      decide (c.flags.toNat < 16) && decide (c.flags.toNat / 4 % 4 < 3) && inputOk c.input && decide (c.qidX ≠ 0) && decide (c.qidY ≠ 0) &&
      (decide (c.order = 3) || (decide (c.b.getD 3 0 = 0) && decide (c.a.getD 2 0 = 0))) && c.sb.all (· ≤ 31) && c.sa.all (· ≤ 31) &&
      decide (c.outMin < c.outMax) && decide (c.stateMin ≤ c.outMin) && decide (c.outMax ≤ c.stateMax)

/-- The slots that sum lists, winches, stabilisers and the GNSS table name. -/
def namedSlots (s : Schedule) (t : CtlTable) : List Nat :=
  let one := fun (h : Half) => if h = 0 then ([] : List Nat) else [h.toNat - 1]
  t.sumList.flatMap (fun l => l.flatMap one) ++ t.winches.flatMap (fun w => one w.tension ++ one w.ahc) ++ t.stabs.flatMap (fun b => one b.slot) ++
    (match s.gns with
     | some g => g.chans.flatMap (fun c => [c.delaySlot, c.carrierSlot].filterMap (fun h => if h = 0xFFFF then none else some h.toNat))
     | none => [])

/-- R304: the input kinds of a slot's tag, a PAIR slot's input slots being PAIR. -/
def slotTagOk (t : CtlTable) (c : SlotCfg) : Bool :=
  let k := bits c.input 31 28
  if c.tag = 1 then
    [1, 2, 4, 7].contains k || (decide (k = 3) && (match t.slots[bits c.input 27 0]? with | some x => decide (x.tag = 1) | none => false))
  else if c.tag = 2 then [2, 3, 5, 6].contains k
  else decide (c.order = 0)

/-- Is a slot used, and PAIR? -/
def slotUsed (t : CtlTable) (k : Nat) : Bool := match t.slots[k]? with | some c => decide (c.order ≠ 0) | none => false
def slotPair (t : CtlTable) (k : Nat) : Bool := match t.slots[k]? with | some c => decide (c.tag = 1) | none => false

/-- Table 11.9 with R306, R310 and R323. -/
def ctlTableOk (s : Schedule) (t : CtlTable) : Bool :=
  let joyOk := decide (t.joyField = 0) ||
    (within 1 1000 t.joyTimeout.toNat && t.joyScale.all (fun w => decide (w ≠ 0)) && decide (t.joyScale.length = 3) &&
      (match s.msg with
       | some m => (match m.fields[t.joyField.toNat - 1]? with | some f => decide (f.length = 6) && decide (f.format = 5) | none => false)
       | none => false))
  decide (t.magic = 0x4C544358) && decide (t.format = 1) && within 1 2048 t.slots.length && within 1 16 t.posMin.toNat &&
    decide (t.winches.length ≤ 32) && decide (t.stabs.length ≤ 8) && t.ffWind.all (fun w => decide (w.toNat ≤ 16384)) &&
    t.ffCurrent.all (fun w => decide (w.toNat ≤ 16384)) && joyOk && within 1 10000 t.tgtLossBeats.toNat && within 1 50000 t.vMaxPos.toNat &&
    within 1 5000 t.aMaxPos.toNat && decide (t.vMaxPsi ≠ 0) && decide (t.aMaxPsi ≠ 0) && within 1 1000 t.eDoneMm.toNat && decide (t.eDoneAng ≠ 0) &&
    t.slots.all (slotOk s) && t.slots.all (slotTagOk t) &&
    t.winches.all (fun w => within 1 3 w.outKind.toNat && within 1 50000 w.speedMax.toNat) &&
    t.stabs.all (fun b => within 1 2 b.kind.toNat && within 1 3 b.outKind.toNat && decide (b.slot ≠ 0)) &&
    (namedSlots s t).all (slotUsed t) && noDup (namedSlots s t) &&
    t.sumList.all (fun l => l.all (fun h => decide (h = 0) || slotPair t (h.toNat - 1)))

/-- LEN values of Table 13.1. -/
def lenOk (n : Nat) (fd : Bool) : Bool := decide (n ≤ 8) || (fd && [12, 16, 20, 24, 32, 48, 64].contains n)

/-- Table 13.1 on one entry. -/
def msgEntryOk (m : MsgTable) (period : Nat) (e : MsgEntry) : Bool :=
  (e.ident.getLsbD 29 || decide (e.ident.toNat % 2 ^ 29 < 0x800)) && decide (e.ident.toNat < 2 ^ 30) && maskBit m.chEnable e.channel.toNat &&
    (!e.brs || e.fd) && (!e.command || e.tx) && lenOk e.len.toNat e.fd && (!e.command || (decide (2 ≤ e.len.toNat) && decide (e.node ≠ 0xFFFF))) &&
    (decide (e.node = 0xFFFF) || decide (e.node.toNat < 2048)) && decide (e.ring.toNat ≤ 64) &&
    (if e.tx then
      decide (e.capture = 0) && decide (e.bufWin.toNat < 32) && within 1 1000 e.quotaEvery.toNat && decide (period % e.quotaEvery.toNat = 0) &&
        decide (e.phase.toNat < e.quotaEvery.toNat)
     else
      decide (e.capture.toNat ≤ 1) && decide (e.bufWin.toNat % 2 ^ 15 < 512) && decide (e.phase = 0) &&
        (if e.capture = 1 then decide (e.quotaEvery ≠ 0) else decide (e.quotaEvery = 0)))

/-- R357 to R359. -/
def msgTableOk (m : MsgTable) (period : Nat) : Bool :=
  decide (m.magic = 0x47534D58) && decide (m.format = 1) && decide (m.entries.length ≤ 16384) && decide (m.fields.length ≤ 8191) &&
    decide (m.outFields.length ≤ 8191) && m.entries.all (msgEntryOk m period) &&
    noDup ((m.entries.filter (fun e => !e.tx)).map (fun e => e.channel.toNat * 2 ^ 32 + e.ident.toNat)) &&
    m.fields.all (fun f => within 1 8 f.length.toNat && within 1 5 f.format.toNat &&
      (f.source.getLsbD 15 || (match m.entries[f.source.toNat]? with | some e => !e.tx | none => false))) &&
    m.outFields.all (fun f => within 1 4 f.length.toNat && within 1 6 f.srcKind.toNat &&
      (match m.entries[f.entry.toNat]? with
       | some e => e.tx && decide (f.offset.toNat + f.length.toNat ≤ e.len.toNat) && (!e.command || decide (2 ≤ f.offset.toNat))
       | none => false)) &&
    (List.range m.outFields.length).all (fun i => (List.range i).all (fun j =>
      match m.outFields[i]?, m.outFields[j]? with
      | some a, some b => decide (a.entry ≠ b.entry) || decide (a.offset.toNat + a.length.toNat ≤ b.offset.toNat) ||
          decide (b.offset.toNat + b.length.toNat ≤ a.offset.toNat)
      | _, _ => true))

/-- Table 14.4. -/
def hostTableOk (t : HostTable) : Bool :=
  decide (t.magic = 0x54534858) && decide (t.format = 1) && decide (t.regions.length ≤ 256) && decide (t.userQids.length ≤ 256) &&
    noDup (t.regions.map (fun r => r.id.toNat)) &&
    t.regions.all (fun r => decide (r.id ≠ 0) && within 1 3 r.role.toNat && within 4 65536 r.length.toNat && decide (r.length.toNat % 4 = 0))

/-- Table 17.2. -/
def rateTableOk (t : RateTable) : Bool :=
  decide (t.magic = 0x43455258) && decide (t.format = 1) && decide (t.entries.length ≤ 1024) && rising (t.entries.map (fun e => e.code.toNat)) &&
    t.entries.all (fun e => decide (e.code.toNat % 256 ≠ 0) && decide (e.code ≠ 0x0D07) && within 1 255 e.burst && within 1 3600000 e.refillMs)

/-- Table 18.3. -/
def powerTableOk (t : PowerTable) : Bool :=
  decide (t.magic = 0x52575058) && decide (t.format = 1) && decide (t.idleMs.length = 4) && t.idleMs.all (fun w => decide (w.toNat ≤ 60000))

/-- A check of a part that may be absent. -/
def optOk {α : Type} (o : Option α) (f : α → Bool) : Bool := match o with | some a => f a | none => true

/-- SCHED_BANK and SCHED_COMP. -/
def schedErr (s : Schedule) (imageId : Long) : Nat :=
  let h := s.header
  let e := bankErr h imageId
  if e ≠ 0 then e
  else
    let e2 := if s.dirBad || s.dirty then 0x11 else engineErr s.runDir h.nEngine.toNat h.period.toNat
    if e2 ≠ 0 then e2
    else
      let e3 := if h.flags.getLsbD 0 then engineErr s.watchDir h.nEngine.toNat 1000 else 0
      if e3 ≠ 0 then e3
      else firstErr
        [(variantsOk s, 0x18), (rangesOk s, 0x19),
         (decide (s.translate.length = h.nTranslate.toNat) && s.translate.all (fun t => transTableOk t h.layoutSig), 0x14),
         (s.problems.all (problemOk s), 0x11),
         (s.problems.all (fun d => (s.runDir ++ s.watchDir).all (fun e => e.beats.all (fun b => problemFits s d b.ops))), 0x11), (s.projections.all (projOk s), 0x11), (optOk s.cnd cndTableOk, 0x11),
         (optOk s.gns (fun g => gnsTableOk g h.period.toNat (h.flags.getLsbD 0)), 0x11), (optOk s.est estTableOk, 0x11), (optOk s.luna lunaTableOk, 0x11),
         (optOk s.alc alcTableOk, 0x11), (optOk s.ctl (ctlTableOk s), 0x11), (optOk s.msg (fun m => msgTableOk m h.period.toNat), 0x11),
         (optOk s.host hostTableOk, 0x11), (optOk s.rate rateTableOk, 0x11), (optOk s.pair pairTableOk, 0x11), (optOk s.power powerTableOk, 0x11)]

-- ## Step 5: the other sections

/-- Does the schedule hold a Luna operation? -/
def schedHasLuna (s : Schedule) : Bool :=
  (s.runDir ++ s.watchDir).any (fun d => d.beats.any (fun b => b.ops.any (fun o => decide (o.opcode.toNat / 256 = 5))))

/-- One layer's rules (Table 9.2, R257, R258). -/
def layerOk (l : LunLayer) : Bool :=
  within 1 4096 l.outH && within 1 4096 l.outW && within 1 1024 l.outC && !l.refBad && decide (-128 ≤ l.zpOut) && decide (l.zpOut ≤ 127) &&
    (match l.op.toNat with
     | 1 | 2 => [1, 3, 5, 7].contains l.kernel && [1, 2].contains l.stride && [1, 2, 4].contains l.dilation && decide (l.pad ≤ 3) &&
         l.mult.all (fun m => decide (0 ≤ m) && decide (m ≤ 0x7FFFFFFF)) && l.shift.all (· ≤ 31) && (decide (l.actLo = -128) || decide (l.actLo = l.zpOut))
     | 3 => [2, 3].contains l.kernel && [1, 2].contains l.stride
     | 4 => decide (l.inputs.length = 2)
     | 5 => decide (2 ≤ l.inputs.length)
     | 6 | 0x10 | 0x11 | 0x12 => true
     | 0x13 => decide (l.outC = 16)
     | _ => false)

/-- R257, R259. -/
def lunaOk (w : LunWeights) : Bool :=
  decide (w.magic = 0x4E554C58) && decide (w.nets.length ≤ 8) && noDup (w.nets.map (fun n => n.source.toNat)) &&
    w.nets.all (fun n => decide (n.source.toNat ≤ 7) && decide (n.live ≤ 12582912) && n.layers.all layerOk &&
      (match n.layers.getLast? with | some l => decide (l.op = 0x13) | none => false))

/-- R280: a network for every source that the table enables. -/
def lunaNetsOk (t : Option LunaTable) (w : Option LunWeights) : Bool :=
  optOk t (fun x => (List.range 8).all (fun s => !lunaOn x s ||
    (match w with | some y => y.nets.any (fun n => decide (n.source.toNat = s)) | none => false)))

/-- R271. -/
def calOk (c : CalBaseline) : Bool :=
  decide (c.magic = 0x4C414358) && decide (c.format = 1) && within 1 8 c.entries.length && within 1 1000 c.stepMm.toNat && within 1 1000 c.devMm.toNat &&
    decide (c.stepAng ≠ 0) && decide (c.devAng ≠ 0) && c.entries.all (fun e => decide (e.sensor.toNat ≤ 7) && decide (e.params.length = 6)) &&
    noDup (c.entries.map (fun e => e.sensor.toNat))

/-- The kinds that suit an output's number (Table 12.1, R331). -/
def outKindOk (k : Nat) (kind : Byte) : Bool :=
  match kind.toNat with
  | 0 => true | 1 => decide (k ≤ 15) | 2 | 3 => within 16 47 k | 4 | 5 | 6 | 7 => within 48 111 k | _ => false

/-- Table 12.2's index of a source kind. -/
def outSrcOk (kind : Byte) (idx : Half) : Bool :=
  match kind.toNat with
  | 1 => decide (idx.toNat < 2048) | 2 => decide (idx ≠ 0) | 3 | 4 => decide (idx.toNat < 48) | 5 => decide (idx.toNat < 32) | 6 => decide (idx.toNat < 8)
  | 7 => decide (idx = 0) | _ => false

/-- Table 12.6 on one output. -/
def outEntryOk (k : Nat) (c : OutCfg) : Bool :=
  let kind := c.kind.toNat
  outKindOk k c.kind &&
    (if kind = 0 then
      decide (c.srcKind = 0) && decide (c.srcIndex = 0) && decide (c.gain = 0) && decide (c.shift = 0) && !c.latchFail && !c.sync && !c.invert &&
        decide (c.holdLimit = 0) && decide (c.offset = 0) && decide (c.minCode = 0) && decide (c.maxCode = 0) && decide (c.failKind = 0) &&
        decide (c.safeLink = 0) && decide (c.slew = 0) && decide (c.periodTicks = 0) && decide (c.failCode = 0)
     else
      let driven := within 1 5 kind
      let coded := within 1 3 kind
      (if driven then outSrcOk c.srcKind c.srcIndex && within 2 500 c.holdLimit.toNat && within 1 4 c.failKind.toNat
       else decide (c.srcKind = 0) && decide (c.holdLimit = 0)) &&
      decide (c.shift ≤ 31) && (decide (kind = 2) || !c.sync) && (within 4 7 kind || !c.invert) &&
      (match kind with
       | 1 | 2 => decide (c.minCode.toNat ≤ 65535) && decide (c.maxCode.toNat ≤ 65535)
       | 3 => decide (75 ≤ c.minCode.toNat) && decide (c.maxCode.toNat ≤ 625000000)
       | _ => true) &&
      decide (c.minCode.toNat ≤ c.maxCode.toNat) &&
      (match c.failKind.toNat with
       | 1 => coded && within c.minCode.toNat c.maxCode.toNat c.failCode.toNat
       | 2 => decide (c.failCode = 0) && (!driven || decide (kind ≠ 1))
       | 3 => decide (c.failCode = 0) && [2, 3, 4].contains kind
       | _ => decide (c.failCode = 0)) &&
      (if kind = 2 then within 2 16777215 c.periodTicks.toNat && (!c.sync || decide (25000 % c.periodTicks.toNat = 0)) else decide (c.periodTicks = 0)))

/-- A segment of Table 12.5. -/
def segOk (biasOff : Bool) (s : SegCfg) : Bool :=
  if biasOff then decide (s.kind = 0) && decide (s.bitNo = 0) && decide (s.blink = 0) && decide (s.fbBlink = 0) && !s.fbOn && decide (s.arg = 0)
  else
    match s.kind.toNat with
    | 0 | 1 | 6 => decide (s.arg = 0)
    | 2 => decide (s.arg.toNat ≤ 4)
    | 3 => decide (s.arg.toNat ≤ 4)
    | 4 => within 1 65535 s.arg.toNat && decide (s.bitNo.toNat ≤ 31)
    | 5 => decide (s.arg = 0) && decide (s.bitNo.toNat ≤ 4)
    | _ => false

/-- R335: outputs that name a winch or stabiliser, against the control table. -/
def outLoopsOk (ctl : Option CtlTable) (outs : List OutCfg) : Bool :=
  let users := fun (srcKind : Nat) (idx : Nat) => (List.range outs.length).filter (fun k => match outs[k]? with
    | some o => decide (o.srcKind.toNat = srcKind) && decide (o.srcIndex.toNat = idx) | none => false)
  let want := fun (outKind : Byte) (outIndex : Half) => match outKind.toNat with
    | 2 => [outIndex.toNat] | 3 => [outIndex.toNat] | _ => ([] : List Nat)
  let nW := match ctl with | some c => c.winches.length | none => 0
  let nS := match ctl with | some c => c.stabs.length | none => 0
  (List.range 32).all (fun w =>
    if w < nW then (match ctl with
      | some c => (match c.winches[w]? with | some e => decide (users 5 w = want e.outKind e.outIndex) | none => true)
      | none => true)
    else decide (users 5 w = [])) &&
  (List.range 8).all (fun w =>
    if w < nS then (match ctl with
      | some c => (match c.stabs[w]? with | some e => decide (users 6 w = want e.outKind e.outIndex) | none => true)
      | none => true)
    else decide (users 6 w = []))

/-- Table 12.6 with R331 and R335. -/
def outTableOk (ctl : Option CtlTable) (t : OutTable) : Bool :=
  decide (t.magic = 0x54554F58) && decide (t.format = 1) && decide (t.annBias.toNat ≤ 2) &&
    (if t.annBias = 2 then decide (t.vlcdCode.toNat ≤ 26) else decide (t.vlcdCode = 0)) && decide (t.refresh.toNat ≤ 3) && decide (t.loopCount ≠ 0) &&
    decide (t.outputs.length = 112) && decide (t.segments.length = 192) &&
    (List.range 112).all (fun k => match t.outputs[k]? with | some c => outEntryOk k c | none => false) &&
    t.segments.all (segOk (decide (t.annBias = 0))) && outLoopsOk ctl t.outputs

/-- Table 14.6. -/
def netOk (period : Nat) (t : NetCfg) : Bool :=
  decide (t.magic = 0x54454E58) && decide (t.format = 1) && within 1 100 t.streamInterval.toNat && decide (period % t.streamInterval.toNat = 0) &&
    decide (t.streamSlot.toNat ≤ 7) && within 10 3600 t.idleS.toNat && decide (t.ptpMaster.toNat < 16) && decide (t.mtu.toNat ≤ 1) &&
    within 1 64 t.cmdQueue.toNat && within 1 16 t.cmdPerBeat.toNat && decide (t.ports.length = 4) && decide (t.dests.length = 4) &&
    (match t.ports[0]? with | some p => decide (p.address ≠ 0) | none => false) &&
    t.ports.all (fun p => (decide (p.address = 0) || within 8 30 p.prefixLen.toNat) && decide (p.vlan.toNat ≤ 4094)) &&
    t.dests.all (fun d => decide (d.address = 0) || (within 1 3 d.ports.toNat && decide (d.ttl ≠ 0)))

/-- R394: no port is a slave and a master port. -/
def portsApart (n : NetCfg) (t : Option TimeCfg) : Bool :=
  match t with | some c => decide (c.ptpPorts &&& n.ptpMaster = 0) | none => true

/-- The µs an EXCLUSIVE window of a channel needs at the channel's rates. -/
def chanNeed (m : Option MsgTable) (c : Nat) (g : ChanCfg) (w : Nat) : Option Nat :=
  match m with | some t => exclusiveNeed t c g.nom.toNat g.data.toNat w | none => none

/-- An identifier word of R388 with its low 29 bits in range. -/
def idOk (w : Word) : Bool := w.getLsbD 30 && (w.getLsbD 29 || decide (w.toNat % 2 ^ 29 < 0x800)) && decide (w.toNat < 2 ^ 31)

/-- The identifiers the device transmits on a channel. -/
def txIds (m : Option MsgTable) (c : Nat) (g : ChanCfg) : List Nat :=
  [g.refId, g.lifeId, g.amdQueryId].map (fun w => w.toNat % 2 ^ 29) ++
    (match m with
     | some t => (t.entries.filter (fun e => e.tx && decide (e.channel.toNat = c))).map (fun e => e.ident.toNat % 2 ^ 29)
     | none => [])

/-- A window named by a channel entry: ARBITRATING or EXCLUSIVE, and any window on a ROLE NONE channel. -/
def winNamedOk (g : ChanCfg) (ws : List Word) (w : Nat) : Bool :=
  decide (g.role = 0) || decide (winKind (ws.getD w 0) = 2) || decide (winKind (ws.getD w 0) = 3)

/-- R388's rules on one enabled channel, with R363 and R373. -/
def chanOk (m : Option MsgTable) (c : Nat) (ws : List Word) (g : ChanCfg) : Bool :=
  decide (g.role.toNat ≤ 2) && within 1 5 g.nom.toNat && decide (g.data.toNat ≤ 5) && within 1 4 g.nomDefault.toNat && decide (g.dataDefault.toNat ≤ 4) &&
    decide (g.arbMax ≠ 0) && decide (2 ≤ g.replyBeats.toNat) && (decide (g.role = 0) || idOk g.refId) && idOk g.lifeId && idOk g.amdQueryId &&
    idOk g.amdAnswerBase && (g.amdAnswerBase.getLsbD 29 || decide (g.amdAnswerBase.toNat % 2 ^ 29 + 127 < 0x800)) &&
    decide (g.amdAnswerBase.toNat % 2 ^ 29 + 127 < 2 ^ 29) && winNamedOk g ws g.lifeWindow.toNat && winNamedOk g ws g.amdWindow.toNat &&
    (decide (g.hostWindow = 0xFF) || winNamedOk g ws g.hostWindow.toNat) && decide (g.refSilent ≠ 0) && within 5 1000 g.freshPropose.toNat &&
    decide (g.syncOffer ≠ 0) && windowsOk g.role ws (chanNeed m c g) && (txIds m c g).all (fun i => decide (i < g.amdAnswerBase.toNat % 2 ^ 29))

/-- A channel entry that is all zero. -/
def chanOff (g : ChanCfg) : Bool :=
  decide (g.role = 0) && decide (g.nom = 0) && decide (g.data = 0) && !g.autoRecover && !g.shared && decide (g.nomDefault = 0) && decide (g.dataDefault = 0) &&
    decide (g.arbMax = 0) && decide (g.replyBeats = 0) && decide (g.refId = 0) && decide (g.lifeId = 0) && decide (g.amdQueryId = 0) &&
    decide (g.amdAnswerBase = 0) && decide (g.lifeWindow = 0) && decide (g.amdWindow = 0) && decide (g.hostWindow = 0) && decide (g.refSilent = 0) &&
    decide (g.freshPropose = 0) && decide (g.syncOffer = 0)

/-- A ring of Table 13.8 and R383. -/
def ringOk (r : RingCfg) : Bool :=
  if r.depth = 0 then decide (r.entryBytes = 0) && decide (r.producer = 0) && decide (r.consumer = 0) && decide (r.stale = 0) && decide (r.take = 0) && decide (r.serPort = 0)
  else
    within 1 256 r.depth.toNat && within 16 256 r.entryBytes.toNat && decide (r.entryBytes.toNat % 16 = 0) && within 1 3 r.producer.toNat &&
      within 3 6 r.consumer.toNat && (if r.consumer = 5 then decide (r.take ≠ 0) else decide (r.take = 0)) &&
      (if r.consumer = 6 then decide (r.serPort.toNat ≤ 11) else decide (r.serPort = 0))

/-- A sentence entry of R388. -/
def sentOk (s : SentCfg) : Bool :=
  let es := decide (s.port = 0x10) || decide (s.port = 0x11)
  (decide (s.port.toNat ≤ 11) || es) && within 1 9 s.decode.toNat && decide (s.capture.toNat ≤ 2) && decide (s.ring.toNat ≤ 64) &&
    (decide (s.capture = 0) || decide (s.quota ≠ 0)) && (es || (decide (s.group = 0) && decide (s.udpPort = 0))) &&
    s.fields.all (fun f => decide (f.toNat ≤ 30)) && s.scales.all (fun k => decide (-6 ≤ k) && decide (k ≤ 6))

/-- R388: NODE_TABLE, against the message table's CH_ENABLE. -/
def nodeTableOk (m : Option MsgTable) (t : NodeTable) : Bool :=
  let en := fun (c : Nat) => match m with | some x => maskBit x.chEnable c | none => false
  decide (t.magic = 0x45444E58) && decide (t.format = 1) && decide (t.nodes.length ≤ 2048) && decide (t.sentences.length ≤ 256) &&
    decide (t.serRate.length = 12) && t.serRate.all (fun r => decide (r.toNat ≤ 5)) && decide (t.channels.length = 16) && decide (t.windows.length = 512) &&
    decide (t.rings.length = 64) &&
    (List.range 16).all (fun c => match t.channels[c]? with
      | some g => if en c then chanOk m c ((t.windows.drop (32 * c)).take 32) g else chanOff g
      | none => false) &&
    t.rings.all ringOk && t.sentences.all sentOk &&
    t.nodes.all (fun n => decide (n.channel.toNat < 16) && en n.channel.toNat && decide (n.address.toNat ≤ 127) && decide (n.syncReq.toNat ≤ 2) &&
      (match t.channels[n.channel.toNat]? with | some g => within g.freshPropose.toNat 1000 n.freshMax.toNat | none => false)) &&
    noDup (t.nodes.map (fun n => n.channel.toNat * 128 + n.address.toNat))

/-- Table 4.3. -/
def timeCfgOk (t : TimeCfg) : Bool :=
  decide (t.magic = 0x4D495458) && decide (t.format = 1) && decide (t.sources.toNat < 16) && (!t.sources.getLsbD 3 || t.sources.getLsbD 0) &&
    decide (t.ptpPorts.toNat < 16) && (!t.sources.getLsbD 1 || decide (t.ptpPorts ≠ 0)) && decide (t.ptpDomain.toNat ≤ 127) && decide (t.busChannel.toNat ≤ 15) &&
    decide (t.extSerial.toNat ≤ 11) && decide (t.qualCount ≠ 0) && within 1 500 t.slewPpm.toNat && within 1 3600 t.armWindow.toNat &&
    within 10 10000000 t.jumpUs.toNat && within 10 100000 t.lockBandNs.toNat && decide (-100000 ≤ t.ppsInDelay) && decide (t.ppsInDelay ≤ 100000) &&
    decide (t.ppsWidthMs.toNat ≤ 400) && decide (t.ppsFlags.toNat < 8) && decide (t.models.length ≤ 46) && decide (t.utcDefault.toNat ≤ 255) &&
    within 1 16 t.kpLog2.toNat && within t.kpLog2.toNat 24 t.kiLog2.toNat && decide (t.kiLog2 ≠ 0) &&
    t.models.all (fun m => decide (m.source ≠ 0) && decide (m.model.toNat ≤ 45) && within 1 3 m.stamp.toNat && decide (m.latencyNs.toNat ≤ 100000000) &&
      decide (m.readmit ≠ 0) && within 1 16 m.rateLog2.toNat) &&
    noDup (t.models.map (fun m => m.model.toNat))

/-- Is a section present and right, or, when it is not required, absent? -/
def sectOk {α : Type} (required : Bool) (o : Option α) (f : α → Bool) : Bool :=
  match o with | some a => f a | none => !required

/-- Does the schedule enable a field-bus channel? -/
def schedBusOn (s : Schedule) : Bool := match s.msg with | some m => decide (m.chEnable ≠ 0) | none => false

/-- Is a capture source SHARED (R17, Table 1.9), where the image declares it? -/
def sourceShared (s : Schedule) (nodes : Option NodeTable) (src : Nat) : Option Bool :=
  if 0x4600 ≤ src then some true
  else if 0x4101 ≤ src then some false
  else
    match nodes with
    | none => none
    | some t =>
      if 0x4001 ≤ src then (t.sentences[src - 0x4001]?).map (fun x => decide (x.capture = 1))
      else
        match s.msg with
        | none => none
        | some m => match m.entries[src - 1]? with
          | some e => (t.channels[e.channel.toNat]?).map (fun g => g.shared)
          | none => none

/-- The rules of a device's fields (R285, Table 10.3): FB_FIELD of at most 4 bytes and not of FORMAT 5, and FB_SIDE as its source
declares. -/
def alcFieldsOk (s : Schedule) (nodes : Option NodeTable) : Bool :=
  optOk s.alc (fun t => t.devices.all (fun d => decide (d.fbField = 0) ||
    (match s.msg with
     | none => false
     | some m => match m.fields[d.fbField.toNat - 1]? with
       | none => false
       | some f => decide (f.length.toNat ≤ 4) && decide (f.format ≠ 5) &&
         (match sourceShared s nodes (if f.source.getLsbD 15 then 0x4001 + f.source.toNat % 32768 else f.source.toNat + 1) with
          | some sh => sh == decide (d.fbSide = 0)
          | none => true))))

/-- Does each reference's SIDE match its source's declaration (Table 8.8, R17)? -/
def estSidesOk (s : Schedule) (nodes : Option NodeTable) : Bool :=
  optOk s.est (fun t => t.entries.all (fun e => decide (e.kind = 0) ||
    (match sourceShared s nodes e.source.toNat with
     | some sh => sh == decide (e.side = 0)
     | none => true)))

/-- Step 5: the error, and the type of the section it names. -/
def contentErr (img : ImageDesc) (schedOnly : Bool) : Nat × Nat :=
  match img.sched with
  | none => (6, 1)
  | some s =>
    let e0 := if img.dirty.contains 1 || img.dirty.contains 2 then 0x11 else schedErr s img.header.imageId
    let e := if e0 = 0 && !(estSidesOk s img.nodes && alcFieldsOk s img.nodes) then 0x11 else e0
    if e ≠ 0 then (e, if e = 0x10 ∨ e = 0x13 then 1 else if e = 0x18 ∨ e = 0x19 then 2 else 1)
    else if schedOnly then (0, 0)
    else
      let ok := fun (type : Half) => !img.dirty.contains type
      let c := firstErr
        [(ok 3 && sectOk (schedHasLuna s) img.luna lunaOk && lunaNetsOk s.luna img.luna, 3), (ok 4 && sectOk true img.cal calOk, 4),
         (ok 5 && sectOk true img.safety (fun c => safOk c (schedHasQid s)), 5), (ok 6 && sectOk true img.out (outTableOk s.ctl), 6),
         (ok 7 && sectOk true img.net (fun n => netOk s.header.period.toNat n && portsApart n img.time), 7), (ok 8 && sectOk (schedBusOn s) img.nodes (nodeTableOk s.msg), 8),
         (ok 9 && sectOk true img.time timeCfgOk, 9)]
      (if c = 0 then 0 else 0x1D + c, c)

/-- The five steps of R92: the error of Table 3.3 (0 when the image is accepted) and the failing directory index. -/
def imageErr (img : ImageDesc) (otp : OtpSt) (schedOnly : Bool) : Nat × Word :=
  if img.readError ≠ 0 then (img.readError.toNat, 0xFFFFFFFF)
  else
    let h := headerErr img.header schedOnly
    if h ≠ 0 then (h, 0xFFFFFFFF)
    else
      let d := dirErr img schedOnly
      if d.1 ≠ 0 then d
      else
        let g := signErr img otp
        if g ≠ 0 then (g, 0xFFFFFFFF)
        else
          let c := contentErr img schedOnly
          if c.1 = 0 then (0, 0xFFFFFFFF) else (c.1, idxWord (dirIndex img.dir c.2))

end Sys2Proof.Machine
end

