-- ==== Sys2Proof/Machine/StCnd.lean ====
section
/-! DEFINITION. State of the CND block: 64 conditioning channels (05_conditioning.md). -/

namespace Sys2Proof.Machine

/-- USE (Table 5.4). -/
inductive CndUse where
  | fine | fast | none
deriving DecidableEq, Repr

/-- The code of USE in the capture item (R155). -/
def CndUse.code : CndUse → Word
  | .fine => 0 | .fast => 1 | .none => 2

/-- One conditioning channel.  Values are signed raw codes. -/
structure CndCh where
  use       : CndUse
  fine      : Int
  fast      : Int
  /-- Values of the most recent capture (the window registers). -/
  capFine   : Int
  capFast   : Int
  capFlags  : BitVec 6
  /-- DC estimate o, Q1.31 (R150). -/
  offset    : Int
  freeze    : Bool
  autoFrozen : Bool
  /-- Sinc integrators and combs (R146). -/
  integ     : List Int
  comb      : List Int
  /-- The last modulator bits, newest first. -/
  lastBits  : List Bool
  /-- FIR delay line and moving-average history, newest first. -/
  fir       : List Int
  ma        : List Int
  settle    : Nat
  alt       : Bool
  overload  : Bool
  stuck     : Bool
  ovlRun    : Nat
  otherBad  : Bool
  /-- Flush at the next chain sample; after Chrysalis the offset is kept over it (R162). -/
  flush     : Bool
  keepOfs   : Bool
  satFineNow : Bool
  satFastNow : Bool
  flSatFine : Bool
  flSatFast : Bool
  flOverload : Bool
  flStuck   : Bool
  flSwitched : Bool
  flStep    : Bool
  flReturnRefused : Bool
  steps     : Word
  ovls      : Word
  sats      : Word
  /-- CND_C_CTRL writes waiting for the next beat edge (R160). -/
  pendFreeze : Option Bool
  pendReturn : Bool
deriving DecidableEq, Repr

/-- A channel after reset: disabled, USE NONE (Table 5.9). -/
def CndCh.zero : CndCh :=
  { use := .none, fine := 0, fast := 0, capFine := 0, capFast := 0, capFlags := 2, offset := 0, freeze := false,
    autoFrozen := false, integ := [], comb := [], lastBits := [], fir := [], ma := [], settle := 0, alt := false,
    overload := false, stuck := false, ovlRun := 0, otherBad := false, flush := false, keepOfs := false, satFineNow := false,
    satFastNow := false, flSatFine := false, flSatFast := false, flOverload := false, flStuck := false,
    flSwitched := false, flStep := false, flReturnRefused := false, steps := 0, ovls := 0, sats := 0,
    pendFreeze := Option.none, pendReturn := false }

/-- The CND block: the table in force and its channels. -/
structure CndSt where
  table    : Option CndTable
  channels : Tab CndCh
deriving DecidableEq, Repr

/-- The CND block after reset. -/
def CndSt.reset : CndSt := { table := Option.none, channels := [] }

end Sys2Proof.Machine
end

