-- ==== Sys2Proof/Machine/Conditioning.lean ====
section
/-! DEFINITION. The conditioning chains: decimator, fine chain, fast path, validity, delays (05_conditioning.md). -/

namespace Sys2Proof.Machine

/-- A channel whose entry names no source (Table 5.1). -/
def cndEntryOff : CndEntry :=
  { source := 0xFF, altSource := 0xFF, sinc := 0, firKind := 0, osr := 0, clkDiv := 0, dcbMhz := 0, maLen := 0,
    firTaps := 0, fastOsr := 0, freezeAtStart := false, autoFreeze := false, seqPos := 0, stepThr := 0, firOfs := 0,
    fir := [], gdFirMin := 0, ovlSwitch := 0 }

/-- The entry of channel `c` in the table in force. -/
def CndSt.entry (d : CndSt) (c : Nat) : CndEntry :=
  match d.table with
  | none => cndEntryOff
  | some t => t.entries.getD c cndEntryOff

/-- Channel `c`. -/
def CndSt.ch (d : CndSt) (c : Nat) : CndCh := Tab.get CndCh.zero d.channels c

/-- Write channel `c`. -/
def CndSt.setCh (d : CndSt) (c : Nat) (v : CndCh) : CndSt :=
  { d with channels := Tab.set CndCh.zero d.channels c v }

/-- Is the channel enabled (Table 5.1)? -/
def CndSt.isOn (d : CndSt) (c : Nat) : Bool := decide ((d.entry c).source ≠ 0xFF)

/-- The source in use. -/
def CndSt.sourceInUse (d : CndSt) (c : Nat) : Byte :=
  if (d.ch c).alt then (d.entry c).altSource else (d.entry c).source

/-- Is a source code a bitstream (Table 5.1)? -/
def isBitstream (s : Byte) : Bool := decide (s.toNat ≤ 0x1F)
/-- Is it an AIN source? -/
def isAin (s : Byte) : Bool := decide (0x20 ≤ s.toNat) && decide (s.toNat ≤ 0x37)

/-- The sequence length of the converter that carries an AIN source. -/
def CndSt.seqLen (d : CndSt) (s : Byte) : Nat :=
  match d.table with
  | none => 0
  | some t => if s.toNat ≤ 0x2B then t.seq0Len.toNat else t.seq1Len.toNat

/-- The chain rate in kHz (R149, Table 5.1). -/
def CndSt.rateKhz (d : CndSt) (c : Nat) : Nat :=
  let e := d.entry c
  if e.source = 0xFF then 0
  else if isBitstream e.source then 800000 / (e.clkDiv.toNat * e.osr.toNat)
  else if isAin e.source then 2000 / d.seqLen e.source
  else 8

/-- SETTLE in chain samples (R157). -/
def settleLen (e : CndEntry) : Nat :=
  e.sinc.toNat + (if e.firKind = 0 then 0 else e.firTaps.toNat) + e.maLen.toNat

/-- The stage delays of Table 5.3, each in 1/256 ps so that no stage is rounded before it is reported. -/
structure CndDelays where
  acq : Nat
  dec : Nat
  fir : Nat
  ma  : Nat
deriving DecidableEq, Repr

/-- Table 5.3 for channel `c`, in 1/256 ps. -/
def CndSt.delays (d : CndSt) (c : Nat) : CndDelays :=
  let e := d.entry c
  let src := d.sourceInUse c
  let rate := d.rateKhz c
  let p : Nat := if rate = 0 then 0 else 1000000000 * 256 / rate
  { acq := if isAin e.source then (d.seqLen src - 1 - e.seqPos.toNat) * 500000 * 256 else 0,
    dec := if isBitstream e.source then e.sinc.toNat * (e.osr.toNat - 1) * (e.clkDiv.toNat * 1250) * 128 else 0,
    fir := if e.firKind = 1 then (e.firTaps.toNat - 1) * p / 2
           else if e.firKind = 2 then e.gdFirMin.toNat * p / 256 else 0,
    ma := (e.maLen.toNat - 1) * p / 2 }

/-- A delay in 1/256 ps as whole ns, halves up (R156). -/
def nsOf (q : Nat) : Nat := (q + 128000) / 256000

/-- The admission delay of channel `c` in ns: the sum, rounded once (R156). -/
def CndSt.delayTotal (d : CndSt) (c : Nat) : Nat :=
  let x := d.delays c
  nsOf (x.acq + x.dec + x.fir + x.ma)

/-- The fast path's delay in ns (R154). -/
def CndSt.delayFast (d : CndSt) (c : Nat) : Nat :=
  let e := d.entry c
  if isBitstream e.source then nsOf ((e.fastOsr.toNat - 1) * (e.clkDiv.toNat * 1250) * 256)
  else nsOf (d.delays c).acq

/-- Wrap to a signed 48-bit register: the decimator's integrators and combs (R146). -/
def wrap48 (a : Int) : Int := (BitVec.ofInt 48 a).toInt

/-- One modulator bit through the integrators, ones density 1 being +1. -/
def sincBit (integ : List Int) (b : Bool) : List Int :=
  (integ.foldl (fun (acc : Int × List Int) x => let y := wrap48 (x + acc.1); (y, acc.2 ++ [y]))
    ((if b then 1 else -1), [])).2

/-- One decimated output through the combs: the output and the new comb delays. -/
def sincComb (comb : List Int) (x : Int) : Int × List Int :=
  comb.foldl (fun (acc : Int × List Int) d => (wrap48 (acc.1 - d), acc.2 ++ [acc.1])) (x, [])

/-- Normalise a decimator or fast-window sum to Q1.31 (R146): +1 saturates to 0x7FFF_FFFF. -/
def normQ31 (site : Nat) (sum : Int) (gain : Nat) : Int := satS 32 (Config.quot site (sum * 2147483648) gain)

/-- Triangular weights of a sinc2 window of `f` clocks: 1 … f … 1. -/
def sinc2Weights (f : Nat) : List Int :=
  ((List.range f).map (fun i => ((i + 1 : Nat) : Int))) ++ ((List.range (f - 1)).map (fun i => ((f - 1 - i : Nat) : Int)))

/-- The sinc2 sum over the last bits, newest first (R154). -/
def sinc2Sum (f : Nat) (bits : List Bool) : Int :=
  (List.zipWith (fun (w : Int) (b : Bool) => if b then w else -w) (sinc2Weights f) bits).foldl (· + ·) 0

/-- The FIR of R151: 72-bit saturating accumulator, Q2.30 coefficients, rounded to nearest, clamped to Q1.31. -/
def firOut (coef : List (BitVec 32)) (hist : List Int) : Int × Bool :=
  let acc := (List.zipWith (fun (h : BitVec 32) (x : Int) => h.toInt * x) coef hist).foldl (fun a x => satS 72 (a + x)) 0
  let r := rndShift acc 30
  (satS 32 r, decide (r ≠ satS 32 r))

/-- The moving average of R152: 48-bit sum times a reciprocal, rounded as the FIR's result. -/
def maOut (m : Nat) (hist : List Int) : Int × Bool :=
  let sum := (hist.take m).foldl (fun a x => satS 48 (a + x)) 0
  let r := if m ≤ 1 then hist.headD 0 else rndShift (sum * Config.maReciprocal m) Config.maShift
  (satS 32 r, decide (r ≠ satS 32 r))

/-- Preload every fine-stage state so that the output equals the first fast value (Table 5.4).  A frozen offset, or
one kept through Chrysalis, is held. -/
def CndCh.preload (ch : CndCh) (e : CndEntry) (v : Int) (keepOffset : Bool) : CndCh :=
  { ch with use := .fast, settle := 0, flush := false, keepOfs := false, fine := v, offset := if keepOffset then ch.offset else 0,
            fir := List.replicate e.firTaps.toNat v, ma := List.replicate e.maLen.toNat v }

/-- What the converter's data make of the decimator, the window of bits, the sample and the fast value; the Bool says that the
decimator's result was clamped (R146, R153). -/
def CndCh.front (ch : CndCh) (e : CndEntry) (inp : CndInput) : CndCh × Int × Int × Bool :=
  match inp with
  | .bits l =>
    let n := e.sinc.toNat
    let ig := l.foldl sincBit (if ch.integ.length = n then ch.integ else List.replicate n 0)
    let (y, cb) := sincComb (if ch.comb.length = n then ch.comb else List.replicate n 0) (ig.getLastD 0)
    let lb := (l.reverse ++ ch.lastBits).take 128
    let x := normQ31 146 y (e.osr.toNat ^ n)
    let f := e.fastOsr.toNat
    let fs := sinc2Sum f lb
    let fast := normQ31 154 fs (f * f)
    let ovl := decide (64 ≤ lb.length) && ((lb.take 64).all (fun b => b) || (lb.take 64).all (fun b => !b))
    ({ ch with integ := ig, comb := cb, lastBits := lb, overload := ovl,
               stuck := ch.stuck && l.all (fun b => b == ch.lastBits.headD (l.headD false)),
               satFastNow := decide (fs = f * f) }, x, fast, decide (y = e.osr.toNat ^ n))
  | .code c =>
    let v := ((c.toNat : Int) - 32768) * 65536
    let ovl := decide (c = 0) || decide (c = 0xFFFF)
    ({ ch with overload := ovl, stuck := false, satFastNow := false }, v, v, false)
  | .monitor v => ({ ch with overload := false, stuck := false, satFastNow := false }, v.toInt, v.toInt, false)

/-- The DC block (R150). -/
def CndCh.dcBlock (ch : CndCh) (e : CndEntry) (rate : Nat) (x : Int) : CndCh × Int × Bool :=
  if e.dcbMhz = 0 then (ch, x, false)
  else
    let o := if ch.freeze || ch.autoFrozen then ch.offset
             else satS 32 (ch.offset + Config.quot 150 (Config.dcAlpha e.dcbMhz.toNat rate * (x - ch.offset)) 2147483648)
    let y := x - o
    ({ ch with offset := o }, satS 32 y, decide (y ≠ satS 32 y))

/-- The fine stages after the decimator (R150 to R153); `s0`: the decimator clamped. -/
def CndCh.fineChain (ch : CndCh) (e : CndEntry) (rate : Nat) (x : Int) (s0 : Bool) : CndCh :=
  let (c1, y, s1) := ch.dcBlock e rate x
  let hist := (y :: c1.fir).take (if e.firKind = 0 then 1 else e.firTaps.toNat)
  let (f, s2) := if e.firKind = 0 then (y, false) else firOut e.fir hist
  let mh := (f :: c1.ma).take e.maLen.toNat
  let (m, s3) := maOut e.maLen.toNat mh
  let sat := s0 || s1 || s2 || s3
  { c1 with fir := hist, ma := mh, fine := m, satFineNow := c1.satFineNow || sat,
            flSatFine := c1.flSatFine || sat, sats := if sat then c1.sats + 1 else c1.sats }

/-- Validity after one chain sample: step, overload, settle count (Table 5.4, R157, R158); `flushed`: the sample preloaded the
chain, and the settle count starts after it. -/
def CndCh.validity (ch : CndCh) (e : CndEntry) (c : Nat) (src : Byte) (wasOvl flushed : Bool) : CndCh × List Ev :=
  let bad := ch.overload || ch.stuck
  let diff := (ch.fast - ch.fine).natAbs
  let step := decide (e.stepThr ≠ 0) && decide (diff > e.stepThr.toNat)
  let e1 : List Ev := if ch.overload && !wasOvl then [(0x0402, [BitVec.ofNat 32 c, BitVec.ofNat 32 src.toNat, if ch.alt then 1 else 0])] else []
  let c0 := if ch.overload && !wasOvl then { ch with flOverload := true, ovls := ch.ovls + 1 } else ch
  let c1 := { c0 with ovlRun := if ch.overload then c0.ovlRun + 1 else 0 }
  if bad then
    ({ c1 with settle := 0, use := .none, autoFrozen := e.autoFreeze }, e1)
  else if flushed then
    ({ c1 with settle := 0, use := .fast, autoFrozen := e.autoFreeze }, e1)
  else if step then
    ({ c1 with settle := 0, use := .fast, flStep := true, steps := c1.steps + 1, autoFrozen := e.autoFreeze },
     e1 ++ [(0x0401, [BitVec.ofNat 32 c, satWordU diff, e.stepThr])])
  else
    let n := c1.settle + 1
    let u := if settleLen e ≤ n then CndUse.fine else .fast
    ({ c1 with settle := n, use := u, autoFrozen := e.autoFreeze && decide (u ≠ .fine) }, e1)

/-- Does the channel go to its alternate (R159)? -/
def CndCh.wantsAlt (ch : CndCh) (e : CndEntry) : Bool :=
  decide (e.altSource ≠ 0xFF) && !ch.alt && !ch.otherBad &&
    (ch.stuck || (decide (e.ovlSwitch ≠ 0) && decide (e.ovlSwitch.toNat ≤ ch.ovlRun)))

/-- A channel on its other source, to be flushed at its next chain sample (R159, R160). -/
def CndCh.changeSource (ch : CndCh) (alt : Bool) : CndCh :=
  { ch with alt := alt, flush := true, ovlRun := 0, stuck := false, overload := false, integ := [], comb := [], lastBits := [] }

/-- The chain and its validity on one sample of the source in use. -/
def CndSt.runSample (d : CndSt) (c : Nat) (inp : CndInput) : CndSt × List Ev :=
  let e := d.entry c
  let ch0 := d.ch c
  let (ch1, x, fast, s0) := ch0.front e inp
  let ch2 := { ch1 with fast := fast, flSatFast := ch1.flSatFast || ch1.satFastNow }
  let ch3 := if ch2.flush then ch2.preload e fast (ch2.freeze || ch2.keepOfs) else ch2.fineChain e (d.rateKhz c) x s0
  let (ch4, ev) := ch3.validity e c (d.sourceInUse c) ch0.overload ch2.flush
  let clamped := (if ch4.sats ≠ ch0.sats then 1 else 0) + (if ch4.satFastNow then 2 else 0)
  (d.setCh c ch4, ev ++ (if clamped = 0 then [] else [(0x0406, [wordN c, wordN clamped, ch4.sats])]))

/-- One chain sample of channel `c` (R150 to R159).  A channel that goes to its alternate takes the sample from there.
`otherBad`: the source not in use is overloaded or stuck. -/
def CndSt.sample (d : CndSt) (c : Nat) (inp : CndInput) (otherBad : Bool) : CndSt × List Ev :=
  if !d.isOn c then (d, [])
  else
    let e := d.entry c
    let ch0 := { d.ch c with otherBad := otherBad }
    if ch0.wantsAlt e then
      let d1 := d.setCh c { ch0.changeSource true with flSwitched := true, otherBad := true }
      let r := d1.runSample c inp
      (r.1, (0x0404, [wordN c, e.source.setWidth 32, e.altSource.setWidth 32, wordN (d1.delayTotal c)]) :: r.2)
    else (d.setCh c ch0).runSample c inp

/-- R155's flags byte of a channel. -/
def CndCh.flagsByte (ch : CndCh) : BitVec 6 :=
  BitVec.ofNat 6 (ch.use.code.toNat + (if ch.satFineNow then 4 else 0) + (if ch.satFastNow then 8 else 0) +
    (if ch.freeze || ch.autoFrozen then 16 else 0) + (if ch.alt then 32 else 0))

/-- The capture of channel `c` at a beat edge (R155). -/
def CndCh.capture (ch : CndCh) : CndCh :=
  { ch with capFine := ch.fine, capFast := ch.fast, capFlags := ch.flagsByte, satFineNow := false }

/-- The words of the capture item (R155). -/
def CndCh.itemWords (ch : CndCh) (c : Nat) : List Word :=
  [satWord ch.capFine, satWord ch.capFast, BitVec.ofNat 32 (c + 256 * ch.capFlags.toNat)]

/-- Load every channel from a table, USE FAST, FREEZE from FREEZE_AT_START (R162).  `clear` clears flags and counts
(R166). -/
def CndSt.load (t : CndTable) : CndSt :=
  let d : CndSt := { table := some t, channels := [] }
  (List.range 64).foldl
    (fun d c =>
      if d.isOn c then
        d.setCh c { CndCh.zero with use := .fast, flush := true, freeze := (d.entry c).freezeAtStart }
      else d) d

/-- R161: at a bank switch an identical entry keeps running; any other channel is flushed; a changed sequence
length flushes every channel on that converter. -/
def CndSt.switch (d : CndSt) (t : CndTable) : CndSt :=
  let d1 : CndSt := { d with table := some t }
  (List.range 64).foldl
    (fun x c =>
      let sameSeq := fun (s : Byte) => !isAin s || decide (d.seqLen s = d1.seqLen s)
      if !d1.isOn c then x.setCh c CndCh.zero
      else if !d.isOn c then x.setCh c { CndCh.zero with use := .fast, flush := true, freeze := (d1.entry c).freezeAtStart }
      else if d.entry c ≠ d1.entry c then x.setCh c { (d.ch c).changeSource false with use := .fast }
      else if sameSeq (d1.entry c).source && sameSeq (d1.entry c).altSource then x
      else x.setCh c { d.ch c with flush := true, use := .fast }) d1

/-- R162: the chains are flushed on wake from Chrysalis, their settings and offsets kept. -/
def CndSt.wake (d : CndSt) : CndSt :=
  (List.range 64).foldl (fun x c => if d.isOn c then x.setCh c { d.ch c with flush := true, keepOfs := true, use := .fast } else x) d

/-- CND_C_CTRL takes effect (R160, R159): FREEZE first, then a return to the primary when it is sound. -/
def CndSt.applyCtrl (d : CndSt) (c : Nat) : CndSt × List Ev :=
  let ch := d.ch c
  let ch1 := { ch with freeze := ch.pendFreeze.getD ch.freeze, pendFreeze := none, pendReturn := false }
  if ch.pendReturn then
    let primaryBad := if ch.alt then ch.otherBad else ch.overload || ch.stuck
    if primaryBad then (d.setCh c { ch1 with flReturnRefused := true }, [])
    else if ch.alt then
      let d1 := d.setCh c (ch1.changeSource false)
      (d1, [(0x0405, [BitVec.ofNat 32 c, BitVec.ofNat 32 (d.entry c).source.toNat, BitVec.ofNat 32 (d1.delayTotal c)])])
    else (d.setCh c ch1, [])
  else (d.setCh c ch1, [])

/-- SDIn_DAT unchanged for 4,096 clocks (R158). -/
def CndSt.sourceStuck (d : CndSt) (c : Nat) : CndSt × List Ev :=
  let ch := d.ch c
  if d.isOn c && isBitstream (d.sourceInUse c) && !ch.stuck then
    (d.setCh c { ch with stuck := true, flStuck := true, ovls := ch.ovls + 1, settle := 0, use := .none, autoFrozen := (d.entry c).autoFreeze },
     [(0x0403, [wordN c, (d.sourceInUse c).setWidth 32, if ch.alt then 1 else 0])])
  else (d, [])

end Sys2Proof.Machine
end

