-- ==== Sys2Proof/Machine/StSvc.lean ====
section
/-! DEFINITION. State of the SVC block: arbiter, register access, debug port, counters, tagger (19_service_fabric.md). -/

namespace Sys2Proof.Machine

/-- The grant in progress (R516), and the HOLD_LIMIT that its decision set (R521). -/
structure Grant where
  holder : BitVec 4
  start  : Nat
  limit  : Nat
deriving DecidableEq, Repr

/-- The configuration of one performance counter (R530). -/
structure CounterCfg where
  event   : BitVec 4
  engine  : BitVec 4
  roleMin : BitVec 3
  cls     : BitVec 4
  reqMask : Half
  ofsLo   : Half
  ofsHi   : Half
deriving DecidableEq, Repr

/-- One performance counter (R529, R532). -/
structure Counter where
  value    : Count48
  snap     : Count48
  delta    : Count48
  cfg      : CounterCfg
  next     : Option CounterCfg
  reconfig : Bool
deriving DecidableEq, Repr

/-- One entry of the tag buffer (Table 19.5). -/
structure TagEntry where
  beat    : Word
  engine  : BitVec 8
  stopped : Bool
  abandoned : Bool
  pair    : Bool
  opcode  : Half
  beatInPeriod : Half
  opIndex : Half
  issue   : Word
  start   : Word
  stall   : Word
  complete : Word
  lfsr    : Word
deriving DecidableEq, Repr

/-- The tagger (R534, R535). -/
structure Tagger where
  engines   : BitVec 14
  stopMode  : Bool
  enable    : Bool
  base      : Half
  spread    : Half
  seed      : Word
  lfsr      : Word
  countdown : Nat
  inFlight  : Option TagEntry
  buffer    : Tab (Option TagEntry)
  next      : BitVec 8
  count     : BitVec 9
  running   : Bool
  window    : Option (Option TagEntry)
deriving DecidableEq, Repr

/-- The debug state programmed in OTP (R527). -/
inductive DebugState where
  | openState | auth | closed
deriving DecidableEq, Repr

/-- The JTAG port (R526, R527). -/
structure Jtag where
  instr      : BitVec 8
  nonce      : Option (BitVec 128)
  authSlot   : Option (BitVec 8)
  dbgRead    : Word
  dbgStatus  : BitVec 2
  boundary   : List Bool
  /-- What the instruction's data register shifts out (Table 19.3). -/
  dr         : BitVec 136
deriving DecidableEq, Repr

/-- The SVC block. -/
structure SvcSt where
  raised     : Tab (Option Nat)
  grant      : Option Grant
  grantNo    : Nat
  arbN       : BitVec 7
  holdLimit  : BitVec 13
  cuts       : Tab Word
  bw         : Tab Word
  flCutoff   : Bool
  flUnmapped : Bool
  flCfgRefused : Bool
  flTagFull  : Bool
  flDebugRefused : Bool
  unmapped   : Word
  unmapAddr  : Word
  pcWindow   : BitVec 10
  pcSeq      : Word
  pcT0       : Long
  pcSkew     : Half
  pcLat      : Half
  counters   : Tab Counter
  tagger     : Tagger
  jtag       : Jtag
  chsel      : Tab Word
  pairHold   : Tab Word
  pairLast   : Tab Nat
  stagingCount : Tab Word
deriving DecidableEq, Repr

/-- The reset configuration of a counter (Table 19.7). -/
def CounterCfg.zero : CounterCfg :=
  { event := 0, engine := 0, roleMin := 0, cls := 0, reqMask := 0, ofsLo := 0, ofsHi := 0xFFFF }

/-- A counter after reset (R529). -/
def Counter.zero : Counter :=
  { value := 0, snap := 0, delta := 0, cfg := CounterCfg.zero, next := none, reconfig := false }

/-- The tagger after reset (Table 19.7). -/
def Tagger.reset : Tagger :=
  { engines := 0, stopMode := false, enable := false, base := 0x0400, spread := 0x0400, seed := 1, lfsr := 1,
    countdown := 0, inFlight := none, buffer := [], next := 0, count := 0, running := false, window := none }

/-- The debug port after JTAG_TRST_N: the instruction is IDCODE (R526). -/
def Jtag.reset : Jtag :=
  { instr := 0x02, nonce := none, authSlot := none, dbgRead := 0, dbgStatus := 0, boundary := [], dr := 0x103C0947 }

/-- The SVC block after reset (Table 19.7). -/
def SvcSt.reset : SvcSt :=
  { raised := [], grant := none, grantNo := 0, arbN := 8, holdLimit := 256, cuts := [], bw := [],
    flCutoff := false, flUnmapped := false, flCfgRefused := false, flTagFull := false, flDebugRefused := false,
    unmapped := 0, unmapAddr := 0, pcWindow := 1000, pcSeq := 0, pcT0 := 0, pcSkew := 0, pcLat := 0,
    counters := [], tagger := Tagger.reset, jtag := Jtag.reset, chsel := [], pairHold := [], pairLast := [],
    stagingCount := [] }

end Sys2Proof.Machine
end

