-- ==== Sys2Proof/Machine/Fabric.lean ====
section
/-! DEFINITION. The service fabric: arbiter, counters, tagger and debug port (19_service_fabric.md). -/

namespace Sys2Proof.Machine

open Sys2Proof

/-- What the fabric does: its new state and the events it raises. -/
abbrev SvcR := SvcSt × List Ev

-- ## Arbitration (R516 to R521)

/-- Inputs whose request waits, raised at or before a cycle, with that cycle. -/
def SvcSt.waiting (v : SvcSt) (upTo : Nat) : List (Nat × Nat) :=
  v.raised.filterMap (fun p => match p.2 with | some c => if c ≤ upTo then some (p.1, c) else none | none => none)

/-- The request with the highest input number (R517). -/
def pickRank (l : List (Nat × Nat)) : Option Nat :=
  l.foldl (fun b p => match b with | none => some p.1 | some k => some (max k p.1)) none

/-- The request that has waited longest, at equal waits the higher input (R518). -/
def pickOldest (l : List (Nat × Nat)) : Option Nat :=
  (l.foldl (fun (b : Option (Nat × Nat)) p => match b with
    | none => some p
    | some k => if p.2 < k.2 ∨ (p.2 = k.2 ∧ k.1 < p.1) then some p else some k) none).map Prod.fst

/-- Is a grant of this number reserved (R518)? -/
def reservedGrant (k n : Nat) : Bool := decide (n ≠ 0) && decide (k % n = 0)

/-- The requester that the next grant goes to, leaving `out` out of the decision. -/
def SvcSt.choose (v : SvcSt) (upTo : Nat) (out : Option Nat) : Option Nat :=
  let l := (v.waiting upTo).filter (fun p => decide (some p.1 ≠ out))
  if reservedGrant (v.grantNo + 1) v.arbN.toNat then pickOldest l else pickRank l

/-- The arbiter decides: the grant in progress ends with cycle `cycle`, and the next begins in the cycle after it (R519). -/
def SvcSt.decide_ (v : SvcSt) (cycle upTo : Nat) (out : Option Nat) : SvcSt :=
  match v.choose upTo out with
  | none => { v with grant := none }
  | some k =>
    { v with
      grant := some { holder := BitVec.ofNat 4 k, start := cycle + 1, limit := v.holdLimit.toNat }
      grantNo := v.grantNo + 1
      raised := Tab.set none v.raised k none }

/-- A requester raises its request (R516); input 0 is not connected (Table 19.1). -/
def SvcSt.request (v : SvcSt) (input : BitVec 4) (cycle : Nat) : SvcSt :=
  if input = 0 then v
  else { v with raised := Tab.modify none v.raised input.toNat (fun o => match o with | some c => some c | none => some cycle) }

/-- One counter's key: block × 16 + counter. -/
def counterKey (block k : Nat) : Nat := block * 16 + k

/-- How many counters a block has (R529). -/
def counterCount (block : Nat) : Nat :=
  if block = 0x12 then 16 else if [1, 6, 7, 9, 0xA, 0xC, 0xD, 0xE].contains block then 8 else if block ≤ 0x11 ∧ block ≠ 0 then 4 else 0

def SvcSt.counter (v : SvcSt) (key : Nat) : Counter := Tab.get Counter.zero v.counters key
def SvcSt.setCounter (v : SvcSt) (key : Nat) (c : Counter) : SvcSt := { v with counters := Tab.set Counter.zero v.counters key c }

/-- SVC counter `k` counts the words granted to requester `k` (R529). -/
def SvcSt.grantWords (v : SvcSt) (k words : Nat) : SvcSt :=
  let key := counterKey 0x12 k
  let c := v.counter key
  v.setCounter key { c with value := c.value + BitVec.ofNat 48 words }

/-- During the last word of a grant the arbiter picks the next; with no grant in progress it decides at once (R519). -/
def SvcSt.decision (v : SvcSt) (cycle wordStart words : Nat) : SvcSt :=
  match v.grant with
  | none => v.decide_ cycle cycle none
  | some g => (v.grantWords g.holder.toNat words).decide_ cycle wordStart none

/-- Does an access match a counter's filters (R530)?  `cls` has one bit set: read, write, RL or RU read, staged write. -/
def CounterCfg.matches (c : CounterCfg) (who : Who) (cls : BitVec 4) (ofs : Nat) : Bool :=
  (decide (c.reqMask = 0) || maskBit c.reqMask who.input.toNat) && decide (c.roleMin.toNat ≤ who.role.toNat) &&
    decide (c.ofsLo.toNat ≤ ofs) && decide (ofs ≤ c.ofsHi.toNat) && (decide (c.cls = 0) || decide (c.cls &&& cls ≠ 0))

/-- Add `n` to every counter of a block that selects the event and passes `ok`. -/
def SvcSt.count (v : SvcSt) (block event n : Nat) (ok : CounterCfg → Bool) : SvcSt :=
  if block = 0x12 then v
  else (List.range (counterCount block)).foldl (fun w k =>
    let key := counterKey block k
    let c := w.counter key
    if c.cfg.event.toNat = event ∧ ok c.cfg then w.setCounter key { c with value := c.value + BitVec.ofNat 48 n } else w) v

/-- A grant that reaches HOLD_LIMIT ends with the word in progress (R520).  CUTS counts it for the holder; the transfer's class and a
session's role are no operands, so it matches filters that name neither (DESIGN CHOICE, log 26). -/
def SvcSt.cut (v : SvcSt) (address : Word) (words cycle : Nat) : SvcR :=
  match v.grant with
  | none => (v, [])
  | some g =>
    if cycle + 1 < g.start + g.limit then (v, [])
    else
      let k := g.holder.toNat
      let w := v.grantWords k words
      let who : Who := { input := g.holder, session := 0, role := if k = 14 then 4 else 0 }
      let x := (w.decide_ cycle cycle (some k)).count (address.toNat / 65536) 7 1 (fun c => c.matches who 0 (address.toNat % 65536))
      ({ x with flCutoff := true, cuts := Tab.modify 0 x.cuts k (fun n => n + 1) },
       [(0x1201, [g.holder.setWidth 32, address, wordN (cycle + 1 - g.start)])])

/-- May this requester write the arbiter's configuration: an Engineer or Maintainer session, or authenticated debug (R521)? -/
def SvcSt.mayConfigure (v : SvcSt) (who : Who) : Bool :=
  if who.input = 14 then v.jtag.authSlot.isSome else decide (3 ≤ who.role.toNat)

/-- May this requester write the counters' and the tagger's configuration: no session below Engineer may (R531)? -/
def mayCount (who : Who) : Bool := decide (3 ≤ who.role.toNat)

/-- The session named by an event, 0xFFFFFFFF for debug. -/
def Who.sessionWord (who : Who) : Word := if who.session = 0 then 0xFFFFFFFF else who.session.setWidth 32

/-- A write of SVC_ARB_CFG (R521). -/
def SvcSt.arbWrite (v : SvcSt) (who : Who) (value : Word) : SvcR :=
  let n := bits value 6 0
  let h := bits value 28 16
  if v.mayConfigure who ∧ 2 ≤ n ∧ n ≤ 64 ∧ 256 ≤ h ∧ h ≤ 4096 then
    ({ v with arbN := BitVec.ofNat 7 n, holdLimit := BitVec.ofNat 13 h },
     [(0x1206, [wordN n, wordN h, if who.input = 14 then 0xFFFFFFFF else who.session.setWidth 32])])
  else ({ v with flCfgRefused := true }, [])

-- ## Counters (R529 to R533)

/-- A register access of one word: TRANSFERS, READ_WORDS or WRITE_WORDS, and PORT_BUSY (Table 19.4). -/
def SvcSt.countAccess (v : SvcSt) (who : Who) (block ofs : Nat) (write locking : Bool) : SvcSt :=
  let cls : BitVec 4 := if write then 2 else if locking then 5 else 1
  let ok := fun (c : CounterCfg) => c.matches who cls ofs
  ((v.count block 1 1 ok).count block (if write then 3 else 2) 1 ok).count block 6 1 ok

/-- A write that changes nothing (IGNORED_WRITES), and one that is staged (STAGED_WRITES). -/
def SvcSt.countIgnored (v : SvcSt) (block : Nat) : SvcSt := v.count block 4 1 (fun _ => true)
def SvcSt.countStaged (v : SvcSt) (who : Who) (block ofs : Nat) : SvcSt := v.count block 5 1 (fun c => c.matches who 8 ofs)

/-- The block an engine's counters belong to (Table 19.4). -/
def engineBlock (e : Nat) : Nat :=
  match e with
  | 0 => 1 | 1 => 6 | 2 => 6 | 3 => 6 | 4 => 6 | 5 => 0xA | 6 => 7 | 7 => 9 | 8 => 8 | 9 => 5 | 10 => 4 | 11 => 0xC | 12 => 0xB | _ => 1

/-- ENGINE_BUSY and ENGINE_STALL of one executed operation (Table 19.4). -/
def SvcSt.countOp (v : SvcSt) (op : OpRun) (waits : Bool) : SvcSt :=
  let e := op.engine.toNat
  let b := engineBlock e
  let ok := fun (c : CounterCfg) => decide (c.engine.toNat = e)
  let dur := op.complete.toNat - op.start.toNat
  if waits then v.count b 10 dur ok else (v.count b 9 dur ok).count b 10 op.stall.toNat ok

/-- A collection at a beat edge (R532, R533). -/
def SvcSt.collect (v : SvcSt) (t0 : Nat) (lat : Half) : SvcSt :=
  let upd := fun (c : Counter) =>
    { c with delta := c.value - c.snap, snap := c.value, cfg := c.next.getD c.cfg, next := none, reconfig := c.next.isSome }
  let keys := (List.range 19).flatMap (fun b => (List.range (counterCount b)).map (counterKey b))
  let w := keys.foldl (fun (a : SvcSt) k => a.setCounter k (upd (a.counter k))) v
  { w with
    pcSeq := w.pcSeq + 1, pcT0 := BitVec.ofNat 64 t0, pcLat := lat, pcSkew := BitVec.ofInt 16 (Config.quot 532 1195 2)
    bw := (List.range 16).foldl (fun t k => Tab.set 0 t k (lowOf (w.counter (counterKey 0x12 k)).delta)) w.bw }

/-- A counter configuration in words P_CFG, P_REQMASK and P_OFS. -/
def CounterCfg.write (c : CounterCfg) (ofs : Nat) (value : Word) : CounterCfg :=
  match ofs with
  | 0x8000 => { c with event := BitVec.ofNat 4 (bits value 3 0), engine := BitVec.ofNat 4 (bits value 7 4), roleMin := BitVec.ofNat 3 (bits value 10 8),
                       cls := BitVec.ofNat 4 (bits value 15 12) }
  | 0x8004 => { c with reqMask := value.setWidth 16 }
  | 0x8008 => { c with ofsLo := value.setWidth 16, ofsHi := BitVec.ofNat 16 (bits value 31 16) }
  | _ => c

/-- The rules of R531 on a configuration of a block's counter. -/
def CounterCfg.ok (c : CounterCfg) (block : Nat) : Bool :=
  decide (c.event.toNat ≤ 10) && decide (c.ofsLo.toNat ≤ c.ofsHi.toNat) &&
    (decide (c.event.toNat < 9) || (decide (c.engine.toNat ≤ 13) && decide (engineBlock c.engine.toNat = block)))

/-- A write of a counter's configuration or of SVC_PC_WINDOW (R531, R532); `sel` is the requester's SVC_CHSEL. -/
def SvcSt.counterWrite (v : SvcSt) (who : Who) (sel : Word) (ofs : Nat) (value : Word) : SvcSt :=
  let refuse := { v with flCfgRefused := true }
  if ¬ mayCount who then refuse
  else if ofs = 0x0030 then
    let n := bits value 9 0
    if n ≠ 0 ∧ 1000 % n = 0 then { v with pcWindow := BitVec.ofNat 10 n } else refuse
  else
    let block := bits sel 4 0
    let key := counterKey block (bits sel 11 8)
    let c := v.counter key
    let nc := (c.next.getD c.cfg).write ofs value
    if block = 0x12 ∨ ¬ nc.ok block then refuse else v.setCounter key { c with next := some nc }

-- ## Operation tagging (R534, R535)

/-- One step of the Galois LFSR x³² + x²² + x² + x + 1. -/
def lfsrStep (s : Word) : Word := let t := s >>> (1 : Nat); if bitOf s 0 then t ^^^ 0x80200003 else t

/-- Advance the LFSR and load the countdown (R534). -/
def Tagger.rearm (g : Tagger) : Tagger :=
  let l := lfsrStep g.lfsr
  { g with lfsr := l, countdown := g.base.toNat + l.toNat % 65536 % (g.spread.toNat + 1), running := true }

/-- A write of SVC_TAG_SEED (R534). -/
def SvcSt.seedWrite (v : SvcSt) (who : Who) (value : Word) : SvcSt :=
  if value = 0 ∨ ¬ mayCount who then { v with flCfgRefused := true }
  else { v with tagger := { v.tagger with seed := value, lfsr := value } }

/-- A write of SVC_TAG_CFG (R534); with MODE STOP a full buffer stops tagging (R535). -/
def SvcSt.tagCfg (v : SvcSt) (who : Who) (value : Word) : SvcSt :=
  if ¬ mayCount who then { v with flCfgRefused := true }
  else
    let g := { v.tagger with engines := BitVec.ofNat 14 (bits value 13 0), stopMode := bitOf value 16, enable := bitOf value 31 }
    let full := g.stopMode && decide (g.count.toNat = 256)
    { v with tagger := if !bitOf value 31 || full then { g with running := false } else if v.tagger.enable then g else g.rearm }

/-- An operation is issued on an engine: the countdown, or the tag (R534). -/
def SvcSt.issue (v : SvcSt) (op : OpRun) (opcode : Half) (beat : Word) (bip : Half) : SvcSt :=
  let g := v.tagger
  if ¬ g.running ∨ g.inFlight.isSome ∨ ¬ maskBit g.engines op.engine.toNat then v
  else if 0 < g.countdown then { v with tagger := { g with countdown := g.countdown - 1 } }
  else
    let e : TagEntry :=
      { beat := beat, engine := op.engine.setWidth 8, stopped := false, abandoned := false, pair := op.pair, opcode := opcode, beatInPeriod := bip,
        opIndex := op.opIndex, issue := op.issue.setWidth 32, start := op.start.setWidth 32, stall := 0, complete := 0, lfsr := g.lfsr }
    { v with tagger := { g with inFlight := some e } }

/-- Write the entry in flight and go on (R535). -/
def SvcSt.tagWrite (v : SvcSt) (e : TagEntry) : SvcR :=
  let g := v.tagger
  let count := if g.count.toNat < 256 then g.count + 1 else g.count
  let g1 := { g with inFlight := none, buffer := Tab.set none g.buffer g.next.toNat (some e), next := g.next + 1, count := count }
  if g.stopMode ∧ count.toNat = 256 then
    ({ v with tagger := { g1 with running := false }, flTagFull := true }, [(0x1203, [wordN count.toNat, g.lfsr])])
  else ({ v with tagger := if g.enable then g1.rearm else g1 }, [])

/-- A tagged operation completes (R535). -/
def SvcSt.tagComplete (v : SvcSt) (cycle stall : BitVec 20) (stopped : Bool) : SvcR :=
  match v.tagger.inFlight with
  | none => (v, [])
  | some e => v.tagWrite { e with stall := stall.setWidth 32, complete := cycle.setWidth 32, stopped := stopped }

/-- A tagged operation is discarded by an overrun or a Beat restart (R535). -/
def SvcSt.tagAbandon (v : SvcSt) : SvcR :=
  match v.tagger.inFlight with
  | none => (v, [])
  | some e => v.tagWrite { e with abandoned := true, complete := 0xFFFFF }

/-- The words of a tag entry (Table 19.5). -/
def TagEntry.words (e : TagEntry) : List Word :=
  [e.beat, e.engine.setWidth 32 ||| bit e.stopped 8 ||| bit e.abandoned 9 ||| bit e.pair 10 ||| fld e.opcode.toNat 16,
   e.beatInPeriod.setWidth 32 ||| fld e.opIndex.toNat 16, e.issue, e.start, e.stall, e.complete, e.lfsr]

/-- A read of SVC_T_W0 copies the selected entry into the window (R535). -/
def SvcSt.tagLock (v : SvcSt) (tag : Nat) : SvcSt :=
  { v with tagger := { v.tagger with window := some (Tab.get none v.tagger.buffer tag) } }

/-- A word of the tag window. -/
def SvcSt.tagWord (v : SvcSt) (k : Nat) : Word := match v.tagger.window with | some (some e) => e.words.getD k 0 | _ => 0

/-- A read of SVC_T_W7 releases the window. -/
def SvcSt.tagRelease (v : SvcSt) : SvcSt := { v with tagger := { v.tagger with window := none } }

-- ## Debug port (R526 to R528)

/-- The ASCII bytes of the labels of R399 and R527. -/
def lblDbg : List Byte := [0x58, 0x44, 0x42, 0x47]
def lblHpd : List Byte := [0x58, 0x48, 0x50, 0x44]
def lblHps : List Byte := [0x58, 0x48, 0x50, 0x53]
def lblHpt : List Byte := [0x58, 0x48, 0x50, 0x54]

/-- The first 16 bytes of an HMAC. -/
def mac16 (key : BitVec 256) (message : List Byte) : BitVec 128 := (Config.hmac key message).extractLsb' 128 128

/-- The 16 bytes of a nonce or tag, first byte first: the order in which they are sent. -/
def bytes16 (v : BitVec 128) : List Byte := (leBytes 16 v.toNat).reverse

/-- May DBG_ACCESS and OTP_PROG be served (R527)? -/
def SvcSt.debugServed (v : SvcSt) (otp : OtpSt) : Bool :=
  match otp.debugState.toNat with | 0 => true | 1 => v.jtag.authSlot.isSome | _ => false

/-- DBG_AUTH (R527). -/
def SvcSt.debugAuth (v : SvcSt) (otp : OtpSt) (slot : Byte) (tag : BitVec 128) : SvcR :=
  let k := Tab.get HostKeySlot.none otp.hostKeys slot.toNat
  let good : Bool := match v.jtag.nonce with
    | some n => decide (slot.toNat < 8) && decide (k.state = .valid) && decide (k.role = 3) && decide (otp.debugState.toNat ≤ 1) &&
        decide (tag = mac16 k.key (lblDbg ++ bytes16 n ++ leBytes 8 otp.deviceId.toNat))
    | none => false
  let j := { v.jtag with instr := 0x11, nonce := none }
  if good then ({ v with jtag := { j with authSlot := some slot } }, [(0x1204, [1, slot.setWidth 32])])
  else ({ v with jtag := j, flDebugRefused := true }, [(0x1204, [2, slot.setWidth 32])])

/-- Authenticated access ends (R527). -/
def SvcSt.debugEnd (v : SvcSt) : SvcR :=
  match v.jtag.authSlot with
  | none => (v, [])
  | some k => ({ v with jtag := { v.jtag with authSlot := none } }, [(0x1204, [3, k.setWidth 32])])

/-- OTP_PROG (R528): the OTP, whether the write was accepted, and the parameters of event 0x1205. -/
def otpProg (otp : OtpSt) (item : OtpItem) : OtpSt × Option (List Word) :=
  match item with
  | .hostKey slot key role =>
    if (Tab.get HostKeySlot.none otp.hostKeys slot.toNat).state = .empty then
      ({ otp with hostKeys := Tab.set HostKeySlot.none otp.hostKeys slot.toNat { state := .valid, key := key, role := role } }, some [1, slot.setWidth 32])
    else (otp, none)
  | .imageKey slot hash =>
    if (Tab.get ImageKeySlot.none otp.imageKeys slot.toNat).state = .empty then
      ({ otp with imageKeys := Tab.set ImageKeySlot.none otp.imageKeys slot.toNat { state := .valid, hash := hash } }, some [2, slot.setWidth 32])
    else (otp, none)
  | .recovery net => if otp.recovery.isNone then ({ otp with recovery := some net }, some [3, 0]) else (otp, none)
  | .debugState st =>
    if otp.debugState.toNat < st.toNat ∧ st.toNat ≤ 2 then ({ otp with debugState := st }, some [4, 0]) else (otp, none)

/-- A Cold start or an Image reset (R537): configuration, flags, counts and the tag buffer. -/
def SvcSt.restart (v : SvcSt) : SvcSt := { SvcSt.reset with jtag := { v.jtag with authSlot := none } }

/-- A read of the SVC block; `sel` is the requester's SVC_CHSEL (Table 19.7). -/
def SvcSt.read (v : SvcSt) (otp : OtpSt) (sel : Word) (ofs : Nat) : Option Word :=
  let g := v.tagger
  let block := bits sel 4 0
  let c := v.counter (counterKey block (bits sel 11 8))
  let k := c.next.getD c.cfg
  match ofs with
  | 0x0000 => some 0x12010000
  | 0x0004 => some ((match v.grant with | some h => h.holder.setWidth 32 ||| bit true 4 | none => 0) ||| fld otp.debugState.toNat 5 |||
      bit v.jtag.authSlot.isSome 7 ||| bit g.running 8)
  | 0x0010 => some sel
  | 0x0020 => some (v.arbN.setWidth 32 ||| fld v.holdLimit.toNat 16)
  | 0x0024 => some (bit v.flCutoff 0 ||| bit v.flUnmapped 1 ||| bit v.flCfgRefused 2 ||| bit v.flTagFull 3 ||| bit v.flDebugRefused 4)
  | 0x0028 => some v.unmapped
  | 0x002C => some v.unmapAddr
  | 0x0030 => some (v.pcWindow.setWidth 32)
  | 0x0034 => some v.pcSeq
  | 0x0038 => some (lowOf v.pcT0)
  | 0x003C => some (highOf v.pcT0)
  | 0x0040 => some (v.pcSkew.setWidth 32)
  | 0x0044 => some (v.pcLat.setWidth 32)
  | 0x0048 => some (g.engines.setWidth 32 ||| bit g.stopMode 16 ||| bit g.enable 31)
  | 0x004C => some (g.base.setWidth 32 ||| fld g.spread.toNat 16)
  | 0x0050 => some g.seed
  | 0x0054 => some (g.next.setWidth 32 ||| fld g.count.toNat 8)
  | 0x8000 => some (if block = 0x12 then 0xF else k.event.setWidth 32 ||| fld k.engine.toNat 4 ||| fld k.roleMin.toNat 8 ||| fld k.cls.toNat 12 ||| bit c.reconfig 31)
  | 0x8004 => some (k.reqMask.setWidth 32)
  | 0x8008 => some (k.ofsLo.setWidth 32 ||| fld k.ofsHi.toNat 16)
  | 0x800C => some (lowOf c.value)
  | 0x8010 => some (highOf c.value)
  | 0x8014 => some (lowOf c.snap)
  | 0x8018 => some (highOf c.snap)
  | 0x801C => some (lowOf c.delta)
  | 0x8020 => some (highOf c.delta)
  | 0x9004 | 0x9008 | 0x900C | 0x9010 | 0x9014 | 0x9018 => some (v.tagWord ((ofs - 0x9000) / 4))
  | _ =>
    if 0x80 ≤ ofs ∧ ofs < 0xC0 ∧ ofs % 4 = 0 then some (Tab.get 0 v.cuts ((ofs - 0x80) / 4))
    else if 0xC0 ≤ ofs ∧ ofs < 0x100 ∧ ofs % 4 = 0 then some (Tab.get 0 v.bw ((ofs - 0xC0) / 4))
    else none

/-- W1C of SVC_FLAGS. -/
def SvcSt.clearFlags (v : SvcSt) (w : Word) : SvcSt :=
  { v with
    flCutoff := v.flCutoff && !bitOf w 0, flUnmapped := v.flUnmapped && !bitOf w 1, flCfgRefused := v.flCfgRefused && !bitOf w 2
    flTagFull := v.flTagFull && !bitOf w 3, flDebugRefused := v.flDebugRefused && !bitOf w 4 }

/-- A write of SVC_TAG_BASE (R534): BASE 0 is refused. -/
def SvcSt.tagBase (v : SvcSt) (who : Who) (w : Word) : SvcSt :=
  if bits w 15 0 = 0 ∨ ¬ mayCount who then { v with flCfgRefused := true }
  else { v with tagger := { v.tagger with base := w.setWidth 16, spread := BitVec.ofNat 16 (bits w 31 16) } }

end Sys2Proof.Machine
end

