-- ==== Sys2Proof/Machine/StAlc.lean ====
section
/-! DEFINITION. State of the ALC block: thrust devices, sectors, variants, outputs (10_thrust_allocation.md). -/

namespace Sys2Proof.Machine

/-- ALC_D_STATE.STATE (R284). -/
inductive DevState where
  | available | locked | lost | unused
deriving DecidableEq, Repr

/-- The code of a device state. -/
def DevState.code : DevState → Nat
  | .available => 0 | .locked => 1 | .lost => 2 | .unused => 3

/-- Sector states (Table 10.5). -/
inductive SectorState where
  | normal | drain | crossing
deriving DecidableEq, Repr

/-- The code of a sector state. -/
def SectorState.code : SectorState → Nat
  | .normal => 0 | .drain => 1 | .crossing => 2

/-- One thrust device.  Thrust is Q1.31 of rated, angles are 32-bit binary angles. -/
structure AlcDev where
  state     : DevState
  reason    : BitVec 4
  /-- Beats since a status or feedback item. -/
  silent    : Nat
  mismatch  : Nat
  dLock     : Word
  fbAngle   : Word
  /-- This beat's status was healthy; this beat held a feedback item; this beat lost or locked the device. -/
  healthy   : Bool
  fbNow     : Bool
  eventNow  : Bool
  thrust    : Int
  angle     : Word
  /-- The angle staged one beat before `angle`. -/
  prevAngle : Word
  sector    : SectorState
  sectorNo  : Nat
  clockwise : Bool
  press     : Nat
  leave     : Nat
  crossBeats : Nat
  /-- The last result had the tangential row at a bound a PASS_ZERO sector clips: its number and side. -/
  pressed   : Option (Nat × Bool)
  enabled   : BitVec 4
  dflags    : BitVec 6
  losses    : Word
  rateLim   : Word
  crossings : Word
deriving DecidableEq, Repr

/-- A configured device after a restart: LOST with reason START (R287). -/
def AlcDev.start : AlcDev :=
  { state := .lost, reason := 4, silent := 0, mismatch := 0, dLock := 0, fbAngle := 0, healthy := false, fbNow := false,
    eventNow := false, thrust := 0, angle := 0, prevAngle := 0, sector := .normal, sectorNo := 0, clockwise := false,
    press := 0, leave := 0, crossBeats := 0, pressed := none, enabled := 0, dflags := 0, losses := 0, rateLim := 0,
    crossings := 0 }

/-- The ALC block. -/
structure AlcSt where
  table      : Option AlcTable
  devices    : Tab AlcDev
  variant    : Half
  nextVariant : Half
  fallback   : Bool
  /-- FALLBACK of the selection for the next beat. -/
  nextFallback : Bool
  override   : Option Half
  /-- ALC_OVERRIDE as written: variant and ENABLE. -/
  ovrReg     : Half
  demand     : Int × Int × Int
  achieved   : Int × Int × Int
  zero       : Bool
  /-- FLAGS of the beat's section (Table 10.7). -/
  flags      : BitVec 16
  /-- Consecutive beats with SLACK_WARN (R296). -/
  warnRun    : Nat
  sticky     : BitVec 11
  switches   : Word
  fallbacks  : Word
  helds      : Word
  slackBeats : Word
  /-- Available fraction of each thrust group in this beat, Q1.15. -/
  groupAvail : List Int
deriving DecidableEq, Repr

/-- The ALC block after reset (Table 10.11). -/
def AlcSt.reset : AlcSt :=
  { table := none, devices := [], variant := 0, nextVariant := 0, fallback := false, nextFallback := false,
    override := none, ovrReg := 0, demand := (0, 0, 0), achieved := (0, 0, 0), zero := false, flags := 0,
    warnRun := 0, sticky := 0, switches := 0, fallbacks := 0, helds := 0, slackBeats := 0, groupAvail := [] }

end Sys2Proof.Machine
end

