-- ==== Sys2Proof/Machine/StHwk.lean ====
section
/-! DEFINITION. State of the HWK block: problems in progress, Praline store, results, background job (07_hawkmoth_solver.md). -/

namespace Sys2Proof.Machine

/-- How far a problem has come in its beat (R202, R214). -/
inductive ProbPhase where
  | loaded | factored | iterated | stopped
deriving DecidableEq, Repr

/-- FLAGS of a result record (Table 7.6). -/
structure ProbFlags where
  pivotReg : Bool
  warm     : Bool
  mapped   : Bool
  cold     : Bool
  dlLoad   : Bool
  dlFactor : Bool
  dlIter   : Bool
  sat      : Bool
  notConv  : Bool
  projOnly : Bool
deriving DecidableEq, Repr

/-- No flag set. -/
def ProbFlags.zero : ProbFlags :=
  { pivotReg := false, warm := false, mapped := false, cold := false, dlLoad := false, dlFactor := false,
    dlIter := false, sat := false, notConv := false, projOnly := false }

/-- A problem in progress on its clusters. -/
structure Problem where
  desc       : ProblemDesc
  data       : ProblemData
  phase      : ProbPhase
  start      : Nat
  x          : List Int
  z          : List Int
  y          : List Int
  /-- The result buffer's x, clamped to the box. -/
  resX       : List Int
  /-- r, s and d of R207, and the normalised residuals. -/
  resid      : List Int
  precond    : List Int
  direction  : List Int
  normRes    : List Int
  factor     : List Int
  iterDone   : Nat
  pivotFirst : Option Nat
  pivots     : Nat
  primal     : Int
  dual       : Int
  flags      : ProbFlags
deriving DecidableEq, Repr

/-- A Praline entry (R210). -/
structure Praline where
  keySig : Word
  x      : List Int
  z      : List Int
  y      : List Int
  beat   : Long
deriving DecidableEq, Repr

/-- An empty Praline entry: its key matches no structure, because 0 is refused as a STRUCT_SIG. -/
def Praline.zero : Praline := { keySig := 0, x := [], z := [], y := [], beat := 0 }

/-- A result record (Table 7.6) with its values. -/
structure ProbResult where
  beat       : Word
  structSig  : Word
  flags      : ProbFlags
  iterDone   : Nat
  pivotFirst : Half
  pivots     : Half
  primal     : Word
  dual       : Word
  cycles     : Nat
  x          : List Int
  y          : List Int
deriving DecidableEq, Repr

/-- A slot's result window after reset (Table 7.10). -/
def ProbResult.zero : ProbResult :=
  { beat := 0, structSig := 0, flags := ProbFlags.zero, iterDone := 0, pivotFirst := 0xFFFF, pivots := 0, primal := 0,
    dual := 0, cycles := 0, x := [], y := [] }

/-- The counts of one slot (Table 7.10). -/
structure SlotCounts where
  pivots    : Word
  maps      : Word
  colds     : Word
  deadlines : Word
  notConv   : Word
deriving DecidableEq, Repr

/-- Clear counts. -/
def SlotCounts.zero : SlotCounts := { pivots := 0, maps := 0, colds := 0, deadlines := 0, notConv := 0 }

/-- The background job of a round (R220, R221). -/
structure BaJob where
  slot      : Nat
  slices    : Nat
  done      : Nat
  discarded : Bool
  /-- Observations and calibration that slice 1 took. -/
  snapshot  : List Int
  /-- The candidate of the last slice: six parameters of each of eight sensors. -/
  candidate : Option (List Int)
deriving DecidableEq, Repr

/-- No job. -/
def BaJob.zero : BaJob := { slot := 0, slices := 0, done := 0, discarded := false, snapshot := [], candidate := none }

/-- The HWK block. -/
structure HwkSt where
  progress   : Tab (Option Problem)
  praline    : Tab Praline
  results    : Tab ProbResult
  counts     : Tab SlotCounts
  /-- Descriptor in use of each slot, for the window. -/
  descs      : Tab (Option ProblemDesc)
  /-- Factors of this beat by slot, for FACTOR_SRC. -/
  factors    : Tab (List Int)
  job        : BaJob
  jobs       : Word
  discards   : Word
  flPivot    : Bool
  flCold     : Bool
  flDeadline : Bool
  flSat      : Bool
  flNotConv  : Bool
  flBa       : Bool
deriving DecidableEq, Repr

/-- The HWK block after reset (Table 7.10). -/
def HwkSt.reset : HwkSt :=
  { progress := [], praline := [], results := [], counts := [], descs := [], factors := [], job := BaJob.zero, jobs := 0,
    discards := 0, flPivot := false, flCold := false, flDeadline := false, flSat := false, flNotConv := false, flBa := false }

end Sys2Proof.Machine
end

