-- ==== Sys2Proof/Machine/Alloc.lean ====
section
/-! DEFINITION. The thrust allocator: device and sector states, variants, bounds, post-processing
(10_thrust_allocation.md). -/

namespace Sys2Proof.Machine

/-- How a block reads a capture field of the union in the beat: the value, unsigned, and its length in bytes (R285,
R358). -/
abbrev FieldReader := Half → Byte → Option (Nat × Nat)

/-- What a device reads as. -/
def AlcSt.dev (a : AlcSt) (k : Nat) : AlcDev := Tab.get AlcDev.start a.devices k

/-- Write a device. -/
def AlcSt.setDev (a : AlcSt) (k : Nat) (v : AlcDev) : AlcSt := { a with devices := Tab.set AlcDev.start a.devices k v }

/-- The configured devices, by number. -/
def AlcSt.cfgs (a : AlcSt) : List (Nat × AlcDevCfg) :=
  match a.table with
  | none => []
  | some t => (List.range t.devices.length).filterMap (fun k => (t.devices[k]?).map (fun d => (k, d)))

/-- The state of a device, UNUSED when it is not configured (Table 10.7). -/
def AlcSt.stateOf (a : AlcSt) (k : Nat) : DevState :=
  match a.table with
  | none => .unused
  | some t => if k < t.devices.length then (a.dev k).state else .unused

/-- Devices in a state, as a mask. -/
def AlcSt.maskOfState (a : AlcSt) (s : DevState) : BitVec 48 :=
  maskOf 48 ((List.range 48).filter (fun k => decide (a.stateOf k = s)))

/-- Angle of a feedback field: v × 2^(32 − 8L) (R285). -/
def fbAngleOf (v len : Nat) : Word := BitVec.ofNat 32 (v * 2 ^ (32 - 8 * len))

/-- |a − b| of two binary angles by signed difference (R136). -/
def angleDist (a b : Word) : Nat := (wrapDiff (2 ^ 32) a.toNat b.toNat).natAbs

/-- Clockwise distance from a to b. -/
def cwDist (a b : Word) : Nat := (b - a).toNat

/-- A device enters LOST (Table 10.4): event 0x0901. -/
def AlcDev.lose (d : AlcDev) (k reason : Nat) : AlcDev × List Ev :=
  ({ d with state := .lost, reason := BitVec.ofNat 4 reason, eventNow := true, losses := d.losses + 1, mismatch := 0,
            sector := .normal, press := 0, leave := 0, dLock := 0 },
   [(0x0901, [wordN k, wordN reason, wordN d.state.code])])

/-- Table 10.4 for one device in step 1 of a beat (R284 to R286), before host commands. -/
def AlcDev.update (d : AlcDev) (k : Nat) (c : AlcDevCfg) (read : FieldReader) : AlcDev × List Ev :=
  let status := if c.statusField = 0 then none else read c.statusField c.fbSide
  let fb := if c.fbField = 0 then none else read c.fbField c.fbSide
  let fault := match status with | none => false | some v => v.1.testBit 1
  let healthy := if c.statusField = 0 then true else match status with | none => false | some v => v.1.testBit 0 && !v.1.testBit 1
  let present := decide (c.fbField = 0) || fb.isSome
  let silent := if status.isSome || fb.isSome then 0 else d.silent + 1
  let ang := match fb with | none => d.fbAngle | some v => fbAngleOf v.1 v.2
  let d0 := { d with silent := silent, fbAngle := ang, healthy := healthy, fbNow := present, eventNow := false }
  match d.state with
  | .unused => (d0, [])
  | .lost =>
    if d.reason = 4 ∧ healthy ∧ present then
      ({ d0 with state := .available, reason := 0, thrust := 0, mismatch := 0 }, [(0x0908, [wordN k, 0])])
    else (d0, [])
  | _ =>
    if fault then d0.lose k 1
    else if c.fbTimeout ≠ 0 ∧ silent ≥ c.fbTimeout.toNat then d0.lose k 2
    else if d.state = .locked then
      (if fb.isSome then { d0 with dLock := ang } else d0, [])
    else if c.kind = 1 ∧ ¬ c.noLock ∧ c.lockBeats ≠ 0 ∧ fb.isSome ∧ angleDist ang d.prevAngle > c.lockTol.toNat then
      let m := d.mismatch + 1
      if m ≥ c.lockBeats.toNat then
        ({ d0 with state := .locked, reason := 5, dLock := ang, mismatch := 0, eventNow := true, sector := .normal, press := 0, leave := 0 },
         [(0x0902, [wordN k, ang, d.prevAngle, wordN m])])
      else ({ d0 with mismatch := m }, [])
    else ({ d0 with mismatch := 0 }, [])

/-- Sectors of a device that are enabled, by number. -/
def AlcDev.enabledSectors (d : AlcDev) (c : AlcDevCfg) : List (Nat × SectorCfg) :=
  (List.range 4).filterMap (fun j => if d.enabled.getLsbD j then (c.sectors[j]?).map (fun s => (j, s)) else none)

/-- Is an angle inside a sector (START clockwise through START + WIDTH)? -/
def inSector (s : SectorCfg) (a : Word) : Bool := decide (cwDist s.start a ≤ s.width.toNat)

/-- Is an angle strictly between a sector's edges (Table 10.5)? -/
def insideSector (s : SectorCfg) (a : Word) : Bool := decide (0 < cwDist s.start a) && decide (cwDist s.start a < s.width.toNat)

/-- Is an angle outside the sector on its far side, closer to the far edge than to the near one? -/
def beyondFar (s : SectorCfg) (clockwise : Bool) (a : Word) : Bool :=
  let toStart := angleDist a s.start
  let toEnd := angleDist a (s.start + s.width)
  !(inSector s a) && (if clockwise then decide (toEnd < toStart) else decide (toStart < toEnd))

/-- Table 10.5 for one azimuth (R289), in step 1. -/
def AlcDev.sectorStep (d : AlcDev) (k press : Nat) (c : AlcDevCfg) : AlcDev × List Ev :=
  if c.kind ≠ 1 ∨ d.state ≠ .available then ({ d with sector := .normal, press := 0, leave := 0 }, [])
  else
    let secs := d.enabledSectors c
    match d.sector with
    | .normal =>
      match secs.find? (fun (p : Nat × SectorCfg) => insideSector p.2 d.angle) with
      | some (j, s) =>
        let cw := decide (cwDist d.angle (s.start + s.width) ≤ cwDist s.start d.angle)
        ({ d with sector := .crossing, sectorNo := j, clockwise := cw, crossBeats := 0, press := 0 }, [])
      | none =>
        match d.pressed with
        | none => ({ d with press := 0 }, [])
        | some (j, cw) =>
          if d.press + 1 ≥ press then
            ({ d with sector := .drain, sectorNo := j, clockwise := cw, press := 0, leave := 0 },
             [(0x0906, [wordN k, wordN j, d.angle])])
          else ({ d with press := d.press + 1 }, [])
    | .drain =>
      if d.thrust.natAbs ≤ c.passFrac.toNat * 32768 then
        ({ d with sector := .crossing, crossBeats := 0, press := 0, leave := 0 }, [])
      else if d.pressed.isNone then
        if d.leave + 1 ≥ press then ({ d with sector := .normal, leave := 0, press := 0 }, [])
        else ({ d with leave := d.leave + 1 }, [])
      else ({ d with leave := 0 }, [])
    | .crossing =>
      match c.sectors[d.sectorNo]? with
      | none => ({ d with sector := .normal }, [])
      | some s =>
        if beyondFar s d.clockwise d.angle then
          ({ d with sector := .normal, crossings := d.crossings + 1 },
           [(0x0907, [wordN k, wordN d.sectorNo, wordN (d.crossBeats + 1)])])
        else ({ d with crossBeats := d.crossBeats + 1 }, [])

/-- R284, R289: step 1 of R294 for every device in ascending order. -/
def AlcSt.updateDevices (a : AlcSt) (read : FieldReader) : AlcSt × List Ev :=
  match a.table with
  | none => (a, [])
  | some t =>
    let r := a.cfgs.foldl (fun (acc : AlcSt × List Ev) p =>
      let u := (acc.1.dev p.1).update p.1 p.2 read
      let s := u.1.sectorStep p.1 t.sectorPress.toNat p.2
      let lossBit := decide (u.1.state = .lost) && decide ((acc.1.dev p.1).state ≠ .lost)
      let lockBit := decide (u.1.state = .locked) && decide ((acc.1.dev p.1).state ≠ .locked)
      let st := acc.1.sticky ||| (if lossBit then 1 else 0) ||| (if lockBit then 2 else 0)
      ({ acc.1.setDev p.1 s.1 with sticky := st }, acc.2 ++ u.2 ++ s.2)) (a, [])
    let av := t.groups.map (fun (g : AlcGroup) =>
      if g.availField = (0 : Half) then (32768 : Int) else match read g.availField 0 with | none => 32768 | some v => (v.1 : Int))
    ({ r.1 with groupAvail := av, variant := r.1.nextVariant, fallback := r.1.nextFallback }, r.2)

/-- A device's state in a variant (R291). -/
def variantState (v : VariantEntry) (k : Nat) : DevState :=
  if v.lossMask.getLsbD k then .lost else if v.lockMask.getLsbD k then .locked else .available

/-- R291: usable when every device's state in the variant is at or below its actual state. -/
def AlcSt.usable (a : AlcSt) (v : VariantEntry) : Bool :=
  a.cfgs.all (fun p => decide ((variantState v p.1).code ≤ (a.dev p.1).state.code))

/-- The number of devices a variant matches exactly. -/
def AlcSt.matches (a : AlcSt) (v : VariantEntry) : Nat :=
  (a.cfgs.filter (fun p => decide (variantState v p.1 = (a.dev p.1).state))).length

/-- R291's selection: the variant and 0 exact, 1 fallback, 2 override. -/
def AlcSt.select (a : AlcSt) (vs : List VariantEntry) : Half × Nat :=
  let n := a.cfgs.length
  let auto : Half × Nat :=
    match vs.find? (fun v => decide (a.matches v = n)) with
    | some v => (v.id, 0)
    | none =>
      let best := (vs.filter a.usable).foldl (fun (b : Option VariantEntry) v => match b with
        | none => some v
        | some w => if a.matches w < a.matches v then some v
                    else if a.matches v = a.matches w ∧ v.id.toNat < w.id.toNat then some v else some w) none
      (match best with | none => 0 | some v => v.id, 1)
  match a.override with
  | none => auto
  | some o =>
    match vs.find? (fun v => decide (v.id = o)) with
    | some v => if a.usable v then (o, 2) else auto
    | none => auto

/-- A device pinned in the variant in use (R292). -/
def AlcSt.pinned (a : AlcSt) (vs : List VariantEntry) (k : Nat) : Bool :=
  match vs.find? (fun v => decide (v.id = a.variant)) with
  | none => false
  | some v => decide ((variantState v k).code < (a.dev k).state.code)

/-- Step 10 of R294 (R291, R293): the variant for the next beat, and its events. -/
def AlcSt.selectNext (a : AlcSt) (vs : List VariantEntry) : AlcSt × List Ev :=
  let dropped : Bool := match a.override with
    | none => false
    | some o => match vs.find? (fun v => decide (v.id = o)) with | none => true | some v => !(a.usable v)
  let ev0 : List Ev := if dropped then [(0x0909, [wordN (a.override.getD 0).toNat, 2])] else []
  let a := if dropped then { a with override := none, sticky := a.sticky ||| 256 } else a
  let (v, how) := a.select vs
  let fb := !(match vs.find? (fun e => decide (e.id = v)) with | none => false | some e => decide (a.matches e = a.cfgs.length))
  let lost := a.maskOfState .lost
  let pins := (a.cfgs.filter (fun p => match vs.find? (fun e => decide (e.id = v)) with
    | none => false | some e => decide ((variantState e p.1).code < (a.dev p.1).state.code))).length
  let ev1 : List Ev := if v = a.variant then [] else [(0x0903, [wordN a.variant.toNat, wordN v.toNat, wordN how])]
  let ev2 : List Ev := if fb && !a.nextFallback then [(0x0904, [wordN v.toNat, wordN pins, BitVec.ofNat 32 lost.toNat])] else []
  ({ a with nextVariant := v, nextFallback := fb, switches := if v = a.variant then a.switches else a.switches + 1,
            fallbacks := if a.fallback then a.fallbacks + 1 else a.fallbacks,
            sticky := if fb && !a.nextFallback then a.sticky ||| 4 else a.sticky }, ev0 ++ ev1 ++ ev2)

/-- The signed rate limit per beat, Q1.31: T_RATE/1000. -/
def devDt (c : AlcDevCfg) : Int := Config.quot 288 ((c.tRate.toNat : Int) * 32768) 1000
/-- A_RATE/1000 per beat, binary angle. -/
def devDa (c : AlcDevCfg) : Int := Config.quot 288 c.aRate.toNat 1000
/-- The reverse limit, Q1.31. -/
def devRev (c : AlcDevCfg) : Int := (c.revFrac.toNat : Int) * 32768
/-- 1.0 in Q1.31. -/
def one31 : Int := 2 ^ 31

/-- The rate row [max(−rev, t − dt), min(1, t + dt)] of R288. -/
def rateRow (c : AlcDevCfg) (t : Int) : Int × Int := (max (-(devRev c)) (t - (devDt c)), min one31 (t + (devDt c)))

/-- g_cw and g_ccw of R288, with the sector a crossing removes on its pressed side. -/
def turnRoom (d : AlcDev) (c : AlcDevCfg) (cw : Bool) : Int :=
  let secs := (d.enabledSectors c).filter (fun (p : Nat × SectorCfg) =>
    !(decide (d.sector = .crossing) && decide (p.1 = d.sectorNo) && decide (d.clockwise = cw)))
  secs.foldl (fun g (p : Nat × SectorCfg) =>
    min g (if cw then cwDist d.angle p.2.start else cwDist (p.2.start + p.2.width) d.angle : Nat)) (devDa c)

/-- The radial row's upper bound after Table 10.5. -/
def radialUpper (d : AlcDev) (c : AlcDevCfg) (hi : Int) : Int :=
  match d.sector with
  | .normal => hi
  | .drain => min hi ((c.passFrac.toNat : Int) * 32768)
  | .crossing =>
    match c.sectors[d.sectorNo]? with
    | some s => min hi (if s.kind = 2 then 0 else (c.passFrac.toNat : Int) * 32768)
    | none => hi

/-- A device's rows of R288 in the variant: (l, u) of each row and (lx, ux) of each variable, Q1.31. -/
def deviceBounds (d : AlcDev) (c : AlcDevCfg) (inVariant : DevState) : List (Int × Int) × List (Int × Int) :=
  let rr := rateRow c d.thrust
  let box1 : Int × Int := (-one31, one31)
  let boxT : Int × Int := (-(devRev c), one31)
  let two := c.kind = 3 ∨ (c.kind = 1 ∧ inVariant = .available)
  if inVariant = .lost then ([], [])
  else if d.state = .lost then
    if c.kind = 1 ∧ inVariant = .available then ([box1, box1], [(0, 0), (0, 0)])
    else if two then ([boxT, box1], [(0, 0), (0, 0)])
    else ([boxT], [(0, 0)])
  else if c.kind = 1 ∧ inVariant = .available then
    if d.state = .locked then ([rr, (0, 0)], [box1, box1])
    else
      let tr := max (d.thrust.natAbs : Int) ((c.tMinAngle.toNat : Int) * 32768)
      let full := Config.tanMul (devDa c) tr
      let tang : Int × Int :=
        if d.sector = .crossing then (if d.clockwise then (full, full) else (-full, -full))
        else (-(Config.tanMul (turnRoom d c false) tr), Config.tanMul (turnRoom d c true) tr)
      ([(rr.1, radialUpper d c rr.2), tang], [box1, box1])
  else if c.kind = 3 then
    let cl := (if 0 ≤ d.thrust then c.liftAhead else c.liftAstern).toNat
    let dp := (d.angle.toInt)
    let lo := max (-(c.aMax.toNat : Int)) (dp - (devDa c))
    let hi := min (c.aMax.toNat : Int) (dp + (devDa c))
    let e1 := Config.liftBound cl d.thrust (lo - dp)
    let e2 := Config.liftBound cl d.thrust (hi - dp)
    ([rr, (min e1 e2, max e1 e2)], [boxT, box1])
  else ([rr], [boxT])

/-- A fraction in Q1.31 as a raw code with `frac` fraction bits. -/
def toRaw (frac : Nat) (v : Int) : Int := if frac ≥ 31 then v * 2 ^ (frac - 31) else Config.quot 288 v (2 ^ (31 - frac))

/-- A raw code with `frac` fraction bits as Q1.31. -/
def fromRaw (frac : Nat) (v : Int) : Int := if frac ≤ 31 then v * 2 ^ (31 - frac) else Config.quot 295 v (2 ^ (frac - 31))

/-- The tunnel factor e of R288, Q1.31, with the surge velocity in 0.1 mm/s. -/
def tunnelFactor (c : AlcDevCfg) (velU : Int) : Int :=
  if c.uFade = 0 then one31
  else max ((c.eMin.toNat : Int) * 32768) (one31 - Config.quot 288 ((velU.natAbs : Int) * one31) (c.uFade.toNat * 100))

/-- LIFT_AHEAD or LIFT_ASTERN, by the sign of the thrust (R288). -/
def liftOf (c : AlcDevCfg) (t : Int) : Nat := (if 0 ≤ t then c.liftAhead else c.liftAstern).toNat

/-- What a device gives to P, q and A of R288: its weights, the values v_p its last output implies, and the coefficients of its
rows: the directions (azimuth, fixed kinds) or cl·d_p (main rudder), its geometry, its rating and the tunnel factor. -/
def deviceCoefs (d : AlcDev) (c : AlcDevCfg) (inVariant : DevState) (velU : Int) : List Int :=
  if inVariant = .lost then []
  else
    let two := decide (c.kind = 1) && decide (inVariant = .available)
    let dir : Word := if c.kind = 1 then (if d.state = .locked then d.dLock else d.angle) else c.dir
    let unit := Config.rotate dir.toNat one31 0
    let prev := Config.rotate d.angle.toNat d.thrust 0
    let vp : List Int :=
      if two then [prev.1, prev.2]
      else if c.kind = 3 then [d.thrust, Config.liftBound (liftOf c d.thrust) d.thrust d.angle.toInt]
      else [d.thrust]
    let rows : List Int := if c.kind = 3 then [Config.liftBound (liftOf c d.thrust) one31 d.angle.toInt] else [unit.1, unit.2]
    [(c.wPower.toNat : Int), c.wChange.toNat] ++ vp ++ rows ++
      [c.posX, c.posY, c.rated.toNat, if c.kind = 2 then tunnelFactor c velU else one31, if 0 ≤ d.thrust then 1 else -1]

/-- P, q and A of R288 by the values they are made of: the references, the slack weights, the devices' coefficients and the masks
of the thrust groups. -/
def AlcSt.coefs (a : AlcSt) (t : AlcTable) (v : VariantEntry) (velU : Int) : List Int :=
  [(t.forceRef.toNat : Int), t.momentRef.toNat] ++ t.wSlack.map (fun w => (w.toNat : Int)) ++
    (a.cfgs.map (fun p => deviceCoefs (a.dev p.1) p.2 (variantState v p.1) velU)).flatten ++
    t.groups.map (fun g => (g.mask.toNat : Int))

/-- R288's cap of a thrust group, Q1.31: LIMIT_N over FORCE_REF at full power. -/
def capOf (limit : Nat) (avail : Int) (forceRef : Nat) : Int :=
  if avail = 32768 then Config.quot 288 ((limit : Int) * one31) forceRef else Config.groupCap limit avail forceRef

/-- R288: bounds and boxes of the beat's problem, with pins (R292), and what P, q and A are made of.  The slack variables and
balance rows stand first (R282). -/
def AlcSt.problem (a : AlcSt) (v : VariantEntry) (frac : Nat) (velU : Int) : ProblemData :=
  match a.table with
  | none => { lx := [], ux := [], l := [], u := [], other := [] }
  | some t =>
    let raw := toRaw frac
    let bal := [Config.quot 288 (a.demand.1 * one31) t.forceRef.toNat, Config.quot 288 (a.demand.2.1 * one31) t.forceRef.toNat,
                Config.quot 288 (a.demand.2.2 * one31) t.momentRef.toNat]
    let devs := a.cfgs.map (fun p => deviceBounds (a.dev p.1) p.2 (variantState v p.1))
    let rows := devs.flatMap (fun (d : List (Int × Int) × List (Int × Int)) => d.1)
    let vars := devs.flatMap (fun (d : List (Int × Int) × List (Int × Int)) => d.2)
    let caps := (List.range t.groups.length).map (fun g =>
      capOf ((t.groups[g]?.map AlcGroup.limitN).getD 0).toNat (a.groupAvail.getD g 32768) t.forceRef.toNat)
    let s2 := 2 * one31
    { lx := ([-s2, -s2, -s2] ++ vars.map Prod.fst).map raw, ux := ([s2, s2, s2] ++ vars.map Prod.snd).map raw,
      l := (bal ++ rows.map Prod.fst ++ caps.map (fun c => -c)).map raw,
      u := (bal ++ rows.map Prod.snd ++ caps).map raw, other := a.coefs t v velU }

/-- Clamp and say whether it changed the value. -/
def clampF (lo hi v : Int) : Int × Bool := let w := clampI lo hi v; (w, decide (w ≠ v))

/-- R295 for the thrust: THRUST_LIMIT (bit 1) and THRUST_RATE (bit 2). -/
def clampThrust (c : AlcDevCfg) (t v : Int) : Int × BitVec 6 :=
  let (a, lim) := clampF (-(devRev c)) one31 v
  let (b, rate) := clampF (max (-(devRev c)) (t - (devDt c))) (min one31 (t + (devDt c))) a
  (b, (if lim then 2 else 0) ||| (if rate then 4 else 0))

/-- Keep a turn from a to b out of the enabled sectors, except along a crossing: the angle and whether a sector stopped it. -/
def keepOut (d : AlcDev) (c : AlcDevCfg) (turn : Int) : Int × Bool :=
  let cw := turnRoom d c true
  let ccw := turnRoom d c false
  clampF (-ccw) cw turn

/-- R295 for one device with its share of the result (Q1.31 variables) and its state in the variant. -/
def postDevice (d : AlcDev) (c : AlcDevCfg) (inVariant : DevState) (x : List Int) (pin : Bool) : AlcDev :=
  let pinF : BitVec 6 := if pin then 1 else 0
  let crossF : BitVec 6 := if d.sector = .crossing then 32 else 0
  if d.state = .lost then { d with thrust := 0, prevAngle := d.angle, dflags := pinF }
  else if c.kind = 1 ∧ d.state = .available then
    let fx := x.getD 0 0
    let fy := x.getD 1 0
    let al := BitVec.ofInt 32 (Config.atan2 fy fx)
    let tt := Config.sqrtOf 295 (fx * fx + fy * fy)
    let flip := decide (angleDist al d.angle > 0x40000000)
    let al := if flip then al + 0x80000000 else al
    let tt := if flip then -tt else tt
    let (th, f1) := clampThrust c d.thrust tt
    if th.natAbs < c.tMinAngle.toNat * 32768 then
      { d with thrust := th, prevAngle := d.angle, dflags := pinF ||| crossF ||| f1 }
    else
      let turn := wrapDiff (2 ^ 32) al.toNat d.angle.toNat
      let (t1, rate) := clampF (-(devDa c)) (devDa c) turn
      let (t2, edge) := keepOut d c t1
      { d with thrust := th, prevAngle := d.angle, angle := d.angle + BitVec.ofInt 32 t2,
               dflags := pinF ||| crossF ||| f1 ||| (if rate then 8 else 0) ||| (if edge then 16 else 0) }
  else if c.kind = 3 then
    let (u, f1) := clampThrust c d.thrust (x.getD 0 0)
    let dp := d.angle.toInt
    let want := if d.thrust.natAbs ≥ c.tMinAngle.toNat * 32768 then Config.rudderAngle (liftOf c d.thrust) dp d.thrust u (x.getD 1 0) else dp
    let (ang, rate) := clampF (max (-(c.aMax.toNat : Int)) (dp - (devDa c))) (min (c.aMax.toNat : Int) (dp + (devDa c))) want
    { d with thrust := u, prevAngle := d.angle, angle := BitVec.ofInt 32 ang, dflags := pinF ||| f1 ||| (if rate then 8 else 0) }
  else
    -- a locked azimuth that the variant holds AVAILABLE gives its radial row
    let t := if c.kind = 1 ∧ inVariant = .available then (Config.rotate (-(d.dLock.toNat : Int)) (x.getD 0 0) (x.getD 1 0)).1 else x.getD 0 0
    let (u, f1) := clampThrust c d.thrust t
    { d with thrust := u, prevAngle := d.angle, angle := if c.kind = 1 then d.dLock else c.dir, dflags := pinF ||| f1 }

/-- HELD (Table 10.6): the output of the beat before, with a pinned device at 0, which one that is not LOST approaches at its
rate limit (R295). -/
def holdDevice (d : AlcDev) (c : AlcDevCfg) (pin : Bool) : AlcDev :=
  let pinF : BitVec 6 := if pin then 1 else 0
  if d.state = .lost then { d with thrust := 0, prevAngle := d.angle, dflags := pinF }
  else if pin then
    let r := clampThrust c d.thrust 0
    { d with thrust := r.1, prevAngle := d.angle, angle := if d.state = .locked then d.dLock else d.angle, dflags := pinF ||| r.2 }
  else { d with prevAngle := d.angle, dflags := 0 }

/-- R281's contribution of a device's output: force x, force y in N and moment in 10 N·m. -/
def contribution (d : AlcDev) (c : AlcDevCfg) (velU : Int) : Int × Int × Int :=
  let e := if c.kind = 2 then tunnelFactor c velU else one31
  let f := Config.quot 281 (Config.quot 281 (d.thrust * c.rated.toNat) (2 ^ 31) * e) (2 ^ 31)
  let lift := Config.liftBound (liftOf c d.thrust) d.thrust d.angle.toInt
  let (fx, fy) := if c.kind = 3 then (f, Config.quot 281 (lift * c.rated.toNat) (2 ^ 31)) else Config.rotate d.angle.toNat f 0
  (fx, fy, Config.quot 281 (c.posX * fy - c.posY * fx) 10000)

/-- R289: did the result leave the tangential row at a bound that a PASS_ZERO sector clips?  `row` is the row's z, l and u. -/
def pressedBy (d : AlcDev) (c : AlcDevCfg) (z l u : Int) : Option (Nat × Bool) :=
  let clip := fun (cw : Bool) => (d.enabledSectors c).find? (fun (p : Nat × SectorCfg) =>
    decide (p.2.kind = 1) && decide (((if cw then cwDist d.angle p.2.start else cwDist (p.2.start + p.2.width) d.angle : Nat) : Int) < (devDa c)))
  if z = u then (clip true).map (fun p => (p.1, true))
  else if z = l then (clip false).map (fun p => (p.1, false))
  else none

/-- Where each device's variables and rows begin in the problem of a variant: variable offset, row offset, state. -/
def AlcSt.offsets (a : AlcSt) (v : VariantEntry) : List (Nat × AlcDevCfg × Nat × DevState) :=
  (a.cfgs.foldl (fun (acc : List (Nat × AlcDevCfg × Nat × DevState) × Nat) p =>
    let s := variantState v p.1
    let n := if s = .lost then 0 else if p.2.kind = 3 ∨ (p.2.kind = 1 ∧ s = .available) then 2 else 1
    (acc.1 ++ [(p.1, p.2, acc.2, s)], acc.2 + n)) ([], 3)).1

/-- Step 8 of R294 with a result: every device post-processed; `held`: the outputs of the beat before, with pins at 0. -/
def AlcSt.post (a : AlcSt) (v : VariantEntry) (vs : List VariantEntry) (frac : Nat) (x z l u : List Int) (held : Bool) : AlcSt :=
  (a.offsets v).foldl (fun (acc : AlcSt) p =>
    let d := acc.dev p.1
    let pin := a.pinned vs p.1
    let xs := [fromRaw frac (x.getD p.2.2.1 0), fromRaw frac (x.getD (p.2.2.1 + 1) 0)]
    let row := p.2.2.1 + 1
    let d1 :=
      if a.zero then
        { d with thrust := 0, prevAngle := d.angle, dflags := if pin then 1 else 0 }
      else if held then
        holdDevice d p.2.1 pin
      else postDevice d p.2.1 p.2.2.2 xs pin
    let d2 := if p.2.1.kind = 1 ∧ p.2.2.2 = .available ∧ d.state = .available then
        { d1 with pressed := pressedBy d p.2.1 (z.getD row 0) (l.getD row 0) (u.getD row 0) } else { d1 with pressed := none }
    let lim := d2.dflags.getLsbD 2 || d2.dflags.getLsbD 3
    acc.setDev p.1 { d2 with rateLim := if lim then d2.rateLim + 1 else d2.rateLim }) a

/-- Steps 7 to 9 of R294 and R296: the outputs, achieved force, slack, flags and warnings. -/
def AlcSt.finish (a : AlcSt) (vs : List VariantEntry) (f : ProbFlags) (sameSig : Bool) (recSig : Word) (frac : Nat)
    (x z l u : List Int) (velU : Int) : AlcSt × List Ev :=
  match a.table, vs.find? (fun e => decide (e.id = a.variant)) with
  | some t, some v =>
    let held := f.dlLoad && !sameSig
    let a1 := a.post v vs frac x z l u held
    let con := a1.cfgs.map (fun p => contribution (a1.dev p.1) p.2 velU)
    let ach := con.foldl (fun (s : Int × Int × Int) c => (s.1 + c.1, s.2.1 + c.2.1, s.2.2 + c.2.2)) (0, 0, 0)
    let dl := f.dlLoad || f.dlFactor || f.dlIter
    let pins := a1.cfgs.any (fun p => a1.pinned vs p.1)
    let slack := [a1.demand.1 - ach.1, a1.demand.2.1 - ach.2.1, a1.demand.2.2 - ach.2.2]
    let refs := [t.forceRef.toNat, t.forceRef.toNat, t.momentRef.toNat]
    let above := (List.range 3).map (fun k =>
      decide (t.slackWarn ≠ 0) && decide ((t.slackWarn.toNat * refs.getD k 0 : Nat) < (slack.getD k 0).natAbs * 65536))
    let warn := above.any id
    let run := if warn then a1.warnRun + 1 else 0
    let evW : List Ev :=
      match (List.range 3).find? (fun k => above.getD k false) with
      | some k => if run = t.slackWarnBeats.toNat then [(0x090A, [wordN k, satWord (slack.getD k 0), wordN t.slackWarnBeats.toNat])] else []
      | none => []
    let b := fun (c : Bool) (n : Nat) => if c then BitVec.ofNat 16 (2 ^ n) else 0
    let fl : BitVec 16 := b a1.fallback 0 ||| b pins 1 ||| b held 2 ||| b dl 3 ||| b f.sat 4 ||| b f.notConv 5 |||
      b f.pivotReg 6 ||| b f.mapped 7 ||| b f.cold 8 ||| b a1.override.isSome 9 ||| b a1.zero 10 |||
      (a1.flags &&& 0x0800) ||| b warn 12
    let s := fun (c : Bool) (n : Nat) => if c then BitVec.ofNat 11 (2 ^ n) else 0
    ({ a1 with achieved := ach, flags := fl, warnRun := run, helds := if held then a1.helds + 1 else a1.helds,
               slackBeats := if warn then a1.slackBeats + 1 else a1.slackBeats,
               sticky := a1.sticky ||| s held 3 ||| s dl 4 ||| s f.sat 5 ||| s f.notConv 6 ||| s warn 7 },
     (if held then [(0x0905, [recSig, v.structSig])] else []) ++ evW)
  | _, _ => (a, [])

/-- Step 4 of R294: the demand of the beat, clamped to the references; DEMAND_CLAMP is bit 11. -/
def AlcSt.takeDemand (a : AlcSt) (d : Int × Int × Int) (standby : Bool) : AlcSt :=
  match a.table with
  | none => { a with demand := d, zero := standby }
  | some t =>
    let d := if standby then (0, 0, 0) else d
    let x := clampF (-(t.forceRef.toNat : Int)) t.forceRef.toNat d.1
    let y := clampF (-(t.forceRef.toNat : Int)) t.forceRef.toNat d.2.1
    let n := clampF (-(t.momentRef.toNat : Int)) t.momentRef.toNat d.2.2
    let c := x.2 || y.2 || n.2
    { a with demand := (x.1, y.1, n.1), zero := standby, flags := if c then 0x0800 else 0,
             sticky := if c then a.sticky ||| 1024 else a.sticky }

/-- Demand less achieved force, by degree of freedom (Table 10.7). -/
def AlcSt.slack (a : AlcSt) : List Int :=
  [a.demand.1 - a.achieved.1, a.demand.2.1 - a.achieved.2.1, a.demand.2.2 - a.achieved.2.2]

/-- The section of Table 10.7, as words. -/
def AlcSt.section (a : AlcSt) : List Word :=
  let sl := a.slack
  let lost := (a.maskOfState .lost).toNat
  let locked := (a.maskOfState .locked).toNat
  [satWord a.demand.1, satWord a.demand.2.1, satWord a.demand.2.2, satWord a.achieved.1, satWord a.achieved.2.1,
   satWord a.achieved.2.2, satWord (sl.getD 0 0), satWord (sl.getD 1 0), satWord (sl.getD 2 0),
   wordN (a.variant.toNat + a.flags.toNat * 65536), lo32 lost, hi32 lost, lo32 locked, hi32 locked] ++
  (List.range 48).flatMap (fun k =>
    if decide (a.stateOf k = .unused) then [0, 0, 3]
    else
      let d := a.dev k
      [satWord d.thrust, d.angle, wordN (d.state.code + d.dflags.toNat * 256)])

/-- R287 and R300: the devices after a restart; the image's sector enables.  `counts`: flags and counts clear too. -/
def AlcSt.restart (a : AlcSt) (t : Option AlcTable) (counts : Bool) : AlcSt :=
  let keep := fun (k : Nat) (d : AlcDev) =>
    let o := a.dev k
    if counts then d else { d with losses := o.losses, rateLim := o.rateLim, crossings := o.crossings }
  let devs : List (Nat × AlcDev) := match t with
    | none => []
    | some tb => (List.range tb.devices.length).filterMap (fun k => (tb.devices[k]?).map (fun (c : AlcDevCfg) =>
        (k, keep k { AlcDev.start with enabled := maskOf 4 ((List.range c.sectors.length).filter (fun j =>
          (c.sectors[j]?).any SectorCfg.atStart)) })))
  let tab := Tab.modifyAll AlcDev.start [] (devs.map Prod.fst)
    (fun k _ => ((devs.find? (fun (p : Nat × AlcDev) => decide (p.1 = k))).map Prod.snd).getD AlcDev.start)
  let b : AlcSt := { AlcSt.reset with table := t, devices := tab }
  if counts then b
  else { b with sticky := a.sticky, switches := a.switches, fallbacks := a.fallbacks, helds := a.helds, slackBeats := a.slackBeats }

end Sys2Proof.Machine
end

