-- ==== Sys2Proof/Machine/StCtl.lean ====
section
/-! DEFINITION. State of the CTL block: slots, modes, references, winches, stabilisers (11_positioning_loop.md). -/

namespace Sys2Proof.Machine

/-- DP modes (Table 11.5). -/
inductive DpMode where
  | standby | joystick | autoHeading | autoPosition | followTarget
deriving DecidableEq, Repr

/-- The code of a DP mode. -/
def DpMode.code : DpMode → Nat
  | .standby => 0 | .joystick => 1 | .autoHeading => 2 | .autoPosition => 3 | .followTarget => 4

/-- The mode of a code; values above 4 are no mode. -/
def DpMode.ofCode : Nat → Option DpMode
  | 0 => some .standby | 1 => some .joystick | 2 => some .autoHeading | 3 => some .autoPosition | 4 => some .followTarget
  | _ => none

/-- A coefficient set (R301, R307): b, a and their shifts. -/
structure Coefs where
  b  : List Int
  a  : List Int
  sb : List Nat
  sa : List Nat
deriving DecidableEq, Repr

/-- One compensator slot (R301 to R307).  Histories are newest first. -/
structure SlotSt where
  coefs   : Coefs
  shadow  : Coefs
  /-- APPLY of a LOCAL slot waits for the next beat edge: its session. -/
  pendApply : Option Word
  xh      : List Int
  yh      : List Int
  x       : Int
  out     : Int
  ys      : Int
  flags   : BitVec 5
  /-- ACC_SAT, OUT_CLAMP or STATE_CLAMP in this beat. -/
  beatClamp : Bool
  /-- The last run had no valid input. -/
  invalidNow : Bool
  runs    : Word
  clamps  : Word
deriving DecidableEq, Repr

/-- The empty coefficient set. -/
def Coefs.zero : Coefs := { b := [0, 0, 0, 0], a := [0, 0, 0], sb := [0, 0, 0, 0], sa := [0, 0, 0] }

/-- A slot with clear histories. -/
def SlotSt.zero : SlotSt :=
  { coefs := Coefs.zero, shadow := Coefs.zero, pendApply := none, xh := [0, 0, 0], yh := [0, 0, 0], x := 0, out := 0, ys := 0,
    flags := 0, beatClamp := false, invalidNow := false, runs := 0, clamps := 0 }

/-- The position ramp (R319, R558): positions and lengths in 2⁻¹⁶ mm, u in Q1.30, ṡ in 2⁻¹⁶ mm/s. -/
structure PosRamp where
  startN : Int
  startE : Int
  goalN  : Int
  goalE  : Int
  uN     : Int
  uE     : Int
  len    : Int
  s      : Int
  sd     : Int
deriving DecidableEq, Repr

/-- The heading ramp (R319, R558): binary angles with 16 further fraction bits. -/
structure PsiRamp where
  start : Int
  dir   : Int
  len   : Int
  s     : Int
  sd    : Int
deriving DecidableEq, Repr

/-- Winch modes (R321). -/
inductive WinchMode where
  | stop | tension | ahc | ahcTension
deriving DecidableEq, Repr

/-- The code of a winch mode. -/
def WinchMode.code : WinchMode → Nat
  | .stop => 0 | .tension => 1 | .ahc => 2 | .ahcTension => 3

/-- The winch mode of a code. -/
def WinchMode.ofCode (n : Nat) : WinchMode :=
  match n with | 1 => .tension | 2 => .ahc | 3 => .ahcTension | _ => .stop

/-- One winch loop. -/
structure WinchSt where
  mode     : WinchMode
  demand   : Int
  zp       : Int
  zdot     : Int
  sat      : Bool
  degraded : Bool
deriving DecidableEq, Repr

/-- A winch in STOP. -/
def WinchSt.zero : WinchSt := { mode := .stop, demand := 0, zp := 0, zdot := 0, sat := false, degraded := false }

/-- One stabiliser loop. -/
structure StabSt where
  enabled : Bool
  gated   : Bool
  sat     : Bool
  demand  : Int
deriving DecidableEq, Repr

/-- A disabled stabiliser. -/
def StabSt.zero : StabSt := { enabled := false, gated := false, sat := false, demand := 0 }

/-- The CTL block. -/
structure CtlSt where
  table     : Option CtlTable
  mode      : DpMode
  tgt       : BitVec 3
  /-- Staged writes of CTL_MODE_REQ and CTL_SP_* that wait for the automatic rows of their beat: address and value (R316,
  R324). -/
  waiting   : List (Word × Word)
  slots     : Tab SlotSt
  refN      : Int
  refE      : Int
  vrefN     : Int
  vrefE     : Int
  refPsi    : Int
  refR      : Int
  posRamp   : Option PosRamp
  psiRamp   : Option PsiRamp
  /-- Goal in the earth frame, and as published (in FOLLOW_TARGET the moving goal). -/
  spN       : Int
  spE       : Int
  spPubN    : Int
  spPubE    : Int
  spPsi     : Word
  /-- CTL_SP_N, CTL_SP_E, CTL_SP_PSI as staged. -/
  regN      : Int
  regE      : Int
  regPsi    : Word
  offsetN   : Int
  offsetE   : Int
  tgtPosN   : Int
  tgtPosE   : Int
  lostBeats : Nat
  demand    : List Int
  ff        : List Int
  err       : List Int
  joy       : List Int
  /-- Beats since the joystick's last entry; none before the first after a reset or wake (R310). -/
  joyMiss   : Option Nat
  /-- Slack of the previous beat's allocation section; none when there is none (R311). -/
  prevSlack : Option (List Int)
  prevHeave : Int
  permit    : BitVec 5
  /-- First unmet permissive of each mode in this beat; 0 met. -/
  unmet     : List Nat
  flags     : BitVec 9
  sticky    : BitVec 8
  refused   : Word
  superseded : Word
  degrades  : Word
  winches   : Tab WinchSt
  stabs     : Tab StabSt
deriving DecidableEq, Repr

/-- The CTL block after reset (Table 11.11, R327). -/
def CtlSt.reset : CtlSt :=
  { table := none, mode := .standby, tgt := 0, waiting := [], slots := [], refN := 0, refE := 0, vrefN := 0, vrefE := 0, refPsi := 0, refR := 0,
    posRamp := none, psiRamp := none, spN := 0, spE := 0, spPubN := 0, spPubE := 0, spPsi := 0, regN := 0, regE := 0, regPsi := 0,
    offsetN := 0, offsetE := 0, tgtPosN := 0, tgtPosE := 0, lostBeats := 0, demand := [0, 0, 0], ff := [0, 0, 0],
    err := [0, 0, 0, 0, 0, 0], joy := [0, 0, 0], joyMiss := none, prevSlack := none, prevHeave := 0, permit := 1,
    unmet := [0, 1, 1, 3, 3], flags := 0, sticky := 0, refused := 0, superseded := 0, degrades := 0, winches := [], stabs := [] }

end Sys2Proof.Machine
end

