-- ==== Sys2Proof/Machine/Control.lean ====
section
/-! DEFINITION. The positioning loop: compensator slots, modes, references, demand, winches, stabilisers
(11_positioning_loop.md). -/

namespace Sys2Proof.Machine

/-- What the control law reads of the estimator section of the current beat (Table 8.6), in interface units. -/
structure EstView where
  health   : Nat
  nPos     : Nat
  posN     : Int
  posE     : Int
  heading  : Word
  velU     : Int
  velV     : Int
  yawRate  : Int
  biasN    : Int
  biasE    : Int
  biasMz   : Int
  wind     : List Int
  windLost : Bool
  motionLost : Bool
  tgtValid : Bool
  tgtN     : Int
  tgtE     : Int
  roll     : Int
  pitch    : Int
  heave    : Int
  heaveVel : Int
deriving DecidableEq, Repr

/-- π with 128 fraction bits, rounded down. -/
def piQ128 : Nat := 0x3243f6a8885a308d313198a2e03707344

/-- The alternating series t_k − t_(k+2) + …, with t_(k+2) = t_k·x²/((k+1)·(k+2)), all with 128 fraction bits. -/
def trigSeries (xx : Nat) : (fuel k t : Nat) → Int
  | 0, _, _ => 0
  | f + 1, k, t => (t : Int) - trigSeries xx f (k + 2) (t * xx / 2 ^ 128 / ((k + 1) * (k + 2)))

/-- cos ψ of a binary angle, Q1.30 rounded to nearest with halves away from zero (R558), from the angle in its quadrant. -/
def cosQ30 (angle : Nat) : Int :=
  let q := angle / 2 ^ 30 % 4
  let x := angle % 2 ^ 30 * piQ128 / 2 ^ 31
  let xx := x * x / 2 ^ 128
  let c := rndDiv (trigSeries xx 24 0 (2 ^ 128)) (2 ^ 98)
  let s := rndDiv (trigSeries xx 24 1 x) (2 ^ 98)
  if q = 0 then c else if q = 1 then -s else if q = 2 then -c else s

/-- sin ψ of a binary angle, Q1.30 (R558): the cosine a quarter turn before. -/
def sinQ30 (angle : Nat) : Int := cosQ30 (angle + 3 * 2 ^ 30)

/-- What a slot reads as. -/
def CtlSt.slot (c : CtlSt) (k : Nat) : SlotSt := Tab.get SlotSt.zero c.slots k
/-- Write a slot. -/
def CtlSt.setSlot (c : CtlSt) (k : Nat) (v : SlotSt) : CtlSt := { c with slots := Tab.set SlotSt.zero c.slots k v }
/-- The slot's table entry, when it is used (R326). -/
def CtlSt.slotCfg (c : CtlSt) (k : Nat) : Option SlotCfg :=
  match c.table with
  | none => none
  | some t => (t.slots[k]?).filter (fun s => decide (s.order ≠ 0))
/-- A slot's output; 0 for an unused slot. -/
def CtlSt.output (c : CtlSt) (k : Nat) : Int := if (c.slotCfg k).isSome then (c.slot k).out else 0
/-- Slots of a sum list (Table 11.9). -/
def CtlSt.sums (c : CtlSt) (d : Nat) : List Nat :=
  match c.table with
  | none => []
  | some t => (t.sumList.getD d []).filterMap (fun s => if s = 0 then none else some (s.toNat - 1))

/-- R301's exact sum, before saturation. -/
def slotAcc (order : Nat) (k : Coefs) (x : Int) (xh yh : List Int) : Int :=
  let xs := x :: xh
  (List.range (order + 1)).foldl (fun s j => s + rndShift (k.b.getD j 0 * xs.getD j 0) (k.sb.getD j 0)) 0 -
  (List.range order).foldl (fun s j => s + rndShift (k.a.getD j 0 * yh.getD j 0) (k.sa.getD j 0)) 0

/-- R301: one run of a slot on an input.  Answers the slot, and the clamp flags (bit 0 ACC_SAT, 1 OUT_CLAMP,
2 STATE_CLAMP).  `hold`: R311. -/
def SlotSt.run (s : SlotSt) (c : SlotCfg) (input : Option Int) (hold : Bool) : SlotSt × BitVec 5 :=
  let x := match input with | none => s.x | some v => satS 32 v
  let acc0 := slotAcc c.order.toNat s.coefs x s.xh s.yh
  let acc := satS 48 acc0
  let ys := clampI c.stateMin c.stateMax acc
  let yo := clampI c.outMin c.outMax ys
  let fl : BitVec 5 := (if acc = acc0 then 0 else 1) ||| (if yo = ys then 0 else 2) ||| (if ys = acc then 0 else 4)
  let extra : BitVec 5 := (if hold then 8 else 0) ||| (if input.isNone then 16 else 0)
  ({ s with
      xh := if hold then s.xh else (x :: s.xh).take 3, yh := if hold then s.yh else (ys :: s.yh).take 3,
      ys := if hold then s.ys else ys, x := x, out := yo, flags := s.flags ||| fl ||| extra,
      beatClamp := s.beatClamp || decide (fl ≠ 0), invalidNow := input.isNone, runs := s.runs + 1,
      clamps := if fl = 0 then s.clamps else s.clamps + 1 }, fl)

/-- Does a slot run in a beat (R303)? -/
def slotDue (c : SlotCfg) (n : Nat) : Bool :=
  decide (c.perBeat ≠ 0) || (decide (c.every ≠ 0) && decide (n % c.every.toNat = c.phase.toNat))

/-- R311: is the slack of a degree of freedom above SLACK_HOLD of its reference in the previous beat's section? -/
def CtlSt.slackHolds (c : CtlSt) (dof : Nat) (refs : List Nat) : Bool :=
  match c.table, c.prevSlack with
  | some t, some sl =>
    decide (t.slackHold ≠ 0) && decide ((t.slackHold.toNat * refs.getD dof 0 : Nat) < (sl.getD dof 0).natAbs * 65536)
  | _, _ => false

/-- The pair-domain quantity of a QID in a beat: the output of the slot that produces it, where one does. -/
def CtlSt.quantityOf (c : CtlSt) (q n : Nat) : Int :=
  match c.table with
  | none => Config.quantity q n
  | some t =>
    match (List.range t.slots.length).find? (fun k => (c.slotCfg k).any (fun s => decide (s.qidY.toNat = q))) with
    | some k => c.output k
    | none => Config.quantity q n

/-- Is a slot of the PAIR domain (Table 11.2)? -/
def CtlSt.isPair (c : CtlSt) (k : Nat) : Bool := (c.slotCfg k).any (fun s => decide (s.tag = 1))

/-- The input of a PAIR slot (Table 11.1) that the block itself holds: kinds 2, 3, 4 and 7.  The other kinds come through `ext`,
`none` for an invalid input. -/
def CtlSt.input (c : CtlSt) (inp : Word) (n : Nat) (ext : Nat → Nat → Option Int) : Option Int :=
  let kind := bits inp 31 28
  let idx := bits inp 27 0
  if kind = 3 then some (c.output idx)
  else if kind = 4 then some (c.err.getD idx 0)
  else if kind = 7 then some (Tab.get WinchSt.zero c.winches idx).zdot
  else if kind = 2 then some (c.quantityOf idx n)
  else ext kind idx

/-- The input of a LOCAL slot (R304): its pair-domain values are those of the published record, which holds block `pub` of beat `pn`. -/
def CtlSt.localInput (c pub : CtlSt) (inp : Word) (pn : Nat) (ext : Nat → Nat → Option Int) : Option Int :=
  let kind := bits inp 31 28
  let idx := bits inp 27 0
  if kind = 3 then some (if c.isPair idx then pub.output idx else c.output idx)
  else if kind = 2 then some (pub.quantityOf idx pn)
  else ext kind idx

/-- One slot's run in the beat, with event 0x0A04; the last answer is its QID_Y when it clamped (R78, R302).  `pub`, `pn`: the
published record that a LOCAL slot reads (R304). -/
def CtlSt.runSlot (c pub : CtlSt) (n pn : Nat) (refs : List Nat) (ext : Nat → Nat → Option Int) (k : Nat) :
    CtlSt × List Ev × Option Half :=
  match c.slotCfg k with
  | none => (c, [], none)
  | some cfg =>
    if slotDue cfg n then
      let s := c.slot k
      let hold := cfg.flags.getLsbD 1 && c.slackHolds (bits (wordN cfg.flags.toNat) 3 2) refs
      let r := s.run cfg (if cfg.tag = 2 then c.localInput pub cfg.input pn ext else c.input cfg.input n ext) hold
      let ev : List Ev := if r.2 ≠ 0 ∧ s.flags &&& 7 = 0 then [(0x0A04, [wordN k, wordN r.2.toNat, satWord r.1.out])] else []
      let c1 := c.setSlot k r.1
      ({ c1 with flags := if hold then c1.flags ||| 2 else c1.flags, sticky := if hold then c1.sticky ||| 16 else c1.sticky }, ev,
       if r.2 = 0 then none else some cfg.qidY)
    else (c, [], none)

/-- R310: the joystick of the beat from its field's 48-bit value. -/
def CtlSt.joystick (c : CtlSt) (field : Half → Option Nat) : CtlSt :=
  match c.table with
  | none => c
  | some t =>
    if t.joyField = 0 then { c with joy := [0, 0, 0] }
    else
      let v := field t.joyField
      let miss := match v with | some _ => some 0 | none => c.joyMiss.map (fun m => m + 1)
      let axes := match v with
        | some w => (List.range 3).map (fun k => ((BitVec.ofNat 16 (w / 2 ^ (16 * k))).toInt))
        | none => c.joy
      let stale := match miss with | none => true | some m => decide (t.joyTimeout.toNat ≤ m)
      if stale then { c with joy := [0, 0, 0], joyMiss := miss, flags := c.flags ||| 4, sticky := c.sticky ||| 32 }
      else { c with joy := axes, joyMiss := miss }

/-- JOY_STALE of the beat. -/
def CtlSt.joyStale (c : CtlSt) : Bool := c.flags.getLsbD 2

/-- Table 11.6: the first unmet permissive of each mode, 0 when it is met (R314). -/
def CtlSt.permissives (c : CtlSt) (e : EstView) (usable : Nat) (bound : Bool) : List Nat :=
  match c.table with
  | none => [0, 1, 1, 3, 3]
  | some t =>
    let joy := decide (t.joyField ≠ 0) && !c.joyStale
    let u := decide (1 ≤ usable)
    let j := if !joy then 1 else if !u then 2 else 0
    let h := if j ≠ 0 then j else if e.health = 0 then 3 else 0
    let p := if e.health < 2 then 3 else if e.nPos < t.posMin.toNat then 4 else if u then 0 else 2
    let f := if p ≠ 0 then p else if bound && e.tgtValid then 0 else 5
    [0, j, h, p, f]

/-- Is a degree of freedom automatic in a mode (Table 11.5)? -/
def autoIn (m : DpMode) (dof : Nat) : Bool :=
  match m with
  | .autoHeading => decide (dof = 2)
  | .autoPosition => true
  | .followTarget => true
  | _ => false

/-- Is a degree of freedom under joystick in a mode? -/
def joyIn (m : DpMode) (dof : Nat) : Bool :=
  match m with
  | .joystick => true
  | .autoHeading => decide (dof < 2)
  | _ => false

/-- Is the position automatic in a mode? -/
def posAuto (m : DpMode) : Bool := autoIn m 0
/-- Is the heading automatic in a mode? -/
def psiAuto (m : DpMode) : Bool := autoIn m 2

/-- R(ψ)ᵀ·(a, b), exact products rounded once (R308, R558). -/
def rotT (psi : Word) (a b : Int) : Int × Int :=
  let c := cosQ30 psi.toNat
  let s := sinQ30 psi.toNat
  (rndDiv (c * a + s * b) (2 ^ 30), rndDiv (c * b - s * a) (2 ^ 30))

/-- R(ψ)·(a, b) scaled by num/den, rounded once. -/
def rotScaled (psi : Word) (a b : Int) (num den : Nat) : Int × Int :=
  let c := cosQ30 psi.toNat
  let s := sinQ30 psi.toNat
  (rndDiv ((c * a - s * b) * num) (2 ^ 30 * den), rndDiv ((s * a + c * b) * num) (2 ^ 30 * den))

/-- R317's bumpless preload of the slots of a sum list. -/
def CtlSt.preload (c : CtlSt) (dof : Nat) : CtlSt :=
  (c.sums dof).foldl (fun (c : CtlSt) k =>
    match c.slotCfg k with
    | none => c
    | some cfg =>
      if cfg.flags.getLsbD 0 then
        let y := c.demand.getD dof 0
        c.setSlot k { c.slot k with yh := [y, y, y], xh := [0, 0, 0] }
      else c) c

/-- R317: entry to a mode. -/
def CtlSt.enter (c : CtlSt) (m : DpMode) (e : EstView) : CtlSt :=
  let old := c.mode
  let c1 :=
    if posAuto m && !(decide (m = .autoPosition) && decide (old = .followTarget)) then
      let v := rotScaled e.heading e.velU e.velV 65536 10
      { c with refN := e.posN * 65536, refE := e.posE * 65536, spN := e.posN, spE := e.posE, vrefN := v.1, vrefE := v.2, posRamp := none }
    else if m = .autoPosition then { c with spN := c.spPubN, spE := c.spPubE }
    else c
  let c2 :=
    if psiAuto m && !psiAuto old then
      { c1 with refPsi := (e.heading.toNat : Int) * 65536, refR := e.yawRate * 65536, psiRamp := none, spPsi := e.heading }
    else c1
  let c3 := (List.range 3).foldl (fun (c : CtlSt) d => if autoIn m d && !autoIn old d then c.preload d else c) c2
  if m = .followTarget then { c3 with mode := m, offsetN := e.tgtN, offsetE := e.tgtE, lostBeats := 0 } else { c3 with mode := m }

/-- Leave a mode by an automatic degrade: DEGRADED and event 0x0A03. -/
def CtlSt.degrade (c : CtlSt) (m : DpMode) (cause : Nat) : CtlSt × List Ev :=
  ({ c with mode := m, flags := c.flags ||| 16, sticky := c.sticky ||| 2, degrades := c.degrades + 1 },
   [(0x0A03, [wordN c.mode.code, wordN m.code, wordN cause])])

/-- Table 11.7's row for TGT_LOSS_BEATS (R315). -/
def CtlSt.targetLost (c : CtlSt) (e : EstView) : CtlSt × List Ev :=
  { c with refN := e.posN * 65536, refE := e.posE * 65536, vrefN := 0, vrefE := 0, posRamp := none, spN := e.posN, spE := e.posE }.degrade
    .autoPosition 2

/-- The WATCH row of Table 11.7. -/
def CtlSt.watchStandby (c : CtlSt) : CtlSt × List Ev :=
  if c.mode = .standby then (c, [])
  else ({ c with mode := .standby }, [(0x0A01, [wordN c.mode.code, 0, 0xFFFFFFFF])])

/-- The automatic rows of Table 11.7 (R315, R316), except the count of lost target beats' own command. -/
def CtlSt.autoRows (c : CtlSt) (e : EstView) (watch : Bool) : CtlSt × List Ev :=
  if watch && decide (c.mode ≠ .standby) then c.watchStandby
  else if psiAuto c.mode && decide (e.health = 0) then
    c.degrade (if c.unmet.getD 1 0 = 0 then .joystick else .standby) 1
  else if c.mode = .followTarget then
    let c1 := { c with lostBeats := if e.tgtValid then 0 else c.lostBeats + 1 }
    (match c1.table with
     | some t => if t.tgtLossBeats.toNat ≤ c1.lostBeats then c1.targetLost e else (c1, [])
     | none => (c1, []))
  else (c, [])

/-- A mode request judged (R315, R316): the refusal's code, 0 applied. -/
def CtlSt.request (c : CtlSt) (m : DpMode) (session : Word) (e : EstView) (watch : Bool) : CtlSt × List Ev × Nat :=
  if m = c.mode then (c, [], 0)
  else
    let cause := if m = .standby then 0 else if watch then 6 else c.unmet.getD m.code 0
    if cause = 0 then (c.enter m e, [(0x0A01, [wordN c.mode.code, wordN m.code, session])], 0)
    else
      ({ c with flags := c.flags ||| 64, sticky := c.sticky ||| 1, refused := c.refused + 1 },
       [(0x0A02, [wordN m.code, wordN cause, session])], cause)

/-- The goal of the position reference in the earth frame (R318, R319). -/
def CtlSt.goal (c : CtlSt) : Int × Int :=
  if c.mode = .followTarget then (c.tgtPosN + c.offsetN, c.tgtPosE + c.offsetE) else (c.spN, c.spE)

/-- R319, R320, R558: start the position ramp toward the goal, ṡ the projected reference velocity. -/
def CtlSt.startPos (c : CtlSt) : CtlSt :=
  let g := c.goal
  let gn := g.1 * 65536
  let ge := g.2 * 65536
  let dx := gn - c.refN
  let dy := ge - c.refE
  let ln := isqrt (dx * dx + dy * dy).toNat
  let un := if ln = 0 then 0 else rndDiv (dx * 2 ^ 30) ln
  let ue := if ln = 0 then 0 else rndDiv (dy * 2 ^ 30) ln
  let sd := rndDiv (c.vrefN * un + c.vrefE * ue) (2 ^ 30)
  { c with posRamp := some { startN := c.refN, startE := c.refE, goalN := gn, goalE := ge, uN := un, uE := ue, len := ln, s := 0, sd := sd } }

/-- R318, R319: start the heading ramp in the TURN direction (0 the shorter way, 1 clockwise, 2 anticlockwise). -/
def CtlSt.startPsi (c : CtlSt) (turn : Nat) : CtlSt :=
  let full : Int := 2 ^ 48
  let cur := c.refPsi % full
  let g := (c.spPsi.toNat : Int) * 65536
  let cw := (g - cur) % full
  let (dir, ln) : Int × Int :=
    if turn = 1 then (1, cw)
    else if turn = 2 then (-1, (cur - g) % full)
    else if 2 * cw ≥ full then (-1, full - cw) else (1, cw)
  { c with psiRamp := some { start := cur, dir := dir, len := ln, s := 0, sd := c.refR * dir } }

/-- R320: a running ramp is superseded. -/
def CtlSt.supersede (c : CtlSt) : CtlSt :=
  { c with superseded := c.superseded + 1, flags := c.flags ||| 32, sticky := c.sticky ||| 4 }

/-- R318: commit of the position setpoint. -/
def CtlSt.goPos (c : CtlSt) (north east : Int) : CtlSt :=
  let c1 := if c.mode = .followTarget then { c with offsetN := north, offsetE := east } else { c with spN := north, spE := east }
  if posAuto c1.mode then
    let c2 := c1.startPos
    if c1.posRamp.isSome then c2.supersede else c2
  else c1

/-- R318: commit of the heading setpoint. -/
def CtlSt.goPsi (c : CtlSt) (heading : Word) (turn : Nat) : CtlSt :=
  let c1 := { c with spPsi := heading }
  if psiAuto c1.mode then
    let c2 := c1.startPsi turn
    if c1.psiRamp.isSome then c2.supersede else c2
  else c1

/-- One beat of R319's rule in units of 2⁻¹⁶: the new s and ṡ, and whether the ramp is done. -/
def rampStep (len s sd vmax amax edone : Int) : Int × Int × Bool :=
  let e := len - s
  let v : Int := isqrt (2 * amax * (e.natAbs : Int) * 65536).toNat
  let vd := clampI (-vmax) vmax (if e < 0 then -v else if e = 0 then 0 else v)
  let dv := rndDiv (amax * 65536) 1000
  let sd1 := sd + clampI (-dv) dv (vd - sd)
  let s1 := s + rndDiv sd1 1000
  (s1, sd1, decide ((e.natAbs : Int) ≤ edone) && decide ((sd1.natAbs : Int) ≤ dv))

/-- R319: one step of the position reference. -/
def CtlSt.stepPos (c : CtlSt) (t : CtlTable) : CtlSt :=
  match c.posRamp with
  | none => c
  | some p =>
    if posAuto c.mode then
      let r := rampStep p.len p.s p.sd (rndDiv ((t.vMaxPos.toNat : Int) * 65536) 10) t.aMaxPos.toNat ((t.eDoneMm.toNat : Int) * 65536)
      if r.2.2 then { c with refN := p.goalN, refE := p.goalE, vrefN := 0, vrefE := 0, posRamp := none }
      else
        { c with refN := p.startN + rndDiv (r.1 * p.uN) (2 ^ 30), refE := p.startE + rndDiv (r.1 * p.uE) (2 ^ 30),
                 vrefN := rndDiv (r.2.1 * p.uN) (2 ^ 30), vrefE := rndDiv (r.2.1 * p.uE) (2 ^ 30),
                 posRamp := some { p with s := r.1, sd := r.2.1 } }
    else { c with posRamp := none }

/-- R319: one step of the heading reference. -/
def CtlSt.stepPsi (c : CtlSt) (t : CtlTable) : CtlSt :=
  match c.psiRamp with
  | none => c
  | some p =>
    if psiAuto c.mode then
      let r := rampStep p.len p.s p.sd ((t.vMaxPsi.toNat : Int) * 65536) t.aMaxPsi.toNat ((t.eDoneAng.toNat : Int) * 65536)
      if r.2.2 then { c with refPsi := (p.start + p.dir * p.len) % 2 ^ 48, refR := 0, psiRamp := none }
      else { c with refPsi := p.start + p.dir * r.1, refR := r.2.1 * p.dir, psiRamp := some { p with s := r.1, sd := r.2.1 } }
    else { c with psiRamp := none }

/-- Step 2 of R324: the reference models; in FOLLOW_TARGET the goal moves with the target. -/
def CtlSt.references (c : CtlSt) (e : EstView) : CtlSt :=
  match c.table with
  | none => c
  | some t =>
    let c1 := if e.tgtValid then { c with tgtPosN := e.posN - e.tgtN, tgtPosE := e.posE - e.tgtE } else c
    let g := c1.goal
    let c2 :=
      if c1.mode = .followTarget ∧ (c1.posRamp.isSome ∨ c1.refN ≠ g.1 * 65536 ∨ c1.refE ≠ g.2 * 65536) then c1.startPos else c1
    ({ c2 with spPubN := g.1, spPubE := g.2 }.stepPos t).stepPsi t

/-- R308 with R558: the control errors. -/
def CtlSt.errors (c : CtlSt) (e : EstView) : CtlSt :=
  let p := rotT e.heading (rndDiv c.refN 65536 - e.posN) (rndDiv c.refE 65536 - e.posE)
  let v := rotT e.heading (rndDiv (c.vrefN * 10) 65536) (rndDiv (c.vrefE * 10) 65536)
  { c with err := [satS 32 p.1, satS 32 p.2, (BitVec.ofInt 32 (rndDiv c.refPsi 65536 - e.heading.toNat)).toInt,
                   satS 32 (v.1 - e.velU), satS 32 (v.2 - e.velV), satS 32 (rndDiv c.refR 65536 - e.yawRate)] }

/-- Steps 1 to 3 of R324 without the requests: joystick, permissives, automatic rows, references and errors. -/
def CtlSt.begin_ (c : CtlSt) (e : EstView) (field : Half → Option Nat) (usable : Nat) (bound watch : Bool) : CtlSt × List Ev :=
  let c0 := { c with flags := 0, slots := Tab.modifyAll SlotSt.zero c.slots (Tab.keys c.slots) (fun _ s => { s with beatClamp := false }) }
  let c1 := c0.joystick field
  let un := c1.permissives e usable bound
  let pm : BitVec 5 := maskOf 5 ((List.range 5).filter (fun m => decide (un.getD m 1 = 0)))
  ({ c1 with permit := pm, unmet := un }).autoRows e watch

/-- Steps 2 and 3 of R324 after the requests. -/
def CtlSt.advance (c : CtlSt) (e : EstView) : CtlSt := (c.references e).errors e

/-- R309, R312: the demand of the beat. -/
def CtlSt.law (c : CtlSt) (e : EstView) : CtlSt :=
  match c.table with
  | none => c
  | some t =>
    let b := rotT e.heading e.biasN e.biasE
    let bias := [b.1, b.2, e.biasMz]
    let clamped := fun d => (c.sums d).any (fun k => (c.slot k).beatClamp)
    let ffOf := fun (d : Nat) =>
      -(Config.quot 309 ((t.ffWind.getD d 0).toNat * (if e.windLost then 0 else e.wind.getD d 0)) 16384) -
        Config.quot 309 ((t.ffCurrent.getD d 0).toNat * bias.getD d 0) 16384
    let val := fun (d : Nat) =>
      if autoIn c.mode d then satS 32 ((c.sums d).foldl (fun s k => s + c.output k) 0 + ffOf d)
      else if joyIn c.mode d then satS 32 (Config.quot 309 (c.joy.getD d 0 * (t.joyScale.getD d 0).toNat) 32768)
      else 0
    let sat := (List.range 3).any clamped
    { c with demand := (List.range 3).map val, ff := (List.range 3).map (fun d => if autoIn c.mode d then satS 32 (ffOf d) else 0),
             flags := (c.flags ||| (if sat then 1 else 0) ||| (if e.health = 1 then 8 else 0) |||
                       (if c.posRamp.isSome then 128 else 0) ||| (if c.psiRamp.isSome then 256 else 0)),
             sticky := if sat then c.sticky ||| 8 else c.sticky }

/-- A winch's slot: its number, when it has one. -/
def slotOf (s : Half) : Option Nat := if s = 0 then none else some (s.toNat - 1)

/-- Does a winch's tension slot have a valid input? -/
def CtlSt.tensionOk (c : CtlSt) (w : WinchCfg) : Bool :=
  match slotOf w.tension with | none => false | some k => !(c.slot k).invalidNow

/-- R321: a winch mode request; true when it is applied. -/
def CtlSt.winchRequest (c : CtlSt) (w : Nat) (m : WinchMode) (session : Word) (motionLost : Bool) : CtlSt × List Ev × Bool :=
  let cfg := (c.table.bind (fun (t : CtlTable) => t.winches[w]?))
  let ok := match cfg with
    | none => false
    | some f =>
      match m with
      | .stop => true
      | .tension => c.tensionOk f
      | .ahc => (slotOf f.ahc).isSome && !motionLost
      | .ahcTension => (slotOf f.ahc).isSome && !motionLost && c.tensionOk f
  if ok then
    ({ c with winches := Tab.modify WinchSt.zero c.winches w (fun v => { v with mode := m, degraded := false }) }, [], true)
  else ({ c with refused := c.refused + 1 }, [(0x0A05, [wordN w, wordN m.code, session])], false)

/-- R322: the mode a winch is forced to. -/
def winchForced (m : WinchMode) (motionLost tensionOk : Bool) : WinchMode :=
  match m with
  | .stop => .stop
  | .tension => if tensionOk then .tension else .stop
  | .ahc => if motionLost then (if tensionOk then .tension else .stop) else .ahc
  | .ahcTension =>
    if motionLost then (if tensionOk then .tension else .stop) else if tensionOk then .ahcTension else .ahc

/-- R321: the heave of a winch point, before its rounding. -/
def winchPoint (w : WinchCfg) (e : EstView) : Int :=
  e.heave - Config.quot 321 (w.leverX * sinQ30 e.pitch.toNat) (2 ^ 30) + Config.quot 321 (w.leverY * sinQ30 e.roll.toNat) (2 ^ 30)

/-- R321, R322: step 5 of R324 for one winch. -/
def CtlSt.winchStep (c : CtlSt) (w : Nat) (f : WinchCfg) (e : EstView) : CtlSt × List Ev :=
  let v := Tab.get WinchSt.zero c.winches w
  let m := winchForced v.mode e.motionLost (c.tensionOk f)
  let zp := winchPoint f e
  let zd := e.heaveVel + (zp - v.zp - (e.heave - c.prevHeave)) * 10000
  let part := fun (on : Bool) (s : Half) => if on then match slotOf s with | none => 0 | some k => c.output k else 0
  let ahc := decide (m = .ahc) || decide (m = .ahcTension)
  let ten := decide (m = .tension) || decide (m = .ahcTension)
  let dem := clampI (-(f.speedMax.toNat : Int)) f.speedMax.toNat (part ahc f.ahc + part ten f.tension)
  let sat := (ahc && (match slotOf f.ahc with | none => false | some k => (c.slot k).beatClamp)) ||
             (ten && (match slotOf f.tension with | none => false | some k => (c.slot k).beatClamp))
  let deg := decide (m ≠ v.mode)
  ({ c with winches := Tab.set WinchSt.zero c.winches w
              { mode := m, demand := if m = .stop then 0 else dem, zp := zp, zdot := zd, sat := sat, degraded := v.degraded || deg },
            sticky := if deg then c.sticky ||| 64 else c.sticky },
   if deg then [(0x0A06, [wordN w, wordN v.mode.code, wordN m.code])] else [])

/-- R323: one stabiliser loop. -/
def CtlSt.stabStep (c : CtlSt) (s : Nat) (f : StabCfg) (e : EstView) : CtlSt :=
  let v := Tab.get StabSt.zero c.stabs s
  let gated := decide (f.kind = 1) && decide (e.velU.natAbs < f.minSpeed.toNat)
  let k := f.slot.toNat - 1
  let d := if !v.enabled || gated then 0 else c.output k
  { c with stabs := Tab.set StabSt.zero c.stabs s { v with gated := gated, sat := (c.slot k).beatClamp, demand := d } }

/-- Step 5 of R324. -/
def CtlSt.loops (c : CtlSt) (e : EstView) : CtlSt × List Ev :=
  match c.table with
  | none => (c, [])
  | some t =>
    let r := (List.range t.winches.length).foldl (fun (a : CtlSt × List Ev) w =>
      match t.winches[w]? with
      | none => a
      | some f => let x := a.1.winchStep w f e; (x.1, a.2 ++ x.2)) (c, [])
    let c1 := (List.range t.stabs.length).foldl (fun (a : CtlSt) s =>
      match t.stabs[s]? with | none => a | some f => a.stabStep s f e) r.1
    ({ c1 with prevHeave := e.heave }, r.2)

/-- R307: the new coefficient set as a whole, or a refusal. -/
def CtlSt.applyCoefs (c : CtlSt) (k : Nat) (session : Word) : CtlSt × List Ev × Bool :=
  match c.slotCfg k with
  | none => (c, [], false)
  | some cfg =>
    let s := c.slot k
    if cfg.order = 2 ∧ (s.shadow.b.getD 3 0 ≠ 0 ∨ s.shadow.a.getD 2 0 ≠ 0) then
      ({ c with sticky := c.sticky ||| 128 }, [(0x0A07, [wordN k, 1, session])], false)
    else (c.setSlot k { s with coefs := s.shadow }, [(0x0A07, [wordN k, 0, session])], true)

/-- The LOCAL slots' pending APPLY at a beat edge (R307); the count is the sets applied. -/
def CtlSt.edgeCoefs (c : CtlSt) : CtlSt × List Ev × Nat :=
  (Tab.keys c.slots).foldl (fun (a : CtlSt × List Ev × Nat) k =>
    match (a.1.slot k).pendApply with
    | none => a
    | some ses =>
      let c1 := a.1.setSlot k { a.1.slot k with pendApply := none }
      let r := c1.applyCoefs k ses
      (r.1, a.2.1 ++ r.2.1, a.2.2 + (if r.2.2 then 1 else 0))) (c, [], 0)

/-- The image's coefficient set of a slot. -/
def imageCoefs (s : SlotCfg) : Coefs := { b := s.b, a := s.a, sb := s.sb, sa := s.sa }

/-- R327, R330: the block from an image's table.  `keepHist`: histories of the running slots are kept (Beat restart);
`counts`: flags and counts clear. -/
def CtlSt.restart (c : CtlSt) (t : Option CtlTable) (keepHist counts : Bool) : CtlSt :=
  let cfgs : List (Nat × SlotCfg) := match t with
    | none => []
    | some tb => (List.range tb.slots.length).filterMap (fun k => (tb.slots[k]?).map (fun s => (k, s)))
  let mk := fun (k : Nat) (s : SlotCfg) =>
    let o := c.slot k
    let base := { SlotSt.zero with coefs := imageCoefs s, shadow := imageCoefs s }
    let b1 := if keepHist then { base with xh := o.xh, yh := o.yh, x := o.x, out := o.out, ys := o.ys } else base
    if counts then b1 else { b1 with flags := o.flags, runs := o.runs, clamps := o.clamps }
  let slots := cfgs.foldl (fun (m : Tab SlotSt) p => if p.2.order = 0 then m else Tab.set SlotSt.zero m p.1 (mk p.1 p.2)) []
  let r := { CtlSt.reset with table := t, slots := slots }
  if counts then r
  else { r with sticky := c.sticky, refused := c.refused, superseded := c.superseded, degrades := c.degrades }

/-- The section of Table 11.8, as words. -/
def CtlSt.section (c : CtlSt) : List Word :=
  let j := fun (k : Nat) => (BitVec.ofInt 16 (c.joy.getD k 0)).toNat
  let nW := match c.table with | none => 0 | some t => t.winches.length
  let nS := match c.table with | none => 0 | some t => t.stabs.length
  [wordN (c.mode.code + c.tgt.toNat * 256 + c.permit.toNat * 65536), wordN c.flags.toNat, satWord c.spPubN, satWord c.spPubE, c.spPsi,
   satWord (rndDiv c.refN 65536), satWord (rndDiv c.refE 65536), wordI (rndDiv c.refPsi 65536), satWord (rndDiv (c.vrefN * 10) 65536),
   satWord (rndDiv (c.vrefE * 10) 65536), satWord (rndDiv c.refR 65536), satWord (c.err.getD 0 0), satWord (c.err.getD 1 0),
   satWord (c.err.getD 2 0), satWord (c.demand.getD 0 0), satWord (c.demand.getD 1 0), satWord (c.demand.getD 2 0),
   satWord (c.ff.getD 0 0), satWord (c.ff.getD 1 0), satWord (c.ff.getD 2 0), wordN (j 0 + j 1 * 65536), wordN (j 2), 0, 0] ++
  (List.range 32).flatMap (fun w =>
    if w < nW then
      let v := Tab.get WinchSt.zero c.winches w
      [satWord v.demand, wordN (v.mode.code + (if v.sat then 256 else 0) + (if v.degraded then 512 else 0))]
    else [0, 0]) ++
  (List.range 8).flatMap (fun s =>
    if s < nS then
      let v := Tab.get StabSt.zero c.stabs s
      let k := match c.table with | none => 0 | some t => ((t.stabs[s]?).map (fun f => f.kind.toNat)).getD 0
      [satWord v.demand, wordN (k + (if v.sat then 256 else 0) + (if v.gated then 512 else 0) + (if v.enabled then 1024 else 0))]
    else [0, 0])

end Sys2Proof.Machine
end

