-- ==== Sys2Proof/Machine/StLun.lean ====
section
/-! DEFINITION. State of the LUN block: intake, networks, grid, tracks, bindings, calibration (09_luna_grid_tracks.md). -/

namespace Sys2Proof.Machine

/-- A frame or sweep: its instant, its values and, at the end, the device time of completion (R254, R256). -/
structure LunFrame where
  instant : Nat
  data    : List Int
deriving DecidableEq, Repr

/-- A network at work on a frame (R257). -/
structure LunRun where
  frame   : LunFrame
  layer   : Nat
  tensors : List (List Int)
  sat     : Bool
deriving DecidableEq, Repr

/-- One source: camera ports 0 to 3, lidar sources 4 to 7 (R253 to R260). -/
structure LunSrc where
  /-- Instant of the frame whose Frame Start was seen, or the points of the open sweep with their instants. -/
  open_    : Option Nat
  points   : List (List Int × Nat)
  lastAz   : Option Int
  running  : Option LunRun
  waiting  : Option LunFrame
  frames   : Word
  drops    : Word
  ignored  : Word
  lastDrop : Byte
  /-- Drops in the round in progress. -/
  roundDrops : Word
  csiErrors : Word
deriving DecidableEq, Repr

/-- A source after reset. -/
def LunSrc.zero : LunSrc :=
  { open_ := none, points := [], lastAz := none, running := none, waiting := none, frames := 0, drops := 0, ignored := 0,
    lastDrop := 0, roundDrops := 0, csiErrors := 0 }

/-- One tile of the grid: 256 cells of 16 channels in row order, and the age its cells share (R261, R263). -/
structure GridTile where
  age     : Nat
  cells   : List Int
  instant : Nat
  applied : Bool
deriving DecidableEq, Repr

/-- An empty tile.  Its cells read 0 and are of the largest age. -/
def GridTile.zero : GridTile := { age := 65535, cells := [], instant := 0, applied := false }

/-- LUN_T_STATE.STATE (Table 9.3). -/
inductive TrackState where
  | free | candidate | tentative | confirmed
deriving DecidableEq, Repr

/-- The code of a track state. -/
def TrackState.code : TrackState → Nat
  | .free => 0 | .candidate => 1 | .tentative => 2 | .confirmed => 3

/-- One track (R265 to R267).  P is the same on both axes, so `var` holds it, in mm². -/
structure Track where
  state  : TrackState
  gen    : Half
  cls    : Byte
  north  : Int
  east   : Int
  var    : Int
  hits   : Nat
  window : Nat
  consec : Nat
  misses : Nat
  born   : Word
deriving DecidableEq, Repr

/-- A free entry. -/
def Track.zero : Track :=
  { state := .free, gen := 0, cls := 0, north := 0, east := 0, var := 0, hits := 0, window := 0, consec := 0, misses := 0,
    born := 0 }

/-- One target binding (R268). -/
structure Binding where
  bound : Bool
  track : BitVec 12
  gen   : Half
  slot  : BitVec 4
  /-- LUN_TGT_SLOTk as written; the next bind takes it. -/
  slotReg : BitVec 4
deriving DecidableEq, Repr

/-- A clear binding. -/
def Binding.zero : Binding := { bound := false, track := 0, gen := 0, slot := 0, slotReg := 0 }

/-- A LUN_CAL_CTRL command (R273). -/
inductive CalCmd where
  | none | freeze | unfreeze | accept | reset
deriving DecidableEq, Repr

/-- The three calibration sets by sensor, and the frozen marks (R271 to R273). -/
structure CalSets where
  baseline : Tab (List Int)
  accepted : Tab (List Int)
  learned  : Tab (List Int)
  frozen   : BitVec 8
deriving DecidableEq, Repr

/-- A calibration record in MRAM (R274). -/
structure CalRecord where
  sets  : CalSets
  crc   : Word
  seq   : Word
  valid : Bool
deriving DecidableEq, Repr

/-- The LUN block. -/
structure LunSt where
  table      : Option LunaTable
  nets       : List LunNet
  baseline   : Option CalBaseline
  sources    : Tab LunSrc
  grid       : Tab GridTile
  tracks     : Tab Track
  bindings   : Tab Binding
  /-- Bindings whose track was associated in this beat (Table 14.5). -/
  assocNow   : Byte
  cal        : CalSets
  pending    : Tab CalCmd
  mramA      : Option CalRecord
  mramB      : Option CalRecord
  calSeq     : Word
  superseded : Word
  detOver    : Word
  trkFull    : Word
  roundFull  : Word
  sats       : Word
  dups       : Word
  flBindRefused : Bool
  flDevLimit : Bool
  flTrkFull  : Bool
  flCalReset : Bool
deriving DecidableEq, Repr

/-- Empty calibration sets. -/
def CalSets.zero : CalSets := { baseline := [], accepted := [], learned := [], frozen := 0 }

/-- The LUN block after reset (Table 9.6). -/
def LunSt.reset : LunSt :=
  { table := Option.none, nets := [], baseline := Option.none, sources := [], grid := [], tracks := [], bindings := [], assocNow := 0,
    cal := CalSets.zero, pending := [], mramA := Option.none, mramB := Option.none, calSeq := 0, superseded := 0, detOver := 0,
    trkFull := 0, roundFull := 0, sats := 0, dups := 0, flBindRefused := false, flDevLimit := false, flTrkFull := false,
    flCalReset := false }

end Sys2Proof.Machine
end

