-- ==== Sys2Proof/Machine/Luna.lean ====
section
/-! DEFINITION. Luna: intake, convolution, tiles, fusion, detections, tracks, bindings, calibration
(09_luna_grid_tracks.md). -/

namespace Sys2Proof.Machine

/-- What a source reads as. -/
def LunSt.src (l : LunSt) (s : Nat) : LunSrc := Tab.get LunSrc.zero l.sources s

/-- Write a source. -/
def LunSt.setSrc (l : LunSt) (s : Nat) (v : LunSrc) : LunSt := { l with sources := Tab.set LunSrc.zero l.sources s v }

/-- A dropped frame or sweep (R254, R255, R260): counted with its reason; event 0x0801. -/
def LunSt.drop (l : LunSt) (s reason : Nat) : LunSt × List Ev :=
  let v := l.src s
  let v := { v with drops := v.drops + 1, lastDrop := BitVec.ofNat 8 reason, roundDrops := v.roundDrops + 1 }
  (l.setSrc s v, [(0x0801, [wordN s, wordN reason, v.roundDrops])])

/-- A CSI error of R255 (1 ECC, 2 CRC, 3 geometry, 4 missing FE): event 0x080C and the drop. -/
def LunSt.csiError (l : LunSt) (s err : Nat) : LunSt × List Ev :=
  let v := { l.src s with open_ := none }
  let v := { v with csiErrors := v.csiErrors + 1 }
  let d := (l.setSrc s v).drop s 3
  (d.1, (0x080C, [wordN s, wordN err, v.csiErrors]) :: d.2)

/-- A complete frame or sweep waits; a frame already waiting is replaced and counted BUSY (R260). -/
def LunSt.complete (l : LunSt) (s : Nat) (f : LunFrame) : LunSt × List Ev :=
  let v := l.src s
  let w := { v with waiting := some f, frames := v.frames + 1 }
  match v.waiting with
  | none => (l.setSrc s w, [])
  | some _ => (l.setSrc s w).drop s 1

/-- The camera entry of a port, when the port is enabled (R280). -/
def LunSt.camera (l : LunSt) (port : Nat) : Option CameraCfg :=
  match l.table with
  | none => none
  | some t => (t.cameras[port]?).filter (fun c => decide (c.lanes ≠ 0))

/-- The lidar entry of a source 4 to 7, when it is enabled. -/
def LunSt.lidar (l : LunSt) (source : Nat) : Option LidarCfg :=
  match l.table with
  | none => none
  | some t => if source < 4 then none else (t.lidars[source - 4]?).filter (fun c => decide (c.mode ≠ 0))

/-- Value of a tensor in HWC order; outside it, the zero point, so that padding adds nothing (R257, R258). -/
def tensorAt (x : List Int) (h w c : Nat) (zp : Int) (y xx : Int) (k : Nat) : Int :=
  if 0 ≤ y ∧ y < h ∧ 0 ≤ xx ∧ xx < w then x.getD ((y.toNat * w + xx.toNat) * c + k) zp else zp

/-- R258's requantisation: the value and whether it was clamped. -/
def requant (l : LunLayer) (o : Nat) (acc : Int) : Int × Bool :=
  let y := l.zpOut + rndDiv (acc * l.mult.getD o 0) (2 ^ (31 + l.shift.getD o 0))
  let z := clampI l.actLo 127 y
  (z, decide (z ≠ y))

/-- R258's accumulator of one output channel at one output position. -/
def convAcc (l src : LunLayer) (x : List Int) (depthwise : Bool) (oy ox o : Nat) : Int :=
  let chans := if depthwise then [o] else List.range src.outC
  let nIn := if depthwise then 1 else src.outC
  (List.range l.kernel).foldl (fun a ky =>
    (List.range l.kernel).foldl (fun a kx =>
      chans.foldl (fun a c =>
        let v := tensorAt x src.outH src.outW src.outC src.zpOut
          ((oy * l.stride + ky * l.dilation : Nat) - (l.pad : Int)) ((ox * l.stride + kx * l.dilation : Nat) - (l.pad : Int)) c
        let wi := ((o * l.kernel + ky) * l.kernel + kx) * nIn + (if depthwise then 0 else c)
        a + (v - src.zpOut) * l.weights.getD wi 0) a) a) (l.bias.getD o 0)

/-- Every output position of a layer in HWC order. -/
def outPositions (l : LunLayer) : List (Nat × Nat × Nat) :=
  (List.range l.outH).flatMap (fun y => (List.range l.outW).flatMap (fun x => (List.range l.outC).map (fun o => (y, x, o))))

/-- CONCAT: the value at channel `k` of the inputs joined along C (Table 9.2). -/
def concatAt (net : LunNet) (tensors : List (List Int)) (l : LunLayer) (y x : Nat) : List Nat → Nat → Int
  | [], _ => l.zpOut
  | j :: js, k =>
    let a := net.layers.getD j l
    if k < a.outC then tensorAt (tensors.getD j []) a.outH a.outW a.outC a.zpOut y x k else concatAt net tensors l y x js (k - a.outC)

/-- The parameters of a layer whose arithmetic the spec does not lay out: its own, those of its inputs, and those of the source
and the grid (Table 9.2, Tables 9.7 and 9.8). -/
def layerParams (t : Option LunaTable) (s : Nat) (net : LunNet) (l : LunLayer) : List Int :=
  let shape := fun (x : LunLayer) => [(x.outH : Int), x.outW, x.outC, x.zpOut]
  let ins := (l.inputs.map (fun j => shape (net.layers.getD j l))).flatten
  let tab : List Int := match t with
    | none => []
    | some t =>
      [(t.cell.toNat : Int), t.gridX0, t.gridY0, t.waterline] ++
        (match t.cameras[s]? with | some c => [(c.dataType.toNat : Int), c.width.toNat, c.height.toNat] | none => [])
  [(l.kernel : Int), l.stride, l.dilation, l.pad] ++ shape l ++ ins ++ tab

/-- One layer's output and the number of clamps (R257, R258): CONV2D, DEPTHWISE, POOL by maximum, CONCAT and TILE_OUT as
the manual states them; the others by Config.lunLayer. -/
def runLayer (t : Option LunaTable) (s : Nat) (net : LunNet) (r : LunRun) (cal : List Int) (l : LunLayer) : List Int × Nat :=
  let ten := fun j => r.tensors.getD j []
  let lay := fun j => net.layers.getD j l
  let i0 := l.inputs.getD 0 0
  if l.op = 0x01 ∨ l.op = 0x02 then
    let out := (outPositions l).map (fun p => requant l p.2.2 (convAcc l (lay i0) (ten i0) (decide (l.op = 0x02)) p.1 p.2.1 p.2.2))
    (out.map Prod.fst, (out.filter Prod.snd).length)
  else if l.op = 0x03 ∧ ¬ l.average then
    let s := lay i0
    ((outPositions l).map (fun p =>
      (List.range l.kernel).foldl (fun a ky => (List.range l.kernel).foldl (fun a kx =>
        let y := p.1 * l.stride + ky
        let x := p.2.1 * l.stride + kx
        if y < s.outH ∧ x < s.outW then max a (tensorAt (ten i0) s.outH s.outW s.outC s.zpOut y x p.2.2) else a) a) (-128)), 0)
  else if l.op = 0x05 then
    ((outPositions l).map (fun p => concatAt net r.tensors l p.1 p.2.1 l.inputs p.2.2), 0)
  else if l.op = 0x13 then (ten i0, 0)
  else
    let ins := if l.op = 0x10 ∨ l.op = 0x11 then [r.frame.data] else l.inputs.map ten
    let pars := layerParams t s net l
    (Config.lunLayer l.op.toNat ins pars cal (l.outH * l.outW * l.outC), Config.lunClamps l.op.toNat ins pars cal)

/-- The words of a tile item (R262). -/
def tileWords (tile source : Nat) (sat : Bool) (instant : Nat) (cells : List Int) : List Word :=
  wordN (tile + source * 65536 + (if sat then 16777216 else 0)) :: lo32 instant :: hi32 instant :: 0 ::
    packBytes ((cells.take 4096 ++ List.replicate (4096 - cells.length) 0).map (fun v => BitVec.ofInt 8 v))

/-- Run the next `count` layers of a source's network with the calibration `learned` (R257, R260).  Answers the tile items of R262 that its last TILE_OUT
completes: tile, words and instant. -/
def LunSt.runLayers (l : LunSt) (learned : Tab (List Int)) (s : Nat) : Nat → LunSt × List (Nat × List Word × Nat)
  | 0 => (l, [])
  | count + 1 =>
    match l.nets.find? (fun n => decide (n.source.toNat = s)) with
    | none => (l, [])
    | some net =>
      let v := l.src s
      let started : Option LunRun := match v.running with
        | some r => some r
        | none => v.waiting.map (fun f => { frame := f, layer := 0, tensors := [], sat := false })
      match started with
      | none => (l, [])
      | some r =>
        let v := if v.running.isSome then v else { v with waiting := none }
        match net.layers[r.layer]? with
        | none => (l.setSrc s { v with running := none }, [])
        | some lay =>
          let (out, clamps) := runLayer l.table s net r (Tab.get [] learned s) lay
          let r1 : LunRun := { r with layer := r.layer + 1, tensors := r.tensors ++ [out], sat := r.sat || decide (0 < clamps) }
          let l1 := { l with sats := l.sats + BitVec.ofNat 32 clamps }
          if r1.layer < net.layers.length then
            (l1.setSrc s { v with running := some r1 }).runLayers learned s count
          else
            let outs := (List.range r1.layer).filter (fun k => decide ((net.layers.getD k lay).op = 0x13))
            let tiles := outs.flatMap (fun k => Config.tilesOf s (r1.tensors.getD k []))
            (l1.setSrc s { v with running := none },
             tiles.map (fun (t : Nat × List Int) => (t.1, tileWords t.1 s r1.sat r.frame.instant t.2, r.frame.instant)))

/-- R263 for one cell value: f + round_away((u − f)·gain/256), clamped to int8. -/
def fuseValue (gain : Nat) (f u : Int) : Int := clampI (-128) 127 (f + rndDiv ((u - f) * gain) 256)

/-- The 4,096 channel values of a tile, in row order of its cells. -/
def GridTile.values (t : GridTile) : List Int := if t.cells = [] then List.replicate 4096 0 else t.cells

/-- The cells of a tile item as signed bytes (R262). -/
def tileItemCells (payload : List Word) : List Int := (wordBytes (payload.drop 4)).map (fun b => b.toInt)

/-- FUSE (R263) of one tile item. -/
def LunSt.fuseItem (l : LunSt) (i : Item) : LunSt :=
  match l.table with
  | none => l
  | some t =>
    let w0 := i.payload.getD 0 0
    let tile := bits w0 15 0
    let source := bits w0 23 16
    let inst := (i.payload.getD 1 0).toNat + 2 ^ 32 * (i.payload.getD 2 0).toNat
    let gain := (t.gain.getD source 0).toNat
    let old := Tab.get GridTile.zero l.grid tile
    let cells := List.zipWith (fuseValue gain) old.values (tileItemCells i.payload)
    if tile < 256 then
      { l with grid := Tab.set GridTile.zero l.grid tile { age := 0, cells := cells, instant := inst, applied := true } }
    else l

/-- R263's ageing of every tile that no item touched; a cell older than AGE_MAX reads 0. -/
def ageTile (ageMax : Nat) (t : GridTile) : GridTile :=
  if t.applied then t
  else
    let a := min (t.age + 1) 65535
    if a > ageMax then { GridTile.zero with age := a, instant := t.instant } else { t with age := a }

/-- FUSE (R263): the tile items of the union in union order, then ageing. -/
def LunSt.fuse (l : LunSt) (union : List Item) : LunSt :=
  match l.table with
  | none => l
  | some t =>
    let l := { l with grid := Tab.modifyAll GridTile.zero l.grid (Tab.keys l.grid) (fun _ v => { v with applied := false }) }
    let l := (union.filter (fun i => decide (i.kind = 4))).foldl LunSt.fuseItem l
    { l with grid := Tab.modifyAll GridTile.zero l.grid (Tab.keys l.grid) (fun _ v => ageTile t.ageMax.toNat v) }

/-- Tile and position in it of cell (i, j): tile 16·⌊i/16⌋ + ⌊j/16⌋ (R261). -/
def cellTile (i j : Nat) : Nat := 16 * (i / 16) + j / 16

/-- Channel k of cell (i, j). -/
def LunSt.chan (l : LunSt) (i j k : Nat) : Int :=
  let t := Tab.get GridTile.zero l.grid (cellTile i j)
  t.cells.getD ((16 * (i % 16) + j % 16) * 16 + k) 0

/-- CELL in mm (R261). -/
def cellMm (c : Byte) : Nat := match c.toNat with | 0 => 250 | 1 => 500 | 2 => 1000 | _ => 2000

/-- A detection (R264): body position, earth position, class, cell and the instant of its tile. -/
structure Detection where
  bodyX   : Int
  bodyY   : Int
  north   : Int
  east    : Int
  cls     : Nat
  instant : Nat
deriving DecidableEq, Repr

/-- Is cell (i, j) a detection (R264)?  A neighbour outside the grid does not count. -/
def LunSt.isDetection (l : LunSt) (t : LunaTable) (i j : Nat) : Bool :=
  let ch := t.detCh.toNat
  let v := l.chan i j ch
  let at_ := fun (di dj : Int) =>
    let a := (i : Int) + di
    let b := (j : Int) + dj
    if 0 ≤ a ∧ a < 256 ∧ 0 ≤ b ∧ b < 256 then some (l.chan a.toNat b.toNat ch) else none
  let above := fun (o : Option Int) => match o with | none => true | some x => decide (x < v)
  let atLeast := fun (o : Option Int) => match o with | none => true | some x => decide (x ≤ v)
  decide (t.detThr ≤ v) && above (at_ (-1) (-1)) && above (at_ (-1) 0) && above (at_ (-1) 1) && above (at_ 0 (-1)) &&
    atLeast (at_ 0 1) && atLeast (at_ 1 (-1)) && atLeast (at_ 1 0) && atLeast (at_ 1 1)

/-- The channel of the largest class value, the lowest winning a tie (R264). -/
def LunSt.classAt (l : LunSt) (t : LunaTable) (i j : Nat) : Nat :=
  ((List.range t.nClass.toNat).foldl (fun (b : Nat × Int) k =>
    let v := l.chan i j (t.classCh.toNat + k)
    if b.2 < v then (k, v) else b) (0, -129)).1

/-- A cell's detection, with the pose (north, east, heading) of the previous posterior. -/
def LunSt.detect (l : LunSt) (t : LunaTable) (pose : Int × Int × Int) (i j : Nat) : Detection :=
  let mm : Int := cellMm t.cell
  let bx := t.gridX0 + Config.quot 264 (mm * (256 * (i : Int) - 32640 + l.chan i j t.ofsXCh.toNat)) 256
  let by_ := t.gridY0 + Config.quot 264 (mm * (256 * (j : Int) - 32640 + l.chan i j t.ofsYCh.toNat)) 256
  let e := Config.rotate pose.2.2 bx by_
  { bodyX := bx, bodyY := by_, north := pose.1 + e.1, east := pose.2.1 + e.2, cls := l.classAt t i j,
    instant := (Tab.get GridTile.zero l.grid (cellTile i j)).instant }

/-- Every detection of the grid in row order (R264). -/
def LunSt.detections (l : LunSt) (t : LunaTable) (pose : Int × Int × Int) : List Detection :=
  ((List.range 256).flatMap (fun i => (List.range 256).map (fun j => (i, j)))).filterMap (fun p =>
    if l.isDetection t p.1 p.2 then some (l.detect t pose p.1 p.2) else none)

/-- The cell that holds an earth position, `none` outside the grid (R261, R265). -/
def trackCell (t : LunaTable) (pose : Int × Int × Int) (k : Track) : Option (Nat × Nat) :=
  let b := Config.rotate (-pose.2.2) (k.north - pose.1) (k.east - pose.2.1)
  let mm : Int := cellMm t.cell
  let i := (b.1 - t.gridX0 + 128 * mm) / mm
  let j := (b.2 - t.gridY0 + 128 * mm) / mm
  if 0 ≤ i ∧ i < 256 ∧ 0 ≤ j ∧ j < 256 then some (i.toNat, j.toNat) else none

/-- R266's gate: (p_e − x)²/(p + r) ≤ GATE², GATE in Q8.8. -/
def inGate (t : LunaTable) (k : Track) (d : Detection) : Bool :=
  let n := (d.north - k.north) ^ 2 + (d.east - k.east) ^ 2
  decide (n * 65536 ≤ (t.gate.toNat : Int) ^ 2 * (k.var + (t.detSig.toNat : Int) ^ 2))

/-- Is track `a` at a lower d² of the detection than `b` (R266)? -/
def closer (t : LunaTable) (d : Detection) (a b : Track) : Bool :=
  let r : Int := (t.detSig.toNat : Int) ^ 2
  let na := (d.north - a.north) ^ 2 + (d.east - a.east) ^ 2
  let nb := (d.north - b.north) ^ 2 + (d.east - b.east) ^ 2
  decide (na * (b.var + r) < nb * (a.var + r))

/-- The association's working state (R266): tracks, assigned numbers with their detection, numbers in use at the start,
created numbers, refused candidates, duplicates. -/
structure Assoc where
  tracks   : Tab Track
  assigned : List (Nat × Detection)
  busy     : List Nat
  created  : List Nat
  refused  : Nat
  dups     : Nat
deriving DecidableEq, Repr

/-- R266 for one detection. -/
def assocStep (t : LunaTable) (beat : Word) (a : Assoc) (d : Detection) : Assoc :=
  let live := a.tracks.filter (fun (p : Nat × Track) => decide (p.2.state ≠ .free))
  let gated := live.filter (fun (p : Nat × Track) => inGate t p.2 d)
  let open_ := gated.filter (fun (p : Nat × Track) => !(a.assigned.any (fun q => decide (q.1 = p.1))))
  let best := open_.foldl (fun (b : Option (Nat × Track)) p => match b with
    | none => some p | some c => if closer t d p.2 c.2 then some p else b) none
  match best with
  | some (n, k) =>
    let r : Int := (t.detSig.toNat : Int) ^ 2
    let den := (k.var + r).toNat
    let k1 := { k with
      north := k.north + Config.quot 266 (k.var * (d.north - k.north)) den,
      east := k.east + Config.quot 266 (k.var * (d.east - k.east)) den,
      var := Config.quot 266 (k.var * r) den, cls := BitVec.ofNat 8 d.cls }
    { a with tracks := Tab.set Track.zero a.tracks n k1, assigned := a.assigned ++ [(n, d)] }
  | none =>
    if gated.isEmpty then
      match (List.range 4096).find? (fun n => !(a.busy.contains n) && !(a.created.contains n)) with
      | none => { a with refused := a.refused + 1 }
      | some n =>
        let old := Tab.get Track.zero a.tracks n
        let k : Track :=
          { state := .candidate, gen := old.gen + 1, cls := BitVec.ofNat 8 d.cls, north := d.north, east := d.east,
            var := (t.detSig.toNat : Int) ^ 2, hits := 1, window := 1, consec := 0, misses := 0, born := beat }
        { a with tracks := Tab.set Track.zero a.tracks n k, created := a.created ++ [n] }
    else { a with dups := a.dups + 1 }

/-- A free entry keeps only its generation (R267). -/
def Track.release (k : Track) : Track := { Track.zero with gen := k.gen }

/-- Table 9.3 for one track at the end of TRACK: `opp` an opportunity, `hit` associated, `fresh` created in the beat. -/
def Track.advance (t : LunaTable) (n : Nat) (k : Track) (opp hit fresh : Bool) : Track × List Ev :=
  match k.state with
  | .free => (k, [])
  | .candidate =>
    let k := if opp && !fresh then { k with window := k.window + 1, hits := if hit then k.hits + 1 else k.hits } else k
    if k.hits ≥ t.birthN.toNat then ({ k with state := .tentative, consec := 0 }, [])
    else if k.window ≥ t.birthM.toNat then (k.release, [])
    else (k, [])
  | s =>
    let k :=
      if !opp then k
      else if hit then { k with consec := k.consec + 1, misses := 0 }
      else { k with consec := 0, misses := k.misses + 1 }
    if k.misses > t.missMax.toNat then
      (k.release, [(0x0803, [wordN n, 1, wordN s.code, wordN k.gen.toNat])])
    else if s = .tentative ∧ k.consec ≥ t.confK.toNat ∧ k.var ≤ (t.confSig.toNat : Int) ^ 2 then
      ({ k with state := .confirmed }, [(0x0802, [wordN n, wordN k.gen.toNat, wordN k.cls.toNat, wordI k.north])])
    else (k, [])

/-- R270: a binding whose track is no longer CONFIRMED under its generation clears; event 0x0806. -/
def LunSt.checkBindings (l : LunSt) : LunSt × List Ev :=
  (Tab.keys l.bindings).foldl (fun (a : LunSt × List Ev) k =>
    let b := Tab.get Binding.zero a.1.bindings k
    let t := Tab.get Track.zero a.1.tracks b.track.toNat
    if b.bound && !(decide (t.state = .confirmed) && decide (t.gen = b.gen)) then
      ({ a.1 with bindings := Tab.set Binding.zero a.1.bindings k { b with bound := false } },
       a.2 ++ [(0x0806, [wordN k, wordN b.track.toNat, if t.state = .free then 1 else 2])])
    else a) (l, [])

/-- TRACK (R264 to R270): prediction, deletion outside the grid, detection, association, states, bindings.  Answers the
target samples: binding, value (north, east) and instant. -/
def LunSt.track (l : LunSt) (pose : Int × Int × Int) (beat : Word) : LunSt × List Ev × List (Nat × Int × Int × Nat) :=
  match l.table with
  | none => (l, [], [])
  | some t =>
    let busy := (l.tracks.filter (fun (p : Nat × Track) => decide (p.2.state ≠ .free))).map Prod.fst
    let left := busy.filter (fun n => (trackCell t pose (Tab.get Track.zero l.tracks n)).isNone)
    let ev0 : List Ev := left.map (fun n =>
      let k := Tab.get Track.zero l.tracks n
      (0x0803, [wordN n, 2, wordN k.state.code, wordN k.gen.toNat]))
    let tr0 := Tab.modifyAll Track.zero l.tracks left (fun _ k => k.release)
    let tr1 := Tab.modifyAll Track.zero tr0 (busy.filter (fun n => !(left.contains n)))
      (fun _ k => { k with var := k.var + t.qTrack.toNat })
    let opps := busy.filter (fun n =>
      match trackCell t pose (Tab.get Track.zero tr1 n) with
      | none => false
      | some c => (Tab.get GridTile.zero l.grid (cellTile c.1 c.2)).applied)
    let dets := l.detections t pose
    let a := (dets.take 1024).foldl (assocStep t beat)
      { tracks := tr1, assigned := [], busy := busy, created := [], refused := 0, dups := 0 }
    let nums := (a.tracks.filter (fun (p : Nat × Track) => decide (p.2.state ≠ .free))).map Prod.fst
    let (tr2, ev1) := nums.foldl (fun (acc : Tab Track × List Ev) n =>
      let r := (Tab.get Track.zero acc.1 n).advance t n (opps.contains n) (a.assigned.any (fun q => decide (q.1 = n)))
        (a.created.contains n)
      (Tab.set Track.zero acc.1 n r.1, acc.2 ++ r.2)) (a.tracks, [])
    let full := decide (0 < a.refused)
    let ev2 : List Ev := if full && decide (l.roundFull = 0) then [(0x0804, [wordN a.refused])] else []
    let l1 := { l with
      tracks := tr2, detOver := l.detOver + BitVec.ofNat 32 (dets.length - 1024),
      trkFull := l.trkFull + BitVec.ofNat 32 a.refused, roundFull := l.roundFull + BitVec.ofNat 32 a.refused,
      dups := l.dups + BitVec.ofNat 32 a.dups, flTrkFull := l.flTrkFull || full }
    let (l2, ev3) := l1.checkBindings
    let samples := (Tab.keys l2.bindings).filterMap (fun k =>
      let b := Tab.get Binding.zero l2.bindings k
      if b.bound then
        (a.assigned.find? (fun q => decide (q.1 = b.track.toNat))).map (fun q =>
          let v := Config.rotate pose.2.2 q.2.bodyX q.2.bodyY
          (k, -v.1, -v.2, q.2.instant))
      else none)
    (l2, ev0 ++ ev1 ++ ev2 ++ ev3, samples)

/-- R268: may this track be bound to the slot?  `suitable`: the slot is REL_POS with TARGET set. -/
def LunSt.bindOk (l : LunSt) (k : Nat) (track : BitVec 12) (gen : Half) (slot : BitVec 4) (suitable : Bool) : Bool :=
  let t := Tab.get Track.zero l.tracks track.toNat
  decide (t.state = .confirmed) && decide (t.gen = gen) && suitable &&
    !((Tab.keys l.bindings).any (fun j => decide (j ≠ k) && (Tab.get Binding.zero l.bindings j).bound &&
        decide ((Tab.get Binding.zero l.bindings j).slot = slot)))

/-- R273: a command queued for the boundary, replacing an earlier one for the same sensor. -/
def LunSt.calQueue (l : LunSt) (sensors : BitVec 8) (c : CalCmd) : LunSt :=
  ((List.range 8).filter (fun s => sensors.getLsbD s)).foldl (fun (l : LunSt) s =>
    let old := Tab.get CalCmd.none l.pending s
    { l with pending := Tab.set CalCmd.none l.pending s c,
             superseded := if old = .none then l.superseded else l.superseded + 1 }) l

/-- One parameter of R272: the new value, whether STEP or DEV clamped, and the value beyond DEV when it did.  `angle`:
a signed binary angle, whose difference wraps. -/
def calStep (step dev : Nat) (angle : Bool) (learned accepted delta : Int) : Int × Bool × Option Int :=
  let d := clampI (-(step : Int)) step delta
  let want := learned + d
  let diff := if angle then wrapDiff (2 ^ 32) ((want % (2 ^ 32 : Int)).toNat) ((accepted % (2 ^ 32 : Int)).toNat) else want - accepted
  let c := clampI (-(dev : Int)) dev diff
  let v := accepted + c
  let v := if angle then (BitVec.ofInt 32 v).toInt else v
  (v, decide (d ≠ delta) || decide (c ≠ diff), if c = diff then none else some (diff - c))

/-- R272 for one sensor: its six parameters (x, y, z in mm; roll, pitch, yaw as angles). -/
def calSensor (b : CalBaseline) (s : Nat) (learned accepted delta : List Int) : List Int × List Ev × Bool :=
  let r := (List.range 6).map (fun k =>
    let angle := decide (3 ≤ k)
    calStep (if angle then b.stepAng.toNat else b.stepMm.toNat) (if angle then b.devAng.toNat else b.devMm.toNat) angle
      (learned.getD k 0) (accepted.getD k 0) (delta.getD k 0))
  let new := r.map (fun v => v.1)
  let changed := (List.range 6).filter (fun k => decide (new.getD k 0 ≠ learned.getD k 0))
  let clamped := (List.range 6).filter (fun k => (r.getD k (0, false, none)).2.1)
  let dev : List Ev := (List.range 6).filterMap (fun k =>
    (r.getD k (0, false, none)).2.2.map (fun o => (0x0809, [wordN s, wordN k, satWord o])))
  (new, (if changed.isEmpty then [] else [(0x0807, [wordN s, maskOf 32 changed, maskOf 32 clamped])]) ++ dev, !dev.isEmpty)

/-- The sets of a baseline, and no frozen mark (R274). -/
def CalSets.ofBaseline (b : CalBaseline) : CalSets :=
  let t : Tab (List Int) := Tab.modifyAll [] [] (b.entries.map (fun e => e.sensor.toNat))
    (fun s _ => ((b.entries.find? (fun e => decide (e.sensor.toNat = s))).map CalEntry.params).getD [])
  { baseline := t, accepted := t, learned := t, frozen := 0 }

/-- R274: the sets to MRAM under the next sequence number, the two copies in alternation. -/
def LunSt.calSave (l : LunSt) : LunSt :=
  let seq := l.calSeq + 1
  let r : CalRecord := { sets := l.cal, crc := (l.baseline.map CalBaseline.crc).getD 0, seq := seq, valid := true }
  if seq.getLsbD 0 then { l with calSeq := seq, mramA := some r } else { l with calSeq := seq, mramB := some r }

/-- R273's order for one sensor at the boundary, with its candidate. -/
def LunSt.calOne (b : CalBaseline) (cand : Option (List Int)) (a : LunSt × List Ev × List Nat × List Nat × Bool) (s : Nat) :
    LunSt × List Ev × List Nat × List Nat × Bool :=
  let (l, ev, resets, accepts, changed) := a
  let cmd := Tab.get CalCmd.none l.pending s
  let learn := (b.entries.find? (fun e => decide (e.sensor.toNat = s))).any CalEntry.learn
  let base := Tab.get [] l.cal.baseline s
  let cal := l.cal
  let cal1 := match cmd with
    | .reset => { cal with learned := Tab.set [] cal.learned s base, accepted := Tab.set [] cal.accepted s base }
    | .freeze => { cal with frozen := setBit cal.frozen s }
    | .unfreeze => { cal with frozen := clrBit cal.frozen s }
    | _ => cal
  let delta := match cand with
    | none => none
    | some c => if learn && !(cal1.frozen.getLsbD s) && decide (cmd ≠ .reset) then some ((c.drop (6 * s)).take 6) else none
  let (cal2, ev2, dev) := match delta with
    | none => (cal1, [], false)
    | some d =>
      let r := calSensor b s (Tab.get [] cal1.learned s) (Tab.get [] cal1.accepted s) d
      ({ cal1 with learned := Tab.set [] cal1.learned s r.1 }, r.2.1, r.2.2)
  let cal3 := if cmd = .accept then { cal2 with accepted := Tab.set [] cal2.accepted s (Tab.get [] cal2.learned s) } else cal2
  ({ l with cal := cal3, pending := Tab.set CalCmd.none l.pending s .none, flDevLimit := l.flDevLimit || dev },
   ev ++ ev2, if cmd = .reset then resets ++ [s] else resets, if cmd = .accept then accepts ++ [s] else accepts,
   changed || decide (cal3 ≠ cal))

/-- R272 to R274: commands and candidates at the boundary, then the MRAM record if a set or a mark changed. -/
def LunSt.calApply (l : LunSt) (cand : Option (List Int)) : LunSt × List Ev :=
  match l.baseline with
  | none => (l, [])
  | some b =>
    let (l1, ev, resets, accepts, changed) := (List.range 8).foldl (LunSt.calOne b cand) (l, [], [], [], false)
    let l2 := if changed then l1.calSave else l1
    let evR : List Ev := if resets.isEmpty then [] else [(0x0808, [maskOf 32 resets, 1])]
    let evA : List Ev := if accepts.isEmpty then [] else [(0x080A, [maskOf 32 accepts, l2.calSeq])]
    let evF : List Ev := if l2.cal.frozen = l.cal.frozen then [] else [(0x080B, [wordN l2.cal.frozen.toNat])]
    (l2, ev ++ evR ++ evA ++ evF)

/-- The valid MRAM copy with the higher sequence number (R274). -/
def LunSt.calStored (l : LunSt) : Option CalRecord :=
  match l.mramA.filter CalRecord.valid, l.mramB.filter CalRecord.valid with
  | some a, some b => if b.seq.toNat < a.seq.toNat then some a else some b
  | some a, none => some a
  | none, o => o

/-- R274 at start, when CAL_BASELINE is delivered: the stored record, or the new baseline with cause 2 or 3. -/
def LunSt.calLoad (l : LunSt) (b : CalBaseline) : LunSt × List Ev :=
  let l := { l with baseline := some b, pending := [] }
  let mask : Word := maskOf 32 (b.entries.map (fun e => e.sensor.toNat))
  match l.calStored with
  | some r =>
    if r.crc = b.crc then ({ l with cal := r.sets, calSeq := r.seq }, [])
    else ({ l with cal := CalSets.ofBaseline b, calSeq := r.seq, flCalReset := true }, [(0x0808, [mask, 2])])
  | none => ({ l with cal := CalSets.ofBaseline b, calSeq := 0, flCalReset := true }, [(0x0808, [mask, 3])])

/-- R276, R279: what a reset leaves of the block.  `counts`: flags and counts clear too (Cold and Image reset). -/
def LunSt.restart (l : LunSt) (counts : Bool) : LunSt :=
  let srcs := Tab.mapVals LunSrc.zero l.sources (fun x =>
    { x with open_ := none, points := [], lastAz := none, running := none, waiting := none })
  let l1 := { l with sources := Tab.modifyAll LunSrc.zero [] (Tab.keys srcs) (fun k _ => Tab.get LunSrc.zero srcs k),
                     grid := [], tracks := [], bindings := [], pending := [] }
  if counts then
    { LunSt.reset with cal := l.cal, mramA := l.mramA, mramB := l.mramB, calSeq := l.calSeq, baseline := l.baseline }
  else l1

end Sys2Proof.Machine
end

