-- ==== Sys2Proof/Machine/StOut.lean ====
section
/-! DEFINITION. State of the OUT block: PD_OUT's domain, outputs and panel (12_outputs_annunciator.md). -/

namespace Sys2Proof.Machine

/-- OUT_STATUS.STATE (R338, R343). -/
inductive OutDomain where
  | start | run | hold
deriving DecidableEq, Repr

/-- The code of the domain's state. -/
def OutDomain.code : OutDomain → Word
  | .start => 0 | .run => 1 | .hold => 2

/-- Output states (Table 12.3). -/
inductive OutState where
  | normal | hold | fail | trip
deriving DecidableEq, Repr

/-- The code of an output's state. -/
def OutState.code : OutState → Nat
  | .normal => 0 | .hold => 1 | .fail => 2 | .trip => 3

/-- What is in force at a pin. -/
inductive PinVal where
  | hiz | low | high | code (c : Nat)
deriving DecidableEq, Repr

/-- One output. -/
structure OutSt where
  state    : OutState
  latched  : Bool
  /-- A RELEASE accepted and waiting for the next commit: its session (R340). -/
  release  : Option Word
  pin      : PinVal
  /-- Staged pin value of the open set. -/
  staged   : Option PinVal
  /-- The expiry fell on the same edge as the commit (R339). -/
  skip     : Bool
  host     : Word
  flags    : BitVec 7
  fails    : Word
  loops    : Word
  loopRun  : Nat
deriving DecidableEq, Repr

/-- An output after a start (Table 12.8): FAIL, high impedance. -/
def OutSt.zero : OutSt :=
  { state := .fail, latched := false, release := none, pin := .hiz, staged := none, skip := false, host := 0, flags := 0, fails := 0,
    loops := 0, loopRun := 0 }

/-- The OUT block. -/
structure OutBlk where
  cfg       : Option OutTable
  domain    : OutDomain
  /-- The commit token of the staged set (R337). -/
  token     : Bool
  outputs   : Tab OutSt
  holdBeat  : Long
  holdStart : Nat
  holdUs    : Word
  holds     : Word
  flags     : BitVec 5
  gpioIn    : Long
  /-- Safe output pairs whose trip is in force. -/
  tripped   : Byte
  annHost   : BitVec 192
  annStaged : BitVec 192
  annShow   : BitVec 192
  fallback  : Bool
deriving DecidableEq, Repr

/-- The OUT block after reset (Table 12.8). -/
def OutBlk.reset : OutBlk :=
  { cfg := none, domain := .start, token := false, outputs := [], holdBeat := 0, holdStart := 0, holdUs := 0, holds := 0, flags := 0,
    gpioIn := 0, tripped := 0, annHost := 0, annStaged := 0, annShow := 0, fallback := false }

end Sys2Proof.Machine
end

