-- ==== Sys2Proof/Machine/Outputs.lean ====
section
/-! DEFINITION. Direct outputs: scaling, commit, hold, fail, trip, loopback and the panel (12_outputs_annunciator.md). -/

namespace Sys2Proof.Machine

/-- What an output reads as. -/
def OutBlk.out (o : OutBlk) (k : Nat) : OutSt := Tab.get OutSt.zero o.outputs k
/-- Write an output. -/
def OutBlk.setOut (o : OutBlk) (k : Nat) (v : OutSt) : OutBlk := { o with outputs := Tab.set OutSt.zero o.outputs k v }
/-- An output's entry, when it is used. -/
def OutBlk.entry (o : OutBlk) (k : Nat) : Option OutCfg :=
  match o.cfg with
  | none => none
  | some t => (t.outputs[k]?).filter (fun c => decide (c.kind ≠ 0))
/-- Kinds that hold, fail and commit: AOUT, PWM, FREQ, GPIO_PP, GPIO_OD. -/
def managedKind (c : OutCfg) : Bool := decide (1 ≤ c.kind.toNat) && decide (c.kind.toNat ≤ 5)
/-- The managed outputs with their entries, by number. -/
def OutBlk.managed (o : OutBlk) : List (Nat × OutCfg) :=
  (List.range 112).filterMap (fun k => match o.entry k with | none => none | some c => if managedKind c then some (k, c) else none)

/-- The fail value of an output (Table 12.6); `lowPower`: a CODE of a PWM or FREQ output becomes LOW (Table 12.3). -/
def failPin (c : OutCfg) (lowPower : Bool) : PinVal :=
  if c.failKind = 1 then (if lowPower ∧ (c.kind = 2 ∨ c.kind = 3) then .low else .code c.failCode.toNat)
  else if c.failKind = 2 then .low
  else if c.failKind = 3 then .high
  else .hiz

/-- The code in force at a pin, when there is one (R334). -/
def PinVal.codeOf : PinVal → Option Int
  | .code c => some c
  | _ => none

/-- OUT_O_CODE: the code or level in force at the pin. -/
def PinVal.word : PinVal → Word
  | .code c => wordN c
  | .high => 1
  | _ => 0

/-- R334: the code of a value and the CLAMP (bit 0) and SLEW (bit 1) flags. -/
def scaleCode (c : OutCfg) (prev : Option Int) (v : Int) : Int × BitVec 7 :=
  let c0 := c.offset + rndShift (v * c.gain) c.shift
  let c1 := match prev with
    | some p => if c.slew = 0 then c0 else clampI (p - c.slew.toNat) (p + c.slew.toNat) c0
    | none => c0
  let c2 := clampI c.minCode.toNat c.maxCode.toNat c1
  (c2, (if c2 = c1 then 0 else 1) ||| (if c1 = c0 then 0 else 2))

/-- The staged pin value of one output from its source value (R334). -/
def stagePin (c : OutCfg) (s : OutSt) (v : Int) : PinVal × BitVec 7 :=
  if c.kind = 4 ∨ c.kind = 5 then
    let b := xor (decide ((v / 2 ^ c.shift) % 2 ≠ 0)) c.invert
    (if c.kind = 4 then (if b then .high else .low) else if b then .hiz else .low, 0)
  else
    let r := scaleCode c s.pin.codeOf v
    (.code r.1.toNat, r.2)

/-- OUTPUT_COMMIT (R334, R337): stage every output and close the set with the token.  `src kind index` is Table 12.2. -/
def OutBlk.stage (o : OutBlk) (src : Nat → Nat → Int) (onBits : BitVec 192) : OutBlk :=
  let o1 := o.managed.foldl (fun (a : OutBlk) p =>
    let s := a.out p.1
    let v := if p.2.srcKind = 7 then s.host.toInt else src p.2.srcKind.toNat p.2.srcIndex.toNat
    let r := stagePin p.2 s v
    a.setOut p.1 { s with staged := some r.1, flags := s.flags ||| r.2 }) o
  { o1 with token := decide (o.cfg ≠ none), annStaged := onBits }

/-- R337: the token of the beat is withdrawn. -/
def OutBlk.withdraw (o : OutBlk) : OutBlk := { o with token := false }

/-- Table 12.3's first row and R338: hold starts; cause 1 missing token, 2 no edge. -/
def OutBlk.startHold (o : OutBlk) (beat : Long) (now cause : Nat) : OutBlk × List Ev :=
  if o.domain = .run then
    let o1 := o.managed.foldl (fun (a : OutBlk) p =>
      let s := a.out p.1
      if s.state = .normal then a.setOut p.1 { s with state := .hold, flags := s.flags ||| 4 } else a) o
    ({ o1 with domain := .hold, holdBeat := beat, holdStart := now, holds := o.holds + 1, flags := o.flags ||| 1, fallback := true },
     [(0x0B01, [lowOf beat, wordN cause])])
  else (o, [])

/-- An output takes its fail value (Table 12.3); cause 1 HOLD_LIMIT, 2 low power. -/
def OutBlk.fail (o : OutBlk) (k cause : Nat) (c : OutCfg) (atEdge : Bool) : OutBlk × List Ev :=
  let s := o.out k
  ({ o.setOut k { s with state := .fail, latched := false, release := none, pin := failPin c (decide (cause = 2)), skip := atEdge,
                         flags := s.flags ||| 8, fails := s.fails + 1 } with flags := o.flags ||| 2 },
   [(0x0B02, [wordN k, wordN cause])])

/-- R338, R339: HOLD_LIMIT of an output in HOLD runs out. -/
def OutBlk.expire (o : OutBlk) (k : Nat) (atEdge : Bool) : OutBlk × List Ev :=
  match o.entry k with
  | none => (o, [])
  | some c => if (o.out k).state = .hold ∧ managedKind c then o.fail k 1 c atEdge else (o, [])

/-- Table 12.3's commit rows for one output. -/
def commitOut (k : Nat) (c : OutCfg) (s : OutSt) : OutSt × List Ev :=
  match s.staged with
  | none => ({ s with skip := false }, [])
  | some v =>
    match s.state with
    | .trip => ({ s with staged := none, skip := false }, [])
    | .fail =>
      if s.skip then ({ s with skip := false, staged := none }, [])
      else if c.latchFail then
        match s.release with
        | some ses =>
          if s.latched then
            ({ s with state := .normal, latched := false, release := none, pin := v, staged := none }, [(0x0B05, [wordN k, ses])])
          else ({ s with latched := true, staged := none }, [])
        | none => ({ s with latched := true, staged := none }, [])
      else ({ s with state := .normal, pin := v, staged := none }, [])
    | _ => ({ s with state := .normal, pin := v, staged := none, skip := false }, [])

/-- Outputs in FAIL or TRIP. -/
def OutBlk.nFail (o : OutBlk) : Nat :=
  (o.managed.filter (fun p => decide ((o.out p.1).state = .fail) || decide ((o.out p.1).state = .trip))).length

/-- R338, R343, R348: a beat edge in PD_OUT. -/
def OutBlk.edge (o : OutBlk) (beat : Long) (now : Nat) (gpio : Long) : OutBlk × List Ev :=
  let o := { o with gpioIn := gpio }
  if o.cfg = none then ({ o with token := false }, [])
  else if o.token then
    let r := o.managed.foldl (fun (a : OutBlk × List Ev) p =>
      let x := commitOut p.1 p.2 (a.1.out p.1)
      (a.1.setOut p.1 x.1, a.2 ++ x.2)) (o, [])
    let us := wordN ((now - o.holdStart) / 1000)
    let o1 := { r.1 with token := false, domain := .run, annShow := o.annStaged, fallback := false }
    if o.domain = .hold then
      ({ o1 with holdUs := us }, r.2 ++ [(0x0B03, [us, wordN o1.nFail])])
    else (o1, r.2)
  else o.startHold beat now 1

/-- R340: a write of OUT_O_CTRL.RELEASE. -/
def OutBlk.releaseWrite (o : OutBlk) (k : Nat) (session : Word) : OutBlk :=
  let s := o.out k
  if s.state = .fail ∧ s.latched ∧ o.domain = .run then o.setOut k { s with release := some session }
  else o.setOut k { s with flags := s.flags ||| 64 }

/-- R341: a safe output pair switched off for a violation or fault trips the linked outputs. -/
def OutBlk.trip (o : OutBlk) (pairs : Byte) : OutBlk × List Ev :=
  let hit := o.managed.filter (fun p => decide (p.2.safeLink &&& pairs ≠ 0) && decide ((o.out p.1).state ≠ .trip))
  let o1 := hit.foldl (fun (a : OutBlk) p =>
    let s := a.out p.1
    a.setOut p.1 { s with state := .trip, latched := false, release := none, pin := failPin p.2 false, flags := s.flags ||| 16, fails := s.fails + 1 }) o
  ({ o1 with tripped := o.tripped ||| pairs, flags := if hit.isEmpty then o.flags else o.flags ||| 4 },
   if hit.isEmpty then [] else [(0x0B04, [wordN pairs.toNat, wordN hit.length])])

/-- The island clears the trip of pairs (Table 12.3): outputs with no tripped pair left are in FAIL. -/
def OutBlk.tripClear (o : OutBlk) (pairs : Byte) : OutBlk :=
  let left := o.tripped &&& ~~~pairs
  let o1 := o.managed.foldl (fun (a : OutBlk) p =>
    let s := a.out p.1
    if s.state = .trip ∧ p.2.safeLink &&& left = 0 then a.setOut p.1 { s with state := .fail, latched := p.2.latchFail } else a) o
  { o1 with tripped := left }

/-- What is in force at the pin of output `k`: a GPIO_CLAIM pin follows the exclusive-output gate (Table 12.1). -/
def OutBlk.pinOf (o : OutBlk) (k : Nat) (gate : Bool) : PinVal :=
  match o.entry k with
  | some c => if c.kind = 7 then (if gate then .high else .low) else (o.out k).pin
  | none => (o.out k).pin

/-- Expected reading of a driven output, where it is checked (R342): a code, a high time in ticks, or a level.  A PWM or FREQ pin
held low is never high, a PWM pin held high is high for the whole period, and a FREQ pin held high has no period. -/
def loopExpected (c : OutCfg) (p : PinVal) : Option Int :=
  match p with
  | .code v =>
    if c.kind = 1 then some v
    else if c.kind = 2 then some ((v * c.periodTicks.toNat / 65536 : Nat) : Int)
    else if c.kind = 3 then some (if v = 0 then 0 else rndDiv 1250000000 v)
    else none
  | .low => if 2 ≤ c.kind.toNat then some 0 else none
  | .high => if c.kind = 2 then some c.periodTicks.toNat else if 4 ≤ c.kind.toNat then some 1 else none
  | .hiz => none

/-- R342: one output's loopback check against its reading. -/
def OutBlk.loopCheck (o : OutBlk) (k : Nat) (gate : Bool) (reading : Int) : OutBlk × List Ev :=
  match o.cfg, o.entry k with
  | some t, some c =>
    let s := o.out k
    match loopExpected c (o.pinOf k gate) with
    | none => (o, [])
    | some e =>
      let tol : Nat := if c.kind = 1 then t.loopTol.toNat else if c.kind = 2 ∨ c.kind = 3 then 2 else 0
      if (c.kind = 1 ∧ t.loopTol = 0) ∨ (reading - e).natAbs ≤ tol then (o.setOut k { s with loopRun := 0 }, [])
      else
        let run := s.loopRun + 1
        let s1 := { s with loopRun := run, loops := s.loops + 1 }
        if run = t.loopCount.toNat then
          ({ o.setOut k { s1 with flags := s1.flags ||| 32 } with flags := o.flags ||| 8 },
           [(0x0B06, [wordN k, satWord e, satWord reading])])
        else (o.setOut k s1, [])
  | _, _ => (o, [])

/-- R343, R344: delivery of OUT_CFG.  `imageReset`: PD_OUT was not restarted. -/
def OutBlk.configure (o : OutBlk) (t : OutTable) (imageReset : Bool) : OutBlk × List Ev :=
  let ent := fun (x : Option OutTable) (k : Nat) => match x with | none => none | some y => y.outputs[k]?
  let outs := (List.range 112).foldl (fun (m : Tab OutSt) k =>
    match ent (some t) k with
    | none => m
    | some c =>
      if c.kind = 0 then m
      else if imageReset ∧ ent o.cfg k = some c then Tab.set OutSt.zero m k { o.out k with host := 0 }
      else
        let old := o.out k
        Tab.set OutSt.zero m k { OutSt.zero with pin := if managedKind c then failPin c false else .hiz, flags := if imageReset then old.flags else 0,
                                                 fails := if imageReset then old.fails else 0, loops := if imageReset then old.loops else 0 }) []
  let changed := ((List.range 112).filter (fun k => decide (ent o.cfg k ≠ ent (some t) k))).length
  let o1 := { o with cfg := some t, outputs := outs }
  if imageReset then ({ o1 with fallback := o.fallback || decide (o.domain ≠ .run) }, [(0x0B08, [wordN changed])])
  else ({ o1 with domain := .start, fallback := true }, [])

/-- R336, R345, R352: an Image reset (`counts`) or Beat restart of the block: host values read 0. -/
def OutBlk.restart (o : OutBlk) (counts : Bool) : OutBlk :=
  let upd := fun (_ : Nat) (s : OutSt) => { s with host := 0, fails := if counts then 0 else s.fails, loops := if counts then 0 else s.loops }
  let o1 := { o with token := false, outputs := Tab.modifyAll OutSt.zero o.outputs (Tab.keys o.outputs) upd }
  if counts then { o1 with flags := 0, holds := 0 } else o1

/-- Table 12.3's last row: entry to Chrysalis or Cocoon.  An output in FAIL takes the value anew and enters nothing. -/
def OutBlk.lowPower (o : OutBlk) : OutBlk × List Ev :=
  o.managed.foldl (fun (a : OutBlk × List Ev) p =>
    let s := a.1.out p.1
    if s.state = .fail then (a.1.setOut p.1 { s with latched := false, release := none, pin := failPin p.2 true, skip := false }, a.2)
    else
      let r := a.1.fail p.1 2 p.2 false
      (r.1, a.2 ++ r.2)) (o, [])

/-- Table 12.5: is a segment lit?  `qid` reads a pair-domain quantity, `loc` the five local status bits. -/
def segLit (c : SegCfg) (seg mode role : Nat) (qid : Nat → Int) (loc : BitVec 8) (host : BitVec 192) : Bool :=
  match c.kind.toNat with
  | 1 => true
  | 2 => decide (mode = c.arg.toNat)
  | 3 => decide (role = c.arg.toNat)
  | 4 => decide ((qid c.arg.toNat / 2 ^ c.bitNo.toNat) % 2 ≠ 0)
  | 5 => loc.getLsbD c.bitNo.toNat
  | 6 => host.getLsbD seg
  | _ => false

/-- R348: the 192 on-bits staged in the publish phase. -/
def OutBlk.segments (o : OutBlk) (mode role : Nat) (qid : Nat → Int) (loc : BitVec 8) : BitVec 192 :=
  match o.cfg with
  | none => 0
  | some t =>
    if t.annBias = 0 then 0
    else maskOf 192 ((List.range 192).filter (fun s => (t.segments[s]?).any (fun c => segLit c s mode role qid loc o.annHost)))

/-- What the panel shows: the staged bits, or the fallback pattern (R349). -/
def OutBlk.lit (o : OutBlk) : BitVec 192 :=
  match o.cfg with
  | none => 0
  | some t =>
    if t.annBias = 0 then 0
    else if o.fallback then maskOf 192 ((List.range 192).filter (fun s => (t.segments[s]?).any SegCfg.fbOn))
    else o.annShow

end Sys2Proof.Machine
end

