-- ==== Sys2Proof/Machine/SolverCore.lean ====
section
/-! DEFINITION. The Hawkmoth solver's operations on a problem: warm start, pivot guard, iterations, deadlines,
result (07_hawkmoth_solver.md). -/

namespace Sys2Proof.Machine

/-- The midpoint of a box side, with R198 rounding and no overflow (R210). -/
def midpoint (lx ux : Int) : Int := rndDiv (lx + ux) 2

/-- Clamp a vector to a box, component by component. -/
def clampVec : List Int → List Int → List Int → List Int
  | [], _, _ => []
  | x :: xs, lo, hi => clampI (lo.headD x) (hi.headD x) x :: clampVec xs lo.tail hi.tail

/-- A cold start (R210): midpoints, zero clamped to the rows, y zero. -/
def coldStart (d : ProblemData) : List Int × List Int × List Int :=
  (List.zipWith midpoint d.lx d.ux, List.zipWith (fun l u => clampI l u 0) d.l d.u, List.replicate d.l.length 0)

/-- A mapped start through a projection table (R210). -/
def mappedStart (p : Praline) (t : ProjTable) (d : ProblemData) : List Int × List Int × List Int :=
  let x := (List.range t.mapX.length).map (fun j =>
    let i := t.mapX.getD j 0xFFFF
    if i = 0xFFFF then midpoint (d.lx.getD j 0) (d.ux.getD j 0) else p.x.getD i.toNat 0)
  let z := (List.range t.mapR.length).map (fun j =>
    let i := t.mapR.getD j 0xFFFF
    if i = 0xFFFF then clampI (d.l.getD j 0) (d.u.getD j 0) 0 else p.z.getD i.toNat 0)
  let y := (List.range t.mapR.length).map (fun j =>
    let i := t.mapR.getD j 0xFFFF
    if i = 0xFFFF then 0 else p.y.getD i.toNat 0)
  (x, z, y)

/-- Event 0x0608 of an operation whose accumulator saturates (R197). -/
def satEvent (desc : ProblemDesc) (opcode : Nat) (sat : Bool) : List Ev :=
  if sat then [(0x0608, [BitVec.ofNat 32 desc.slot.toNat, BitVec.ofNat 32 opcode, BitVec.ofNat 32 desc.qidAcc.toNat])] else []

/-- R210: LOAD's warm, mapped or cold start, projected onto the box. -/
def loadProblem (desc : ProblemDesc) (data : ProblemData) (p : Praline) (table : Option ProjTable) (start : Nat) :
    Problem × List Ev :=
  let mk (s : List Int × List Int × List Int) (f : ProbFlags) : Problem :=
    { desc := desc, data := data, phase := .loaded, start := start, x := s.1, z := s.2.1, y := s.2.2,
      resX := clampVec s.1 data.lx data.ux, resid := [], precond := [], direction := [], normRes := [], factor := [], iterDone := 0, pivotFirst := none, pivots := 0,
      primal := 0, dual := 0,
      flags := { f with sat := Config.solverSat 0x0201 data s.1, projOnly := decide (desc.iter = 0) } }
  let r : Problem × List Ev :=
    if p.keySig = desc.structSig then (mk (p.x, p.z, p.y) { ProbFlags.zero with warm := true }, [])
    else match table with
      | some t => (mk (mappedStart p t data) { ProbFlags.zero with mapped := true }, [])
      | none =>
        (mk (coldStart data) { ProbFlags.zero with cold := true }, [(0x0602, [BitVec.ofNat 32 desc.slot.toNat, p.keySig, desc.structSig])])
  (r.1, r.2 ++ satEvent desc 0x0201 r.1.flags.sat)

/-- The expected sign of position `k` (Table 7.3): negative in the last M rows of a QP. -/
def expectedSign (desc : ProblemDesc) (k : Nat) : Int := if desc.kind = 1 && decide (desc.n.toNat ≤ k) then -1 else 1

/-- The pivot guard of R205: the pivot in use and whether it was replaced. -/
def guardPivot (desc : ProblemDesc) (k : Nat) (d : Int) : Int × Bool :=
  if d.natAbs < desc.pivotThr.toNat then
    ((if d = 0 then expectedSign desc k else if d < 0 then -1 else 1) * (desc.delta.toNat : Int), true)
  else (d, false)

/-- Run the factorisation over the pivot positions `ks` (R204, R205). -/
def factorRun (desc : ProblemDesc) (data : ProblemData) :
    List Nat → (List Int × Nat × Option (Nat × Int)) → (List Int × Nat × Option (Nat × Int))
  | [], acc => acc
  | k :: ks, (ds, cnt, first) =>
    let raw := Config.pivotAt data ds k
    let (d, rep) := guardPivot desc k raw
    factorRun desc data ks
      (ds ++ [d], if rep then cnt + 1 else cnt,
       match first with | some f => some f | none => if rep then some (k, raw) else none)

/-- The number of pivot positions of a problem (Table 7.3). -/
def pivotCount (desc : ProblemDesc) : Nat := if desc.kind = 1 then desc.n.toNat + desc.m.toNat else desc.n.toNat

/-- R204, R205: FACTOR on a loaded problem.  A descriptor with FACTOR_SRC reuses the factor given. -/
def factorProblem (p : Problem) (reuse : Option (List Int)) : Problem × List Ev :=
  match reuse with
  | some f => ({ p with phase := .factored, factor := f }, [])
  | none =>
    let (ds, cnt, first) := factorRun p.desc p.data (List.range (pivotCount p.desc)) ([], 0, none)
    let sat := Config.solverSat 0x0202 p.data p.x
    let p1 := { p with phase := .factored, factor := ds, pivots := cnt, pivotFirst := first.map Prod.fst,
                       flags := { p.flags with pivotReg := decide (0 < cnt), sat := p.flags.sat || sat } }
    match first with
    | none => (p1, satEvent p.desc 0x0202 sat)
    | some (k, raw) =>
      (p1, (0x0601, [BitVec.ofNat 32 p.desc.slot.toNat, BitVec.ofNat 32 k, satWord raw, BitVec.ofNat 32 cnt]) :: satEvent p.desc 0x0202 sat)

/-- Sums and differences of two vectors, clamped to 32-bit codes (R198). -/
def addVec (u v : List Int) : List Int := List.zipWith (fun a b => satS 32 (a + b)) u v
def subVec (u v : List Int) : List Int := List.zipWith (fun a b => satS 32 (a - b)) u v

/-- The largest magnitude of a vector. -/
def maxAbs (v : List Int) : Int := v.foldl (fun m a => max m (a.natAbs : Int)) 0

/-- One pass of R206 with its projected write. -/
def admmStep (p : Problem) (it : Nat) : Problem :=
  let yr := Config.overRho p.data p.y
  let sol := Config.kktSolve p.data p.factor p.x (subVec p.z yr)
  let zt := addVec p.z (Config.overRho p.data (subVec sol.2 p.y))
  let z := clampVec (addVec zt yr) p.data.l p.data.u
  let y := addVec p.y (Config.timesRho p.data (subVec zt z))
  { p with x := sol.1, z := z, y := y, resX := clampVec sol.1 p.data.lx p.data.ux, iterDone := it }

/-- What R207 computes before its first pass. -/
def cgBegin (p : Problem) : Problem :=
  let r := subVec (Config.rightHand p.data) (Config.matVec p.data p.x)
  let s := Config.ldlSolve p.data p.factor r
  { p with resid := r, precond := s, direction := s }

/-- One pass of R207 with its projected write. -/
def cgStep (p : Problem) (it : Nat) : Problem :=
  let dot := Config.dotOf p.data
  let g := Config.matVec p.data p.direction
  let rs := dot p.resid p.precond
  let dg := dot p.direction g
  let a := if dg = 0 then 0 else Config.ratioOf p.data rs dg
  let x := addVec p.x (Config.scaleBy p.data a p.direction)
  let rn := subVec p.resid (Config.scaleBy p.data a g)
  let sn := Config.ldlSolve p.data p.factor rn
  let bt := if rs = 0 then 0 else Config.ratioOf p.data (dot rn sn) rs
  let d := addVec sn (Config.scaleBy p.data bt p.direction)
  { p with x := x, resid := rn, precond := sn, direction := d, resX := clampVec x p.data.lx p.data.ux, iterDone := it }

/-- Iterations 1 to `k` (R206, R207). -/
def iterateTo (p : Problem) (k : Nat) : Problem :=
  if p.desc.kind = 1 then (List.range k).foldl (fun q i => admmStep q (i + 1)) p
  else (List.range k).foldl (fun q i => cgStep q (i + 1)) (cgBegin p)

/-- R208: ITERATE runs exactly ITER iterations and tests convergence; PRIMAL_RES and DUAL_RES of R206 and R207. -/
def iterateProblem (p : Problem) : Problem × List Ev :=
  let q := iterateTo p p.desc.iter.toNat
  let qp := decide (p.desc.kind = 1)
  let pr := if qp then maxAbs (subVec (Config.rowVec q.data q.x) q.z) else maxAbs q.resid
  let du := if qp then maxAbs (Config.colVec q.data q.x q.y) else 0
  let bad := decide (p.desc.resThr ≠ 0) && (decide ((p.desc.resThr.toNat : Int) < pr) || decide ((p.desc.resThr.toNat : Int) < du))
  let sat := Config.solverSat 0x0203 q.data q.x
  ({ q with phase := .iterated, primal := pr, dual := du, normRes := if 3 ≤ p.desc.kind.toNat then Config.normResiduals q.data q.x else [],
            flags := { q.flags with notConv := bad, sat := q.flags.sat || sat } },
   (if bad then [(0x0606, [BitVec.ofNat 32 p.desc.slot.toNat, satWord pr, satWord du, p.desc.resThr])] else []) ++ satEvent p.desc 0x0203 sat)

/-- What a missed deadline leaves of a problem (Table 7.5): `done` iterations had completed. -/
def stopProblem (p : Problem) (deadline column done : Nat) : Problem × List Ev :=
  let slot := BitVec.ofNat 32 p.desc.slot.toNat
  match p.phase with
  | .loaded =>
    ({ p with phase := .stopped, primal := 0, dual := 0, flags := { p.flags with dlFactor := true, notConv := false } },
     [(0x0604, [slot, BitVec.ofNat 32 deadline, BitVec.ofNat 32 column])])
  | .factored =>
    let q := iterateTo p (min done p.desc.iter.toNat)
    ({ q with phase := .stopped, primal := 0, dual := 0, flags := { q.flags with dlIter := true, notConv := false } },
     [(0x0605, [slot, BitVec.ofNat 32 q.iterDone, BitVec.ofNat 32 p.desc.iter.toNat])])
  | _ => (p, [])

/-- The result record of a problem (R218). -/
def resultOf (p : Problem) (beat : Nat) (stop : Nat) : ProbResult :=
  { beat := BitVec.ofNat 32 beat, structSig := p.desc.structSig, flags := p.flags, iterDone := p.iterDone,
    pivotFirst := match p.pivotFirst with | none => 0xFFFF | some k => BitVec.ofNat 16 k,
    pivots := BitVec.ofNat 16 (min 0xFFFF p.pivots), primal := satWord p.primal, dual := satWord p.dual,
    cycles := stop - p.start, x := p.resX, y := if p.desc.kind = 1 then p.y else if 3 ≤ p.desc.kind.toNat then p.normRes else [] }

/-- The Praline entry STORE writes (R213): the result that was used. -/
def pralineOf (p : Problem) (beat : Nat) : Praline :=
  { keySig := p.desc.structSig, x := p.resX, z := if p.desc.kind = 1 then p.z else [], y := if p.desc.kind = 1 then p.y else [], beat := BitVec.ofNat 64 beat }

/-- FLAGS as the register and the record carry them. -/
def ProbFlags.code (f : ProbFlags) : Nat :=
  (if f.pivotReg then 1 else 0) + (if f.warm then 2 else 0) + (if f.mapped then 4 else 0) + (if f.cold then 8 else 0) +
  (if f.dlLoad then 16 else 0) + (if f.dlFactor then 32 else 0) + (if f.dlIter then 64 else 0) + (if f.sat then 128 else 0) +
  (if f.notConv then 256 else 0) + (if f.projOnly then 512 else 0)

/-- The sticky flags that a problem's flags set (Table 7.10). -/
def HwkSt.flag (h : HwkSt) (f : ProbFlags) : HwkSt :=
  { h with
    flPivot := h.flPivot || f.pivotReg, flCold := h.flCold || f.cold, flDeadline := h.flDeadline || f.dlLoad || f.dlFactor || f.dlIter
    flSat := h.flSat || f.sat, flNotConv := h.flNotConv || f.notConv }

/-- A problem in progress is replaced, its factor kept for the beat and its flags made sticky. -/
def HwkSt.putProblem (h : HwkSt) (slot : Nat) (p : Problem) : HwkSt :=
  { h.flag p.flags with
    progress := Tab.set none h.progress slot (some p), factors := if p.phase = .factored then Tab.set [] h.factors slot p.factor else h.factors }

/-- The counts a stored result adds (Table 7.10). -/
def HwkSt.account (h : HwkSt) (slot : Nat) (f : ProbFlags) : HwkSt :=
  let c := Tab.get SlotCounts.zero h.counts slot
  let dl := f.dlLoad || f.dlFactor || f.dlIter
  { h with
    counts := Tab.set SlotCounts.zero h.counts slot
      { pivots := if f.pivotReg then c.pivots + 1 else c.pivots, maps := if f.mapped then c.maps + 1 else c.maps,
        colds := if f.cold then c.colds + 1 else c.colds, deadlines := if dl then c.deadlines + 1 else c.deadlines,
        notConv := if f.notConv then c.notConv + 1 else c.notConv } }

/-- STORE (R213, R218) of the problem in progress in a slot. -/
def HwkSt.store (h : HwkSt) (slot beat stop : Nat) : HwkSt :=
  match Tab.get none h.progress slot with
  | none => h
  | some p =>
    let h1 := h.account slot p.flags
    { h1 with
      results := Tab.set ProbResult.zero h1.results slot (resultOf p beat stop), praline := Tab.set Praline.zero h1.praline slot (pralineOf p beat)
      progress := Tab.set none h1.progress slot none }

/-- A deadline in LOAD (Table 7.5): the previous record stays, with DL_LOAD; the Praline entry is unchanged. -/
def HwkSt.stopInLoad (h : HwkSt) (slot deadline : Nat) : HwkSt × List Ev :=
  let r := Tab.get ProbResult.zero h.results slot
  let f := { r.flags with dlLoad := true, notConv := false }
  let h1 := (h.account slot { ProbFlags.zero with dlLoad := true }).flag { ProbFlags.zero with dlLoad := true }
  ({ h1 with results := Tab.set ProbResult.zero h1.results slot { r with flags := f }, progress := Tab.set none h1.progress slot none },
   [(0x0603, [BitVec.ofNat 32 slot, BitVec.ofNat 32 deadline, r.structSig])])

/-- The job's cause codes of event 0x0607. -/
def HwkSt.discardJob (h : HwkSt) (cause : Nat) : HwkSt × List Ev :=
  if h.job.done = 0 || h.job.discarded then (h, [])
  else
    ({ h with job := { h.job with discarded := true, candidate := none, snapshot := [] }, discards := h.discards + 1, flBa := true },
     [(0x0607, [BitVec.ofNat 32 h.job.slot, BitVec.ofNat 32 h.job.done, BitVec.ofNat 32 cause])])

/-- R43, R217: a Beat restart discards every problem in progress. -/
def HwkSt.discardProblems (h : HwkSt) : HwkSt := { h with progress := [], factors := [] }

end Sys2Proof.Machine
end

