-- ==== Sys2Proof/Machine/StEst.lean ====
section
/-! DEFINITION. State of the EST block: observer, history, references, votes, health (08_estimation.md). -/

namespace Sys2Proof.Machine

/-- EST_R_STATE (Table 8.2). -/
inductive RefState where
  | disabled | acquire | admitted | rejected | stale | deselected
deriving DecidableEq, Repr

/-- The code of EST_R_STATE. -/
def RefState.code : RefState → Word
  | .disabled => 0 | .acquire => 1 | .admitted => 2 | .rejected => 3 | .stale => 4 | .deselected => 5

/-- One reference slot (R236 to R244). -/
structure RefSt where
  state     : RefState
  reason    : BitVec 4
  good      : Nat
  lastD     : BitVec 4
  /-- The last sample and how many have been bit-identical (FREEZE); the same moved to the reference point, and what was
  predicted for it (JUMP). -/
  lastVal   : List Int
  lastMoved : List Int
  lastPred  : List Int
  sameRun   : Nat
  /-- The last 32 innovations (VARIANCE) and the last 100 values of d (PAIR_SPLIT), newest first. -/
  nus       : List (List Int)
  ds        : List Nat
  drift     : List Int
  nu        : List Int
  d         : Half
  zCur      : List Int
  sigma     : Nat
  origin    : Option (Int × Int)
  /-- The origin that the last sample would set on admission (R241). -/
  tryOrigin : Option (Int × Int)
  stale     : Nat
  everAdmitted : Bool
  unadmitted : Nat
  /-- Applied in the beat in progress, with a passing verdict and its weight rows. -/
  applied   : Bool
  passed    : Bool
  /-- Deselected while ADMITTED, and no update problem loaded since (R236). -/
  deselNow  : Bool
  samples   : Word
  rejects   : Word
  delayed   : Word
  late      : Word
  superseded : Word
deriving DecidableEq, Repr

/-- A reference in a reset table: DISABLED. -/
def RefSt.zero : RefSt :=
  { state := .disabled, reason := 0, good := 0, lastD := 0, lastVal := [], lastMoved := [], lastPred := [], sameRun := 0, nus := [],
    ds := [], drift := [], nu := [], d := 0, zCur := [], sigma := 0, origin := none, tryOrigin := none, stale := 0,
    everAdmitted := false, unadmitted := 0, applied := false, passed := false, deselNow := false, samples := 0, rejects := 0, delayed := 0,
    late := 0, superseded := 0 }

/-- A sample that pair-domain work offered to the estimator (R187, R190, R269) and that no update problem has taken yet: its
source and side, values, reported σ, verdict and instant, and the first beat whose update takes it (R231). -/
structure RefOffer where
  source   : Half
  sideB    : Bool
  shared   : Bool
  vals     : List Int
  sigma    : Option Nat
  reject   : Bool
  instant  : Int
  fromBeat : Nat
  /-- The slot that a target binding names (R269); none: every slot whose entry names the source. -/
  slot     : Option Nat
deriving DecidableEq, Repr

/-- The EST block.  The observer's 17 components are held as raw codes in the formats of the range table (R225). -/
structure EstSt where
  table     : Option EstTable
  xHat      : List Int
  /-- The same 17 components in interface units, as they are published (R247). -/
  shown     : List Int
  prior     : List Int
  /-- Posteriors of edges n−1 to n−8, newest first (R231). -/
  history   : List (List Int)
  /-- North, east and heading of the previous beat's posterior, in interface units (R264, R269). -/
  prevPose  : List Int
  /-- s_f, the one that takes effect from the next beat, and j_acc (R234). -/
  factor    : List Int
  nextFactor : Option (List Int)
  jAcc      : List Int
  refs      : Tab RefSt
  offers    : List RefOffer
  initialised : Bool
  /-- Beats left without the prediction test, the initialising beat included (R240). -/
  initLeft  : Nat
  initFlag  : Bool
  drBeats   : Nat
  wasDr     : Bool
  lastPos   : Nat
  health    : BitVec 2
  /-- FLAGS of the beat (Table 8.6). -/
  flags     : BitVec 16
  roll      : Int
  pitch     : Int
  heave     : Int
  heaveVel  : Int
  windSpeed : Int
  windDir   : Int
  tauWind   : List Int
  delayedNow : Nat
  lateNow   : Nat
  covLost   : Word
  flRejected : Bool
  flDr      : Bool
  flInvalid : Bool
  flNoUpdate : Bool
  flSat     : Bool
  flLate    : Bool
  /-- Position relative to the followed target (Table 8.6). -/
  tgtN      : Int
  tgtE      : Int
deriving DecidableEq, Repr

/-- The EST block after reset (Table 8.10). -/
def EstSt.reset : EstSt :=
  { table := none, xHat := [], shown := [], prior := [], history := [], prevPose := [], factor := [], nextFactor := none, jAcc := [], refs := [], offers := [],
    initialised := false, initLeft := 0, initFlag := true, drBeats := 0, wasDr := false, lastPos := 0, health := 0,
    flags := 0x0200, roll := 0, pitch := 0, heave := 0, heaveVel := 0, windSpeed := 0, windDir := 0,
    tauWind := [0, 0, 0], delayedNow := 0, lateNow := 0, covLost := 0, flRejected := false, flDr := false,
    flInvalid := false, flNoUpdate := false, flSat := false, flLate := false, tgtN := 0, tgtE := 0 }

end Sys2Proof.Machine
end

