-- ==== Sys2Proof/Machine/Estimator.lean ====
section
/-! DEFINITION. The estimator: references and their tests, votes, update, covariance, health (08_estimation.md). -/

namespace Sys2Proof.Machine

/-- A sample offered to a reference slot: components in slot units, reported σ, the REJECT verdict and the instant. -/
structure RefSample where
  vals    : List Int
  sigma   : Option Nat
  reject  : Bool
  instant : Int
deriving DecidableEq, Repr

/-- Reference slot `k`. -/
def EstSt.ref (e : EstSt) (k : Nat) : RefSt := Tab.get RefSt.zero e.refs k
/-- Write reference slot `k`. -/
def EstSt.setRef (e : EstSt) (k : Nat) (r : RefSt) : EstSt := { e with refs := Tab.set RefSt.zero e.refs k r }

/-- The unused entry. -/
def estEntryOff : EstEntry :=
  { kind := 0, side := 0, source := 0, leverX := 0, leverY := 0, leverZ := 0, sigmaNom := 0, sigmaMax := 0, jumpLim := 0,
    freezeN := 0, readmit := 0, staleBeats := 0, maxD := 0, useReported := false, target := false }

/-- The table entry of slot `k`. -/
def EstSt.entry (e : EstSt) (k : Nat) : EstEntry :=
  match e.table with | none => estEntryOff | some t => t.entries.getD k estEntryOff

/-- The classes of the slots (R228). -/
inductive RefClass where
  | position | heading | motion | wind
deriving DecidableEq, Repr

/-- The class of slot `k`. -/
def refClass (k : Nat) : RefClass := if k < 16 then .position else if k < 24 then .heading else if k < 32 then .motion else .wind

/-- The slots of a class. -/
def classSlots : RefClass → List Nat
  | .position => List.range 16
  | .heading => (List.range 8).map (· + 16)
  | .motion => (List.range 8).map (· + 24)
  | .wind => (List.range 8).map (· + 32)

/-- Signed 32-bit binary-angle difference (R136, R229). -/
def angDiff (a b : Int) : Int := (BitVec.ofInt 32 (a - b)).toInt

/-- Does component `c` of class `k` hold a binary angle? -/
def isAngle (cls : RefClass) (c : Nat) : Bool :=
  match cls with
  | .position => false
  | .heading => true
  | .motion => decide (c < 2)
  | .wind => decide (c = 1)

/-- A difference in a component's own sense. -/
def compDiff (cls : RefClass) (c : Nat) (a b : Int) : Int := if isAngle cls c then angDiff a b else a - b

/-- |v| against a limit given in mm or in 0.001° (SIGMA_MAX, JUMP_LIM): 0.001° is 2^32 / 360,000 of a binary angle. -/
def exceeds (cls : RefClass) (c : Nat) (v : Int) (lim : Nat) : Bool :=
  if isAngle cls c then decide (lim * 4294967296 < v.natAbs * 360000) else decide (lim < v.natAbs)

/-- Does any component satisfy a test of its index and value? -/
def anyComp (f : Nat → Int → Bool) : Nat → List Int → Bool
  | _, [] => false
  | i, v :: t => f i v || anyComp f (i + 1) t

/-- Component-wise differences of two vectors. -/
def diffVec (cls : RefClass) : Nat → List Int → List Int → List Int
  | _, [], _ => []
  | _, _, [] => []
  | i, a :: as, b :: bs => compDiff cls i a b :: diffVec cls (i + 1) as bs

/-- The sum over the last samples of component `c`'s squared innovation, and the number of samples. -/
def sumSquares (nus : List (List Int)) (c : Nat) : Nat := (nus.map (fun (v : List Int) => (v.getD c 0).natAbs ^ 2)).foldl (· + ·) 0

/-- VARIANCE: the reported σ, or the RMS of ν over the last 32 samples, exceeds SIGMA_MAX (Table 8.3). -/
def varianceFails (cls : RefClass) (en : EstEntry) (sigma : Option Nat) (nus : List (List Int)) : Bool :=
  if en.sigmaMax = 0 then false
  else
    match sigma with
    | some s => decide (en.sigmaMax.toNat < s)
    | none =>
      let n : Nat := nus.length
      (List.range (nus.headD []).length).any (fun c =>
        let sq := sumSquares nus c
        let lim : Nat := en.sigmaMax.toNat
        if isAngle cls c then decide (n * (lim * 4294967296) ^ 2 < sq * 360000 ^ 2)
        else decide (n * lim ^ 2 < sq))

/-- The statistic of VARIANCE: the reported σ, or the largest RMS of a component. -/
def varianceStat (sigma : Option Nat) (nus : List (List Int)) : Nat :=
  match sigma with
  | some s => s
  | none => ((List.range (nus.headD []).length).map (fun c => isqrtBits 64 0 (sumSquares nus c / nus.length))).foldl max 0

/-- PRED_ERR: d² = Σ ν²/s exceeds PE_THR² (Q8.8), by cross-multiplication. -/
def predErrFails (peThr : Nat) (nu s : List Int) : Bool :=
  match nu, s with
  | [a], [sa] => decide ((peThr : Int) * peThr * sa < a * a * 65536)
  | [a, b], [sa, sb] => decide ((peThr : Int) * peThr * sa * sb < (a * a * sb + b * b * sa) * 65536)
  | _, _ => false

/-- d in Q8.8, saturating (Table 8.3). -/
def dOf (nu s : List Int) : Half :=
  let sum := (List.zipWith (fun a v => Config.quot 237 (a * a * 65536) v.toNat) nu s).foldl (· + ·) 0
  BitVec.ofInt 16 (clampI 0 65535 (Config.sqrtOf 237 sum))

/-- Is the prediction-error test in force (R240)? -/
def EstSt.peOn (e : EstSt) : Bool := e.initialised && decide (e.initLeft = 0)

/-- What the tests of a sample use: the sample at the vessel reference point, what the model predicts for it, ν, s and the
current-equivalent value (R229, R234 step 3). -/
structure Innov where
  moved : List Int
  pred  : List Int
  nu    : List Int
  s     : List Int
  zCur  : List Int
deriving DecidableEq, Repr

/-- The number of bit-identical samples that end with `v` (FREEZE). -/
def RefSt.sameWith (r : RefSt) (v : List Int) : Nat := if r.lastVal = v then r.sameRun + 1 else 1

/-- The change from the previous sample less the predicted change (JUMP). -/
def RefSt.jump (r : RefSt) (cls : RefClass) (x : Innov) : List Int :=
  diffVec cls 0 (diffVec cls 0 x.moved r.lastMoved) (diffVec cls 0 x.pred r.lastPred)

/-- FREEZE and JUMP of Table 8.3, the tests that a superseded sample passes through too (R232): the reason of the first that
fails and its statistic, 0 for none. -/
def freezeJump (cls : RefClass) (en : EstEntry) (r : RefSt) (v : List Int) (x : Innov) : Nat × Nat :=
  let same := r.sameWith v
  let jump := r.jump cls x
  if en.freezeN ≠ 0 && decide (en.freezeN.toNat ≤ same) then (1, same)
  else if en.jumpLim ≠ 0 && !r.lastMoved.isEmpty && anyComp (fun c v => exceeds cls c v en.jumpLim.toNat) 0 jump then
    (2, (jump.map Int.natAbs).foldl max 0)
  else (0, 0)

/-- The single-reference tests in the order of Table 8.3: the reason of the first that fails, 0 for none, and its
statistic. -/
def singleTest (cls : RefClass) (en : EstEntry) (r : RefSt) (sm : RefSample) (x : Innov) (pe : Option Nat) : Nat × Nat :=
  let nus := (x.nu :: r.nus).take 32
  let fj := freezeJump cls en r sm.vals x
  if sm.reject then (8, 0)
  else if fj.1 ≠ 0 then fj
  else if varianceFails cls en sm.sigma nus then (3, varianceStat sm.sigma nus)
  else match pe with
    | some thr => if thr ≠ 0 && predErrFails thr x.nu x.s then (4, (dOf x.nu x.s).toNat) else (0, 0)
    | none => (0, 0)

/-- σ in use (R239). -/
def sigmaInUse (en : EstEntry) (sm : RefSample) : Nat :=
  if en.useReported then max (sm.sigma.getD 0) en.sigmaNom.toNat else en.sigmaNom.toNat

/-- r_var of a component, in squared slot units: σ² (R239); σ of a heading is in 0.001°. -/
def rVar (cls : RefClass) (sigma : Nat) : Int :=
  if cls = .heading then Config.quot 239 ((sigma : Int) ^ 2 * 18446744073709551616) 129600000000 else (sigma : Int) ^ 2

/-- A sample goes by FREEZE and JUMP (R232). -/
def RefSt.note (r : RefSt) (v : List Int) (x : Innov) : RefSt :=
  { r with lastVal := v, lastMoved := x.moved, lastPred := x.pred, sameRun := r.sameWith v }

/-- A reference's applied sample is observed: statistics and counts (R236). -/
def RefSt.observe (r : RefSt) (en : EstEntry) (sm : RefSample) (d : Nat) (x : Innov) : RefSt :=
  { r.note sm.vals x with
    nus := (x.nu :: r.nus).take 32, ds := ((dOf x.nu x.s).toNat :: r.ds).take 100, nu := x.nu, d := dOf x.nu x.s, zCur := x.zCur,
    sigma := sigmaInUse en sm, lastD := BitVec.ofNat 4 d, applied := true, stale := 0, samples := r.samples + 1,
    delayed := if 0 < d then r.delayed + 1 else r.delayed,
    unadmitted := if r.state = .admitted then 0 else r.unadmitted + 1 }

/-- A failing test (Table 8.2): the passing count restarts; an ADMITTED reference is REJECTED, with the reason and event
0x0701, and one that was deselected in this beat keeps the reason (R236). -/
def RefSt.fail (r : RefSt) (slot : Nat) (reason : Nat × Nat) : RefSt × List Ev :=
  let r1 := { r with good := 0, passed := false }
  if r.state = .admitted || r.deselNow then
    ({ r1 with state := if r.state = .admitted then .rejected else r.state, reason := BitVec.ofNat 4 reason.1,
               rejects := r.rejects + 1, unadmitted := 0, deselNow := false },
     [(0x0701, [BitVec.ofNat 32 slot, BitVec.ofNat 32 reason.1, satWordU reason.2])])
  else (r1, [])

/-- A passing sample (Table 8.2). -/
def RefSt.pass (r : RefSt) (en : EstEntry) (slot : Nat) : RefSt × List Ev :=
  let r1 := { r with good := r.good + 1, passed := true }
  if (r1.state = .acquire || r1.state = .rejected) && decide (en.readmit.toNat ≤ r1.good) then
    ({ r1 with state := .admitted, everAdmitted := true },
     [(0x0702, [BitVec.ofNat 32 slot, if r1.everAdmitted then 1 else 0, BitVec.ofNat 32 r1.unadmitted])])
  else (r1, [])

/-- R231: the delay D of an instant for beat n, at most 0 for an instant at or after edge n. -/
def delayOf (n : Nat) (instant : Int) : Nat :=
  let edge : Int := (n : Int) * 1000000
  if edge ≤ instant then 0 else n - (instant / 1000000).toNat

/-- Sort integers rising. -/
def sortInt (l : List Int) : List Int :=
  l.foldl (fun acc x => (acc.filter (fun y => decide (y ≤ x))) ++ [x] ++ (acc.filter (fun y => decide (x < y)))) []

/-- Component-wise median: the mean of the middle two with an even count (Table 8.4). -/
def median (l : List Int) : Int :=
  let s := sortInt l
  let n := s.length
  if n % 2 = 1 then s.getD (n / 2) 0 else Config.quot 238 (s.getD (n / 2 - 1) 0 + s.getD (n / 2) 0) 2

/-- The median of candidates' component `c`, angles taken as signed differences from the first candidate. -/
def medianComp (cls : RefClass) (c : Nat) (vals : List (List Int)) : Int :=
  let col := vals.map (fun v => v.getD c 0)
  if isAngle cls c then
    let base := col.headD 0
    base + median (col.map (fun v => angDiff v base))
  else median col

/-- Squared horizontal distance, or the squared angle, of a value from a point. -/
def dist2 (cls : RefClass) (v p : List Int) : Nat :=
  ((diffVec cls 0 v p).map (fun x => x.natAbs ^ 2)).foldl (· + ·) 0

/-- The candidates of a class's group tests (R238). -/
def EstSt.candidates (e : EstSt) (cls : RefClass) : List Nat :=
  (classSlots cls).filter (fun k =>
    let r := e.ref k
    r.applied && r.passed && (decide (r.state = .admitted) || decide (r.state = .acquire) || decide (r.state = .rejected)))

/-- MED_MM or MED_ANG of a class. -/
def EstSt.medLimit (e : EstSt) (cls : RefClass) : Nat :=
  match e.table with
  | none => 0
  | some t => match cls with | .position => t.medMm.toNat | .heading => t.medAng.toNat | _ => 0

/-- MEDIAN for one class (Table 8.4), with MOT_MED's limits for motion and wind (R244). -/
def EstSt.medianFails (e : EstSt) (cls : RefClass) (cands : List Nat) (k : Nat) : Option Nat :=
  match e.table with
  | none => none
  | some t =>
    if cands.length < t.medMin.toNat then none
    else
      let vals := cands.map (fun j => (e.ref j).zCur)
      let comps := (vals.headD []).length
      let med := (List.range comps).map (fun c => medianComp cls c vals)
      let v := (e.ref k).zCur
      match cls with
      | .position | .heading =>
        let lim := e.medLimit cls
        let q := dist2 cls v med
        if lim ≠ 0 && decide (lim ^ 2 < q) then some q else none
      | .motion | .wind =>
        let lims := if cls = .motion then t.motMed.take 4 else t.motMed.drop 4
        let df := diffVec cls 0 v med
        if anyComp (fun c x => decide ((lims.getD c 0) ≠ 0) && decide ((lims.getD c 0).toNat < x.natAbs)) 0 df
        then some (dist2 cls v med) else none

/-- The weighted mean of values with weights 1/σ² (R239), angles from the first slot. -/
def weightedMean (cls : RefClass) (c : Nat) (rs : List RefSt) : Int :=
  let all := (rs.map (fun r => r.sigma ^ 2)).foldl (· * ·) 1
  let base := ((rs.headD RefSt.zero).zCur).getD c 0
  let ws := rs.map (fun r => (all / (r.sigma ^ 2), compDiff cls c (r.zCur.getD c 0) (if isAngle cls c then base else 0)))
  let num := (ws.map (fun (p : Nat × Int) => (p.1 : Int) * p.2)).foldl (· + ·) 0
  let den := (ws.map Prod.fst).foldl (· + ·) 0
  (if isAngle cls c then base else 0) + Config.quot 242 num den

/-- DRIFT for one reference among the candidates (Table 8.4): the new filter state and whether it fails. -/
def EstSt.driftStep (e : EstSt) (cls : RefClass) (cands : List Nat) (k : Nat) : List Int × Option Nat :=
  match e.table with
  | none => ([], none)
  | some t =>
    let r := e.ref k
    let others := (cands.filter (fun j => decide (j ≠ k) && decide ((e.ref j).state = .admitted))).map e.ref
    let lim := if cls = .position then t.driftMm.toNat else t.driftAng.toNat
    if others.isEmpty || lim = 0 then (r.drift, none)
    else
      let mean := (List.range r.zCur.length).map (fun c => weightedMean cls c others)
      let df := diffVec cls 0 r.zCur mean
      let f := (List.range df.length).map (fun c => Config.lowPass t.driftTc.toNat (r.drift.getD c 0) (df.getD c 0))
      let q := (f.map (fun x => x.natAbs ^ 2)).foldl (· + ·) 0
      (f, if lim ^ 2 < q then some q else none)

/-- PAIR_SPLIT: which of exactly two candidates fails, and the square of their separation (Table 8.4). -/
def EstSt.pairSplit (e : EstSt) (cls : RefClass) (cands : List Nat) : Option (Nat × Nat) :=
  match cands with
  | [a, b] =>
    let lim := e.medLimit cls
    let q := dist2 cls (e.ref a).zCur (e.ref b).zCur
    if lim ≠ 0 && decide (lim ^ 2 < q) then
      let sa := ((e.ref a).ds.foldl (· + ·) 0) * (e.ref b).ds.length
      let sb := ((e.ref b).ds.foldl (· + ·) 0) * (e.ref a).ds.length
      some (if sb < sa then a else b, q)
    else none
  | _ => none

/-- The verdict of the group tests on candidate `k` and its new drift filter: the reason, in the order of Table 8.4, with its
statistic.  MEDIAN and DRIFT of position and heading wait for initialisation (R240); motion and wind have MEDIAN alone (R244). -/
def EstSt.groupVerdict (e : EstSt) (cls : RefClass) (cands : List Nat) (k : Nat) : Option (Nat × Nat) × List Int :=
  let observed := decide (cls = .position) || decide (cls = .heading)
  let med := if e.initialised || !observed then e.medianFails cls cands k else none
  let dr := if e.initialised && observed then e.driftStep cls cands k else ((e.ref k).drift, none)
  let split := if observed then e.pairSplit cls cands else none
  (match med with
   | some q => some (6, isqrtBits 64 0 q)
   | none =>
     match dr.2 with
     | some q => some (5, isqrtBits 64 0 q)
     | none =>
       match split with
       | some (j, q) => if j = k then some (7, isqrtBits 64 0 q) else none
       | none => none, dr.1)

/-- The group tests of one class, then the passing verdicts (R238, Table 8.2). -/
def EstSt.groupTests (e : EstSt) (cls : RefClass) : EstSt × List Ev :=
  let cands := e.candidates cls
  (classSlots cls).foldl
    (fun (acc : EstSt × List Ev) k =>
      let x := acc.1
      let r := x.ref k
      if !(r.applied && r.passed) then acc
      else
        let v := if cands.contains k then e.groupVerdict cls cands k else (none, r.drift)
        let r1 := { r with drift := v.2 }
        match v.1 with
        | some reason =>
          let (r2, ev) := r1.fail k reason
          ({ (x.setRef k r2) with flRejected := x.flRejected || !ev.isEmpty }, acc.2 ++ ev)
        | none =>
          let (r2, ev) := r1.pass (x.entry k) k
          (x.setRef k r2, acc.2 ++ ev)) (e, [])

/-- The parameters of the observer's model: the model block and the committed words of the parameter regions (R226, R410). -/
def EstSt.params (e : EstSt) (mem : Tab Word) : List Int :=
  match e.table with
  | none => []
  | some t => t.omega0.map (fun w => (w.toNat : Int)) ++ t.zeta.map (fun w => (w.toNat : Int)) ++ t.model ++
      (mem.map (fun (p : Nat × Word) => [(p.1 : Int), (p.2.toNat : Int)])).flatten

/-- The position or the heading that a state measures: η + ξ₁ (R226), in interface units. -/
def measured (par : List Int) (cls : RefClass) (x : List Int) : List Int :=
  let c := fun (k : Nat) => Config.estShown par k (x.getD k 0)
  if cls = .heading then [c 2 + c 15] else [c 0 + c 11, c 1 + c 13]

/-- η of a state for a class, in interface units. -/
def etaOf (par : List Int) (cls : RefClass) (x : List Int) : List Int :=
  let c := fun (k : Nat) => Config.estShown par k (x.getD k 0)
  if cls = .heading then [c 2] else [c 0, c 1]

/-- The state at a sample's instant, and the state of edge n that follows from it alone: xh and x_fwd of R234 step 3. -/
def EstSt.atInstant (e : EstSt) (par : List Int) (n d : Nat) (instant : Int) : List Int × List Int :=
  if d = 0 then (e.prior, e.prior)
  else
    let xh := Config.propagate par e.xHat (instant - ((n - d : Nat) : Int) * 1000000) (e.history.getD (d - 1) e.prior)
    (xh, Config.propagate par e.xHat ((n : Int) * 1000000 - instant) xh)

/-- R234 step 3 and R229 for a sample of a position or heading slot. -/
def EstSt.innovObserved (e : EstSt) (par : List Int) (k n d : Nat) (sm : RefSample) : Innov :=
  let en := e.entry k
  let cls := refClass k
  let r := e.ref k
  let a := e.atInstant par n d sm.instant
  let rest : Int := if d = 0 then 0 else (n : Int) * 1000000 - sm.instant
  let hd := decide (cls = .heading)
  let gap := List.zipWith (fun (x y : Int) => x - y) e.prior a.2
  let back := if d = 0 then [] else Config.seenBack par e.xHat hd a.1 rest gap
  let seen := measured par cls a.1
  let pred := seen.mapIdx (fun i v => v + back.getD i 0)
  let lost := e.flags.getLsbD 7
  let ofs := if hd || (en.leverX = 0 && en.leverY = 0 && en.leverZ = 0) then (0, 0)
    else Config.leverOffset en.leverX en.leverY en.leverZ (Config.estShown par 2 (a.1.getD 2 0)) (if lost then 0 else e.roll)
      (if lost then 0 else e.pitch)
  let moved := if hd then sm.vals else [sm.vals.getD 0 0 - ofs.1, sm.vals.getD 1 0 - ofs.2]
  let own := r.state = .acquire || r.state = .stale || r.origin.isNone
  let nu :=
    if en.kind = 2 then
      if own then pred.map (fun _ => 0)
      else match r.origin with
        | some o => diffVec cls 0 [o.1 + moved.getD 0 0, o.2 + moved.getD 1 0] pred
        | none => pred.map (fun _ => 0)
    else diffVec cls 0 moved pred
  let sv := Config.predVar par e.xHat hd e.factor a.1 rest
  { moved := moved, pred := pred, nu := nu, s := nu.mapIdx (fun i _ => sv.getD i 0 + rVar cls (sigmaInUse en sm)),
    zCur := List.zipWith (fun (x y : Int) => x + y) (etaOf par cls e.prior) nu }

/-- The last voted values of a motion or wind class. -/
def EstSt.voted (e : EstSt) (cls : RefClass) : List Int :=
  if cls = .motion then [e.roll, e.pitch, e.heave, e.heaveVel] else [e.windSpeed, e.windDir]

/-- What the tests of a sample of slot `k` use (R234, R244): the observer makes no prediction of motion and wind, whose ν is the
distance from the last vote. -/
def EstSt.innovation (e : EstSt) (par : List Int) (k n d : Nat) (sm : RefSample) : Innov :=
  let cls := refClass k
  if cls = .position || cls = .heading then e.innovObserved par k n d sm
  else { moved := sm.vals, pred := sm.vals.map (fun _ => 0), nu := diffVec cls 0 sm.vals (e.voted cls), s := [], zCur := sm.vals }

/-- One sample of slot `k` in beat `n` (R229 to R237): late, superseded or applied and tested. -/
def EstSt.offer (e : EstSt) (par : List Int) (k n : Nat) (sm : RefSample) (supersededBy : Bool) : EstSt × Bool × List Ev :=
  let en := e.entry k
  let cls := refClass k
  let r := e.ref k
  if en.kind = 0 then (e, false, [])
  else
    let d := delayOf n sm.instant
    if en.maxD.toNat < d || (decide (0 < d) && decide (e.history.length < d)) then
      ({ (e.setRef k { r with late := r.late + 1 }) with lateNow := e.lateNow + 1, flLate := true }, true, [])
    else
      let x := e.innovation par k n d sm
      if supersededBy then
        let fj := freezeJump cls en r sm.vals x
        let r1 := { r.note sm.vals x with superseded := r.superseded + 1 }
        if fj.1 ≠ 0 then
          let (r2, ev) := r1.fail k fj
          ({ (e.setRef k r2) with flRejected := e.flRejected || !ev.isEmpty }, false, ev)
        else (e.setRef k r1, false, [])
      else
        let pe := if (cls = .position || cls = .heading) && e.peOn then (e.table.map (fun t => t.peThr.toNat)) else none
        let reason := singleTest cls en r sm x pe
        let org := if en.kind = 2 then some (x.pred.getD 0 0 - x.moved.getD 0 0, x.pred.getD 1 0 - x.moved.getD 1 0) else none
        let r1 := { (if r.state = .stale then { r with state := .acquire, good := 0 } else r).observe en sm d x with tryOrigin := org }
        if reason.1 ≠ 0 then
          let (r2, ev) := r1.fail k reason
          ({ (e.setRef k r2) with flRejected := e.flRejected || !ev.isEmpty }, false, ev)
        else (e.setRef k { r1 with passed := true }, false, [])

/-- A beat of references begins: nothing applied yet, and a new s_f takes effect (R234). -/
def EstSt.beginBeat (e : EstSt) : EstSt :=
  { e with refs := Tab.mapVals RefSt.zero e.refs (fun r => { r with applied := false, passed := false, stale := r.stale + 1 }),
           factor := e.nextFactor.getD e.factor, nextFactor := none, lateNow := 0, flags := e.flags &&& 0x0200 }

/-- The tests of a beat end: the rows applied with D ≥ 1 are counted (Table 8.6), and a deselection of the beat is past. -/
def EstSt.endTests (e : EstSt) : EstSt :=
  { e with delayedNow := ((List.range 24).filter (fun k =>
             let r := e.ref k
             r.applied && decide (r.state = .admitted) && decide (r.lastD ≠ 0))).length
           refs := Tab.mapVals RefSt.zero e.refs (fun r => { r with deselNow := false }) }

/-- The components of a state in interface units (Table 8.6). -/
def shownOf (par x : List Int) : List Int := x.mapIdx (fun i v => Config.estShown par i v)

/-- R240: initialisation from the position and heading references that have READMIT passing samples; of the position
references those of kind ABS_POS, where there are any. -/
def EstSt.tryInit (e : EstSt) (par : List Int) : EstSt × List Ev :=
  match e.table with
  | none => (e, [])
  | some t =>
    if e.initialised then (e, [])
    else
      let ready (cls : RefClass) := (classSlots cls).filter (fun k =>
        decide ((e.entry k).kind ≠ 0) && (decide ((e.ref k).state = .admitted) || decide ((e.ref k).state = .acquire) ||
          decide ((e.ref k).state = .rejected)) && decide ((e.entry k).readmit.toNat ≤ (e.ref k).good))
      let all := ready .position
      let abs := all.filter (fun k => decide ((e.entry k).kind = 1))
      let ps := if abs.isEmpty then all else abs
      let hs := ready .heading
      if ps.isEmpty || hs.isEmpty then (e, [])
      else
        let pv := ps.map (fun k => (e.ref k).zCur)
        let hv := hs.map (fun k => (e.ref k).zCur)
        let eta := [medianComp .position 0 pv, medianComp .position 1 pv, medianComp .heading 0 hv]
        let x := t.initState.mapIdx (fun i v =>
          if i < 3 then Config.estRaw par i (eta.getD i 0) else if i < 6 then Config.estRaw par i 0 else v)
        ({ e with initialised := true, initLeft := t.initBeats.toNat + 1, initFlag := true, xHat := x, shown := shownOf par x, prior := x,
                  history := [], factor := t.initSigma, nextFactor := none, jAcc := [] },
         [(0x0709, [BitVec.ofNat 32 ps.length, BitVec.ofNat 32 hs.length])])

/-- R241: a REL_POS reference that went from ACQUIRE to ADMITTED sets its origin. -/
def EstSt.setOrigins (e : EstSt) (was : EstSt) : EstSt × List Ev :=
  (List.range 16).foldl
    (fun (acc : EstSt × List Ev) k =>
      let x := acc.1
      let r := x.ref k
      let before := (was.ref k).state
      if (x.entry k).kind = 2 && decide (r.state = .admitted) && (decide (before = .acquire) || decide (before = .stale)) then
        match r.tryOrigin with
        | some o => (x.setRef k { r with origin := some o }, acc.2 ++ [(0x0708, [BitVec.ofNat 32 k, satWord o.1, satWord o.2])])
        | none => acc
      else acc) (e, [])

/-- R242, R243: the votes of motion and wind and the wind force. -/
def EstSt.vote (e : EstSt) : EstSt :=
  let adm (cls : RefClass) := (classSlots cls).filterMap (fun k =>
    let r := e.ref k
    if r.state = .admitted && !r.zCur.isEmpty then some r else none)
  let ms := adm .motion
  let wsd := adm .wind
  let e1 := if ms.isEmpty then { e with flags := e.flags ||| 0x0080 }
    else { e with roll := weightedMean .motion 0 ms, pitch := weightedMean .motion 1 ms,
                  heave := weightedMean .motion 2 ms, heaveVel := weightedMean .motion 3 ms }
  let e2 := if wsd.isEmpty then e1
    else { e1 with windSpeed := weightedMean .wind 0 wsd, windDir := weightedMean .wind 1 wsd }
  match e.table with
  | none => { e2 with tauWind := [0, 0, 0], flags := e2.flags ||| 0x0040 }
  | some t =>
    if wsd.isEmpty || t.windOfs = 0 then { e2 with tauWind := [0, 0, 0], flags := e2.flags ||| 0x0040 }
    else { e2 with tauWind := Config.windForce t.wind e2.windSpeed e2.windDir }

/-- Does the update of the beat act on the state: after the beat in which the estimator was initialised (R240)? -/
def EstSt.updates (e : EstSt) : Bool :=
  e.initialised && (match e.table with | none => false | some t => decide (e.initLeft ≤ t.initBeats.toNat))

/-- The published flags of a result (R246). -/
def updateFlags (f : ProbFlags) : Nat :=
  let lost := f.dlLoad || f.dlFactor
  (if lost then 0x0001 else 0) ||| (if f.sat then 0x0002 else 0) ||| (if f.notConv then 0x0004 else 0) |||
    (if f.pivotReg then 0x0008 else 0) ||| (if lost || f.dlIter then 0x0010 else 0) ||| (if f.cold || f.mapped then 0x0020 else 0)

/-- Step 6 of R234 with the solver flags of R246: the posterior of beat n. -/
def EstSt.update (e : EstSt) (par : List Int) (f : ProbFlags) (w : List Int) : EstSt × List Ev :=
  let lost := f.dlLoad || f.dlFactor
  let on := e.updates && !lost
  let x := if on then Config.estCombine par e.prior e.factor w else e.prior
  let ws := (List.range 24).map (fun k => if (e.ref k).state = .admitted && (e.ref k).applied then ((e.ref k).sigma : Int) else 0)
  ({ e with xHat := x, shown := shownOf par x, history := (x :: e.history).take 8, flags := e.flags ||| BitVec.ofNat 16 (updateFlags f),
            jAcc := if on then Config.estInform par e.jAcc e.factor ws else e.jAcc,
            flNoUpdate := e.flNoUpdate || lost, flSat := e.flSat || f.sat },
   if lost then [(0x0707, [0, BitVec.ofNat 32 f.code])] else [])

/-- Step 7 of R234: the covariance result, in effect from the next beat, or its loss to a deadline (R246). -/
def EstSt.covariance (e : EstSt) (par : List Int) (f : ProbFlags) (res : List Int) : EstSt × List Ev :=
  if f.dlLoad || f.dlFactor || f.dlIter then
    ({ e with covLost := e.covLost + 1 }, [(0x0707, [1, BitVec.ofNat 32 f.code])])
  else ({ e with nextFactor := some (Config.covStep par e.factor e.jAcc res), jAcc := [] }, [])

/-- Count the admitted references of a class. -/
def EstSt.admittedCount (e : EstSt) (cls : RefClass) : Nat :=
  ((classSlots cls).filter (fun k => decide ((e.ref k).state = .admitted))).length

/-- R245: the health of the beat, with dead reckoning's count and its events. -/
def EstSt.healthStep (e : EstSt) (watch : Bool) : EstSt × List Ev :=
  match e.table with
  | none => (e, [])
  | some t =>
    let nPos := e.admittedCount .position
    let nHdg := e.admittedCount .heading
    let got := (classSlots .position).any (fun k => decide ((e.ref k).state = .admitted) && (e.ref k).applied)
    let dr := if got then 0 else min 0xFFFF (e.drBeats + 1)
    let lim := if watch then t.drLimitWatch.toNat else t.drLimit.toNat
    let above := decide (lim ≠ 0) && decide (lim < dr)
    let invalid := !e.initialised || e.initFlag || decide (nHdg = 0) || above
    let cause := if !e.initialised || e.initFlag then 3 else if nHdg = 0 then 1 else 2
    let isDr := decide (nPos = 0)
    let h : BitVec 2 := if invalid then 0 else if isDr then 1 else if (e.flags &&& 0x003F) ≠ 0 then 2 else 3
    let ev1 : List Ev := if e.initialised && isDr && !e.wasDr then [(0x0703, [BitVec.ofNat 32 e.lastPos])] else []
    let ev2 : List Ev := if e.wasDr && !isDr then [(0x0704, [BitVec.ofNat 32 e.drBeats])] else []
    let ev3 : List Ev := if invalid && decide (e.health ≠ 0) then [(0x0705, [BitVec.ofNat 32 cause])] else []
    let lastPos := ((classSlots .position).filter (fun k => decide ((e.ref k).state = .admitted))).getLastD e.lastPos
    ({ e with health := h, drBeats := dr, wasDr := e.initialised && isDr, lastPos := lastPos,
              flDr := e.flDr || !ev1.isEmpty, flInvalid := e.flInvalid || (invalid && e.initialised && !e.initFlag),
              initLeft := e.initLeft - 1 },
     ev1 ++ ev2 ++ ev3)

/-- The admitted and the rejected masks of the published section (Table 8.6). -/
def EstSt.mask (e : EstSt) (p : RefState → Bool) : Nat :=
  (List.range 40).foldl (fun a k => if p (e.ref k).state then a + 2 ^ k else a) 0

/-- The components shown with the parameters of the image alone. -/
def EstSt.showAll (e : EstSt) : EstSt := { e with shown := shownOf (e.params []) e.xHat }

/-- Load the estimator from its table: uninitialised, every used slot in ACQUIRE with no origin (R249). -/
def EstSt.fromTable (old : EstSt) (t : EstTable) (keepCounts : Bool) : EstSt :=
  let base : EstSt := { EstSt.reset with table := some t, xHat := t.initState, prior := t.initState, factor := t.initSigma }.showAll
  let e0 := if keepCounts then
      { base with covLost := old.covLost, flRejected := old.flRejected, flDr := old.flDr, flInvalid := old.flInvalid,
                  flNoUpdate := old.flNoUpdate, flSat := old.flSat, flLate := old.flLate }
    else base
  (List.range 40).foldl (fun (x : EstSt) k =>
    if (x.entry k).kind = 0 then x
    else
      let o := old.ref k
      x.setRef k (if keepCounts then
        { RefSt.zero with state := .acquire, samples := o.samples, rejects := o.rejects, delayed := o.delayed, late := o.late,
                          superseded := o.superseded } else { RefSt.zero with state := .acquire })) e0

end Sys2Proof.Machine
end

