-- ==== Sys2Proof/Machine/StGns.lean ====
section
/-! DEFINITION. State of the GNS block: streams, channels, acquisition, orbit data, solutions (06_gnss_baseband.md). -/

namespace Sys2Proof.Machine

/-- GNS_C_STATE (Table 6.4). -/
inductive GnsChState where
  | idle | search | pullIn | track | hold
deriving DecidableEq, Repr

/-- The code of GNS_C_STATE. -/
def GnsChState.code : GnsChState → Word
  | .idle => 0 | .search => 1 | .pullIn => 2 | .track => 3 | .hold => 4

/-- One front-end stream (R168 to R171). -/
structure GnsStream where
  clocks    : Nat
  index     : Nat
  fraction  : Nat
  fill      : Half
  clip      : Byte
  /-- The two notches: frequency in kHz and beats below the threshold. -/
  notches   : List (Int × Nat)
  agcBad    : Nat
  rateFault : Bool
  feCfg     : Bool
  flNotch   : Bool
  disabled  : Bool
deriving DecidableEq, Repr

/-- A stream after reset. -/
def GnsStream.zero : GnsStream :=
  { clocks := 0, index := 0, fraction := 0, fill := 0, clip := 0, notches := [], agcBad := 0, rateFault := false,
    feCfg := false, flNotch := false, disabled := false }

/-- One tracking channel (R173 to R178, R188). -/
structure GnsCh where
  state     : GnsChState
  signal    : Byte
  sv        : BitVec 12
  stream    : BitVec 4
  cn0       : Half
  /-- Phase lock indicator, Q1.31. -/
  lockInd   : Int
  /-- The last 100 prompt dumps, newest first. -/
  dumps     : List (Int × Int)
  /-- Oscillator phases in 2⁻⁴⁸ chip and cycle, and increments per sample. -/
  codePhase : Int
  carrPhase : Int
  codeRate  : Int
  carrRate  : Int
  codeOffset : Int
  carrOffset : Int
  doppler   : Int
  txBase    : Int
  txAmbig   : Bool
  latchTx   : Long
  latchCarr : Long
  lockBeats : Nat
  slip      : Bool
  loopSat   : Bool
  satLatches : Nat
  beats     : Nat
  lowBeats  : Nat
  symbols   : List Bool
  /-- Discriminators since the last run of each loop's slot: sums and numbers of dumps. -/
  discDelay : Int
  discCarr  : Int
  discND    : Nat
  discNC    : Nat
  prevPrompt : Int × Int
  /-- Acquisition window and failures of aided searches. -/
  codeBins  : Nat
  doppBins  : Nat
  aided     : Bool
  failures  : Nat
  /-- A detected peak, as code phase and Doppler in 2⁻¹⁰ Hz at the edge of its hand-off (R180). -/
  handoff   : Option (Int × Int)
  excluded  : Bool
  exclReason : BitVec 4
  flSlip    : Bool
  flLoopSat : Bool
  flLost    : Bool
  acqs      : Word
  slips     : Word
  excls     : Word
  /-- In TRACK at the end of the last Watch burst (R192). -/
  wasTrack  : Bool
deriving DecidableEq, Repr

/-- An idle, unassigned channel (R196). -/
def GnsCh.zero : GnsCh :=
  { state := .idle, signal := 0, sv := 0, stream := 0, cn0 := 0, lockInd := 0, dumps := [], codePhase := 0,
    carrPhase := 0, codeRate := 0, carrRate := 0, codeOffset := 0, carrOffset := 0, doppler := 0, txBase := 0,
    txAmbig := true, latchTx := 0, latchCarr := 0, lockBeats := 0, slip := false, loopSat := false, satLatches := 0,
    beats := 0, lowBeats := 0, symbols := [], discDelay := 0, discCarr := 0, discND := 0, discNC := 0, prevPrompt := (0, 0),
    codeBins := 0, doppBins := 0, aided := false, failures := 0, handoff := none, excluded := false, exclReason := 0,
    flSlip := false, flLoopSat := false, flLost := false, acqs := 0, slips := 0,
    excls := 0, wasTrack := false }

/-- A queued acquisition (R180): the channel, the beat in which it was queued, the record's length, the search's, and the
beat at whose edge its record started. -/
structure AcqReq where
  channel : Nat
  beat    : Nat
  recMs   : Nat
  beats   : Nat
  start   : Nat
deriving DecidableEq, Repr

/-- A navigation solution of one side and antenna (R185 to R187). -/
structure NavSol where
  valid    : Bool
  posN     : Int
  posE     : Int
  posD     : Int
  velN     : Int
  velE     : Int
  velD     : Int
  clkBias  : Int
  clkRate  : Int
  isbGal   : Int
  isbBds   : Int
  isbGlo   : Int
  used     : Nat
  systems  : BitVec 6
  excluded : Nat
  /-- The beat whose problem gave it. -/
  beat     : Nat
deriving DecidableEq, Repr

/-- No solution yet. -/
def NavSol.zero : NavSol :=
  { valid := false, posN := 0, posE := 0, posD := 0, velN := 0, velE := 0, velD := 0, clkBias := 0, clkRate := 0,
    isbGal := 0, isbBds := 0, isbGlo := 0, used := 0, systems := 0, excluded := 0, beat := 0 }

/-- Spoofing suspicion of one side (R189). -/
structure SpoofSt where
  suspected : Bool
  clean     : Nat
  rounds    : Nat
  /-- A condition was present in the round in progress. -/
  present   : Bool
deriving DecidableEq, Repr

/-- No suspicion. -/
def SpoofSt.zero : SpoofSt := { suspected := false, clean := 0, rounds := 0, present := false }

/-- The float and fixed attitude (R190, R191). -/
structure AttSt where
  fixed      : Bool
  /-- The satellites of the fix and their integer ambiguities. -/
  fixedSats  : List Nat
  fixedInts  : List Int
  latchBeat  : Long
  floats     : List Int
  cov        : List Int
  /-- The last latch beat at which each satellite showed SLIP. -/
  slips      : Tab Nat
deriving DecidableEq, Repr

/-- Exclusion of one signal (R188), as both twins hold it. -/
structure ExclSt where
  on      : Bool
  passed  : Nat
  latches : Nat
deriving DecidableEq, Repr

/-- A signal that takes part. -/
def ExclSt.zero : ExclSt := { on := false, passed := 0, latches := 0 }

/-- The tracked signals' C/N0 at one latch, with the device's own AGC fill when the side is its own (R189). -/
structure PowerLog where
  sideB : Bool
  cn0   : List (Nat × Nat)
  fill  : Option Nat
deriving DecidableEq, Repr

/-- The GNS block. -/
structure GnsSt where
  table     : Option GnsTable
  powered   : Bool
  streams   : Tab GnsStream
  channels  : Tab GnsCh
  queue     : List AcqReq
  /-- Record in progress and the ms left of it. -/
  recording : Option (AcqReq × Nat)
  recorded  : List AcqReq
  /-- Search in progress and the beats left of it. -/
  searching : Option (AcqReq × Nat)
  burst     : Bool
  orbits    : Tab (List Word)
  aid       : Option (Int × Int × Word)
  /-- Solutions by side × 4 + antenna. -/
  solutions : Tab NavSol
  /-- Excluded signals by side × 384 + channel, and the C/N0 of the last ten latches of each side, newest first. -/
  excl      : Tab ExclSt
  powerLog  : List PowerLog
  /-- Sides whose latches show a notch (bit 0 A, bit 1 B). -/
  notched   : BitVec 2
  spoofA    : SpoofSt
  spoofB    : SpoofSt
  att       : AttSt
  /-- The front-end writes of R170 sent and waiting for their readback. -/
  spiPending : List SpiWrite
deriving DecidableEq, Repr

/-- The GNS block after reset. -/
def GnsSt.reset : GnsSt :=
  { table := none, powered := true, streams := [], channels := [], queue := [], recording := none, recorded := [],
    searching := none, burst := false, orbits := [], aid := none, solutions := [], excl := [], powerLog := [], notched := 0, spoofA := SpoofSt.zero,
    spoofB := SpoofSt.zero,
    att := { fixed := false, fixedSats := [], fixedInts := [], latchBeat := 0, floats := [], cov := [], slips := [] },
    spiPending := [] }

end Sys2Proof.Machine
end

