-- ==== Sys2Proof/Machine/Gnss.lean ====
section
/-! DEFINITION. The GNSS baseband: streams, channel states, aided acquisition, dumps and latches (06_gnss_baseband.md). -/

namespace Sys2Proof.Machine

/-- Channel `c`. -/
def GnsSt.ch (g : GnsSt) (c : Nat) : GnsCh := Tab.get GnsCh.zero g.channels c
/-- Write channel `c`. -/
def GnsSt.setCh (g : GnsSt) (c : Nat) (v : GnsCh) : GnsSt := { g with channels := Tab.set GnsCh.zero g.channels c v }
/-- Stream `k`. -/
def GnsSt.strm (g : GnsSt) (k : Nat) : GnsStream := Tab.get GnsStream.zero g.streams k
/-- Write stream `k`. -/
def GnsSt.setStrm (g : GnsSt) (k : Nat) (v : GnsStream) : GnsSt := { g with streams := Tab.set GnsStream.zero g.streams k v }

/-- Table 6.2: chip rate in kchip/s, code period in chips and carrier in units of 500 Hz of a signal. -/
structure SignalDef where
  kchips  : Nat
  period  : Nat
  carrier : Nat
deriving DecidableEq, Repr

/-- Table 6.2; `k` is the GLONASS frequency number + 8 of the SV field.  PRESUMED (log 22): the code periods are those of the signals'
own interface documents. -/
def signalDef (code : Byte) (k : Nat) : Option SignalDef :=
  match code.toNat with
  | 0x01 => some { kchips := 1023, period := 1023, carrier := 3150840 }
  | 0x02 => some { kchips := 1023, period := 10230, carrier := 3150840 }
  | 0x03 => some { kchips := 1023, period := 10230, carrier := 2455200 }
  | 0x04 => some { kchips := 10230, period := 10230, carrier := 2352900 }
  | 0x05 => some { kchips := 1023, period := 1023, carrier := 3150840 }
  | 0x06 => some { kchips := 10230, period := 10230, carrier := 2352900 }
  | 0x11 => some { kchips := 1023, period := 4092, carrier := 3150840 }
  | 0x12 => some { kchips := 10230, period := 10230, carrier := 2352900 }
  | 0x13 => some { kchips := 10230, period := 10230, carrier := 2414280 }
  | 0x14 => some { kchips := 5115, period := 5115, carrier := 2557500 }
  | 0x21 => some { kchips := 2046, period := 2046, carrier := 3122196 }
  | 0x22 => some { kchips := 1023, period := 10230, carrier := 3150840 }
  | 0x23 => some { kchips := 10230, period := 10230, carrier := 2352900 }
  | 0x24 => some { kchips := 10230, period := 10230, carrier := 2414280 }
  | 0x31 => some { kchips := 511, period := 511, carrier := 3204000 + k * 1125 - 9000 }
  | 0x32 => some { kchips := 511, period := 511, carrier := 2492000 + k * 875 - 7000 }
  | _ => none

/-- The bit of SIGNALS that enables a signal code (Table 6.10). -/
def signalBit (code : Byte) : Nat := 8 * (code.toNat / 16) + code.toNat % 16 - 1

/-- Is the signal enabled by the GNSS table? -/
def gnsSignalOn (t : GnsTable) (code : Byte) : Bool := t.signals.getLsbD (signalBit code)

/-- Ceiling division. -/
def ceilDiv (a b : Nat) : Nat := if b = 0 then 0 else (a + b - 1) / b

/-- The carrier of a signal among the carriers of Table 6.2 in code order: a stream's BAND.  DEDUCED (log 22): numbered from 0. -/
def signalBand (code : Byte) : Nat :=
  match code.toNat with
  | 0x01 | 0x02 | 0x05 | 0x11 | 0x22 => 0
  | 0x03 => 1
  | 0x04 | 0x06 | 0x12 | 0x23 => 2
  | 0x13 | 0x24 => 3
  | 0x14 => 4
  | 0x21 => 5
  | 0x31 => 6
  | 0x32 => 7
  | _ => 255

/-- Has the signal a pilot path (Table 6.2)? -/
def signalPilot (code : Byte) : Bool := !([0x01, 0x05, 0x21, 0x24, 0x31, 0x32].contains code.toNat)

/-- The entry of stream `k`. -/
def gnsStream (t : GnsTable) (k : Nat) : GnsStreamCfg := t.streams.getD k { rate := 0, bits := 0, band := 0, ifHz := 0 }

/-- The aiding inputs of Table 6.5 at the instant of a request: σ position in mm, σ velocity in 0.1 mm/s, σ time in
ns. -/
structure Aiding where
  sigmaPos : Nat
  sigmaVel : Nat
  sigmaT   : Nat
  timeSet  : Bool
deriving DecidableEq, Repr

/-- R179: code and Doppler bins of a search; `aided` says whether the window is aided. -/
def acqWindow (t : GnsTable) (sd : SignalDef) (a : Aiding) (aided : Bool) (widen : Nat) : Nat × Nat :=
  let w := 4 ^ widen
  let k := t.kSigma.toNat
  -- range_sig in 1e-6 mm: 299.792458 mm per ns
  let range := a.sigmaPos * 1000000 + 299792458 * a.sigmaT
  -- chip length in mm is 299792458 / kchips
  let halfCode := if aided then ceilDiv (k * range * sd.kchips) (299792458 * 1000000) * w else (sd.period + 1) / 2
  -- sigma_v / lambda in Hz is (0.1 mm/s) · f / c; rate_sig · f in Hz; both over c · 10^13
  let num := a.sigmaVel * sd.carrier * 500 * 1000000000 + t.rateSigma.toNat * sd.carrier * 500 * 299792458 * 10000
  let halfDopp := if aided then ceilDiv (k * num) (299792458 * 10000 * 1000000000) * w else t.doppMax.toNat
  let bin := 500
  let nb := ceilDiv (halfDopp * t.cohMs.toNat) bin
  (min (4 * halfCode + 1) (2 * sd.period), 2 * nb + 1)

/-- R180: the beats a search takes. -/
def searchBeats (t : GnsTable) (codeBins doppBins : Nat) : Nat :=
  ceilDiv (codeBins * doppBins * t.cohMs.toNat * t.nonCoh.toNat) 1048576

/-- Queue an acquisition for a channel, in the order of requests, equal requests in channel order (R180). -/
def GnsSt.queueAcq (g : GnsSt) (c beat : Nat) (a : Aiding) (aided : Bool) (widen : Nat) : GnsSt :=
  match g.table with
  | none => g
  | some t =>
    let ch := g.ch c
    match signalDef ch.signal (ch.sv.toNat / 256) with
    | none => g
    | some sd =>
      let (cb, db) := acqWindow t sd a aided widen
      let r : AcqReq := { channel := c, beat := beat, recMs := t.cohMs.toNat * t.nonCoh.toNat, beats := searchBeats t cb db, start := 0 }
      let g1 := g.setCh c { ch with state := .search, codeBins := cb, doppBins := db, aided := aided, beats := 0 }
      { g1 with queue := insertBy (fun (q : AcqReq) => q.beat * 1024 + q.channel) r g1.queue }

/-- May this channel's windows be aided (R179)? -/
def GnsSt.canAid (g : GnsSt) (c : Nat) (a : Aiding) (now : Nat) : Bool :=
  a.timeSet && Config.orbitValid (Tab.get [] g.orbits (g.ch c).sv.toNat) now

/-- Signal and SV as one event parameter. -/
def GnsCh.sigSv (ch : GnsCh) : Word := BitVec.ofNat 32 (ch.signal.toNat * 65536 + ch.sv.toNat)

/-- Release a channel to IDLE (Table 6.4); its counts and sticky flags stay. -/
def GnsCh.release (ch : GnsCh) : GnsCh :=
  { GnsCh.zero with flSlip := ch.flSlip, flLoopSat := ch.flLoopSat, flLost := ch.flLost, acqs := ch.acqs,
                    slips := ch.slips, excls := ch.excls, exclReason := ch.exclReason }

/-- One correlator dump (R173, R174, R178). -/
def GnsCh.dump (ch : GnsCh) (d : Dump) : GnsCh :=
  let hist := ((d.promptI, d.promptQ) :: ch.dumps).take 100
  let ind (p : Int × Int) : Int :=
    Config.quot 178 ((p.1 * p.1 - p.2 * p.2) * 2147483647) (p.1 * p.1 + p.2 * p.2).toNat
  let lock := Config.quot 178 ((hist.map ind).foldl (· + ·) 0) hist.length
  let e2 := d.earlyI * d.earlyI + d.earlyQ * d.earlyQ
  let l2 := d.lateI * d.lateI + d.lateQ * d.lateQ
  let dd := satS 32 (Config.quot 174 ((e2 - l2) * 2147483648) (e2 + l2).toNat)
  let cross := d.promptI * ch.prevPrompt.2 - d.promptQ * ch.prevPrompt.1
  let dotp := d.promptI * ch.prevPrompt.1 + d.promptQ * ch.prevPrompt.2
  let dc := if ch.state ≠ .track then Config.phaseOf (-cross) dotp
            else if d.pilot then Config.phaseOf d.promptQ d.promptI
            else satS 32 (2 * Config.phaseOf (if d.promptI < 0 then -d.promptQ else d.promptQ) d.promptI.natAbs)
  let sampleSlip := decide (ch.state = .track) && d.pilot && decide (d.promptI < 0)
  let slip := sampleSlip || (decide (lock < 1073741824) && decide (ch.state = .track))
  { ch with dumps := hist, cn0 := Config.cn0Of hist, lockInd := lock, discDelay := ch.discDelay + dd,
            discCarr := ch.discCarr + dc, discND := ch.discND + 1, discNC := ch.discNC + 1, prevPrompt := (d.promptI, d.promptQ),
            slip := ch.slip || slip, flSlip := ch.flSlip || slip,
            slips := if slip && !ch.slip then ch.slips + 1 else ch.slips,
            lockBeats := if slip then 0 else ch.lockBeats,
            symbols := match d.symbol with | none => ch.symbols | some b => (ch.symbols ++ [b]).take 128,
            txBase := match d.txTime with | none => ch.txBase | some x => x.toNat,
            txAmbig := ch.txAmbig && d.txTime.isNone }

/-- A compensator slot reads the discriminator averaged over the dumps since its last run; 0 when none completed
(R174). -/
def GnsCh.takeDisc (ch : GnsCh) (carrier : Bool) : Int × GnsCh :=
  if carrier then
    if ch.discNC = 0 then (0, ch) else (Config.quot 174 ch.discCarr ch.discNC, { ch with discCarr := 0, discNC := 0 })
  else if ch.discND = 0 then (0, ch) else (Config.quot 174 ch.discDelay ch.discND, { ch with discDelay := 0, discND := 0 })

/-- A loop slot's output sets its oscillator's rate offset (R174, Table 6.3): Q1.31 of ±2⁻⁸ of the chip rate, or of ±1,024 Hz,
as 2⁻⁴⁸ chip or cycle per sample of a stream of `khz`.  A clamp is LOOP_SAT of the next latch (R175). -/
def GnsCh.setLoop (ch : GnsCh) (sd : SignalDef) (khz : Nat) (carrier : Bool) (out : Int) (clamped : Bool) : GnsCh :=
  let c := if carrier then { ch with carrOffset := Config.quot 174 (out * 134217728) (khz * 1000) }
    else { ch with codeOffset := Config.quot 174 (out * 512 * sd.kchips) khz }
  { c with loopSat := c.loopSat || clamped }

/-- Sample rate of a stream code in kHz (R168). -/
def streamKhz (rate : Byte) : Nat :=
  match rate.toNat with
  | 1 => 20480 | 2 => 40960 | 3 => 61440 | 4 => 81920 | _ => 0

/-- R168: the stream's clocks over one round of `beats` beats (R129) against the configured rate corrected by the applied rate (ppt).
Answers the error in ppb when it exceeds 2 ppm. -/
def rateError (t : GnsTable) (k clocks beats : Nat) (applied : Int) : Option Int :=
  match t.streams[k]? with
  | none => none
  | some sc =>
    let khz := streamKhz sc.rate
    if khz = 0 then none
    else
      -- expected clocks in a round, scaled by 1e12
      let want : Int := (khz * beats : Nat) * (1000000000000 - applied)
      let got : Int := (clocks : Int) * 1000000000000
      let ppb := Config.quot 168 ((got - want) * 1000000000) want.toNat
      if 2000 < ppb.natAbs then some ppb else none

/-- Stop every channel on a stream (R168). -/
def GnsSt.stopStream (g : GnsSt) (k : Nat) : GnsSt :=
  { g with channels := Tab.mapVals GnsCh.zero g.channels (fun c => if c.stream.toNat = k then c.release else c) }

/-- One stream's beat: AGC, clips, sample index, notch (R169, R171). -/
def GnsSt.streamEdge (g : GnsSt) (i : StreamIn) : GnsSt × List Ev :=
  match g.table with
  | none => (g, [])
  | some t =>
    let k := i.stream.toNat
    let st := g.strm k
    let bad := decide (i.fill < t.agcLo) || decide (t.agcHi < i.fill)
    let st1 := { st with clocks := st.clocks + i.clocks, index := i.index, fraction := i.fraction, fill := i.fill,
                         clip := BitVec.ofNat 8 (min 255 i.clips), agcBad := if bad then st.agcBad + 1 else 0 }
    let engaged := match i.line with
      | none => (st1.notches.map (fun (n : Int × Nat) => (n.1, n.2 + 1)), [])
      | some (f, db) =>
        if t.notchDb ≠ 0 && decide (t.notchDb.toNat < db) then
          if st1.notches.any (fun (n : Int × Nat) => decide (n.1 = f)) then
            (st1.notches.map (fun (n : Int × Nat) => if n.1 = f then (f, 0) else (n.1, n.2 + 1)), [])
          else if st1.notches.length < 2 then
            (st1.notches.map (fun (n : Int × Nat) => (n.1, n.2 + 1)) ++ [(f, 0)],
             [((0x050B : Half), [BitVec.ofNat 32 k, (1 : Word), BitVec.ofInt 32 (f * 1000)])])
          else (st1.notches.map (fun (n : Int × Nat) => (n.1, n.2 + 1)), [])
        else (st1.notches.map (fun (n : Int × Nat) => (n.1, n.2 + 1)), [])
    let agcEv : List Ev := if st1.agcBad = 10 then [(0x050B, [BitVec.ofNat 32 k, 2, 0])] else []
    (g.setStrm k { st1 with notches := engaged.1, flNotch := st1.flNotch || !engaged.2.isEmpty }, engaged.2 ++ agcEv)

/-- Advance one channel's oscillators over the samples of a beat (R173); the carrier's rate offset also aids the code
oscillator (R174). -/
def GnsCh.advance (ch : GnsCh) (samples : Nat) : GnsCh :=
  if ch.state = .idle || ch.state = .search then ch
  else
    let aid := match signalDef ch.signal (ch.sv.toNat / 256) with
      | some sd => Config.quot 174 (ch.carrOffset * sd.kchips * 2) sd.carrier
      | none => 0
    { ch with codePhase := ch.codePhase + (ch.codeRate + ch.codeOffset + aid) * samples,
              carrPhase := ch.carrPhase + (ch.carrRate + ch.carrOffset) * samples,
              lockBeats := ch.lockBeats + 1, beats := ch.beats + 1 }

/-- Per-edge bookkeeping of one channel (R176): low C/N0 runs, and HOLD that resumes. -/
def GnsCh.edge (ch : GnsCh) (t : GnsTable) : GnsCh :=
  match ch.state with
  | .track => { ch with lowBeats := if ch.cn0.toNat + 300 < t.cn0Min.toNat then ch.lowBeats + 1 else 0 }
  | .hold =>
    if t.cn0Min ≤ ch.cn0 && decide (ch.beats ≤ t.coastBeats.toNat) then
      { ch with state := .pullIn, beats := 0, slip := true, flSlip := true, slips := ch.slips + 1, lockBeats := 0 }
    else ch
  | _ => ch

/-- The 13 words of a latch item (Table 6.8). -/
def GnsSt.latchWords (g : GnsSt) (c : Nat) : List Word :=
  let ch := g.ch c
  let nsym := ch.symbols.length
  let symWord (k : Nat) : Word :=
    BitVec.ofNat 32 (((ch.symbols.drop (32 * k)).take 32).reverse.foldl (fun a b => 2 * a + (if b then 1 else 0)) 0)
  let st := g.strm ch.stream.toNat
  let fl := (if ch.state = .track then 1 else 0) + (if ch.lockInd ≥ 1717986918 then 2 else 0) + (if ch.slip then 8 else 0) +
    (if signalPilot ch.signal then 128 else if ch.txAmbig then 0 else 4) + (if ch.txAmbig then 16 else 0) + (if ch.loopSat then 32 else 0) + (if st.notches.isEmpty then 0 else 64) +
    (if ch.state = .hold then 256 else 0)
  [BitVec.ofNat 32 (c + 65536 * (ch.stream.toNat / 4 + 4 * (ch.stream.toNat % 4)) + 16777216 * ch.signal.toNat),
   BitVec.ofNat 32 (ch.sv.toNat + 65536 * ch.cn0.toNat), lowOf ch.latchTx, highOf ch.latchTx, lowOf ch.latchCarr,
   highOf ch.latchCarr, satWord ch.doppler,
   BitVec.ofNat 32 (min 0xFFFF (ch.lockBeats / 10) + 65536 * fl), BitVec.ofNat 32 nsym, symWord 0, symWord 1, symWord 2,
   symWord 3]

/-- Latch one channel at an edge (R182, R175): phases are taken, the LOOP_SAT run is counted, SLIP and the symbols
are handed over, the Doppler from the carrier oscillator's rate less the stream's IF. -/
def GnsCh.latch (ch : GnsCh) (sd : SignalDef) (khz : Nat) (ifHz : Int) : GnsCh :=
  let tx := ch.txBase + Config.quot 183 (ch.codePhase * 4294967296) (281474976710656 * sd.kchips)
  let n := if ch.loopSat then ch.satLatches + 1 else 0
  { ch with doppler := Config.quot 183 ((ch.carrRate + ch.carrOffset) * (khz * 1000 * 1024 : Nat)) 281474976710656 - ifHz * 1024,
            latchTx := BitVec.ofInt 64 tx, latchCarr := BitVec.ofInt 64 (ch.carrPhase / 65536), satLatches := n,
            flLoopSat := ch.flLoopSat || ch.loopSat }

/-- What a latched channel drops once its item is made. -/
def GnsCh.latched (ch : GnsCh) : GnsCh := { ch with slip := false, loopSat := false, symbols := [] }

/-- The channel manager of beat 0 (R177): release what fell below the mask, assign free channels in order of signal
priority, then of elevation.  DEDUCED (log 22): a signal is tracked on every enabled stream of its band, in stream order. -/
def GnsSt.manage (g : GnsSt) (north east : Int) (now beat : Nat) (a : Aiding) : GnsSt :=
  match g.table with
  | none => g
  | some t =>
    let vis := (Config.visible g.orbits north east now).filter (fun (v : Nat × Int) => decide ((t.elevMask.toNat : Int) * 100 ≤ v.2))
    let pinned (c : Nat) : Bool := decide ((t.chans.getD c { delaySlot := 0, carrierSlot := 0, pinSignal := 0, pinSv := 0, spacing := 0 }).pinSignal ≠ 0)
    let g1 := (List.range 384).foldl (fun (x : GnsSt) c =>
      let ch := x.ch c
      if decide (ch.state ≠ .idle) && !pinned c && !(vis.any (fun (v : Nat × Int) => decide (v.1 = ch.sv.toNat)))
      then x.setCh c ch.release else x) g
    let streams (sig : Byte) : List Nat := (List.range 12).filter (fun k =>
      decide ((gnsStream t k).rate ≠ 0) && decide ((gnsStream t k).band.toNat = signalBand sig) && !(g.strm k).disabled)
    let held (x : GnsSt) (sig : Byte) (sv k : Nat) : Bool := (List.range 384).any (fun c =>
      decide ((x.ch c).state ≠ .idle) && decide ((x.ch c).signal = sig) && decide ((x.ch c).sv.toNat = sv) && decide ((x.ch c).stream.toNat = k))
    let start (x : GnsSt) (c : Nat) (sig : Byte) (sv : Nat) (k : Nat) : GnsSt :=
      let y := x.setCh c { (x.ch c).release with signal := sig, sv := BitVec.ofNat 12 sv, stream := BitVec.ofNat 4 k }
      y.queueAcq c beat a (y.canAid c a now) 0
    let g2 := (List.range 384).foldl (fun (x : GnsSt) c =>
      let cc := t.chans.getD c { delaySlot := 0, carrierSlot := 0, pinSignal := 0, pinSv := 0, spacing := 0 }
      if decide (cc.pinSignal ≠ 0) && decide ((x.ch c).state = .idle) then
        match (streams cc.pinSignal).find? (fun k => !(held x cc.pinSignal cc.pinSv.toNat k)) with
        | some k => start x c cc.pinSignal cc.pinSv.toNat k
        | none => x
      else x) g1
    let want : List (Byte × Nat × Nat) := (t.priority.filter (fun s => gnsSignalOn t s)).flatMap (fun s =>
      vis.flatMap (fun (v : Nat × Int) => (streams s).map (fun k => (s, v.1, k))))
    want.foldl (fun (x : GnsSt) (w : Byte × Nat × Nat) =>
      if held x w.1 w.2.1 w.2.2 then x
      else match (List.range 384).find? (fun c => decide ((x.ch c).state = .idle) && !pinned c) with
        | none => x
        | some c => start x c w.1 w.2.1 w.2.2) g2

/-- A channel returns to SEARCH (Table 6.4). -/
def GnsSt.research (g : GnsSt) (c beat now : Nat) (a : Aiding) : GnsSt :=
  (g.setCh c { g.ch c with failures := 0, handoff := none }).queueAcq c beat a (g.canAid c a now) 0

/-- Raise or clear suspicion of one side for one condition (R189). -/
def SpoofSt.raise (s : SpoofSt) : SpoofSt := { s with suspected := true, clean := 0, present := true }

/-- A round ends for one side's suspicion. -/
def SpoofSt.round (s : SpoofSt) : SpoofSt :=
  if s.suspected then { s with clean := if s.present then 0 else s.clean + 1, rounds := s.rounds + 1, present := false }
  else { s with present := false }

end Sys2Proof.Machine
end

