-- ==== Sys2Proof/Machine/StSch.lean ====
section
/-! DEFINITION. State of the SCH block: engines, banks, overrun window (02_schedule_contract.md). -/

namespace Sys2Proof.Machine

/-- What an engine waits for (R59). -/
inductive EngineWait where
  | none | cycle (c : Nat) | event (k : BitVec 8)
deriving DecidableEq, Repr

/-- One engine (R59, R61, R62, Table 2.10). -/
structure EngineSt where
  ended    : Option (BitVec 20)
  wait     : EngineWait
  opIndex  : Nat
  last     : BitVec 20
  peak     : BitVec 20
  peakBeat : BitVec 10
  late     : Word
deriving DecidableEq, Repr

/-- An engine after reset (R83). -/
def EngineSt.zero : EngineSt :=
  { ended := none, wait := .none, opIndex := 0, last := 0, peak := 0, peakBeat := 0, late := 0 }

/-- Bank states (Table 2.6). -/
inductive BankPhase where
  | empty | loading | verify | ready | pending | active
deriving DecidableEq, Repr

/-- One bank with its companion area (R67, R68). -/
structure Bank where
  phase     : BankPhase
  /-- Loading session; 0 when the loader fills the bank. -/
  session   : BitVec 8
  /-- Request that END answers (R70). -/
  endReq    : Option Word
  /-- Bytes that DATA stored, by byte offset of the image being loaded. -/
  bytes     : List Host.Cell
  /-- End of the highest byte a DATA wrote. -/
  highEnd   : Nat
  /-- The image length END declared. -/
  declared  : Nat
  /-- What the bank holds once it is filled. -/
  image     : Option Schedule
deriving DecidableEq, Repr

/-- An empty bank. -/
def Bank.empty : Bank :=
  { phase := .empty, session := 0, endReq := none, bytes := [], highEnd := 0, declared := 0, image := none }

/-- A switch ordered and not yet applied (R71).  `age` counts beats that ran since the command's beat. -/
structure PendSwitch where
  imageId : Long
  age     : Nat
deriving DecidableEq, Repr

/-- The SCH block. -/
structure SchSt where
  running    : Bool
  restarting : Bool
  /-- Edges left to the first capture after a Beat restart (Table 2.5). -/
  restartLeft : Nat
  watch      : Bool
  /-- false: bank 0 is active; true: bank 1. -/
  active1    : Bool
  bank0      : Bank
  bank1      : Bank
  switch     : Option PendSwitch
  engines    : Tab EngineSt
  events     : List Nat
  flOverrun  : Bool
  flBudget   : Bool
  flBreach   : Bool
  flWriteRefused : Bool
  flSwitchCancelled : Bool
  flCfgRefused : Bool
  ovrLimit   : BitVec 4
  ovrRounds  : BitVec 8
  /-- Rounds counted as R129 counts them. -/
  roundNo    : Nat
  /-- Round numbers of the overrun restarts still in the window (R65). -/
  ovrLog     : List Nat
  ovrEngines : BitVec 14
  ovrBeat    : Long
  refused    : Word
  satFirst   : Half
  satBeats   : BitVec 10
  satFirstLive : Half
  satBeatsLive : BitVec 10
  satNow     : Bool
  /-- First beat after a bank switch, after a restart (record FLAGS, Table 14.5). -/
  recSwitch  : Bool
  recRestart : Bool
deriving DecidableEq, Repr

/-- The SCH block after reset (Table 2.10). -/
def SchSt.reset : SchSt :=
  { running := false, restarting := false, restartLeft := 0, watch := false, active1 := false,
    bank0 := Bank.empty, bank1 := Bank.empty, switch := none, engines := [], events := [],
    flOverrun := false, flBudget := false, flBreach := false, flWriteRefused := false,
    flSwitchCancelled := false, flCfgRefused := false, ovrLimit := 3, ovrRounds := 0x3C, roundNo := 0,
    ovrLog := [], ovrEngines := 0, ovrBeat := 0, refused := 0, satFirst := 0, satBeats := 0,
    satFirstLive := 0, satBeatsLive := 0, satNow := false, recSwitch := false, recRestart := false }

end Sys2Proof.Machine
end

