-- ==== Sys2Proof/Machine/Sequencer.lean ====
section
/-! DEFINITION. The schedule sequencer: engines, overrun window, banks and the bank switch (02_schedule_contract.md), and
the reads of its registers (Table 2.10). -/

namespace Sys2Proof.Machine

open Sys2Proof

/-- A sequencer action: the new state and the events it raises. -/
abbrev SchR := SchSt × List Ev

/-- A bank by number (false 0, true 1). -/
def SchSt.bank (v : SchSt) (b : Bool) : Bank := if b then v.bank1 else v.bank0
def SchSt.setBank (v : SchSt) (b : Bool) (x : Bank) : SchSt := if b then { v with bank1 := x } else { v with bank0 := x }

/-- The active and the inactive bank (R67). -/
def SchSt.active (v : SchSt) : Bank := v.bank v.active1
def SchSt.inactive (v : SchSt) : Bank := v.bank (!v.active1)
def SchSt.setInactive (v : SchSt) (x : Bank) : SchSt := v.setBank (!v.active1) x

/-- The number of the inactive bank as an event parameter. -/
def SchSt.inactiveNo (v : SchSt) : Word := if v.active1 then 0 else 1

/-- The schedule in the active bank. -/
def SchSt.sched (v : SchSt) : Option Schedule := if v.active.phase = .active then v.active.image else none

/-- PERIOD of the running program (R51, R52): the WATCH program's is 1,000. -/
def SchSt.period (v : SchSt) : Nat :=
  match v.sched with
  | none => 0
  | some s => if v.watch then 1000 else s.header.period.toNat

/-- Beat-in-period of beat `n` (R51). -/
def SchSt.bip (v : SchSt) (n : Nat) : Nat := if v.period = 0 then 0 else n % v.period

/-- The engine directory of the running program (R56). -/
def SchSt.dir (v : SchSt) : List EngineDir :=
  match v.sched with
  | none => []
  | some s => if v.watch then s.watchDir else s.runDir

/-- An engine's directory entry; an absent engine executes only END in every beat (R56). -/
def SchSt.engineDir (v : SchSt) (e : Nat) : Option EngineDir := v.dir.find? (fun d => decide (d.engine.toNat = e))

/-- An engine's beat list in beat `n`. -/
def SchSt.beatList (v : SchSt) (e n : Nat) : Option BeatList :=
  match v.engineDir e with
  | none => none
  | some d => (d.beats.drop (v.bip n)).head?

/-- BEAT_BUDGET of an engine in beat `n` (R62): 736,000 for an engine absent from the directory. -/
def SchSt.budget (v : SchSt) (e n : Nat) : Nat :=
  match v.beatList e n with
  | none => 736000
  | some l => l.budget.toNat

/-- The descriptor of an engine's operation in beat `n`. -/
def SchSt.opDesc (v : SchSt) (e n idx : Nat) : Option OpDesc :=
  match v.beatList e n with
  | none => none
  | some l => (l.ops.drop idx).head?

/-- What an engine reads as, and its write. -/
def SchSt.eng (v : SchSt) (e : Nat) : EngineSt := Tab.get EngineSt.zero v.engines e
def SchSt.setEng (v : SchSt) (e : Nat) (x : EngineSt) : SchSt := { v with engines := Tab.set EngineSt.zero v.engines e x }

/-- An engine has gone on to its next operation. -/
def SchSt.advance (v : SchSt) (op : OpRun) : SchSt :=
  v.setEng op.engine.toNat { v.eng op.engine.toNat with opIndex := op.opIndex.toNat + 1, wait := .none }

/-- END (R59, R62): an end after the budget and by cycle 768,000 is flagged, counted and recorded. -/
def SchSt.endOp (v : SchSt) (op : OpRun) (n : Nat) : SchR :=
  let e := op.engine.toNat
  let g := v.eng e
  let late : Bool := decide (v.budget e n < op.complete.toNat) && decide (op.complete.toNat ≤ 768000)
  let w := v.setEng e { g with ended := some op.complete, wait := .none, late := if late then g.late + 1 else g.late }
  if late then ({ w with flBudget := true }, [(0x0102, [wordN e, wordN (v.bip n), op.complete.setWidth 32])])
  else (w, [])

/-- SIGNAL raises a synchronisation event (R59). -/
def SchSt.signal (v : SchSt) (k : BitVec 8) : SchSt :=
  { v with events := if v.events.contains k.toNat then v.events else k.toNat :: v.events }

/-- What an engine waits for (R59). -/
def SchSt.waitOn (v : SchSt) (op : OpRun) (w : EngineWait) : SchSt :=
  v.setEng op.engine.toNat { v.eng op.engine.toNat with wait := w, opIndex := op.opIndex.toNat + 1 }

/-- Is the wait of an engine over at a cycle (R59)? -/
def SchSt.released (v : SchSt) (op : OpRun) : Bool :=
  match (v.eng op.engine.toNat).wait with
  | .none => false
  | .cycle c => decide (c ≤ op.complete.toNat)
  | .event k => v.events.contains k.toNat

/-- A beat ends at an edge (Table 2.10): LAST, PEAK and PEAK_BEAT of an engine, and its marker cleared. -/
def EngineSt.edge (g : EngineSt) (bip : Nat) : EngineSt :=
  match g.ended with
  | none => { g with wait := .none, opIndex := 0 }
  | some c =>
    if g.peak < c then { g with ended := none, wait := .none, opIndex := 0, last := c, peak := c, peakBeat := BitVec.ofNat 10 bip }
    else { g with ended := none, wait := .none, opIndex := 0, last := c }

/-- The sequencer at an edge: synchronisation events cleared (R59), saturation counted (R78), and at a round boundary the
round's saturation and number taken (R65, R78).  `bip` is the beat-in-period that ended. -/
def SchSt.edge (v : SchSt) (bip : Nat) (boundary : Bool) : SchSt :=
  let live : BitVec 10 := if v.satNow then v.satBeatsLive + 1 else v.satBeatsLive
  let w := { v with
    engines := Tab.modifyAll EngineSt.zero v.engines (List.range 14) (fun _ g => EngineSt.edge g bip)
    events := [], satNow := false, satBeatsLive := live }
  if boundary then
    { w with satFirst := v.satFirstLive, satBeats := live, satFirstLive := 0, satBeatsLive := 0, roundNo := v.roundNo + 1
             ovrLog := v.ovrLog.filter (fun r => decide (v.roundNo + 1 < r + v.ovrRounds.toNat)) }
  else w

/-- A quantity saturates (R78). -/
def SchSt.saturate (v : SchSt) (qid : Half) : SchSt :=
  { v with satNow := true, satFirstLive := if v.satFirstLive = 0 then qid else v.satFirstLive }

/-- SCH_OVR_COUNT (R65). -/
def SchSt.ovrCount (v : SchSt) : Nat := (v.ovrLog.filter (fun r => decide (v.roundNo < r + v.ovrRounds.toNat))).length

/-- The engines of the directory that have not executed END (R61). -/
def SchSt.lateEngines (v : SchSt) : List Nat :=
  ((v.dir.map (fun d => d.engine.toNat)).filter (fun e => (v.eng e).ended.isNone))

/-- R61: what an overrun leaves in the registers, and event 0x0101. -/
def SchSt.overrun (v : SchSt) (n : Nat) : SchR :=
  let m : BitVec 14 := maskOf 14 v.lateEngines
  ({ v with flOverrun := true, ovrEngines := m, ovrBeat := BitVec.ofNat 64 n },
   [(0x0101, [m.setWidth 32, wordN (v.bip n), if v.active1 then 1 else 0])])

/-- R65: does this overrun bring the count in the window above RESTART_LIMIT? -/
def SchSt.escalates (v : SchSt) : Bool := decide (v.ovrLimit.toNat < v.ovrCount + 1)

/-- R65: event 0x0104 of an escalation. -/
def SchSt.escalationEv (v : SchSt) (n : Nat) : Ev := (0x0104, [wordN (v.ovrCount + 1), v.ovrRounds.setWidth 32, wordN n])

/-- Cancel a pending switch (R73): cause 1 Beat restart, 2 Image reset, 3 Cold start or Cocoon wake. -/
def SchSt.cancelSwitch (v : SchSt) (cause : Nat) : SchR :=
  match v.switch with
  | none => (v, [])
  | some p =>
    ({ v.setInactive { v.inactive with phase := .ready } with switch := none, flSwitchCancelled := true },
     [(0x0107, [v.inactiveNo, wordN cause, lowOf p.imageId])])

/-- A Beat restart begins (R64): the schedule stops, every engine at its current operation; `counted`: an overrun
restart enters the window. -/
def SchSt.restart (v : SchSt) (counted : Bool) : SchR :=
  let (w, ev) := v.cancelSwitch 1
  ({ w with running := false, restarting := true, restartLeft := 10, recRestart := true, events := []
            engines := Tab.modifyAll EngineSt.zero w.engines (List.range 14) (fun _ g => { g with wait := .none, ended := none, opIndex := 0 })
            ovrLog := if counted then v.roundNo :: w.ovrLog else w.ovrLog }, ev)

/-- The block after a Cold start or an Image reset (R74, R82, R83): both banks EMPTY, RUN program, counters clear. -/
def SchSt.imageReset (v : SchSt) (cause : Nat) : SchR :=
  ({ SchSt.reset with flSwitchCancelled := v.switch.isSome }, (v.cancelSwitch cause).2)

/-- Bank 0 becomes ACTIVE at start with its SCH_OVR_CFG (R74, R82). -/
def SchSt.deliver (v : SchSt) (s : Schedule) : SchSt :=
  { v with
    bank0 := { Bank.empty with phase := .active, image := some s }, bank1 := Bank.empty, active1 := false, watch := false
    ovrLimit := s.header.ovrLimit.setWidth 4, ovrRounds := s.header.ovrRounds }

/-- The status codes of Table 14.7 that a bank answers. -/
def stOk : Half := 0x0000
def stApplied : Half := 0x0001
def stBadRequest : Half := 0x0007
def stBankPending : Half := 0x0021
def stBankNotReady : Half := 0x0022
def stLayout : Half := 0x0023
def stCompat : Half := 0x0024
def stImage : Half := 0x0028
def stBankBusy : Half := 0x002A

/-- A refused bank write is counted (R67, R70). -/
def SchSt.refuseWrite (v : SchSt) : SchSt := { v with refused := v.refused + 1, flWriteRefused := true }

/-- BANK_LOAD BEGIN (R70). -/
def SchSt.loadBegin (v : SchSt) (session : BitVec 8) (offset : Word) (nData : Nat) : SchSt × Half :=
  match v.inactive.phase with
  | .pending => (v.refuseWrite, stBankPending)
  | .loading | .verify => (v, stBankBusy)
  | _ =>
    if offset ≠ 0 ∨ nData ≠ 0 then (v, stBadRequest)
    else (v.setInactive { Bank.empty with phase := .loading, session := session }, stOk)

/-- May the session write on in the load in progress (R70)? The status, OK when it may. -/
def SchSt.loadGate (v : SchSt) (session : BitVec 8) : Half :=
  match v.inactive.phase with
  | .pending => stBankPending
  | .loading => if v.inactive.session = session then stOk else stBankBusy
  | _ => stBankBusy

/-- Store bytes at an offset, one after another. -/
def storeBytes (t : Tab Byte) (ofs : Nat) : List Byte → Tab Byte
  | [] => t
  | b :: l => storeBytes (Tab.set 0 t ofs b) (ofs + 1) l

/-- BANK_LOAD DATA (R70). -/
def SchSt.loadData (v : SchSt) (session : BitVec 8) (offset : Word) (data : List Byte) : SchSt × Half :=
  let g := v.loadGate session
  if g = stBankPending then (v.refuseWrite, g)
  else if g ≠ stOk then (v, g)
  else if offset.toNat % 4 ≠ 0 ∨ 50331648 < offset.toNat + data.length ∨ 1024 < data.length then (v, stBadRequest)
  else (v.setInactive { v.inactive with
          bytes := storeBytes v.inactive.bytes offset.toNat data
          highEnd := if data = [] then v.inactive.highEnd else max v.inactive.highEnd (offset.toNat + data.length) }, stOk)

/-- BANK_LOAD END (R70): OK here means that VERIFY began; END is answered when it ends. -/
def SchSt.loadEnd (v : SchSt) (session : BitVec 8) (req : Word) (offset : Word) (nData : Nat) : SchSt × Half :=
  let g := v.loadGate session
  if g = stBankPending then (v.refuseWrite, g)
  else if g ≠ stOk then (v, g)
  else if nData ≠ 0 ∨ offset.toNat < 4096 ∨ 50331648 < offset.toNat then (v, stBadRequest)
  else (v.setInactive { v.inactive with phase := .verify, endReq := some req, declared := offset.toNat }, stOk)

/-- A load in progress ends with the bank EMPTY (R70): cause 1 ABORT, 2 session closed, 3 10 s without data. -/
def SchSt.abortLoad (v : SchSt) (cause : Nat) : SchR :=
  (v.setInactive Bank.empty, [(0x0105, [v.inactiveNo, wordN cause, v.inactive.session.setWidth 32])])

/-- BANK_LOAD ABORT (R70). -/
def SchSt.loadAbort (v : SchSt) (session : BitVec 8) (nData : Nat) : SchSt × List Ev × Half :=
  let g := v.loadGate session
  if g = stBankPending then (v.refuseWrite, [], g)
  else if g ≠ stOk then (v, [], g)
  else if nData ≠ 0 then (v, [], stBadRequest)
  else let (w, ev) := v.abortLoad 1; (w, ev, stOk)

/-- The loading session closes (R70). -/
def SchSt.sessionClosed (v : SchSt) (session : BitVec 8) : SchR :=
  if v.inactive.phase = .loading ∧ v.inactive.session = session then v.abortLoad 2 else (v, [])

/-- The error of a loaded bank's verification (R70, R92) and the failing directory index. -/
def SchSt.verifyErr (v : SchSt) (img : ImageDesc) (otp : OtpSt) : Nat × Word :=
  let b := v.inactive
  if b.declared ≠ img.header.imageBytes.toNat ∨ b.declared < b.highEnd then (0x05, 0xFFFFFFFF) else imageErr img otp true

/-- Verification ends (R68, R70): READY or EMPTY with event 0x0106, and what END is answered: its request, status and
detail. -/
def SchSt.verified (v : SchSt) (img : ImageDesc) (otp : OtpSt) : SchSt × List Ev × Option (BitVec 8 × Word × Half × Word) :=
  let b := v.inactive
  let err := v.verifyErr img otp
  let ans (st : Half) (d : Word) : Option (BitVec 8 × Word × Half × Word) := b.endReq.map (fun r => (b.session, r, st, d))
  if err.1 = 0 then (v.setInactive { b with phase := .ready, endReq := none, image := img.sched }, [], ans stOk 0)
  else (v.setInactive Bank.empty, [(0x0106, [v.inactiveNo, wordN err.1, err.2])], ans stImage (wordN err.1))

/-- The IMAGE_ID that a bank shows: 0 unless READY, PENDING or ACTIVE (Table 2.10). -/
def Bank.idShown (b : Bank) : Long :=
  match b.phase, b.image with
  | .ready, some s | .pending, some s | .active, some s => s.header.imageId
  | _, _ => 0

/-- The translation table of a schedule from a signature (R71). -/
def translationFrom (s : Schedule) (sig : Long) : Option TransTable := s.translate.find? (fun t => decide (t.fromSig = sig))

/-- Table 2.7: the status of a BANK_SWITCH, APPLIED when none of its rows holds.  `paired`: the device is Active or
Standby. -/
def SchSt.switchStatus (v : SchSt) (id : Long) (paired : Bool) : Half :=
  if v.switch.isSome then stBankPending
  else
    match v.inactive.phase, v.inactive.image, v.sched with
    | .ready, some t, some a =>
      if t.header.imageId ≠ id then stBankNotReady
      else if t.header.layoutSig ≠ a.header.layoutSig ∧ (translationFrom t a.header.layoutSig).isNone then stLayout
      else if paired ∧ t.header.compat ≠ a.header.compat then stCompat
      else stApplied
    | _, _, _ => stBankNotReady

/-- BANK_SWITCH (R71): PENDING or refused. -/
def SchSt.orderSwitch (v : SchSt) (id : Long) (paired : Bool) : SchSt × Half :=
  let st := v.switchStatus id paired
  if st = stApplied then
    ({ v.setInactive { v.inactive with phase := .pending } with switch := some { imageId := id, age := 0 } }, st)
  else (v, st)

/-- A beat has run since a switch was ordered. -/
def SchSt.ageSwitch (v : SchSt) : SchSt :=
  { v with switch := v.switch.map (fun (p : PendSwitch) => { p with age := p.age + 1 }) }

/-- Does the pending switch take effect at this boundary (R71)? -/
def SchSt.switchDue (v : SchSt) : Bool := match v.switch with | some p => decide (2 ≤ p.age) | none => false

/-- The switch takes effect (Table 2.6). -/
def SchSt.applySwitch (v : SchSt) : SchSt :=
  let old := { v.active with phase := .ready }
  let new := { v.inactive with phase := .active }
  { ((v.setBank v.active1 old).setBank (!v.active1) new) with active1 := !v.active1, switch := none, recSwitch := true }

/-- A write of SCH_OVR_CFG (R82). -/
def SchSt.ovrWrite (v : SchSt) (role : Nat) (w : Word) : SchSt :=
  if role < 3 ∨ bits w 3 0 = 0 ∨ bits w 15 8 = 0 then { v with flCfgRefused := true }
  else { v with ovrLimit := BitVec.ofNat 4 (bits w 3 0), ovrRounds := BitVec.ofNat 8 (bits w 15 8) }

/-- Writing CLEAR resets the selected engine's PEAK and PEAK_BEAT (Table 2.10). -/
def SchSt.peakClear (v : SchSt) (e : Nat) : SchSt := v.setEng e { v.eng e with peak := 0, peakBeat := 0 }

/-- W1C of SCH_FLAGS. -/
def SchSt.clearFlags (v : SchSt) (w : Word) : SchSt :=
  { v with
    flOverrun := v.flOverrun && !bitOf w 0, flBudget := v.flBudget && !bitOf w 1, flBreach := v.flBreach && !bitOf w 2
    flWriteRefused := v.flWriteRefused && !bitOf w 3, flSwitchCancelled := v.flSwitchCancelled && !bitOf w 4
    flCfgRefused := v.flCfgRefused && !bitOf w 5 }

/-- SCH_BANKn_STATE. -/
def BankPhase.code : BankPhase → Word
  | .empty => 0 | .loading => 1 | .verify => 2 | .ready => 3 | .pending => 4 | .active => 5

/-- A read of the SCH block (Table 2.10) in beat `n`; `e` is the engine SCH_CHSEL selects. -/
def SchSt.read (v : SchSt) (n : Long) (e : Nat) (ofs : Nat) : Option Word :=
  let h := v.sched.map (fun s => s.header)
  let g := v.eng e
  match ofs with
  | 0x0000 => some 0x01010000
  | 0x0004 => some (bit v.running 0 ||| bit v.active1 1 ||| bit v.watch 2 ||| bit v.restarting 3 ||| fld 14 8)
  | 0x0010 => some (wordN e)
  | 0x0020 => some (wordN v.period)
  | 0x0024 => some (lowOf n)
  | 0x0028 => some (highOf n)
  | 0x0030 => some v.bank0.phase.code
  | 0x0034 => some v.bank1.phase.code
  | 0x0040 => some (lowOf v.bank0.idShown)
  | 0x0044 => some (highOf v.bank0.idShown)
  | 0x0048 => some (lowOf v.bank1.idShown)
  | 0x004C => some (highOf v.bank1.idShown)
  | 0x0050 => some (match h with | some x => lowOf x.layoutSig | none => 0)
  | 0x0054 => some (match h with | some x => highOf x.layoutSig | none => 0)
  | 0x0058 => some (match h with | some x => x.compat.setWidth 32 | none => 0)
  | 0x005C => some (match h with | some x => fld (bits x.worstCycles 19 0) 0 ||| fld (x.worstBeat.toNat % 1024) 20 | none => 0)
  | 0x0060 => some (bit v.flOverrun 0 ||| bit v.flBudget 1 ||| bit v.flBreach 2 ||| bit v.flWriteRefused 3 ||| bit v.flSwitchCancelled 4 |||
      bit v.flCfgRefused 5)
  | 0x0064 => some (v.ovrLimit.setWidth 32 ||| fld v.ovrRounds.toNat 8)
  | 0x0068 => some (wordN (min 15 v.ovrCount))
  | 0x006C => some (v.ovrEngines.setWidth 32)
  | 0x0070 => some (lowOf v.ovrBeat)
  | 0x0074 => some (highOf v.ovrBeat)
  | 0x0078 => some v.refused
  | 0x007C => some (v.satFirst.setWidth 32)
  | 0x0080 => some (v.satBeats.setWidth 32)
  | 0x8000 => some (match v.sched with | some _ => wordN (v.budget e n.toNat) | none => 0)
  | 0x8004 => some (g.last.setWidth 32)
  | 0x8008 => some (g.peak.setWidth 32)
  | 0x800C => some (g.peakBeat.setWidth 32)
  | 0x8010 => some g.late
  | 0x8014 => some (match v.engineDir e with | some d => d.opTotal | none => 0)
  | _ => none

end Sys2Proof.Machine
end

