-- ==== Sys2Proof/Machine/Registers.lean ====
section
/-! DEFINITION. Register reads and W1C writes of the identification, image-loader, time, conditioning, GNSS, solver and
estimator blocks (Tables 0.5, 3.9, 4.4, 5.9, 6.12, 7.10 and 8.10).  A read answers none where the block has no register. -/

namespace Sys2Proof.Machine

open Sys2Proof

/-- The ID block (R8 to R10): the sizing parameters; `valid` is PARAMS_VALID. -/
def idRead (valid : Bool) (ofs : Nat) : Option Word :=
  match ofs with
  | 0x0000 => some 0x00010000
  | 0x0004 => some (bit valid 0)
  | 0x0020 => some 0x0E1A03C0
  | 0x0024 => some 0x00004201
  | 0x0100 => some 0x00000030
  | 0x0104 => some 0x00001000
  | 0x0108 => some 0x00000800
  | 0x010C => some 0x00000020
  | 0x0110 => some 0x00000008
  | 0x0114 => some 0x00000180
  | 0x0118 => some 0x00000003
  | 0x011C => some 0x00000040
  | 0x0120 => some 0x00000010
  | 0x0124 => some 0x00000800
  | 0x0128 => some 0x00004000
  | 0x012C => some 0x00000040
  | 0x0130 => some 0x00000100
  | 0x0134 => some 0x00001000
  | 0x0138 => some 0x01000010
  | 0x013C => some 0x10080808
  | 0x0140 => some 0x20000400
  | 0x0144 => some 0x0000000C
  | 0x0148 => some 0x00010000
  | 0x014C => some 0x00000400
  | 0x0150 => some 0x00001000
  | 0x0154 => some 0x0C040400
  | 0x0158 => some 0x10204008
  | _ => none

/-- IMG_KEYSLOT: two bits per slot. -/
def OtpSt.keyslots (o : OtpSt) : Word :=
  (List.range 4).foldl (fun a k => a ||| fld ((Tab.get ImageKeySlot.none o.imageKeys k).state.code).toNat (2 * k)) 0

/-- Runtime changes in force (R112). -/
def ImgSt.changeCount (g : ImgSt) : Word := g.changes.regions + g.changes.setpoints + g.changes.gains

/-- A read of the IMG block (Table 3.9); `opsec` is the recorder's operating seconds. -/
def ImgSt.read (g : ImgSt) (opsec : Word) (ofs : Nat) : Option Word :=
  match ofs with
  | 0x0000 => some 0x02010000
  | 0x0004 => some (g.phase.code ||| bit g.imageB 4 ||| bit g.forceB 5 ||| bit g.nvmMap 6 ||| bit g.provisional 7)
  | 0x0020 => some (g.nvmMode.setWidth 32 ||| fld g.nvmMhz.toNat 8 ||| fld g.nvmSize.toNat 16)
  | 0x0024 => some (g.errA.setWidth 32 ||| fld g.errASec.toNat 8)
  | 0x0028 => some (g.errB.setWidth 32 ||| fld g.errBSec.toNat 8)
  | 0x002C => some (lowOf g.imageId)
  | 0x0030 => some (highOf g.imageId)
  | 0x0034 => some (g.secver.setWidth 32)
  | 0x0038 => some g.loadUs
  | 0x003C => some g.startUs
  | 0x0040 => some (g.kind.code ||| fld g.cause.code.toNat 4)
  | 0x0044 => some g.otp.keyslots
  | 0x0048 => some (g.otp.minSecver.setWidth 32)
  | 0x004C => some (g.pwrcyc.setWidth 32)
  | 0x0050 => some opsec
  | 0x0054 => some g.faultRst
  | 0x0058 => some g.changeCount
  | _ => none

/-- TIM_M_STATE.STATE: 0 for a model that no entry of TIME_CFG names. -/
def TimSt.modelState (t : TimSt) (m : Nat) : Word :=
  match t.cfg with
  | none => 0
  | some c =>
    if (c.models.find? (fun e => decide (e.model.toNat = m))).isNone then 0
    else match (Tab.get SensorModel.zero t.models m).state with | .acquire => 1 | .admitted => 2 | .timeLost => 3

/-- A read of the TIM block (Table 4.4); `m` is the model TIM_CHSEL selects. -/
def TimSt.read (t : TimSt) (m : Nat) (ofs : Nat) : Option Word :=
  let k := Tab.get SensorModel.zero t.models m
  match ofs with
  | 0x0000 => some 0x03010000
  | 0x0004 => some (t.state.code ||| (match t.selected with | some x => fld x.code 2 | none => 0) ||| bit t.stepUsed 5 |||
      bit t.arm.isSome 6 ||| bit t.settled 7 ||| bit t.holdFlag 8 ||| bit t.pending.isSome 9)
  | 0x0010 => some (wordN m)
  | 0x0020 => some (lo32 t.now)
  | 0x0024 => some (hi32 t.now)
  | 0x0028 => some (lowOf (long64 t.theta))
  | 0x002C => some (highOf (long64 t.theta))
  | 0x0030 => some (satWord t.learned)
  | 0x0034 => some (satWord t.applied)
  | 0x0038 => some ((t.src .partner).state.code ||| fld (t.src .gnss).state.code.toNat 2 ||| fld (t.src .ptp).state.code.toNat 4 |||
      fld (t.src .bus).state.code.toNat 6)
  | 0x003C => some (match t.cfg with | some c => wordN (c.slewPpm.toNat % 512) | none => 0)
  | 0x0040 => some (match t.cfg with | some c => wordN (c.jumpUs.toNat % 2 ^ 24) | none => 0)
  | 0x0044 => some (bit t.flJumpRefused 0 ||| bit t.flStepApplied 1 ||| bit t.flHoldover 2 ||| bit t.flSourceChanged 3 |||
      bit t.flArmExpired 4 ||| bit t.flModelLost 5 ||| bit t.flPpsIn 6)
  | 0x0048 => some (match t.arm with | some a => wordN ((a.left + 999) / 1000) | none => 0)
  | 0x004C => some (lowOf (long64 t.stepK))
  | 0x0050 => some (highOf (long64 t.stepK))
  | 0x0054 => some (lowOf t.stepBeat)
  | 0x0058 => some (highOf t.stepBeat)
  | 0x005C => some (t.utc.setWidth 32)
  | 0x0060 => some (wordN (t.holdBeats / 1000))
  | 0x0064 => some (lo32 t.ppsIn)
  | 0x0068 => some (hi32 t.ppsIn)
  | 0x006C => some t.refusals
  | 0x8000 => some (t.modelState m ||| fld k.good.toNat 8)
  | 0x8004 => some (lowOf (long64 k.offset))
  | 0x8008 => some (highOf (long64 k.offset))
  | 0x800C => some (satWord k.rate)
  | 0x8010 => some (satWord k.resid)
  | 0x8014 => some k.losts
  | _ => none

/-- W1C of TIM_FLAGS. -/
def TimSt.clearFlags (t : TimSt) (w : Word) : TimSt :=
  { t with
    flJumpRefused := t.flJumpRefused && !bitOf w 0, flStepApplied := t.flStepApplied && !bitOf w 1
    flHoldover := t.flHoldover && !bitOf w 2, flSourceChanged := t.flSourceChanged && !bitOf w 3
    flArmExpired := t.flArmExpired && !bitOf w 4, flModelLost := t.flModelLost && !bitOf w 5, flPpsIn := t.flPpsIn && !bitOf w 6 }

/-- The enabled channels of the conditioning block. -/
def CndSt.enabled (d : CndSt) : List Nat := (List.range 64).filter (fun c => d.isOn c)

/-- A read of the CND block (Table 5.9); `c` is the channel CND_CHSEL selects. -/
def CndSt.read (d : CndSt) (c : Nat) (ofs : Nat) : Option Word :=
  let ch := d.ch c
  let e := d.entry c
  let y := d.delays c
  match ofs with
  | 0x0000 => some 0x04010000
  | 0x0004 => some (wordN d.enabled.length ||| bit (d.enabled.any (fun k => decide ((d.ch k).use = .none))) 7 |||
      bit (d.enabled.any (fun k => (d.ch k).alt)) 8)
  | 0x0010 => some (wordN c)
  | 0x0020 => some (match d.table with | some t => wordN (t.seq0Len.toNat % 2048) ||| fld (t.seq1Len.toNat % 2048) 16 | none => 0)
  | 0x0024 => some (wordN ((d.enabled.map (fun k => d.rateKhz k)).sum % 8192))
  | 0x8000 => some ((d.sourceInUse c).setWidth 32 ||| fld e.altSource.toNat 8 ||| (if d.isOn c then fld (d.rateKhz c % 256) 16 else 0))
  | 0x8004 => some (wordI ch.capFine)
  | 0x8008 => some (wordI ch.capFast)
  | 0x800C => some (ch.capFlags.setWidth 32)
  | 0x8010 => some (bit ch.freeze 0)
  | 0x8014 => some (wordI ch.offset)
  | 0x8018 => some (bit ch.flSatFine 0 ||| bit ch.flSatFast 1 ||| bit ch.flOverload 2 ||| bit ch.flStuck 3 ||| bit ch.flSwitched 4 |||
      bit ch.flStep 5 ||| bit ch.flReturnRefused 6)
  | 0x801C => some (wordN (nsOf y.acq))
  | 0x8020 => some (wordN (nsOf y.dec))
  | 0x8024 => some 0
  | 0x8028 => some (wordN (nsOf y.fir))
  | 0x802C => some (wordN (nsOf y.ma))
  | 0x8030 => some (wordN (d.delayTotal c))
  | 0x8034 => some (wordN (d.delayFast c))
  | 0x8038 => some (wordN (settleLen e))
  | 0x803C => some ch.steps
  | 0x8040 => some ch.ovls
  | 0x8044 => some ch.sats
  | _ => none

/-- W1C of CND_C_FLAGS. -/
def CndCh.clearFlags (ch : CndCh) (w : Word) : CndCh :=
  { ch with
    flSatFine := ch.flSatFine && !bitOf w 0, flSatFast := ch.flSatFast && !bitOf w 1, flOverload := ch.flOverload && !bitOf w 2
    flStuck := ch.flStuck && !bitOf w 3, flSwitched := ch.flSwitched && !bitOf w 4, flStep := ch.flStep && !bitOf w 5
    flReturnRefused := ch.flReturnRefused && !bitOf w 6 }

/-- Channels of the GNSS baseband in a state. -/
def GnsSt.countIn (g : GnsSt) (x : GnsChState) : Nat := (g.channels.filter (fun p => decide (p.2.state = x))).length

/-- GNS_STATUS.INTERFERENCE: a notch is engaged or an AGC check fails (Table 6.12). -/
def GnsSt.interference (g : GnsSt) : Bool := g.streams.any (fun p => !p.2.notches.isEmpty || decide (10 ≤ p.2.agcBad))

/-- The solution of a side's first antenna. -/
def GnsSt.sol (g : GnsSt) (side antenna : Nat) : NavSol := Tab.get NavSol.zero g.solutions (side * 4 + antenna)

/-- A read of the GNS block (Table 6.12); `c` is the channel GNS_CHSEL selects, `sideB` this device's side. -/
def GnsSt.read (g : GnsSt) (sideB : Bool) (c : Nat) (ofs : Nat) : Option Word :=
  let ch := g.ch c
  let own := g.sol (if sideB then 1 else 0) 0
  match ofs with
  | 0x0000 => some 0x05010000
  | 0x0004 => some (wordN (g.countIn .track) ||| fld (g.countIn .search) 9 ||| bit g.burst 18 ||| bit g.spoofA.suspected 19 |||
      bit g.spoofB.suspected 20 ||| bit g.interference 21 ||| bit g.att.fixed 22)
  | 0x0010 => some (wordN c)
  | 0x0020 => some (wordN g.queue.length)
  | 0x0024 => some (satWord own.isbGal)
  | 0x0028 => some (satWord own.isbBds)
  | 0x002C => some (satWord own.isbGlo)
  | 0x8000 => some (ch.signal.setWidth 32 ||| fld ch.sv.toNat 8 ||| fld ch.stream.toNat 20)
  | 0x8004 => some (wordN ch.state.code.toNat)
  | 0x8008 => some (ch.cn0.setWidth 32)
  | 0x800C => some (satWord ch.doppler)
  | 0x8010 => some (lowOf ch.latchTx)
  | 0x8014 => some (highOf ch.latchTx)
  | 0x8018 => some (lowOf ch.latchCarr)
  | 0x801C => some (highOf ch.latchCarr)
  | 0x8020 => some (bit ch.flSlip 0 ||| bit ch.flLoopSat 1 ||| bit ch.flLost 2 ||| bit ch.excluded 3)
  | 0x8024 => some (ch.exclReason.setWidth 32)
  | 0x8028 => some ch.acqs
  | 0x802C => some ch.slips
  | 0x8030 => some ch.excls
  | _ =>
    if 0x0100 ≤ ofs ∧ ofs < 0x0160 ∧ ofs % 4 = 0 then
      let k := (ofs - 0x0100) / 8
      let m := g.strm k
      if ofs % 8 = 0 then some (m.fill.setWidth 32 ||| (match m.notches.head? with | some x => fld (BitVec.ofInt 16 x.1).toNat 16 | none => 0))
      else some (bit m.rateFault 0 ||| bit m.feCfg 1 ||| bit m.flNotch 2 ||| fld m.clip.toNat 8)
    else none

/-- W1C of GNS_STRM_FLAGSk and GNS_C_FLAGS. -/
def GnsStream.clearFlags (m : GnsStream) (w : Word) : GnsStream :=
  { m with rateFault := m.rateFault && !bitOf w 0, feCfg := m.feCfg && !bitOf w 1, flNotch := m.flNotch && !bitOf w 2 }
def GnsCh.clearFlags (ch : GnsCh) (w : Word) : GnsCh :=
  { ch with flSlip := ch.flSlip && !bitOf w 0, flLoopSat := ch.flLoopSat && !bitOf w 1, flLost := ch.flLost && !bitOf w 2 }

/-- A read of the HWK block (Table 7.10); `k` is the slot HWK_CHSEL selects, `nProblem` the slots of the active bank. -/
def HwkSt.read (h : HwkSt) (nProblem : Nat) (k : Nat) (ofs : Nat) : Option Word :=
  let d := Tab.get none h.descs k
  let r := Tab.get ProbResult.zero h.results k
  let c := Tab.get SlotCounts.zero h.counts k
  let busy : BitVec 4 := h.progress.foldl (fun a p => match p.2 with | some x => a ||| x.desc.clusters.setWidth 4 | none => a) 0
  match ofs with
  | 0x0000 => some 0x06010000
  | 0x0004 => some (busy.setWidth 32 ||| bit (decide (0 < h.job.slices) && !h.job.discarded) 4 ||| fld nProblem 8)
  | 0x0010 => some (wordN k)
  | 0x0020 => some (bit h.flPivot 0 ||| bit h.flCold 1 ||| bit h.flDeadline 2 ||| bit h.flSat 3 ||| bit h.flNotConv 4 ||| bit h.flBa 5)
  | 0x0024 => some 0x00001000
  | 0x0028 => some (wordN h.job.done ||| fld h.job.slices 10 ||| bit h.job.candidate.isSome 20)
  | 0x002C => some h.jobs
  | 0x0030 => some h.discards
  | 0x8000 => some (match d with | some x => wordN (x.kind.toNat % 8) ||| fld (x.clusters.toNat % 16) 4 ||| fld (x.iter.toNat % 1024) 16 | none => 0)
  | 0x8004 => some (match d with | some x => wordN (x.n.toNat % 8192) ||| fld (x.m.toNat % 16384) 16 | none => 0)
  | 0x8008 => some r.structSig
  | 0x800C => some (Tab.get Praline.zero h.praline k).keySig
  | 0x8010 => some (wordN (r.flags.code % 1024) ||| fld (r.iterDone % 1024) 16)
  | 0x8014 => some (r.pivotFirst.setWidth 32 ||| fld r.pivots.toNat 16)
  | 0x8018 => some r.primal
  | 0x801C => some r.dual
  | 0x8020 => some (wordN (r.cycles % 2 ^ 20))
  | 0x8024 => some r.beat
  | 0x8028 => some c.pivots
  | 0x802C => some c.maps
  | 0x8030 => some c.colds
  | 0x8034 => some c.deadlines
  | 0x8038 => some c.notConv
  | _ => none

/-- W1C of HWK_FLAGS. -/
def HwkSt.clearFlags (h : HwkSt) (w : Word) : HwkSt :=
  { h with
    flPivot := h.flPivot && !bitOf w 0, flCold := h.flCold && !bitOf w 1, flDeadline := h.flDeadline && !bitOf w 2
    flSat := h.flSat && !bitOf w 3, flNotConv := h.flNotConv && !bitOf w 4, flBa := h.flBa && !bitOf w 5 }

/-- A read of the EST block (Table 8.10); `k` is the slot EST_CHSEL selects and
`delay` its path's admission delay in ns. -/
def EstSt.read (e : EstSt) (k delay : Nat) (ofs : Nat) : Option Word :=
  let r := e.ref k
  let c := e.entry k
  match ofs with
  | 0x0000 => some 0x07010000
  | 0x0004 => some (e.health.setWidth 32 ||| bit e.initFlag 2 ||| fld (e.admittedCount .position) 3 ||| fld (e.admittedCount .heading) 8 |||
      fld (min 65535 e.drBeats) 16)
  | 0x0010 => some (wordN k)
  | 0x0020 => some (bit e.flRejected 0 ||| bit e.flDr 1 ||| bit e.flInvalid 2 ||| bit e.flNoUpdate 3 ||| bit e.flSat 4 ||| bit e.flLate 5)
  | 0x0024 => some e.covLost
  | 0x8000 => some (wordN (c.kind.toNat % 8) ||| fld (c.side.toNat % 4) 3 ||| fld c.source.toNat 16)
  | 0x8004 => some (r.state.code ||| fld r.reason.toNat 4 ||| fld (r.good % 256) 8 ||| fld r.lastD.toNat 16)
  | 0x8008 => some 0
  | 0x800C => some (r.d.setWidth 32)
  | 0x8010 => some (satWord (r.nu.getD 0 0))
  | 0x8014 => some (satWord (r.nu.getD 1 0))
  | 0x8018 => some (satWordU r.sigma)
  | 0x801C => some (satWordU delay)
  | 0x8020 => some (match r.origin with | some o => satWord o.1 | none => 0)
  | 0x8024 => some (match r.origin with | some o => satWord o.2 | none => 0)
  | 0x8028 => some r.samples
  | 0x802C => some r.rejects
  | 0x8030 => some r.delayed
  | 0x8034 => some r.late
  | 0x8038 => some r.superseded
  | _ => none

/-- W1C of EST_FLAGS. -/
def EstSt.clearFlags (e : EstSt) (w : Word) : EstSt :=
  { e with
    flRejected := e.flRejected && !bitOf w 0, flDr := e.flDr && !bitOf w 1, flInvalid := e.flInvalid && !bitOf w 2
    flNoUpdate := e.flNoUpdate && !bitOf w 3, flSat := e.flSat && !bitOf w 4, flLate := e.flLate && !bitOf w 5 }

end Sys2Proof.Machine
end

