-- ==== Sys2Proof/Machine/StBeat.lean ====
section
/-! DEFINITION. State of the beat itself: beat number, instant, capture sets, union and the capture-source ledgers (01_device_and_beat.md). -/

namespace Sys2Proof.Machine

/-- One capture-source ledger (R40, R555). -/
structure SrcLedger where
  offered  : Count48
  admitted : Count48
  quota    : Count48
  timeLost : Count48
  late     : Count48
  restart  : Count48
deriving DecidableEq, Repr

/-- A ledger with every term zero (R42). -/
def SrcLedger.zero : SrcLedger := { offered := 0, admitted := 0, quota := 0, timeLost := 0, late := 0, restart := 0 }

/-- How an item of the beat's capture set will be settled in the publish phase (R555). -/
inductive Fate where
  | admitted | quota | timeLost | late | restart
deriving DecidableEq, Repr

/-- The beat domain's clock and capture sets. -/
structure BeatSt where
  /-- Beat number n of the beat that runs, or of the last that ran (R23). -/
  n          : Long
  /-- A beat is running: false before the first beat, in NO_IMAGE, during a Beat restart and in low power. -/
  live       : Bool
  /-- Cycle of CLK_B reached in the beat (R28). -/
  cycle      : Nat
  /-- Items completed for the next edge (R16). -/
  collecting : List Item
  /-- The capture set of beat n, own side (R15). -/
  own        : List Item
  /-- The partner's items of beat n (R430). -/
  partner    : List Item
  /-- The capture union of beat n in its order (R18). -/
  union      : List Item
  /-- Bytes already taken of each source's quota for the next edge (R21). -/
  used       : Tab Nat
  /-- Items of this beat with their fates, to be settled at publish (R555). -/
  fates      : List (Nat × Fate)
  /-- Items refused on entry to the next beat's capture set. -/
  refusedNext : List (Nat × Fate)
  /-- Capture-source ledgers by source number (Table 1.8). -/
  ledgers    : Tab SrcLedger
  ledgerSnap : Tab SrcLedger
  /-- A beat edge that waits for a capture operation: set at the edge, cleared when the union is formed. -/
  captured   : Bool
  /-- The edge of beat n closed a round (R25). -/
  boundary   : Bool
  /-- A step takes effect at the coming edge, which closes the round under way (R129). -/
  stepEdge   : Bool
deriving DecidableEq, Repr

/-- The beat domain at power good: device time 0, no beat running (R118, R23). -/
def BeatSt.reset : BeatSt :=
  { n := 0, live := false, cycle := 0, collecting := [], own := [], partner := [], union := [], used := [],
    fates := [], refusedNext := [], ledgers := [], ledgerSnap := [], captured := false, boundary := false, stepEdge := false }

end Sys2Proof.Machine
end

