-- ==== Sys2Proof/Machine/StHst.lean ====
section
/-! DEFINITION. State of the HST block: sessions, queues, regions, snapshots, streams, ports (14_host_protocol.md). -/

namespace Sys2Proof.Machine

/-- The host-command ledger of one session (R40): received = applied + refused + discarded. -/
structure HostLedger where
  received   : Count48
  applied    : Count48
  refused    : Count48
  restart    : Count48
  superseded : Count48
  takeover   : Count48
deriving DecidableEq, Repr

/-- A ledger with every term zero (R42). -/
def HostLedger.zero : HostLedger :=
  { received := 0, applied := 0, refused := 0, restart := 0, superseded := 0, takeover := 0 }

/-- The fate of a handled HOST_SEQ (R407), coded 1 APPLIED, 2 REFUSED, 3 DISCARDED. -/
structure SeqFate where
  seq  : Word
  fate : BitVec 8
  beat : Long
deriving DecidableEq, Repr

/-- One received part of a region set (R410). -/
structure RegionPart where
  part   : Half
  offset : Word
  data   : List Word
  req    : HostRef
  /-- This device received the part, so it answers it (R407). -/
  own    : Bool
deriving DecidableEq, Repr

/-- One session (R398 to R407).  Roles are 0 Observer to 3 Maintainer. -/
structure SessionSt where
  isOpen     : Bool
  role       : BitVec 2
  slot       : BitVec 3
  key        : BitVec 256
  /-- Admitted commands waiting for the capture set (R403). -/
  queue      : List HostCmd
  lastSeq    : Word
  lastHandled : Word
  reqMax     : Word
  /-- Accepted requests: REQ_ID and TAG, newest first (R402). -/
  accepted   : List (Word × BitVec 128)
  idleBeats  : Nat
  region     : Option (Half × List RegionPart)
  fates      : List SeqFate
  ledger     : HostLedger
  ledgerSnap : HostLedger
deriving DecidableEq, Repr

/-- A closed session with clear counts. -/
def SessionSt.zero : SessionSt :=
  { isOpen := false, role := 0, slot := 0, key := 0, queue := [], lastSeq := 0, lastHandled := 0, reqMax := 0,
    accepted := [], idleBeats := 0, region := none, fates := [], ledger := HostLedger.zero, ledgerSnap := HostLedger.zero }

/-- A response waiting to be sent, or sent (Table 14.2). -/
structure Response where
  session : BitVec 8
  opcode  : Half
  reqId   : Word
  hostSeq : Word
  beat    : Long
  status  : Half
  detail  : Word
  payload : List Word
  tagged  : Bool
  /-- A command's answer, sent after the publish phase of its beat (R407). -/
  waits   : Bool
deriving DecidableEq, Repr

/-- A stream destination added by STREAM_CTRL (R416). -/
structure StreamDest where
  session : BitVec 8
  address : Word
  port    : Half
  ports   : BitVec 2
  ttl     : BitVec 8
deriving DecidableEq, Repr

/-- One published state record (Table 14.5), as its 32-bit words in order. -/
structure PubRec where
  beat  : Long
  words : List Word
deriving DecidableEq, Repr

/-- One Ethernet MAC (R393, R394). -/
structure PortSt where
  up        : Bool
  mbit      : Half
  /-- IEEE 1588 portState of the port. -/
  ptpState  : BitVec 8
  clockClass : BitVec 8
  echoed    : Word
deriving DecidableEq, Repr

/-- A port with its link down. -/
def PortSt.zero : PortSt := { up := false, mbit := 0, ptpState := 0, clockClass := 0, echoed := 0 }

/-- The HST block. -/
structure HstSt where
  sessions   : Tab SessionSt
  /-- OPEN requests waiting for their union (channel 0). -/
  openQueue  : List HostCmd
  /-- Highest REQ_ID of each key slot's OPEN requests. -/
  openReqIds : Tab Word
  /-- Accepted OPEN requests: key slot, REQ_ID and TAG, newest first (R402). -/
  openAccepted : List (BitVec 3 × Word × BitVec 128)
  /-- Union entries handled by CAPTURE_OP and not yet applied. -/
  toApply    : List HostRef
  /-- The commands of the union that this device itself received: those it answers (R407). -/
  heard      : List HostRef
  responses  : List Response
  /-- The last response sent. -/
  lastSent   : Option Response
  snapshots  : List PubRec
  streamCount : Word
  streamSent : Word
  dests      : List StreamDest
  ports      : Tab PortSt
  provisional : Bool
  netCfg     : Option NetCfg
  badFrame   : Word
  badTag     : Word
  badTagRound : Word
  badTagAddr : Word
  refusedAdm : Word
  redundant  : Word
  /-- Words of the region memory changed at run time, by (REGION_ID × 65536 + word offset). -/
  regionMem  : Tab Word
  nvmLast    : Option (BitVec 8 × Word × Nat)
  /-- An NVM_WRITE or NVM_ERASE is in progress (R504). -/
  nvmBusy    : Bool
deriving DecidableEq, Repr

/-- The HST block after reset (Table 14.10). -/
def HstSt.reset : HstSt :=
  { sessions := [], openQueue := [], openReqIds := [], openAccepted := [], toApply := [], heard := [], responses := [], lastSent := none,
    snapshots := [], streamCount := 0, streamSent := 0, dests := [], ports := [], provisional := false,
    netCfg := none, badFrame := 0, badTag := 0, badTagRound := 0, badTagAddr := 0, refusedAdm := 0, redundant := 0,
    regionMem := [], nvmLast := none, nvmBusy := false }

end Sys2Proof.Machine
end

