-- ==== Sys2Proof/Machine/RegistersLoop.lean ====
section
/-! DEFINITION. Register reads and W1C writes of the Luna, allocation, control, output, field-bus and host blocks
(Tables 9.6, 10.11, 11.11, 12.8, 13.11 and 14.10), and the 64-bit register pairs of R524. -/

namespace Sys2Proof.Machine

open Sys2Proof

/-- CELL as LUN_STATUS shows it. -/
def cellCode (l : LunSt) : Nat :=
  match l.table with | some t => min 3 t.cell.toNat | none => 0

/-- Tracks in a state. -/
def LunSt.countTracks (l : LunSt) (p : TrackState → Bool) : Nat := (l.tracks.filter (fun x => p x.2.state)).length

/-- A read of the LUN block (Table 9.6); `k` is the track LUN_CHSEL selects. -/
def LunSt.read (l : LunSt) (k : Nat) (ofs : Nat) : Option Word :=
  let t := Tab.get Track.zero l.tracks k
  match ofs with
  | 0x0000 => some 0x08010000
  | 0x0004 => some (wordN (l.countTracks (fun s => decide (s = .confirmed))) |||
      fld (l.countTracks (fun s => decide (s = .tentative) || decide (s = .candidate))) 13 ||| fld (cellCode l) 26)
  | 0x0010 => some (wordN k)
  | 0x0020 => some (bit l.flBindRefused 0 ||| bit l.flDevLimit 1 ||| bit l.flTrkFull 2 ||| bit l.flCalReset 3)
  | 0x0024 => some l.detOver
  | 0x0028 => some l.trkFull
  | 0x002C => some l.sats
  | 0x0030 => some 0
  | 0x0034 => some (l.cal.frozen.setWidth 32 ||| fld ((maskOf 8 (l.pending.map Prod.fst) : BitVec 8)).toNat 8)
  | 0x0038 => some l.calSeq
  | 0x003C => some l.superseded
  | 0x8000 => some (wordN t.state.code ||| fld t.cls.toNat 3 |||
      bit (l.bindings.any (fun b => b.2.bound && decide (b.2.track.toNat = k) && decide (b.2.gen = t.gen))) 11 ||| fld t.gen.toNat 16)
  | 0x8004 => some (satWord t.north)
  | 0x8008 => some (satWord t.east)
  | 0x800C => some (satWordU (isqrt t.var.toNat))
  | 0x8010 => some (wordN (t.consec % 65536) ||| fld (t.misses % 65536) 16)
  | 0x8014 => some t.born
  | _ =>
    if 0x0040 ≤ ofs ∧ ofs < 0x0060 ∧ ofs % 4 = 0 then
      let b := Tab.get Binding.zero l.bindings ((ofs - 0x40) / 4)
      some (b.track.setWidth 32 ||| fld b.gen.toNat 12 ||| bit b.bound 31)
    else if 0x0060 ≤ ofs ∧ ofs < 0x0080 ∧ ofs % 4 = 0 then
      some ((Tab.get Binding.zero l.bindings ((ofs - 0x60) / 4)).slotReg.setWidth 32)
    else if 0x0100 ≤ ofs ∧ ofs < 0x0180 ∧ ofs % 4 = 0 then
      let s := l.src ((ofs - 0x100) / 16)
      match ofs % 16 with
      | 0 => some s.frames
      | 4 => some s.drops
      | 8 => some s.ignored
      | _ => some (s.lastDrop.setWidth 32)
    else none

/-- W1C of LUN_FLAGS. -/
def LunSt.clearFlags (l : LunSt) (w : Word) : LunSt :=
  { l with
    flBindRefused := l.flBindRefused && !bitOf w 0, flDevLimit := l.flDevLimit && !bitOf w 1
    flTrkFull := l.flTrkFull && !bitOf w 2, flCalReset := l.flCalReset && !bitOf w 3 }

/-- A device's entry in the allocation table. -/
def AlcSt.devCfg (a : AlcSt) (k : Nat) : Option AlcDevCfg := (a.cfgs.find? (fun p => decide (p.1 = k))).map Prod.snd

/-- A read of the ALC block (Table 10.11); `k` is the device ALC_CHSEL selects. -/
def AlcSt.read (a : AlcSt) (k : Nat) (ofs : Nat) : Option Word :=
  let d := a.dev k
  let c := a.devCfg k
  let lost := (a.maskOfState .lost).toNat
  let lock := (a.maskOfState .locked).toNat
  let cnt := fun (s : DevState) => ((List.range 48).filter (fun j => decide (a.stateOf j = s))).length
  match ofs with
  | 0x0000 => some 0x09010000
  | 0x0004 => some (wordN (a.variant.toNat % 4096) ||| bit a.fallback 12 ||| bit a.override.isSome 13 ||| bit a.zero 14 |||
      fld (cnt .available) 16 ||| fld (cnt .lost) 22)
  | 0x0010 => some (wordN k)
  | 0x0020 => some (a.sticky.setWidth 32)
  | 0x0024 => some (wordN (a.ovrReg.toNat % 4096) ||| bit (a.ovrReg.getLsbD 15) 31)
  | 0x0028 => some (lo32 lost)
  | 0x002C => some (hi32 lost)
  | 0x0030 => some (lo32 lock)
  | 0x0034 => some (hi32 lock)
  | 0x0038 => some a.switches
  | 0x003C => some a.fallbacks
  | 0x0040 => some a.helds
  | 0x0044 => some a.slackBeats
  | 0x8000 => some (match c with | some x => wordN (x.kind.toNat % 8) ||| fld x.sectors.length 4 | none => 0)
  | 0x8004 => some (wordN (if a.table.isNone then d.state.code else (a.stateOf k).code) ||| fld d.reason.toNat 2 ||| fld d.sector.code 6 |||
      fld d.dflags.toNat 8)
  | 0x8008 => some (satWord d.thrust)
  | 0x800C => some d.angle
  | 0x8010 => some d.fbAngle
  | 0x8014 => some (if d.state = .locked then d.dLock else 0)
  | 0x8018 => some 0
  | 0x801C => some (d.enabled.setWidth 32)
  | 0x8020 => some d.losses
  | 0x8024 => some d.rateLim
  | 0x8028 => some d.crossings
  | _ => none

/-- W1C of ALC_FLAGS. -/
def AlcSt.clearFlags (a : AlcSt) (w : Word) : AlcSt := { a with sticky := a.sticky &&& ~~~ (w.setWidth 11) }

/-- The packed shifts of a coefficient set. -/
def shiftWord (l : List Nat) (n : Nat) : Word := (List.range n).foldl (fun a k => a ||| fld (l.getD k 0 % 32) (5 * k)) 0

/-- A read of the CTL block (Table 11.11); `k` is the slot CTL_CHSEL selects. -/
def CtlSt.read (c : CtlSt) (k : Nat) (ofs : Nat) : Option Word :=
  let s := c.slot k
  let f := c.slotCfg k
  match ofs with
  | 0x0000 => some 0x0A010000
  | 0x0004 => some (wordN c.mode.code ||| fld c.permit.toNat 8 ||| bit c.posRamp.isSome 13 ||| bit c.psiRamp.isSome 14)
  | 0x0010 => some (wordN k)
  | 0x0020 => some 0
  | 0x0024 => some (wordI c.regN)
  | 0x0028 => some (wordI c.regE)
  | 0x002C => some c.regPsi
  | 0x0030 => some 0
  | 0x0034 => some (c.tgt.setWidth 32)
  | 0x0038 => some (c.sticky.setWidth 32)
  | 0x003C => some c.refused
  | 0x0040 => some c.superseded
  | 0x0044 => some c.degrades
  | 0x8000 => some (match f with
      | some x => wordN (x.order.toNat % 4) ||| fld (x.tag.toNat % 4) 2 ||| fld (x.perBeat.toNat % 16) 4 ||| fld (x.every.toNat % 1024) 8
      | none => 0)
  | 0x8004 => some (match f with | some x => x.input | none => 0)
  | 0x8008 => some (wordI s.x)
  | 0x800C => some (wordI s.out)
  | 0x8010 => some (wordI s.ys)
  | 0x8014 => some (s.flags.setWidth 32)
  | 0x8018 => some (wordI (s.shadow.b.getD 0 0))
  | 0x801C => some (wordI (s.shadow.b.getD 1 0))
  | 0x8020 => some (wordI (s.shadow.b.getD 2 0))
  | 0x8024 => some (wordI (s.shadow.b.getD 3 0))
  | 0x8028 => some (wordI (s.shadow.a.getD 0 0))
  | 0x802C => some (wordI (s.shadow.a.getD 1 0))
  | 0x8030 => some (wordI (s.shadow.a.getD 2 0))
  | 0x8034 => some (shiftWord s.shadow.sb 4)
  | 0x8038 => some (shiftWord s.shadow.sa 3)
  | 0x803C => some 0
  | 0x8040 => some s.runs
  | 0x8044 => some s.clamps
  | _ =>
    if 0x0100 ≤ ofs ∧ ofs < 0x0180 ∧ ofs % 4 = 0 then
      some (fld (Tab.get WinchSt.zero c.winches ((ofs - 0x100) / 4)).mode.code 4)
    else if 0x0180 ≤ ofs ∧ ofs < 0x01A0 ∧ ofs % 4 = 0 then
      let x := Tab.get StabSt.zero c.stabs ((ofs - 0x180) / 4)
      some (bit x.enabled 0 ||| bit x.gated 1)
    else none

/-- W1C of CTL_FLAGS and CTL_S_FLAGS. -/
def CtlSt.clearFlags (c : CtlSt) (w : Word) : CtlSt := { c with sticky := c.sticky &&& ~~~ (w.setWidth 8) }
def SlotSt.clearFlags (s : SlotSt) (w : Word) : SlotSt := { s with flags := s.flags &&& ~~~ (w.setWidth 5) }

/-- A coefficient register of a slot written (R307): b_k, a_k or the packed shifts. -/
def SlotSt.writeCoef (s : SlotSt) (ofs : Nat) (w : Word) : SlotSt :=
  let h := s.shadow
  let put (l : List Int) (j : Nat) : List Int := (List.range l.length).map (fun i => if i = j then w.toInt else l.getD i 0)
  let h' : Coefs :=
    if ofs = 0x8034 then { h with sb := (List.range 4).map (fun i => bits w (5 * i + 4) (5 * i)) }
    else if ofs = 0x8038 then { h with sa := (List.range 3).map (fun i => bits w (5 * i + 4) (5 * i)) }
    else if ofs < 0x8028 then { h with b := put h.b ((ofs - 0x8018) / 4) }
    else { h with a := put h.a ((ofs - 0x8028) / 4) }
  { s with shadow := h' }

/-- A read of the OUT block (Table 12.8); `k` is the output OUT_CHSEL selects. -/
def OutBlk.read (o : OutBlk) (k : Nat) (gate : Bool) (ofs : Nat) : Option Word :=
  let x := o.out k
  let c := o.entry k
  match ofs with
  | 0x0000 => some 0x0B010000
  | 0x0004 => some (o.domain.code ||| bit o.fallback 2 ||| bit o.cfg.isSome 3 ||| fld o.nFail 4)
  | 0x0010 => some (wordN k)
  | 0x0020 => some (lowOf o.holdBeat)
  | 0x0024 => some (highOf o.holdBeat)
  | 0x0028 => some o.holdUs
  | 0x002C => some (lowOf o.gpioIn)
  | 0x0030 => some (highOf o.gpioIn)
  | 0x0034 => some (o.flags.setWidth 32)
  | 0x0038 => some o.holds
  | 0x0040 => some (match o.cfg with
      | some t => wordN (t.annBias.toNat % 4) ||| fld (t.vlcdCode.toNat % 32) 2 ||| fld (t.refresh.toNat % 4) 8
      | none => 0)
  | 0x8000 => some (match c with | some e => wordN (e.kind.toNat % 8) ||| fld (e.srcKind.toNat % 8) 8 ||| fld e.srcIndex.toNat 16 | none => 0)
  | 0x8004 => some (wordN x.state.code ||| bit x.latched 2)
  | 0x8008 => some (o.pinOf k gate).word
  | 0x800C => some x.host
  | 0x8010 => some 0
  | 0x8014 => some (x.flags.setWidth 32)
  | 0x8018 => some (match c with | some e => wordN (e.holdLimit.toNat % 512) | none => 0)
  | 0x801C => some x.fails
  | 0x8020 => some x.loops
  | _ =>
    if 0x0050 ≤ ofs ∧ ofs < 0x0068 ∧ ofs % 4 = 0 then some (wordN (o.lit.toNat / 2 ^ (8 * (ofs - 0x50))))
    else if 0x0070 ≤ ofs ∧ ofs < 0x0088 ∧ ofs % 4 = 0 then some (wordN (o.annHost.toNat / 2 ^ (8 * (ofs - 0x70))))
    else none

/-- W1C of OUT_FLAGS and OUT_O_FLAGS; a write of OUT_ANN_HOSTk. -/
def OutBlk.clearFlags (o : OutBlk) (w : Word) : OutBlk := { o with flags := o.flags &&& ~~~ (w.setWidth 5) }
def OutSt.clearFlags (x : OutSt) (w : Word) : OutSt := { x with flags := x.flags &&& ~~~ (w.setWidth 7) }
def OutBlk.writeAnn (o : OutBlk) (k : Nat) (w : Word) : OutBlk :=
  let m : BitVec 192 := (BitVec.allOnes 32).setWidth 192 <<< (32 * k)
  { o with annHost := (o.annHost &&& ~~~ m) ||| (w.setWidth 192 <<< (32 * k)) }

/-- The terms of a list of 48-bit counts as a run of 64-bit pairs from `base`. -/
def ledRead (terms : List Count48) (base ofs : Nat) : Option Word :=
  if ofs < base ∨ ofs % 4 ≠ 0 then none
  else match (terms.drop ((ofs - base) / 8)).head? with
    | none => none
    | some c => if (ofs - base) % 8 = 0 then some (lowOf c) else some (highOf c)

/-- The terms of the ledgers in register order. -/
def TxLedger.terms (l : TxLedger) : List Count48 :=
  [l.requested, l.sent, l.gated, l.arbLimit, l.errorPassive, l.busOff, l.restart, l.window, l.listen]
def RingLedger.terms (l : RingLedger) (occ : Nat) : List Count48 :=
  [l.produced, l.consumed, BitVec.ofNat 48 occ, l.full, l.reset, l.restart, l.stale]
def SrcLedger.terms (l : SrcLedger) : List Count48 := [l.offered, l.admitted, l.quota, l.timeLost, l.late, l.restart]
def HostLedger.terms (l : HostLedger) : List Count48 := [l.received, l.applied, l.refused, l.restart, l.superseded, l.takeover]

/-- What a field-bus read depends on beside the block: the three selections and the source ledgers, live and at the
snapshot. -/
structure FbuView where
  chsel   : Word
  bufsel  : Word
  srcsel  : Word
  live    : Tab SrcLedger
  snap    : Tab SrcLedger
deriving DecidableEq, Repr

/-- The head word of a receive buffer (Table 13.11). -/
def bufHead (b : RxBuf) : Word :=
  match b.frame with
  | none => 0
  | some f => (f.1.ident &&& 0x3FFFFFFF) ||| bit f.1.fd 30 ||| bit true 31

/-- The end word of a receive buffer. -/
def bufEnd (b : RxBuf) : Word :=
  (match b.frame with | none => 0 | some f => wordN (f.1.data.length % 128)) ||| fld b.lost.toNat 8 ||| bit b.shadow.isSome 16

/-- The value of a read of the FBU block (Table 13.11); the read of FBU_B_HEAD locks besides, and that of FBU_B_END releases (`State.lockRead`). -/
def FbuSt.read (f : FbuSt) (v : FbuView) (ofs : Nat) : Option Word :=
  let ch := bits v.chsel 3 0
  let c := f.chan ch
  let s := Tab.get SerSt.zero f.serial (bits v.chsel 11 8)
  let rg := bits v.chsel 21 16
  let r := f.ring rg
  let snap := bitOf v.chsel 31
  let buf := Tab.get RxBuf.zero f.buffers (ch * 512 + bits v.bufsel 8 0)
  let nodes := (f.nodesOf ch).map (fun n => ch * 128 + n.address.toNat)
  let set := (nodes.filter (fun k => decide ((f.node k).state = .settled))).length
  let all := f.nodes.filter (fun p => decide (p.2.state ≠ .none))
  match ofs with
  | 0x0000 => some 0x0C010000
  | 0x0004 => some (((maskOf 16 ((List.range 16).filter (fun k => decide ((f.chan k).mode = .active) || decide ((f.chan k).mode = .busOff)))) : BitVec 16).setWidth 32 |||
      fld ((maskOf 12 ((List.range 12).filter (fun k => decide ((Tab.get SerSt.zero f.serial k).rate ≠ 0)))) : BitVec 12).toNat 16 |||
      bit ((List.range 16).any (fun k => decide ((f.chan k).mode = .busOff))) 28)
  | 0x0010 => some v.chsel
  | 0x0014 => some v.bufsel
  | 0x0018 => some v.srcsel
  | 0x0020 => some (f.flags.setWidth 32)
  | 0x0024 => some (wordN (all.filter (fun p => decide (p.2.state ≠ .settled))).length)
  | 0x0028 => some (f.winPend.setWidth 32)
  | 0x8000 => some ((match f.cfg ch with | some g => wordN (g.role.toNat % 4) | none => 0) ||| fld c.nom.toNat 2 ||| fld c.dat.toNat 5)
  | 0x8004 => some (wordN c.mode.code ||| bit c.passive 2 ||| bit c.mismatch 3 ||| bit (maskBit f.winActive ch) 4 ||| fld (min 255 c.txErr) 8 |||
      fld (min 255 c.rxErr) 16)
  | 0x8008 => some 0
  | 0x800C => some (wordN set ||| fld nodes.length 8)
  | 0x8010 => some c.rxFrames
  | 0x8014 => some c.rxUnmatched
  | 0x8018 => some c.rxErrors
  | 0x801C => some c.startFrames
  | 0x8020 => some c.refLate
  | 0x8024 => some c.busOffs
  | 0x8028 => some c.lostLocked
  | 0x802C => some c.lockExpired
  | 0x8030 => some c.amdIgnored
  | 0x9000 => some (bufHead buf)
  | 0x9004 => some (match buf.frame with | some x => lo32 x.2 | none => 0)
  | 0x9008 => some (match buf.frame with | some x => hi32 x.2 | none => 0)
  | 0x904C => some (bufEnd buf)
  | 0xA000 => some (s.rate.setWidth 32 ||| bit s.auto 3)
  | 0xA004 => some s.sentences
  | 0xA008 => some s.bad
  | 0xA00C => some s.unmatched
  | 0xA010 => some f.ethIgnored
  | 0xB000 => some (match f.ringCfg rg with
      | some g => wordN (g.depth.toNat % 512) ||| fld (g.entryBytes.toNat % 512) 9 ||| fld (g.producer.toNat % 8) 20 ||| fld (g.consumer.toNat % 8) 24
      | none => 0)
  | 0xB004 => some (wordN r.entries.length ||| (match f.ringCfg rg with | some g => fld (g.depth.toNat - r.entries.length) 16 | none => 0))
  | 0xB008 => some r.seq
  | 0xB00C => some 0
  | _ =>
    if ofs % 4 ≠ 0 then none
    else if 0x8040 ≤ ofs ∧ ofs < 0x8088 then ledRead (if snap then c.ledgerSnap else c.ledger).terms 0x8040 ofs
    else if 0x8100 ≤ ofs ∧ ofs < 0x8180 then some (f.window ch 0 ((ofs - 0x8100) / 4))
    else if 0x8180 ≤ ofs ∧ ofs < 0x8200 then some (f.window ch 1 ((ofs - 0x8180) / 4))
    else if 0x8200 ≤ ofs ∧ ofs < 0x8400 then
      let n := f.node (ch * 128 + (ofs - 0x8200) / 4)
      some (wordN n.state.code ||| fld n.rate.toNat 4 ||| fld n.cls.toNat 8 ||| fld n.best.toNat 12 ||| fld n.fresh.toNat 16)
    else if 0x900C ≤ ofs ∧ ofs < 0x904C then
      some (match buf.frame with | some x => wordN (leAt x.1.data (ofs - 0x900C) 4) | none => 0)
    else if 0xB040 ≤ ofs ∧ ofs < 0xB078 then
      ledRead (if snap then r.snap.terms r.snapOcc else r.ledger.terms r.entries.length) 0xB040 ofs
    else if 0xC000 ≤ ofs ∧ ofs < 0xC030 then
      ledRead (Tab.get SrcLedger.zero (if snap then v.snap else v.live) (bits v.srcsel 14 0)).terms 0xC000 ofs
    else none

/-- W1C of FBU_FLAGS. -/
def FbuSt.clearFlags (f : FbuSt) (w : Word) : FbuSt := { f with flags := f.flags &&& ~~~ (w.setWidth 8) }

/-- What a session reads as. -/
def HstSt.sess (h : HstSt) (k : Nat) : SessionSt := Tab.get SessionSt.zero h.sessions k

/-- The mask of open sessions. -/
def HstSt.openMask (h : HstSt) : Half := maskOf 16 ((List.range 16).filter (fun k => (h.sess (k + 1)).isOpen))

/-- IDLE_S in beats. -/
def HstSt.idleBeats (h : HstSt) : Nat := match h.netCfg with | some n => n.idleS.toNat * 1000 | none => 0

/-- A read of the HST block (Table 14.10); `sel` is the requester's HST_CHSEL. -/
def HstSt.read (h : HstSt) (sel : Word) (ofs : Nat) : Option Word :=
  let k := bits sel 4 0
  let s := h.sess k
  let port := fun (j : Nat) => Tab.get PortSt.zero h.ports j
  match ofs with
  | 0x0000 => some 0x0D010000
  | 0x0004 => some (h.openMask.setWidth 32 ||| fld ((maskOf 4 ((List.range 4).filter (fun j => (port j).up))) : BitVec 4).toNat 16 |||
      fld ((maskOf 4 ((List.range 4).filter (fun j => decide ((port j).ptpState = 6)))) : BitVec 4).toNat 20 ||| bit h.provisional 24)
  | 0x0010 => some sel
  | 0x0020 => some h.badFrame
  | 0x0024 => some h.badTag
  | 0x0028 => some h.refusedAdm
  | 0x002C => some h.redundant
  | 0x0030 => some h.streamSent
  | 0x0034 => some (match h.snapshots.head? with | some x => lowOf x.beat | none => 0)
  | 0x8000 => some (if k = 0 then 0 else bit s.isOpen 0 ||| fld s.role.toNat 1 ||| fld s.slot.toNat 4 ||| fld (s.queue.length % 128) 8)
  | 0x8004 => some (if k = 0 then 0 else s.lastSeq)
  | 0x8008 => some (if k = 0 then 0 else s.lastHandled)
  | 0x800C => some (if k = 0 ∨ s.isOpen = false then 0 else wordN ((h.idleBeats - s.idleBeats + 999) / 1000))
  | _ => if 0x8040 ≤ ofs ∧ ofs < 0x8070 then ledRead (if bitOf sel 31 then s.ledgerSnap else s.ledger).terms 0x8040 ofs else none

/-- The offset of the low word of a 64-bit pair in a block (R524): the registers whose tables give a low and a high word. -/
def isPairLow (block ofs : Nat) : Bool :=
  match block with
  | 0x01 => [0x24, 0x40, 0x48, 0x50, 0x70].contains ofs
  | 0x02 => [0x2C].contains ofs
  | 0x03 => [0x20, 0x28, 0x4C, 0x54, 0x64, 0x8004].contains ofs
  | 0x05 => [0x8010, 0x8018].contains ofs
  | 0x09 => [0x28, 0x30].contains ofs
  | 0x0B => [0x20, 0x2C].contains ofs
  | 0x0C => decide (ofs = 0x9004) || (decide (0x8040 ≤ ofs) && decide (ofs < 0x8088) && decide (ofs % 8 = 0)) ||
      (decide (0xB040 ≤ ofs) && decide (ofs < 0xB078) && decide (ofs % 8 = 0)) || (decide (0xC000 ≤ ofs) && decide (ofs < 0xC030) && decide (ofs % 8 = 0))
  | 0x0D => decide (0x8040 ≤ ofs) && decide (ofs < 0x8070) && decide (ofs % 8 = 0)
  | 0x0E => [0x20, 0x28, 0x30].contains ofs
  | 0x10 => [0x30, 0x38, 0x40].contains ofs
  | 0x11 => [0x30].contains ofs
  | 0x12 => [0x38, 0x800C, 0x8014, 0x801C].contains ofs
  | _ => false

end Sys2Proof.Machine
end

