-- ==== Sys2Proof/Machine/HostCore.lean ====
section
/-! DEFINITION. The host block: datagrams, admission, sessions, command ledgers, responses, region sets (14_host_protocol.md). -/

namespace Sys2Proof.Machine

open Sys2Proof

/-- Status codes of Table 14.7. -/
def stStarting : Half := 0x0002
def stNoImage : Half := 0x0003
def stBusy : Half := 0x0004
def stRole : Half := 0x0005
def stSeq : Half := 0x0006
def stUnknownOp : Half := 0x0008
def stNoSession : Half := 0x0009
def stKeySlot : Half := 0x000A
def stReplay : Half := 0x000B
def stSnapGone : Half := 0x000C
def stNotYet : Half := 0x000D
def stDiscarded : Half := 0x000E
def stSuperseded : Half := 0x000F
def stRange : Half := 0x0010
def stRefused : Half := 0x0011
def stPermissive : Half := 0x0012
def stRingFull : Half := 0x0025
def stStale : Half := 0x0026
def stResidual : Half := 0x0027
def stBusyOpen : Half := 0x0029

/-- Write a session. -/
def HstSt.setSess (h : HstSt) (k : Nat) (v : SessionSt) : HstSt := { h with sessions := Tab.set SessionSt.zero h.sessions k v }

/-- Append a response. -/
def HstSt.respond (h : HstSt) (r : Response) : HstSt := { h with responses := h.responses ++ [r] }

/-- A command's answer, sent by a device that received it (R407). -/
def HstSt.respondTo (h : HstSt) (ref : HostRef) (r : Response) : HstSt := if h.heard.contains ref then h.respond r else h

/-- How a host command is settled in its session's ledger (R40). -/
inductive CmdFate where
  | applied | refused | restart | superseded | takeover
deriving DecidableEq, Repr

/-- Settle `n` commands: RECEIVED and one other term count them together (R40). -/
def HostLedger.settle (l : HostLedger) (f : CmdFate) (n : Nat) : HostLedger :=
  let k : Count48 := BitVec.ofNat 48 n
  let r := { l with received := l.received + k }
  match f with
  | .applied => { r with applied := r.applied + k }
  | .refused => { r with refused := r.refused + k }
  | .restart => { r with restart := r.restart + k }
  | .superseded => { r with superseded := r.superseded + k }
  | .takeover => { r with takeover := r.takeover + k }

/-- FATE of a settled command (R407). -/
def CmdFate.code : CmdFate → BitVec 8
  | .applied => 1 | .refused => 2 | _ => 3

/-- Keep the fate of a HOST_SEQ, the last 256 (R407). -/
def SessionSt.keepFate (s : SessionSt) (seq : Word) (f : CmdFate) (beat : Long) : SessionSt :=
  { s with fates := ({ seq := seq, fate := f.code, beat := beat } :: s.fates).take 256 }

/-- A command of a session is settled in a beat (R404, R407); the idle count begins again at a command applied or
refused (R401). -/
def SessionSt.settle (s : SessionSt) (seq : Word) (f : CmdFate) (beat : Long) : SessionSt :=
  let t := (s.keepFate seq f beat)
  { t with
    ledger := t.ledger.settle f 1
    lastSeq := if f = .applied ∧ t.lastSeq < seq then seq else t.lastSeq
    lastHandled := if t.lastHandled < seq then seq else t.lastHandled
    idleBeats := if f = .applied ∨ f = .refused then 0 else t.idleBeats }

/-- A gap before a received HOST_SEQ (R405): the missing numbers are received and discarded TAKEOVER_UNSEEN. -/
def SessionSt.gap (s : SessionSt) (k : Nat) (seq : Word) (beat : Long) : SessionSt × List Ev :=
  if seq.toNat ≤ s.lastHandled.toNat + 1 then (s, [])
  else
    let missing := seq.toNat - s.lastHandled.toNat - 1
    let kept := (List.range (min missing 256)).map (fun (i : Nat) => s.lastHandled.toNat + missing - min missing 256 + 1 + i)
    let t := kept.foldl (fun (a : SessionSt) (q : Nat) => a.keepFate (BitVec.ofNat 32 q) .takeover beat) s
    ({ t with ledger := t.ledger.settle .takeover missing, lastHandled := seq - 1 }, [(0x0D03, [wordN k, s.lastHandled, seq])])

/-- The payload of a SEQ response (R407): the fate of a HOST_SEQ and its beat. -/
def SessionSt.fateWords (s : SessionSt) (seq : Word) : List Word :=
  match s.fates.find? (fun f => decide (f.seq = seq)) with
  | none => [0, 0, 0]
  | some f => [f.fate.setWidth 32, lowOf f.beat, highOf f.beat]

/-- A command's answer (R407). -/
def cmdResponse (ref : HostRef) (opcode : Half) (beat : Long) (st : Half) (detail : Word) (payload : List Word) : Response :=
  { session := ref.session, opcode := opcode, reqId := ref.reqId, hostSeq := ref.hostSeq, beat := beat, status := st, detail := detail,
    payload := payload, tagged := true, waits := true }

/-- A local request's answer. -/
def localResponse (ref : HostRef) (opcode : Half) (beat : Long) (st : Half) (detail : Word) (payload : List Word) : Response :=
  { session := ref.session, opcode := opcode, reqId := ref.reqId, hostSeq := ref.hostSeq, beat := beat, status := st, detail := detail,
    payload := payload, tagged := true, waits := false }

/-- Answer the parts of an unfinished region set alike and settle them (R406, R411). -/
def HstSt.dropRegion (h : HstSt) (k : Nat) (f : CmdFate) (st : Half) (beat : Long) : HstSt :=
  let s := h.sess k
  match s.region with
  | none => h
  | some r =>
    let t := r.2.foldl (fun (a : SessionSt) (p : RegionPart) => a.settle p.req.hostSeq f beat) { s with region := none }
    r.2.foldl (fun (a : HstSt) (p : RegionPart) => if p.own then a.respond (cmdResponse p.req 0x0020 beat st 0 []) else a) (h.setSess k t)

/-- A session closes (R401): cause 1 CLOSE, 2 idle, 3 reset.  Its ledger stays; its stream destinations go (R416). -/
def HstSt.closeSession (h : HstSt) (k : Nat) (cause : Nat) (beat : Long) : HstSt × List Ev :=
  let g := h.dropRegion k .refused stRefused beat
  let s := g.sess k
  if s.isOpen then
    ({ g.setSess k { SessionSt.zero with ledger := s.ledger, ledgerSnap := s.ledgerSnap } with
        dests := g.dests.filter (fun d => decide (d.session.toNat ≠ k)) }, [(0x0D02, [wordN k, wordN cause, s.lastSeq])])
  else (g, [])

/-- Every session closes (Table 3.7). -/
def HstSt.closeAll (h : HstSt) (cause : Nat) (beat : Long) : HstSt × List Ev :=
  (List.range 16).foldl (fun (a : HstSt × List Ev) (i : Nat) =>
    let r := a.1.closeSession (i + 1) cause beat
    (r.1, a.2 ++ r.2)) (h, [])

/-- The commands in the queues that a Beat restart discards (R43, R406): answered DISCARDED and counted RESTART. -/
def HstSt.discardSession (h : HstSt) (k : Nat) (beat : Long) : HstSt × Nat :=
  let s := h.sess k
  let refs := s.queue.map (fun c => (c.ref, c.opcode)) ++
    (match s.region with | some r => r.2.map (fun p => (p.req, (0x0020 : Half))) | none => [])
  let t := refs.foldl (fun (a : SessionSt) (r : HostRef × Half) => a.settle r.1.hostSeq .restart beat) { s with queue := [], region := none }
  (refs.foldl (fun (a : HstSt) (r : HostRef × Half) => a.respond (cmdResponse r.1 r.2 beat stDiscarded 0 [])) (h.setSess k t), refs.length)

/-- A command of the capture set that was not committed goes back to its queue, to be discarded with it (R43). -/
def HstSt.requeue (h : HstSt) (c : HostCmd) : HstSt :=
  let k := c.ref.session.toNat
  if k = 0 then { h with openQueue := h.openQueue ++ [c] }
  else h.setSess k { h.sess k with queue := (h.sess k).queue ++ [c] }

/-- HST at a Beat restart (R43, R406, event 0x0D04); `inFlight` are the commands of the capture set not yet committed. -/
def HstSt.beatRestart (h0 : HstSt) (inFlight : List HostCmd) (beat : Long) : HstSt × List Ev :=
  let h := inFlight.foldl HstSt.requeue h0
  let r := (List.range 16).foldl (fun (a : HstSt × List Nat × Nat) (i : Nat) =>
    let d := a.1.discardSession (i + 1) beat
    if d.2 = 0 then (d.1, a.2) else (d.1, i :: a.2.1, a.2.2 + d.2)) (h, [], 0)
  let h1 := r.1
  let s0 := h1.sess 0
  let n0 := h1.openQueue.length
  let led0 := s0.ledger.settle .restart n0
  let h2 := { h1.setSess 0 { s0 with ledger := led0 } with openQueue := [], toApply := [], heard := [] }
  let total := r.2.2 + n0
  if total = 0 then (h2, []) else (h2, [(0x0D04, [((maskOf 16 r.2.1 : BitVec 16)).setWidth 32, wordN total])])

/-- HST after a Cold start or an Image reset (R401, R413, R421). -/
def HstSt.imageReset (h : HstSt) : HstSt :=
  { HstSt.reset with ports := h.ports, nvmLast := h.nvmLast, nvmBusy := h.nvmBusy }

/-- A field of the header of a datagram (Table 14.2). -/
structure XhpHeader where
  magic    : Nat
  version  : Nat
  kind     : Nat
  session  : Nat
  lastPart : Bool
  opcode   : Nat
  reqId    : Word
  hostSeq  : Word
  beat     : Long
  len      : Nat
deriving DecidableEq, Repr

/-- The header as the bytes carry it. -/
def xhpHeader (b : List Byte) : XhpHeader :=
  { magic := leAt b 0 2, version := leAt b 2 1, kind := leAt b 3 1, session := leAt b 4 1, lastPart := decide (leAt b 5 1 % 2 = 1)
    opcode := leAt b 6 2, reqId := wordN (leAt b 8 4), hostSeq := wordN (leAt b 12 4), beat := BitVec.ofNat 64 (leAt b 16 8), len := leAt b 26 2 }

/-- Are MAGIC, VERSION, PAYLOAD_LEN and KIND right (R397)? -/
def frameOk (b : List Byte) : Bool :=
  let h := xhpHeader b
  decide (48 ≤ b.length) && decide (h.magic = 0x5058) && decide (h.version = 1) && decide (h.kind = 1) && decide (h.len ≤ 1400) &&
  decide (b.length = 48 + h.len)

/-- The signed part of a datagram, and its TAG (R399). -/
def signedPart (b : List Byte) : List Byte := b.take (b.length - 16)
def tagPart (b : List Byte) : BitVec 128 :=
  (b.drop (b.length - 16)).foldl (fun a x => (a <<< 8) ||| x.setWidth 128) 0
def payloadPart (b : List Byte) : List Byte := (b.drop 32).take ((xhpHeader b).len)

/-- Is the TAG right under a key? -/
def tagOk (key : BitVec 256) (b : List Byte) : Bool := decide (tagPart b = mac16 key (signedPart b))

/-- The least role of an opcode (Table 14.3), none for an opcode it does not list; OPEN and REGION_WRITE are judged where
they apply. -/
def leastRole (op : Nat) : Option Nat :=
  match op with
  | 0x0001 => some 0
  | 0x0002 | 0x0003 | 0x0010 | 0x0011 | 0x0012 | 0x0013 | 0x0015 | 0x0016 | 0x0020 => some 0
  | 0x0014 | 0x0030 | 0x0031 | 0x0032 | 0x0043 | 0x0044 => some 1
  | 0x0021 | 0x0033 | 0x0040 | 0x0041 | 0x0042 | 0x0045 | 0x0050 | 0x0051 => some 2
  | 0x0052 | 0x0060 | 0x0061 | 0x0062 | 0x0063 | 0x0064 => some 3
  | _ => none

/-- The staged registers of the pair domain (R14), by address: a WRITE_REG that names one is a union command. -/
def pairRegister (addr : Nat) : Bool :=
  let ofs := addr % 65536
  match addr / 65536 with
  | 0x07 => decide (ofs = 0x8008)
  | 0x08 => decide (ofs = 0x30) || (decide (0x40 ≤ ofs) && decide (ofs < 0x80))
  | 0x09 => [0x24, 0x8018, 0x801C].contains ofs
  | 0x0A => [0x20, 0x24, 0x28, 0x2C, 0x30, 0x34].contains ofs || (decide (0x100 ≤ ofs) && decide (ofs < 0x1A0)) ||
      (decide (0x8018 ≤ ofs) && decide (ofs < 0x8040))
  | _ => false

/-- Is a request a union command (Table 14.3)?  WRITE_REG is one when it names a pair-domain register. -/
def isUnion (op : Nat) (p : List Byte) : Bool :=
  match op with
  | 0x0001 | 0x0002 | 0x0003 | 0x0020 | 0x0030 | 0x0031 | 0x0032 | 0x0033 | 0x0041 | 0x0042 | 0x0043 | 0x0044 | 0x0045 | 0x0050 | 0x0052 => true
  | 0x0021 => (List.range (p.length / 8)).any (fun k => pairRegister (leAt p (8 * k) 4) || (decide (leAt p (8 * k) 4 = 0x000C8008) && decide (leAt p (8 * k + 4) 4 / 4 % 2 = 1)))
  | _ => false

/-- The payload format of each opcode (Table 14.3, R402 step 5); HOST_SEQ is 1 or more on a command. -/
def formatOk (op : Nat) (hostSeq : Word) (p : List Byte) : Bool :=
  let n := p.length
  let seqOk : Bool := if isUnion op p && decide (op ≠ 1) then decide (hostSeq ≠ 0) else true
  seqOk &&
  match op with
  | 0x0001 => decide (n = 20)
  | 0x0002 | 0x0003 | 0x0042 | 0x0060 => decide (n = 0)
  | 0x0010 => decide (0 < n) && decide (n % 4 = 0) && decide (n ≤ 64) &&
      decide (((List.range (n / 4)).map (fun k => leAt p (4 * k + 2) 2)).sum ≤ 1400)
  | 0x0011 => decide (0 < n) && decide (n % 4 = 0) && decide (n ≤ 256)
  | 0x0012 => decide (n = 5) && decide (1 ≤ leAt p 4 1) && decide (leAt p 4 1 ≤ 40)
  | 0x0013 => decide (n = 2)
  | 0x0014 => decide (1 ≤ n)
  | 0x0015 => decide (n = 12) && (decide (leAt p 0 1 = 1) || decide (leAt p 0 1 = 2))
  | 0x0016 => decide (n = 8)
  | 0x0020 => decide (8 ≤ n) && decide (n ≤ 1032) && decide (n % 4 = 0) && decide (leAt p 4 4 % 4 = 0)
  | 0x0021 => decide (0 < n) && decide (n % 8 = 0) && decide (n ≤ 512)
  | 0x0030 => decide (n = 1)
  | 0x0031 => decide (n = 13) && decide (leAt p 12 1 / 4 % 4 ≠ 3)
  | 0x0032 => decide (n = 1)
  | 0x0033 => decide (n = 4)
  | 0x0040 => decide (8 ≤ n) && decide (n ≤ 1032)
  | 0x0041 => decide (n = 8)
  | 0x0043 => decide (n = 12)
  | 0x0044 => decide (4 ≤ n) && decide (n % 4 = 0)
  | 0x0045 => decide (8 ≤ n)
  | 0x0050 => decide (n = 1)
  | 0x0051 => decide (n = 2)
  | 0x0052 => decide (n = 12)
  | 0x0061 => decide (5 < n) && decide (n ≤ 1029)
  | 0x0062 => decide (n = 9)
  | 0x0063 => decide (n = 2)
  | 0x0064 => decide (n = 2)
  | _ => true

/-- What admission depends on outside the block. -/
structure HostView where
  otp      : OtpSt
  phase    : StartPhase
  beat     : Long
  pairId   : Long
  now      : Nat
deriving DecidableEq, Repr

/-- A response without a TAG (R396). -/
def bareResponse (x : XhpHeader) (beat : Long) (st : Half) : Response :=
  { session := 0, opcode := BitVec.ofNat 16 x.opcode, reqId := x.reqId, hostSeq := x.hostSeq, beat := beat, status := st, detail := 0, payload := [],
    tagged := false, waits := false }

/-- A tagged response of admission (R402): the request has failed a check. -/
def failResponse (x : XhpHeader) (beat : Long) (st : Half) (detail : Word) : Response :=
  { session := BitVec.ofNat 8 x.session, opcode := BitVec.ofNat 16 x.opcode, reqId := x.reqId, hostSeq := x.hostSeq, beat := beat, status := st,
    detail := detail, payload := [], tagged := true, waits := false }

/-- The reference that a header gives. -/
def refOf (x : XhpHeader) : HostRef := { session := BitVec.ofNat 8 x.session, hostSeq := x.hostSeq, reqId := x.reqId }

/-- The host-command item content of an admitted command (R403). -/
def hostCmdOf (x : XhpHeader) (p : List Byte) : HostCmd :=
  { ref := refOf x, opcode := BitVec.ofNat 16 x.opcode, check := crc32c p, payload := packBytes p }

/-- An admission refusal is counted (R402). -/
def HstSt.refuse (h : HstSt) (x : XhpHeader) (beat : Long) (st : Half) (detail : Word) : HstSt :=
  { h with refusedAdm := h.refusedAdm + 1 }.respond (failResponse x beat st detail)

/-- A datagram whose TAG fails (R397). -/
def HstSt.badTagFrom (h : HstSt) (address : Word) : HstSt :=
  { h with badTag := h.badTag + 1, badTagRound := h.badTagRound + 1, badTagAddr := address }

/-- An OPEN datagram (R399, R400, R402): the slot, the TAG, a redundant copy, REQ_ID, role and format, then the queue for the capture set. -/
def HstSt.openRequest (h : HstSt) (v : HostView) (address : Word) (b : List Byte) : HstSt :=
  let x := xhpHeader b
  let p := payloadPart b
  let slot := leAt p 0 1
  let role := leAt p 1 1
  let k := Tab.get HostKeySlot.none v.otp.hostKeys slot
  if slot ≥ 8 ∨ k.state ≠ .valid then h.respond (bareResponse x v.beat stKeySlot)
  else if !tagOk k.key b then h.badTagFrom address
  else if h.openAccepted.contains (BitVec.ofNat 3 slot, x.reqId, tagPart b) then { h with redundant := h.redundant + 1 }
  else if x.reqId ≤ Tab.get 0 h.openReqIds slot then h.refuse x v.beat stReplay 0
  else if role > 3 ∨ k.role.toNat < role then h.refuse x v.beat stRole (wordN k.role.toNat)
  else if !formatOk 1 x.hostSeq p then h.refuse x v.beat stBadRequest 0
  else if v.phase = .noImage ∧ role ≠ 3 then h.respond (bareResponse x v.beat stNoImage)
  else if Config.openBuffers ≤ h.openQueue.length then h.respond (bareResponse x v.beat stBusyOpen)
  else
    let g := { h with openReqIds := Tab.set 0 h.openReqIds slot x.reqId
                      openAccepted := (BitVec.ofNat 3 slot, x.reqId, tagPart b) :: h.openAccepted }
    if v.phase = .noImage then { g with toApply := g.toApply ++ [refOf x], heard := g.heard ++ [refOf x] }
    else { g with openQueue := g.openQueue ++ [hostCmdOf x p] }

/-- CMD_QUEUE of the NET_CFG in force. -/
def HstSt.cmdQueue (h : HstSt) : Nat := match h.netCfg with | some n => n.cmdQueue.toNat | none => 0

/-- The opcodes NO_IMAGE serves in a session (R96): NVM write and erase, and RESET_IMAGE. -/
def noImageServes (op : Nat) : Bool := op = 0x60 || op = 0x61 || op = 0x62

/-- A datagram of a session (R402, R403). -/
def HstSt.sessionRequest (h : HstSt) (v : HostView) (address : Word) (b : List Byte) : HstSt :=
  let x := xhpHeader b
  let p := payloadPart b
  let s := h.sess x.session
  let tag := tagPart b
  if ¬ (1 ≤ x.session ∧ x.session ≤ 16) ∨ s.isOpen = false ∨ tagOk s.key b = false then h.badTagFrom address
  else if s.accepted.contains (x.reqId, tag) then { h with redundant := h.redundant + 1 }
  else if v.phase = .noImage ∧ noImageServes x.opcode = false then h.respond (bareResponse x v.beat stNoImage)
  else if x.reqId ≤ s.reqMax then h.refuse x v.beat stReplay 0
  else
    match leastRole x.opcode with
    | none => h.refuse x v.beat stUnknownOp 0
    | some least =>
      if x.opcode = 1 then h.refuse x v.beat stUnknownOp 0
      else if s.role.toNat < least then h.refuse x v.beat stRole (wordN least)
      else if !formatOk x.opcode x.hostSeq p then h.refuse x v.beat stBadRequest 0
      else if isUnion x.opcode p then
        if h.cmdQueue ≤ s.queue.length then h.refuse x v.beat stBusy 0
        else h.setSess x.session { s with reqMax := x.reqId, accepted := (x.reqId, tag) :: s.accepted, queue := s.queue ++ [hostCmdOf x p] }
      else h.setSess x.session { s with reqMax := x.reqId, accepted := (x.reqId, tag) :: s.accepted }

/-- An XHP datagram (R397 to R403). -/
def HstSt.request (h : HstSt) (v : HostView) (q : XhpRequest) : HstSt :=
  let x := xhpHeader q.bytes
  if !frameOk q.bytes then { h with badFrame := h.badFrame + 1 }
  else if v.phase ≠ .running ∧ v.phase ≠ .noImage then h.respond (bareResponse x v.beat stStarting)
  else if x.session = 0 ∧ x.opcode = 1 then h.openRequest v q.address q.bytes
  else if x.session = 0 ∧ v.phase = .noImage then h.respond (bareResponse x v.beat stNoImage)
  else h.sessionRequest v q.address q.bytes

/-- Commands of a session that enter one capture set, at most CMD_PER_BEAT (R403). -/
def HstSt.takeCommands (h : HstSt) (k : Nat) : HstSt × List HostCmd :=
  let per := match h.netCfg with | some n => n.cmdPerBeat.toNat | none => 0
  let s := h.sess k
  (h.setSess k { s with queue := s.queue.drop per }, s.queue.take per)

/-- Every command that enters the capture set at an edge: OPENs on channel 0, then the sessions' (R399, R403). -/
def HstSt.takeAll (h : HstSt) : HstSt × List (Nat × HostCmd) :=
  let h0 := { h with openQueue := [] }
  (List.range 16).foldl (fun (a : HstSt × List (Nat × HostCmd)) (i : Nat) =>
    let t := a.1.takeCommands (i + 1)
    (t.1, a.2 ++ t.2.map (fun c => (i + 1, c)))) (h0, h.openQueue.map (fun c => (0, c)))

/-- The lowest free session number, 0 when all 16 are open (R399). -/
def HstSt.freeSession (h : HstSt) : Nat :=
  match (List.range 16).find? (fun k => !(h.sess (k + 1)).isOpen) with | some k => k + 1 | none => 0

/-- The bytes of a 128-bit nonce packed for a payload. -/
def nonceWords (v : BitVec 128) : List Word := packBytes (bytes16 v)

/-- OPEN in the beat of its union (R399, R400): the session, NONCE_D and K_s, or NO_SESSION.  `beat` is the BEAT of the
HMAC inputs and `pairId` its PAIR_ID. -/
def HstSt.open_ (h : HstSt) (otp : OtpSt) (ref : HostRef) (slot : BitVec 3) (role : BitVec 2) (nonceH : BitVec 128) (beat pairId : Long) :
    HstSt × List Ev :=
  let key := (Tab.get HostKeySlot.none otp.hostKeys slot.toNat).key
  let s := h.freeSession
  let s0 := h.sess 0
  if s = 0 then
    ((h.setSess 0 { s0 with ledger := s0.ledger.settle .refused 1 }).respondTo ref
      { cmdResponse { ref with session := 0 } 0x0001 beat stNoSession 0 [] with waits := true }, [])
  else
    let nd := mac16 key (lblHpd ++ leBytes 8 pairId.toNat ++ leBytes 8 beat.toNat ++ bytes16 nonceH)
    let ks := Config.hmac key (lblHps ++ bytes16 nonceH ++ bytes16 nd ++ [BitVec.ofNat 8 s])
    let old := h.sess s
    let g := (h.setSess 0 { s0 with ledger := s0.ledger.settle .applied 1 }).setSess s
      { SessionSt.zero with isOpen := true, role := role, slot := slot, key := ks, ledger := old.ledger, ledgerSnap := old.ledgerSnap }
    (g.respondTo ref (cmdResponse { ref with session := BitVec.ofNat 8 s } 0x0001 beat stApplied 0 (nonceWords nd)),
     [(0x0D01, [wordN s, role.setWidth 32, slot.setWidth 32])])

/-- A union command's reference waits to be applied, with no earlier one of its session before it (R404); it is taken
once. -/
def HstSt.take (h : HstSt) (ref : HostRef) : Option HstSt :=
  if (h.toApply.filter (fun r => decide (r.session = ref.session))).head? = some ref then some { h with toApply := h.toApply.erase ref } else none

/-- Settle and answer a union command of a session: APPLIED with status 0x0001, otherwise refused (R404, R407). -/
def HstSt.answer (h : HstSt) (ref : HostRef) (opcode : Half) (beat : Long) (st : Half) (detail : Word) : HstSt :=
  let k := ref.session.toNat
  (h.setSess k ((h.sess k).settle ref.hostSeq (if st = stApplied then .applied else .refused) beat)).respondTo ref
    (cmdResponse ref opcode beat st detail [])

/-- A refusal SEQ (R404). -/
def HstSt.answerSeq (h : HstSt) (ref : HostRef) (opcode : Half) (beat : Long) : HstSt :=
  let k := ref.session.toNat
  let s := h.sess k
  let words := s.fateWords ref.hostSeq
  (h.setSess k { s with ledger := s.ledger.settle .refused 1, idleBeats := 0 }).respondTo ref
    (cmdResponse ref opcode beat stSeq s.lastSeq words)

/-- The snapshot record that a READ_SNAPSHOT names, or its status (R413). -/
def HstSt.snapshotOf (h : HstSt) (beat : Long) : Except (Half × Word) PubRec :=
  match h.snapshots.getLast?, h.snapshots.head? with
  | some newest, some oldest =>
    if beat = 0 then .ok newest
    else match h.snapshots.find? (fun r => decide (r.beat = beat)) with
      | some r => .ok r
      | none => if newest.beat.toNat < beat.toNat then .error (stNotYet, lowOf newest.beat) else .error (stSnapGone, lowOf oldest.beat)
  | _, _ => .error (stNotYet, 0)

/-- The bytes of the extents of a record (R413). -/
def extentBytes (r : PubRec) (ext : List (Half × Half)) : List Byte :=
  let b := wordBytes r.words
  ext.flatMap (fun e => (List.range e.2.toNat).map (fun i => (b.drop (e.1.toNat + i)).headD 0))

/-- Keep a record in the snapshot store, the last 1,024 (R413). -/
def HstSt.keep (h : HstSt) (r : PubRec) : HstSt :=
  let l := h.snapshots ++ [r]
  { h with snapshots := l.drop (l.length - 1024) }

/-- A destination as STREAM_CTRL names it (R416): UDP port 0 means 47201. -/
def destPort (p : Half) : Half := if p = 0 then 47201 else p

/-- TTL of a destination: 1 to 255 for a multicast address, 0 for a unicast one (R416). -/
def ttlOk (d : NetDest) : Bool := decide (d.ttl ≠ 0) == decide (d.address.toNat / 2 ^ 28 = 14)

/-- STREAM_CTRL ADD (R416): true when it is added. -/
def HstSt.streamAdd (h : HstSt) (session : BitVec 8) (d : NetDest) : HstSt × Bool :=
  let bad := decide (d.ports.toNat % 4 = 0) || !ttlOk d || decide (4 ≤ h.dests.length) ||
    h.dests.any (fun x => decide (x.address = d.address) && decide (x.port = destPort d.port))
  if bad then (h, false)
  else ({ h with dests := h.dests ++
           [{ session := session, address := d.address, port := destPort d.port, ports := BitVec.ofNat 2 d.ports.toNat, ttl := d.ttl }] }, true)

/-- STREAM_CTRL REMOVE (R416): a session removes only what it added. -/
def HstSt.streamRemove (h : HstSt) (session : BitVec 8) (d : NetDest) : HstSt × Bool :=
  let mine := fun (x : StreamDest) => decide (x.session = session) && decide (x.address = d.address) && decide (x.port = destPort d.port)
  if h.dests.any mine then ({ h with dests := h.dests.filter (fun x => !mine x) }, true) else (h, false)

/-- The ports whose link is up among those of a destination: one datagram leaves on each (R416). -/
def HstSt.portsUp (h : HstSt) (ports : Nat) : Nat :=
  ((List.range 2).filter (fun k => ports.testBit k && (Tab.get PortSt.zero h.ports k).up)).length

/-- Stream datagrams sent with a record (R416): one on each port of each destination of NET_CFG and of each added one. -/
def HstSt.sendStream (h : HstSt) (beat : Nat) : HstSt :=
  match h.netCfg with
  | none => h
  | some n =>
    if n.streamInterval = 0 ∨ beat % n.streamInterval.toNat ≠ 0 then h
    else
      let k := ((n.dests.filter (fun d => decide (d.address ≠ 0))).map (fun d => h.portsUp d.ports.toNat)).sum +
        (h.dests.map (fun d => h.portsUp d.ports.toNat)).sum
      { h with streamCount := h.streamCount + wordN k, streamSent := h.streamSent + wordN k }

/-- A region set is complete (R410): the parts 0 to last, each once. -/
def partsComplete (ps : List RegionPart) : Bool :=
  (List.range ps.length).all (fun k => (ps.filter (fun p => decide (p.part.toNat = k))).length == 1)

/-- The first word of a part out of the range of a QID (R410): its word offset. -/
def outOfRange (r : RangeEntry) (p : RegionPart) : Option Nat :=
  (List.range p.data.length).findSome? (fun k =>
    let v := (p.data.getD k 0).toInt
    if v < r.min.toInt ∨ r.max.toInt < v then some (p.offset.toNat / 4 + k) else none)

/-- R410: the status of a whole set and its detail. -/
def regionStatus (t : HostTable) (ranges : List RangeEntry) (role : Nat) (region : Half) (ps : List RegionPart) : Half × Word :=
  match t.regions.find? (fun e => decide (e.id = region)) with
  | none => (stBadRequest, 0)
  | some e =>
    if !partsComplete ps ∨ 65536 < 4 * (ps.map (fun p => p.data.length)).sum then (stBadRequest, 0)
    else if role < e.role.toNat then (stRole, e.role.setWidth 32)
    else if ps.any (fun p => decide (e.length.toNat < p.offset.toNat + 4 * p.data.length)) then (stBadRequest, 0)
    else if e.qid = 0 then (stApplied, 0)
    else
      match ranges.find? (fun r => decide (r.qid = e.qid)) with
      | none => (stApplied, 0)
      | some r => match ps.findSome? (fun p => outOfRange r p) with | some k => (stRange, wordN k) | none => (stApplied, 0)

/-- The words of a part stored in the region memory. -/
def HstSt.storeRegion (h : HstSt) (region : Half) (p : RegionPart) : HstSt :=
  let put (m : Tab Word) (k : Nat) : Tab Word := Tab.set 0 m (region.toNat * 65536 + p.offset.toNat / 4 + k) (p.data.getD k 0)
  { h with regionMem := (List.range p.data.length).foldl put h.regionMem }

/-- Ledger snapshots at the round boundary (R41), and the tag failures of the round (event 0x0D07). -/
def HstSt.snapshotLedgers (h : HstSt) : HstSt :=
  { h with sessions := Tab.modifyAll SessionSt.zero h.sessions (List.range 17) (fun _ s => { s with ledgerSnap := s.ledger }) }

/-- The tag failures of a round are reported and the count begins again (R419). -/
def HstSt.tagReport (h : HstSt) : HstSt × List Ev :=
  if h.badTagRound = 0 then (h, []) else ({ h with badTagRound := 0 }, [(0x0D07, [h.badTagRound, h.badTagAddr])])

/-- A beat has run: idle counts of open sessions (R401). -/
def HstSt.idleBeat (h : HstSt) : HstSt :=
  let one (_ : Nat) (s : SessionSt) : SessionSt := if s.isOpen then { s with idleBeats := s.idleBeats + 1 } else s
  { h with sessions := Tab.modifyAll SessionSt.zero h.sessions ((List.range 16).map (fun k => k + 1)) one }

/-- Table 14.1: the clockClass a master port announces, none when no port sends (R395). -/
def announcedClass (t : TimSt) : Option Nat :=
  match t.state with
  | .unset => none
  | .free => some 248
  | _ =>
    if t.holdFlag then some (if t.lastClass = 6 then 7 else 14)
    else match t.selected with
      | some .gnss => some 6
      | some .ptp => some t.parentClass.toNat
      | _ => some 13

end Sys2Proof.Machine
end

