-- ==== Sys2Proof/Machine/StRec.lean ====
section
/-! DEFINITION. State of the REC block: records, write queue, buckets and ledger (17_event_recorder.md). -/

namespace Sys2Proof.Machine

/-- One committed record of the recorder, the fields of Table 17.1. -/
structure Record where
  seq      : Word
  code     : Half
  supp     : BitVec 6
  deferred : Bool
  final    : Bool
  nParam   : BitVec 8
  opsec    : Word
  pwrcyc   : BitVec 22
  beat     : BitVec 10
  params   : List Word
deriving DecidableEq, Repr

/-- An admitted event in the write queue (R487), with what its record will carry. -/
structure QEvent where
  code     : Half
  params   : List Word
  beat     : BitVec 10
  deferred : Bool
  supp     : BitVec 6
deriving DecidableEq, Repr

/-- An event held by its block while PD_SVC is down (R483). -/
structure HeldEvent where
  code    : Half
  params  : List Word
  beat    : BitVec 10
  instant : Nat
deriving DecidableEq, Repr


/-- What the recorder keeps per event code (R488, R489).  `spent` is BURST less the tokens held, so that a
code never seen has a full bucket. -/
structure CodeSt where
  spent   : Nat
  pending : Word
  raised  : Word
  supp    : Word
deriving DecidableEq, Repr

/-- The recorder ledger and its breakdown (R40, R489). -/
structure RecLedger where
  raised     : Count48
  written    : Count48
  suppressed : Count48
deriving DecidableEq, Repr

/-- The REC block. -/
structure RecSt where
  ready        : Bool
  final        : Bool
  slots        : Tab (Option Record)
  newest       : Word
  queue        : List QEvent
  held         : List HeldEvent
  table        : List RateEntry
  codes        : Tab CodeSt
  globalTokens : Nat
  ledger       : RecLedger
  ledgerSnap   : RecLedger
  suppGlobal   : Word
  suppQueue    : Word
  suppOther    : Word
  flSuppressed : Bool
  flQueueFull  : Bool
  flScanRepair : Bool
  opsec        : Word
  opsecBase    : Word
  opsecSaved   : Word
  seqSel       : Word
  window       : Option (BitVec 4 × Option Record)
deriving DecidableEq, Repr

/-- A code with a full bucket and no counts. -/
def CodeSt.zero : CodeSt := { spent := 0, pending := 0, raised := 0, supp := 0 }

/-- A ledger with every term zero (R42). -/
def RecLedger.zero : RecLedger := { raised := 0, written := 0, suppressed := 0 }

/-- The last production-test record (R554).  DESIGN CHOICE (log 4): the new device holds just this one. -/
def Record.production : Record :=
  { seq := 0, code := 0x00FF, supp := 0, deferred := false, final := false, nParam := 0,
    opsec := 0, pwrcyc := 0, beat := 1023, params := [] }

/-- The REC block after reset (Table 17.6). -/
def RecSt.reset : RecSt :=
  { ready := false, final := false, slots := [(0, some Record.production)], newest := 0, queue := [], held := [],
    table := [], codes := [], globalTokens := 256, ledger := RecLedger.zero, ledgerSnap := RecLedger.zero,
    suppGlobal := 0, suppQueue := 0, suppOther := 0, flSuppressed := false, flQueueFull := false,
    flScanRepair := false, opsec := 0, opsecBase := 0, opsecSaved := 0, seqSel := 0, window := none }

end Sys2Proof.Machine
end

