-- ==== Sys2Proof/Machine/Recorder.lean ====
section
/-! DEFINITION. The event recorder: admission, records, windows and reads (17_event_recorder.md). -/

namespace Sys2Proof.Machine

open Sys2Proof

/-- BURST, REFILL_MS and NO_GLOBAL of a code (R488). -/
def RecSt.rate (r : RecSt) (code : Half) : Nat × Nat × Bool :=
  let safety := decide (code.toNat / 256 = 0x0F)
  if code = 0x0D07 then (1, 1000, false)
  else match r.table.find? (fun e => decide (e.code = code)) with
    | some e => (e.burst, e.refillMs, e.noGlobal || safety)
    | none => (16, 1000, safety)

/-- What the recorder keeps of a code. -/
def RecSt.codeOf (r : RecSt) (code : Half) : CodeSt := Tab.get CodeSt.zero r.codes code.toNat
def RecSt.setCode (r : RecSt) (code : Half) (c : CodeSt) : RecSt := { r with codes := Tab.set CodeSt.zero r.codes code.toNat c }

/-- Tokens a code's bucket holds. -/
def RecSt.tokens (r : RecSt) (code : Half) : Nat := (r.rate code).1 - (r.codeOf code).spent

/-- Where a suppressed event is charged (R489). -/
inductive SuppWhy where
  | other | bucket | global | queue
deriving DecidableEq, Repr

/-- An event is suppressed: the ledger, the breakdown, the pending count and the flag. -/
def RecSt.suppress (r : RecSt) (code : Half) (why : SuppWhy) : RecSt :=
  let c := r.codeOf code
  let q := r.setCode code { c with pending := satInc c.pending, supp := c.supp + 1 }
  { q with
    ledger := { q.ledger with raised := q.ledger.raised + 1, suppressed := q.ledger.suppressed + 1 }
    flSuppressed := true
    flQueueFull := q.flQueueFull || decide (why = .queue)
    suppOther := if why = .other then q.suppOther + 1 else q.suppOther
    suppGlobal := if why = .global then q.suppGlobal + 1 else q.suppGlobal
    suppQueue := if why = .queue then q.suppQueue + 1 else q.suppQueue }

/-- Entries of the write queue (R487). -/
def queueMax : Nat := 128

/-- Admission of an event (R487, R489). -/
def RecSt.takeEvent (r : RecSt) (code : Half) (params : List Word) (beat : BitVec 10) (deferred : Bool) : RecSt :=
  let c0 := r.codeOf code
  let r := r.setCode code { c0 with raised := c0.raised + 1 }
  let noGlobal := (r.rate code).2.2
  if r.final then r.suppress code .other
  else if r.tokens code = 0 then r.suppress code .bucket
  else if ¬ noGlobal ∧ r.globalTokens = 0 then r.suppress code .global
  else if queueMax ≤ r.queue.length then r.suppress code .queue
  else
    let c := r.codeOf code
    let q := r.setCode code { c with spent := c.spent + 1, pending := 0 }
    { q with
      globalTokens := if noGlobal then q.globalTokens else q.globalTokens - 1
      queue := q.queue ++ [{ code := code, params := params.take 4, beat := beat, deferred := deferred,
                             supp := BitVec.ofNat 6 (min 63 c.pending.toNat) }] }

/-- An event raised while PD_SVC is down (R483): its block holds it, the ninth is lost. -/
def RecSt.hold (r : RecSt) (code : Half) (params : List Word) (beat : BitVec 10) (now : Nat) : RecSt :=
  let block := code.toNat / 256
  if 8 ≤ (r.held.filter (fun e => decide (e.code.toNat / 256 = block))).length then
    let c := r.codeOf code
    (r.setCode code { c with raised := c.raised + 1 }).suppress code .other
  else { r with held := r.held ++ [{ code := code, params := params, beat := beat, instant := now }] }

/-- The held events in order of occurrence, and of code at one instant (R487). -/
def RecSt.heldInOrder (r : RecSt) : List HeldEvent := sortBy (fun e => e.instant * 65536 + e.code.toNat) r.held

/-- PD_SVC runs again: the held events are raised (R483). -/
def RecSt.release (r : RecSt) : RecSt :=
  r.heldInOrder.foldl (fun q e => q.takeEvent e.code e.params e.beat true) { r with held := [] }

/-- The slot of a sequence number (R484). -/
def slotOfSeq (s : Nat) : Nat := if s < 1024 then s else 1024 + (s - 1024) % 7168

/-- The committed record with a sequence number. -/
def RecSt.record (r : RecSt) (seq : Nat) : Option Record :=
  (Tab.get none r.slots (slotOfSeq seq)).filter (fun x => decide (x.seq.toNat = seq))

/-- Write the queue's first event (R484 to R486, R489); `now` is the beat within the round, which event 0x1002 carries. -/
def RecSt.write (r : RecSt) (secs : Word) (pwrcyc : BitVec 22) (now : BitVec 10) : RecSt :=
  match r.queue with
  | [] => r
  | e :: rest =>
    if r.final then r
    else
      let seq := r.newest + 1
      let ops := r.opsecBase + secs
      let last := decide (seq.toNat = 0xFFFFFFFE)
      let x : Record :=
        if last then { seq := seq, code := 0x1002, supp := 0, deferred := false, final := true, nParam := 0, opsec := ops, pwrcyc := pwrcyc, beat := now, params := [] }
        else { seq := seq, code := e.code, supp := e.supp, deferred := e.deferred, final := false, nParam := BitVec.ofNat 8 e.params.length, opsec := ops,
               pwrcyc := pwrcyc, beat := e.beat, params := e.params }
      let q := { r with
        queue := rest, slots := Tab.set none r.slots (slotOfSeq seq.toNat) (some x), newest := seq, opsec := ops,
        ledger := { r.ledger with raised := r.ledger.raised + 1, written := r.ledger.written + 1 } }
      if last then
        -- The displaced event and every event still queued are suppressed (R485).
        let c := q.codeOf 0x1002
        (e :: rest).foldl (fun a y => a.suppress y.code .other) { q.setCode 0x1002 { c with raised := c.raised + 1 } with final := true, queue := [] }
      else q

/-- A refill of one token, of a code or of the global bucket (R488). -/
def RecSt.refill (r : RecSt) (code : Option Half) : RecSt :=
  match code with
  | none => { r with globalTokens := min 256 (r.globalTokens + 1) }
  | some c => let x := r.codeOf c; r.setCode c { x with spent := x.spent - 1 }

/-- The highest sequence number present (R486). -/
def RecSt.scanNewest (r : RecSt) : Nat := r.slots.foldl (fun m p => match p.2 with | some x => max m x.seq.toNat | none => m) 0

/-- Slots that a device with this NEWEST has filled. -/
def filledSlots (newest : Nat) : Nat := if newest < 8192 then newest + 1 else 8192

/-- The start scan (R481, R486): NEWEST, READY, the operating seconds, and the parameters of event 0x1001. -/
def RecSt.scan (r : RecSt) : RecSt × List Ev :=
  let n := r.scanNewest
  let repaired := filledSlots n - (r.slots.filter (fun p => p.2.isSome)).length
  let base := match r.record n with | some x => if r.opsecSaved.toNat < x.opsec.toNat then x.opsec else r.opsecSaved | none => r.opsecSaved
  ({ r with ready := true, newest := wordN n, opsecBase := base, opsec := base, flScanRepair := r.flScanRepair || decide (0 < repaired) },
   [(0x1001, [wordN n, wordN repaired, base])])

/-- A rate table comes into force (R490): buckets of changed codes are full. -/
def RecSt.setTable (r : RecSt) (t : List RateEntry) : RecSt :=
  let q := { r with table := t }
  let codes := (r.table ++ t).map (fun e => e.code)
  codes.foldl (fun a c => if r.rate c = q.rate c then a else a.setCode c { (a.codeOf c) with spent := 0 }) q

/-- The words of a record (Table 17.1). -/
def Record.words (x : Record) : List Word :=
  [x.seq, x.code.setWidth 32 ||| fld x.supp.toNat 16 ||| bit x.deferred 22 ||| bit x.final 23 ||| fld x.nParam.toNat 24, x.opsec,
   fld x.pwrcyc.toNat 10 ||| x.beat.setWidth 32] ++ (List.range 4).map (fun k => x.params.getD k 0)

/-- OLDEST (Table 17.4). -/
def RecSt.oldest (r : RecSt) : Nat := let n := r.newest.toNat; if n < 1024 then n + 1 else max 1024 (n - 7167)

/-- KEPT_LAST (Table 17.4). -/
def RecSt.keptLast (r : RecSt) : Nat := min 1023 r.newest.toNat

/-- Records present with SEQ at or above `from_`, in ascending SEQ, up to `max_` (R491). -/
def RecSt.readFrom (r : RecSt) (from_ max_ : Nat) : List Record :=
  (sortBy (fun x => x.seq.toNat) (r.slots.filterMap (fun p => p.2.filter (fun x => decide (from_ ≤ x.seq.toNat))))).take max_

/-- The READ_RECORDER response (Table 17.4). -/
def RecSt.response (r : RecSt) (from_ max_ : Nat) : List Word :=
  let l := r.readFrom from_ max_
  [r.newest, wordN r.oldest, wordN r.keptLast, wordN l.length] ++ l.flatMap Record.words

/-- A read of REC_R_W0 locks a copy (R492). -/
def RecSt.lockWindow (r : RecSt) (input : BitVec 4) : RecSt × Word :=
  match r.window with
  | some (i, x) => if i = input then
      let y := r.record r.seqSel.toNat
      ({ r with window := some (input, y) }, match y with | some z => z.seq | none => 0xFFFFFFFF)
    else (r, match x with | some z => z.seq | none => 0xFFFFFFFF)
  | none =>
    let y := r.record r.seqSel.toNat
    ({ r with window := some (input, y) }, match y with | some z => z.seq | none => 0xFFFFFFFF)

/-- Word `k` of the locked copy. -/
def RecSt.windowWord (r : RecSt) (k : Nat) : Word :=
  match r.window with | some (_, some x) => x.words.getD k 0 | _ => 0

/-- A read of REC_R_W7 by the holder releases the window. -/
def RecSt.releaseWindow (r : RecSt) (input : BitVec 4) : RecSt :=
  match r.window with | some (i, _) => if i = input then { r with window := none } else r | none => r

/-- An Image reset: queue and counts clear, buckets full, records kept (R488, R494); the scan is of a start (R486). -/
def RecSt.restart (r : RecSt) : RecSt :=
  { RecSt.reset with
    ready := r.ready, final := r.final, slots := r.slots, newest := r.newest, held := r.held, opsec := r.opsec, opsecBase := r.opsecBase, opsecSaved := r.opsecSaved }

/-- A read of the REC block; `sel` is the requester's REC_CHSEL (Table 17.6). -/
def RecSt.read (r : RecSt) (sel : Word) (ofs : Nat) : Option Word :=
  let l := if bitOf sel 31 then r.ledgerSnap else r.ledger
  let code : Half := sel.setWidth 16
  let c := r.codeOf code
  match ofs with
  | 0x0000 => some 0x10010000
  | 0x0004 => some (bit r.ready 0 ||| bit r.final 1 ||| fld r.queue.length 8)
  | 0x0010 => some sel
  | 0x0014 => some r.seqSel
  | 0x0020 => some r.newest
  | 0x0024 => some (wordN r.oldest)
  | 0x0028 => some (wordN r.globalTokens)
  | 0x0030 => some (lowOf l.raised)
  | 0x0034 => some (highOf l.raised)
  | 0x0038 => some (lowOf l.written)
  | 0x003C => some (highOf l.written)
  | 0x0040 => some (lowOf l.suppressed)
  | 0x0044 => some (highOf l.suppressed)
  | 0x0048 => some r.suppGlobal
  | 0x004C => some r.suppQueue
  | 0x0050 => some r.suppOther
  | 0x0054 => some (bit r.flSuppressed 0 ||| bit r.flQueueFull 1 ||| bit r.flScanRepair 2)
  | 0x8000 => some (wordN (r.rate code).1 ||| bit (r.rate code).2.2 8)
  | 0x8004 => some (wordN (r.rate code).2.1)
  | 0x8008 => some (wordN (r.tokens code))
  | 0x800C => some c.pending
  | 0x8010 => some c.raised
  | 0x8014 => some c.supp
  | 0x9004 | 0x9008 | 0x900C | 0x9010 | 0x9014 | 0x9018 => some (r.windowWord ((ofs - 0x9000) / 4))
  | _ => none

/-- W1C of REC_FLAGS. -/
def RecSt.clearFlags (r : RecSt) (w : Word) : RecSt :=
  { r with flSuppressed := r.flSuppressed && !bitOf w 0, flQueueFull := r.flQueueFull && !bitOf w 1, flScanRepair := r.flScanRepair && !bitOf w 2 }

end Sys2Proof.Machine
end

