-- ==== Sys2Proof/Machine/StPwr.lean ====
section
/-! DEFINITION. State of the PWR block: domains, orders, handshake, wake, pads (18_power_states.md). -/

namespace Sys2Proof.Machine

/-- PWR_D_STATE.STATE. -/
inductive DomState where
  | on | gated | ret | off
deriving DecidableEq, Repr

/-- The code of a domain's state. -/
def DomState.code : DomState → Nat
  | .on => 0 | .gated => 1 | .ret => 2 | .off => 3

/-- The state the device as a whole is in. -/
inductive PwrMode where
  | run | watch | chrysalis | cocoon
deriving DecidableEq, Repr

/-- The OP of POWER_CMD that orders a state. -/
def PwrMode.op : PwrMode → Nat
  | .run => 1 | .watch => 2 | .chrysalis => 3 | .cocoon => 4

/-- The code in PWR_LAST.STATE. -/
def PwrMode.last : PwrMode → Nat
  | .run => 0 | .watch => 2 | .chrysalis => 3 | .cocoon => 4

/-- Wake settings of an order (R499). -/
structure WakeCfg where
  port   : Bool
  pin    : Bool
  alarm  : Bool
  pinLow : Bool
  addr   : BitVec 7
  alarmAt : Long
deriving DecidableEq, Repr

/-- Nothing armed. -/
def WakeCfg.zero : WakeCfg := { port := false, pin := false, alarm := false, pinLow := false, addr := 0, alarmAt := 0 }

/-- One domain's idle timer. -/
structure DomSt where
  state : DomState
  idle  : Bool
  /-- ms the domain has been idle without a break. -/
  ms    : Nat
  gates : Word
deriving DecidableEq, Repr

/-- A domain that is on. -/
def DomSt.zero : DomSt := { state := .on, idle := false, ms := 0, gates := 0 }

/-- An accepted program order waiting for its boundary (R501): WATCH or RUN, beats since, the wake source that staged it (0 none), and the
wake settings that a WATCH order arms. -/
structure PendProg where
  toWatch : Bool
  age     : Nat
  wake    : Nat
  cfg     : WakeCfg
deriving DecidableEq, Repr

/-- An accepted low-power order (R504, R505). -/
structure PendEntry where
  mode    : PwrMode
  session : BitVec 8
  wake    : WakeCfg
  /-- Beats since the order's beat. -/
  age     : Nat
  /-- The block the handshake asks next, 19 when every block has answered, and ms of delay so far. -/
  block   : Nat
  started : Bool
  delaying : Bool
deriving DecidableEq, Repr

/-- The PWR block. -/
structure PwrSt where
  table    : Option PowerTable
  mode     : PwrMode
  domains  : Tab DomSt
  prog     : Option PendProg
  entry    : Option PendEntry
  /-- Wake settings of the last order, and those that wake the device now. -/
  wakeCfg  : WakeCfg
  armed    : WakeCfg
  /-- Pad groups latched: bit 0 DIRECT, bit 1 ANN; release waiting for the next edge. -/
  latched  : BitVec 2
  /-- Levels at which the PWM and GPIO pads (by output number), and PPS_OUT, were latched; latched COM and SEG pads show blank. -/
  padLevels : Tab PinVal
  ppsLevel : Bool
  release  : BitVec 2
  releaseBy : Word
  lastState : BitVec 3
  lastSource : BitVec 3
  refBlock : Byte
  refCause : Byte
  flags    : BitVec 3
  entries  : Word
  refusals : Word
  wakeUs   : Word
  /-- Device time of the wake event of a wake in progress. -/
  wakeAt   : Option Nat
deriving DecidableEq, Repr

/-- The PWR block after reset (Table 18.8). -/
def PwrSt.reset : PwrSt :=
  { table := none, mode := .run, domains := [], prog := none, entry := none, wakeCfg := WakeCfg.zero, armed := WakeCfg.zero, latched := 0, padLevels := [], ppsLevel := false,
    release := 0, releaseBy := 0, lastState := 0, lastSource := 0, refBlock := 0, refCause := 0, flags := 0, entries := 0, refusals := 0,
    wakeUs := 0, wakeAt := none }

end Sys2Proof.Machine
end

