-- ==== Sys2Proof/Machine/State.lean ====
section
/-! DEFINITION. The state of the XM-960: its nineteen blocks, the beat's clock and capture sets, the values of the last
publish phase, and the queue of commands. -/

namespace Sys2Proof.Machine

open Sys2Proof

/-- The registers of the beat-domain engines as the last publish phase left them: what a service-fabric read returns
(R38). -/
structure PubSt where
  beat : Long
  sch  : SchSt
  cnd  : CndSt
  gns  : GnsSt
  hwk  : HwkSt
  est  : EstSt
  lun  : LunSt
  alc  : AlcSt
  ctl  : CtlSt
deriving DecidableEq, Repr

/-- Nothing published yet: every register at its reset value. -/
def PubSt.reset : PubSt :=
  { beat := 0, sch := SchSt.reset, cnd := CndSt.reset, gns := GnsSt.reset, hwk := HwkSt.reset, est := EstSt.reset,
    lun := LunSt.reset, alc := AlcSt.reset, ctl := CtlSt.reset }

/-- The machine.  `pending` is the queue of commands that wait, first in, first out; `freeCtr` is the model's own counter
of free values, none of the spec's. -/
structure State where
  beat : BeatSt
  sch  : SchSt
  img  : ImgSt
  tim  : TimSt
  cnd  : CndSt
  gns  : GnsSt
  hwk  : HwkSt
  est  : EstSt
  lun  : LunSt
  alc  : AlcSt
  ctl  : CtlSt
  out  : OutBlk
  fbu  : FbuSt
  hst  : HstSt
  pai  : PaiSt
  saf  : SafSt
  rcd  : RecSt
  pwr  : PwrSt
  svc  : SvcSt
  pub  : PubSt
  freeCtr : Nat
  pending : List Instr
deriving DecidableEq, Repr

/-- The machine right after reset: a new device at power off, every register at its reset value, the queue empty. -/
def State.reset : State :=
  { beat := BeatSt.reset, sch := SchSt.reset, img := ImgSt.reset, tim := TimSt.reset, cnd := CndSt.reset, gns := GnsSt.reset,
    hwk := HwkSt.reset, est := EstSt.reset, lun := LunSt.reset, alc := AlcSt.reset, ctl := CtlSt.reset, out := OutBlk.reset,
    fbu := FbuSt.reset, hst := HstSt.reset, pai := PaiSt.reset, saf := SafSt.reset, rcd := RecSt.reset, pwr := PwrSt.reset,
    svc := SvcSt.reset, pub := PubSt.reset, freeCtr := 0, pending := [] }

/-- Why the machine stops with a fault.  The spec gives every command of the table an effect, so no meaning faults and the
type has no constructor (safe: nothing is stopped). -/
inductive Fault where
deriving DecidableEq, Repr

/-- Why a command is refused. -/
inductive Refusal where
  /-- Raised by the dispatch alone, for a command without a meaning yet, named as the table of commands names it; safe,
  since nothing is claimed of such a command. -/
  | notModelled (mnemonic : String)
deriving DecidableEq, Repr

end Sys2Proof.Machine
end

