-- ==== Sys2Proof/Machine/Ops.lean ====
section
/-! DEFINITION. Shared operations on the whole state: raising events, the capture-source ledgers, entry to the capture set, and
the gate of a host command (01_device_and_beat.md R15 to R22, R40 to R43, R555; 14_host_protocol.md R402 to R407;
17_event_recorder.md R483, R487). -/

namespace Sys2Proof.Machine

open Sys2Proof

/-- BEAT of an event raised now: the beat within the round, 1023 when no beat runs (Table 17.1). -/
def State.eventBeat (s : State) : BitVec 10 := if s.beat.live then BitVec.ofNat 10 (s.beat.n.toNat % 1000) else 1023

/-- Is PD_SVC without power or clock (R483)?  So it is in Chrysalis and Cocoon. -/
def State.svcDown (s : State) : Bool :=
  match s.pwr.mode with
  | .chrysalis | .cocoon => true
  | _ => false

/-- A block raises one event (R483, R487): the recorder admits it, or its block holds it while PD_SVC is down.  The
block's event counters count it (Table 19.4). -/
def State.raiseOne (s : State) (e : Ev) : State :=
  let rcd := if s.svcDown then s.rcd.hold e.1 e.2 s.eventBeat s.tim.now else s.rcd.takeEvent e.1 e.2 s.eventBeat false
  { s with rcd := rcd, svc := s.svc.count (e.1.toNat / 256) 8 1 (fun _ => true) }

/-- Events raised in order. -/
def State.raise (s : State) (evs : List Ev) : State := evs.foldl State.raiseOne s

/-- A ledger of one capture source. -/
def BeatSt.ledger (b : BeatSt) (src : Nat) : SrcLedger := Tab.get SrcLedger.zero b.ledgers src

/-- Settle one item: OFFERED and exactly one other term count it together (R555). -/
def SrcLedger.settle (l : SrcLedger) (f : Fate) : SrcLedger :=
  let r := { l with offered := l.offered + 1 }
  match f with
  | .admitted => { r with admitted := r.admitted + 1 }
  | .quota => { r with quota := r.quota + 1 }
  | .timeLost => { r with timeLost := r.timeLost + 1 }
  | .late => { r with late := r.late + 1 }
  | .restart => { r with restart := r.restart + 1 }

/-- Settle one item of a source; source 0 has no ledger (R22, R557). -/
def BeatSt.settle (b : BeatSt) (src : Nat) (f : Fate) : BeatSt :=
  if src = 0 then b else { b with ledgers := Tab.set SrcLedger.zero b.ledgers src ((b.ledger src).settle f) }

/-- Is a source pair-domain (Table 1.8)?  Its samples are no capture items. -/
def pairSource (src : Nat) : Bool :=
  (decide (0x4201 ≤ src) && decide (src ≤ 0x4204)) || (decide (0x4600 ≤ src) && decide (src ≤ 0x4607))

/-- Remove the first entry equal to `x`; the Bool says whether there was one. -/
def takeFirst (x : Nat) : List Nat → List Nat × Bool
  | [] => ([], false)
  | y :: l => if x = y then (l, true) else let r := takeFirst x l; (y :: r.1, r.2)

/-- Settle the own items of the beat: LATE where the estimator discarded the item's source so often, else ADMITTED. -/
def BeatSt.settleOwn : BeatSt → List Nat → List Item → BeatSt
  | b, _, [] => b
  | b, late, i :: l =>
    let r := takeFirst i.source.toNat late
    BeatSt.settleOwn (b.settle i.source.toNat (if r.2 then .late else .admitted)) r.1 l

/-- The settlement of the publish phase (R555). -/
def BeatSt.settleAll (b : BeatSt) : BeatSt :=
  let isLate := fun (f : Nat × Fate) => decide (f.2 = .late) && !(pairSource f.1)
  let b1 := (b.fates.filter (fun f => !(isLate f))).foldl (fun (a : BeatSt) f => a.settle f.1 f.2) b
  let b2 := b1.settleOwn ((b.fates.filter isLate).map Prod.fst) b.own
  { b2 with own := [], fates := [] }

/-- The settlement of a beat that a Beat restart discards (R43, R555). -/
def BeatSt.settleRestart (b : BeatSt) : BeatSt :=
  let kept := b.fates.filter (fun f => decide (f.2 = .quota) || decide (f.2 = .timeLost))
  let pairs := b.fates.filter (fun f => pairSource f.1 && !(decide (f.2 = .quota) || decide (f.2 = .timeLost)))
  let b1 := kept.foldl (fun (a : BeatSt) f => a.settle f.1 f.2) b
  let b2 := pairs.foldl (fun (a : BeatSt) f => a.settle f.1 .restart) b1
  let b3 := b.own.foldl (fun (a : BeatSt) i => a.settle i.source.toNat .restart) b2
  { b3 with own := [], fates := [], partner := [], union := [], captured := false }

/-- The items that completed for an edge at which no capture runs are discarded with reason RESTART (R43). -/
def BeatSt.dropCollected (b : BeatSt) : BeatSt :=
  let b1 := b.refusedNext.foldl (fun (a : BeatSt) f => a.settle f.1 f.2) b
  let b2 := b.collecting.foldl (fun (a : BeatSt) i => a.settle i.source.toNat .restart) b1
  { b2 with collecting := [], refusedNext := [], used := [] }

/-- Samples that pair-domain work offered and that a Beat restart discards (R43, R555). -/
def BeatSt.loseOffers (b : BeatSt) (l : List RefOffer) : BeatSt :=
  l.foldl (fun (a : BeatSt) o => a.settle o.source.toNat .restart) b

/-- An item completes for the next edge (R16, R21): it enters the capture set, or is discarded QUOTA. -/
def BeatSt.offer (b : BeatSt) (i : Item) (quota : Nat) : BeatSt :=
  let src := i.source.toNat
  let u := Tab.get 0 b.used src + i.bytes
  if u ≤ quota then { b with collecting := b.collecting ++ [i], used := Tab.set 0 b.used src u }
  else { b with refusedNext := b.refusedNext ++ [(src, .quota)] }

/-- An item whose sensor model is not admitted is discarded TIME_LOST (R139). -/
def BeatSt.loseTime (b : BeatSt) (src : Nat) : BeatSt := { b with refusedNext := b.refusedNext ++ [(src, .timeLost)] }

/-- Record how an item or sample of this beat ended. -/
def BeatSt.fate (b : BeatSt) (src : Nat) (f : Fate) : BeatSt := { b with fates := b.fates ++ [(src, f)] }

/-- Offer an item to the next capture set. -/
def State.offer (s : State) (i : Item) (quota : Nat) : State := { s with beat := s.beat.offer i quota }

/-- The next value of the model's own counter of free values. -/
def State.fresh (s : State) : Nat × State := (s.freeCtr, { s with freeCtr := s.freeCtr + 1 })

/-- Is a session open with a role at or above `least` (R402)?  Roles are 0 Observer to 3 Maintainer. -/
def State.mayRun (s : State) (ref : HostRef) (least : Nat) : Bool :=
  let x := s.hst.sess ref.session.toNat
  x.isOpen && decide (least ≤ x.role.toNat)

/-- A local request: where its session is open with the role, `f` does it; otherwise the request has been refused at
admission and nothing more happens (R402, R408). -/
def State.localCmd (s : State) (ref : HostRef) (least : Nat) (f : State → State) : State :=
  if s.mayRun ref least then f s else s

/-- A union command in the beat of its union (R404, R407): `f` judges and does it whole, answering the state, the status
and the detail.  A reference that does not wait in this beat has no effect. -/
def State.unionCmd (s : State) (ref : HostRef) (op : Half) (f : State → State × Half × Word) : State :=
  match s.hst.take ref with
  | none => s
  | some h =>
    let s1 := { s with hst := h }
    let x := h.sess ref.session.toNat
    if !x.isOpen then s1
    else if ref.hostSeq ≤ x.lastSeq then { s1 with hst := h.answerSeq ref op s.beat.n }
    else
      let r := f s1
      { r.1 with hst := r.1.hst.answer ref op s.beat.n r.2.1 r.2.2 }

/-- Answer a local request at once (R407). -/
def State.reply (s : State) (ref : HostRef) (op st : Half) (detail : Word) (payload : List Word) : State :=
  { s with hst := s.hst.respond (localResponse ref op s.beat.n st detail payload) }

/-- The role the session of a command holds, 1 Observer to 4 Maintainer as a requester's role is numbered (R530). -/
def State.whoOf (s : State) (ref : HostRef) : Who :=
  { input := 9, session := ref.session, role := BitVec.ofNat 3 ((s.hst.sess ref.session.toNat).role.toNat + 1) }

/-- The device's identity for the pair (R452). -/
def State.pairId (s : State) : Long := s.pai.pairIdOf s.img.otp.deviceId

/-- The pair table in force; its limits are all 0 when there is none. -/
def State.pairCfg (s : State) : PairTable :=
  match s.sch.sched with
  | some x => x.pair.getD { magic := 0, format := 0, takeoverMask := 0, stateBytes := 0, fastBytes := 0, dirtyThr := 0, dirtyMax := 0,
                            proveRounds := 0, exclLimit := 0, sigMissLimit := 0, alignNs := 0, scrubLimit := 0 }
  | none => { magic := 0, format := 0, takeoverMask := 0, stateBytes := 0, fastBytes := 0, dirtyThr := 0, dirtyMax := 0, proveRounds := 0,
              exclLimit := 0, sigMissLimit := 0, alignNs := 0, scrubLimit := 0 }

/-- The device is Active or Standby: commands that both twins act on alike (R71). -/
def State.paired (s : State) : Bool := decide (s.pai.role = .active) || decide (s.pai.role = .standby)

/-- May the partner be steered to (Table 4.1)?  As Joining, Standby or Shadow, or before the first beat edge while the
partner is claimed. -/
def State.partnerOk (s : State) : Bool :=
  match s.pai.role with
  | .joining | .standby | .shadow => true
  | _ => decide (s.img.phase ≠ .running) && s.pai.claimed s.tim.now

/-- A source gives an offset (R119, R125 to R127). -/
def State.measure (s : State) (src : TimeSource) (theta : Int) (atOnce : Bool) : State :=
  let r := s.tim.measure src theta atOnce (decide (s.img.phase = .running)) s.img.accepted.isSome s.partnerOk s.beat.n.toNat
  { s with tim := r.1 }.raise r.2

/-- A source loses its qualification condition, and the selection is made again (R120, R121, R131). -/
def State.disqualify (s : State) (src : TimeSource) (present : Bool) : State :=
  let r := (s.tim.disqualify src present).reselect s.partnerOk
  { s with tim := r.1 }.raise r.2

/-- Count an executed operation and go on: an engine runs only while the schedule runs (R59, R64); its operation is
issued to the tagger and counted (R529, R534). -/
def State.engineOp (s : State) (op : OpRun) (f : State → State) : State :=
  if s.sch.running ∧ (s.sch.eng op.engine.toNat).ended = none ∧ (s.sch.eng op.engine.toNat).wait = .none then
    let code := match s.sch.opDesc op.engine.toNat s.beat.n.toNat op.opIndex.toNat with | some d => d.opcode | none => 0
    let svc := (s.svc.issue op code (lowOf s.beat.n) (BitVec.ofNat 16 (s.sch.bip s.beat.n.toNat))).countOp op false
    f { s with svc := svc, sch := s.sch.advance op }
  else s

end Sys2Proof.Machine
end

