-- ==== Sys2Proof/Machine/PairDom.lean ====
section
/-! DEFINITION. The pair-domain state that a page copy and a translation carry, and its layout as bytes (R79, R443, R447).
Sirlek lays it out; the model leaves the layout open. -/

namespace Sys2Proof.Machine

open Sys2Proof

/-- What the pair domain keeps of a channel's Amdun queries (R374, R377): the NONCE and the lists of nodes that wait. -/
structure NodeQueue where
  nonce     : Option Byte
  firstPass : List Nat
  lastFirst : Option Nat
  retry     : List Nat
  hello     : List Nat
  roundWait : List Nat
deriving DecidableEq, Repr

/-- What the pair domain keeps of a session (R401, R407): all but the commands that wait on one device, and which device received a
part. -/
def SessionSt.pairView (x : SessionSt) : SessionSt :=
  { x with queue := [], region := x.region.map (fun r => (r.1, r.2.map (fun p => { p with own := false }))) }

/-- The queues of a channel. -/
def ChanSt.queue (c : ChanSt) : NodeQueue :=
  { nonce := c.nonce, firstPass := c.firstPass, lastFirst := c.lastFirst, retry := c.retry, hello := c.hello, roundWait := c.roundWait }

/-- A channel with other queues. -/
def ChanSt.setQueue (c : ChanSt) (q : NodeQueue) : ChanSt :=
  { c with nonce := q.nonce, firstPass := q.firstPass, lastFirst := q.lastFirst, retry := q.retry, hello := q.hello, roundWait := q.roundWait }

/-- The pair-domain state of the beat domain (R30): what both twins of a pair compute alike. -/
structure PairDom where
  est      : EstSt
  ctl      : CtlSt
  alc      : AlcSt
  praline  : Tab Praline
  grid     : Tab GridTile
  tracks   : Tab Track
  bindings : Tab Binding
  orbits   : Tab (List Word)
  solutions : Tab NavSol
  excl     : Tab ExclSt
  spoofA   : SpoofSt
  spoofB   : SpoofSt
  att      : AttSt
  aid      : Option (Int × Int × Word)
  nodes    : Tab NodeSt
  /-- The queries of channels 0 to 15. -/
  queues   : List NodeQueue
  regions  : Tab Word
  sessions : Tab SessionSt
  openReqIds : Tab Word
  /-- Calibration and what it waits for; the background job; the C/N0 log (R191, R220, R271). -/
  cal        : CalSets
  calPending : Tab CalCmd
  calSeq     : Word
  job        : BaJob
  powerLog   : List PowerLog
  /-- The arm of a time step; runtime changes; JOIN_BLOCK; the pair counts (R112, R128, R448, Table 15.14). -/
  arm        : Option ArmSt
  changes    : Changes
  joinBlock  : Bool
  exclRun    : Word
  takeoversPair : Word
deriving DecidableEq, Repr

end Sys2Proof.Machine

namespace Sys2Proof.Config

open Sys2Proof.Machine

/-- Slow state and fast state (R443), as Sirlek lays them out for a layout signature. -/
opaque layOut : (sig : Long) → (fast : Bool) → PairDom → List Byte

/-- The state that slow and fast bytes hold under a layout signature; none where they hold no state. -/
opaque readIn : (sig : Long) → (slow fast : List Byte) → Option PairDom

end Sys2Proof.Config

namespace Sys2Proof.Machine

open Sys2Proof

/-- Bytes of page `k` of the slow state. -/
def pageBytes (sig : Long) (d : PairDom) (k : Nat) : List Byte := ((Config.layOut sig false d).drop (4096 * k)).take 4096

/-- The state that copied or translated bytes give a device that holds `old`. -/
def pairFrom (sig : Long) (slow fast : List Byte) (old : PairDom) : PairDom := (Config.readIn sig slow fast).getD old

end Sys2Proof.Machine
end

