-- ==== Sys2Proof/Machine/Power.lean ====
section
/-! DEFINITION. The power controller: idle gating, orders, handshake, wake and pads (18_power_states.md). -/

namespace Sys2Proof.Machine

open Sys2Proof

/-- What the power controller does: its new state and the events it raises. -/
abbrev PwrR := PwrSt × List Ev

/-- The domain numbers of the four gateable domains (R496), in the order of Table 18.3. -/
def gateable : List Nat := [6, 7, 8, 9]

/-- One domain's timer state. -/
def PwrSt.dom (p : PwrSt) (d : Nat) : DomSt := Tab.get DomSt.zero p.domains d
def PwrSt.setDom (p : PwrSt) (d : Nat) (v : DomSt) : PwrSt := { p with domains := Tab.set DomSt.zero p.domains d v }

/-- IDLE_MS of a domain; 0 never gated. -/
def PwrSt.idleMs (p : PwrSt) (d : Nat) : Nat :=
  match p.table with
  | none => 0
  | some t => if gateable.contains d then (t.idleMs.getD (d - 6) 0).toNat else 0

/-- The state of domain `d` (Table 18.1); `gnsOn` is PD_GNS's power in Watch (R192). -/
def PwrSt.domState (p : PwrSt) (gnsOn : Bool) (d : Nat) : DomState :=
  match p.mode with
  | .cocoon => if d = 0 then .on else .off
  | .chrysalis => if d ≤ 3 then .on else .ret
  | .watch => if d = 8 ∧ ¬ gnsOn then .gated else (p.dom d).state
  | .run => (p.dom d).state

/-- Gate a domain (R496). -/
def PwrSt.gate (p : PwrSt) (d : Nat) : PwrR :=
  let x := p.dom d
  (p.setDom d { x with state := .gated, gates := x.gates + 1 }, [(0x1105, [wordN d, 0])])

/-- Power a gated domain (R497). -/
def PwrSt.power (p : PwrSt) (d : Nat) : PwrR :=
  let x := p.dom d
  if x.state = .gated then (p.setDom d { x with state := .on, ms := 0 }, [(0x1105, [wordN d, 1])]) else (p, [])

/-- The idle conditions as they stand: a domain that is needed again is powered, and its idle time starts anew. -/
def PwrSt.refresh (p : PwrSt) (idle : Nat → Bool) : PwrR :=
  gateable.foldl (fun (r : PwrR) d =>
    let x := r.1.dom d
    if idle d then (r.1.setDom d { x with idle := true }, r.2)
    else
      let q := (r.1.setDom d { x with idle := false, ms := 0 }).power d
      (q.1, r.2 ++ q.2)) (p, [])

/-- One ms of idle time for every idle domain that is powered. -/
def PwrSt.tick (p : PwrSt) (idle : Nat → Bool) : PwrR :=
  let r := p.refresh idle
  (gateable.foldl (fun (q : PwrSt) d =>
    let x := q.dom d
    if x.idle ∧ x.state = .on ∧ x.ms < q.idleMs d then q.setDom d { x with ms := x.ms + 1 } else q) r.1, r.2)

/-- Has domain `d` been idle for its IDLE_MS (R496)? -/
def PwrSt.due (p : PwrSt) (d : Nat) : Bool :=
  let x := p.dom d
  gateable.contains d && decide (x.state = .on) && x.idle && decide (p.idleMs d ≠ 0) && decide (p.idleMs d ≤ x.ms)

/-- A POWER_CMD payload obeys the rules of R499. -/
def orderOk (op : Nat) (flags addr : Byte) (alarm : Long) (now : Nat) : Bool :=
  let port := flags.getLsbD 1
  let pin := flags.getLsbD 2
  let al := flags.getLsbD 3
  decide (flags.toNat < 32) && (if port then decide (0x08 ≤ addr.toNat) && decide (addr.toNat ≤ 0x77) else decide (addr = 0)) &&
    (if al then decide (now < alarm.toNat) else decide (alarm = 0)) && (decide (op < 3) || port || pin || al) && (decide (op ≠ 4) || !al)

/-- The wake settings of a payload. -/
def wakeOf (flags addr : Byte) (alarm : Long) : WakeCfg :=
  { port := flags.getLsbD 1, pin := flags.getLsbD 2, alarm := flags.getLsbD 3, pinLow := flags.getLsbD 4, addr := addr.setWidth 7,
    alarmAt := alarm }

/-- An order is refused, aborted or cancelled: PWR_REFUSE, the flag, the count and event 0x1102. -/
def PwrSt.refuse (p : PwrSt) (op block cause : Nat) : PwrR :=
  ({ p with refBlock := BitVec.ofNat 8 block, refCause := BitVec.ofNat 8 cause, flags := setBit p.flags 0, refusals := p.refusals + 1 },
   [(0x1102, [wordN op, wordN block, wordN cause])])

/-- Drop a pending entry. -/
def PwrSt.drop (p : PwrSt) : PwrSt := { p with entry := none }

/-- What the entry checks of R500 read. -/
structure PwrView where
  watchPresent : Bool
  switchPending : Bool
  solo    : Bool
  joining : Bool
  atRest  : Bool
  timeBusy : Bool
deriving DecidableEq, Repr

/-- Table 18.4: the first row that refuses the order, as its block and cause. -/
def orderRefusal (v : PwrView) (op : Nat) (both : Bool) : Option (Nat × Nat) :=
  if op = 2 ∧ ¬ v.watchPresent then some (1, 1)
  else if op < 2 then none
  else if v.switchPending then some (1, 2)
  else if ¬ v.solo ∧ ¬ both then some (0x0E, 3)
  else if v.joining then some (0x0E, 4)
  else if op < 3 then none
  else if ¬ v.atRest then some (0x0A, 5)
  else if v.timeBusy then some (3, 6)
  else none

/-- Beats from a beat to the first round boundary at least `k` beats after it. -/
def toBoundary (n k : Nat) : Nat := k + (1000 - (n + k) % 1000) % 1000

/-- An accepted RUN or WATCH order (R501, R505): it cancels a pending entry, and stages the program unless it is in force.
`wake` is 0 for a host order and the wake source otherwise. -/
def PwrSt.program (p : PwrSt) (toWatch : Bool) (w : WakeCfg) (wake : Nat) : PwrR :=
  let r : PwrR := match p.entry with
    | some e => let q := p.drop.refuse e.mode.op 0x11 9; q
    | none => (p, [])
  let q := r.1
  let inForce := decide ((q.mode = .watch) = (toWatch = true))
  let q2 : PwrSt := if inForce then q else { q with prog := some { toWatch := toWatch, age := 0, wake := wake, cfg := w } }
  (if wake = 0 ∧ ¬ inForce then { q2 with wakeCfg := w } else q2, r.2)

/-- An accepted CHRYSALIS or COCOON order in beat `n` (R504): it replaces a pending one. -/
def PwrSt.order (p : PwrSt) (mode : PwrMode) (session : BitVec 8) (w : WakeCfg) (n : Nat) : PwrR :=
  ({ p with entry := some { mode := mode, session := session, wake := w, age := 0, block := 0, started := false, delaying := false },
            wakeCfg := w },
   [(0x1101, [wordN mode.op, session.setWidth 32, wordN (n + toBoundary n 12)])])

/-- The answer a block gives the handshake (Table 18.5). -/
inductive HsAnswer where
  | ack | delay | refuse (cause : Nat)
deriving DecidableEq, Repr

/-- The block under question answers (R504). -/
def PwrSt.answer (p : PwrSt) (a : HsAnswer) : PwrR :=
  match p.entry with
  | none => (p, [])
  | some e =>
    if ¬ e.started ∨ 19 ≤ e.block then (p, [])
    else
      match a with
      | .ack => ({ p with entry := some { e with block := e.block + 1, delaying := false } }, [])
      | .delay => ({ p with entry := some { e with delaying := true } }, [])
      | .refuse c => p.drop.refuse e.mode.op e.block c

/-- Delays reach 10 ms: the block then delaying refuses with cause 7 (R504). -/
def PwrSt.timeout (p : PwrSt) : PwrR :=
  match p.entry with
  | none => (p, [])
  | some e => if e.delaying then p.drop.refuse e.mode.op e.block 7 else (p, [])

/-- A beat has run: orders age, and the handshake starts after the publish phase of its beat. -/
def PwrSt.beat (p : PwrSt) : PwrSt :=
  { p with
    prog := p.prog.map (fun x => { x with age := x.age + 1 })
    entry := p.entry.map (fun e => { e with age := e.age + 1 }) }

/-- The publish phase of the order's beat ends (R504). -/
def PwrSt.published (p : PwrSt) : PwrSt := { p with entry := p.entry.map (fun e => { e with started := true }) }

/-- The program order that takes effect at this boundary. -/
def PwrSt.progDue (p : PwrSt) : Option PendProg := p.prog.filter (fun x => decide (2 ≤ x.age))

/-- The WATCH or RUN program is selected (R501, R503). -/
def PwrSt.switch (p : PwrSt) (x : PendProg) (beat : Nat) : PwrR :=
  if x.toWatch then
    ({ p with prog := none, mode := .watch, entries := p.entries + 1, armed := x.cfg }, [(0x1103, [2, wordN beat])])
  else
    let src := if x.wake = 0 then 0 else x.wake
    let q : PwrSt := { p with prog := none, mode := .run, armed := WakeCfg.zero, lastState := 2, lastSource := BitVec.ofNat 3 src }
    -- A return that a wake source staged was recorded when the source fired (R503).
    if x.wake = 0 then (q, [(0x1107, [1, 0])]) else ({ q with flags := setBit q.flags 1 }, [])

/-- A wake source fires in Watch on a Solo device (R503). -/
def PwrSt.wakeWatch (p : PwrSt) (source : Nat) : PwrR :=
  let r := p.program false WakeCfg.zero source
  (r.1, r.2 ++ [(0x1107, [2, wordN source])])

/-- The entry that takes effect at the coming edge, in place of a beat: every block has answered, and the edge is that of the 12th beat
after the order or a later one (R505). -/
def PwrSt.entryDue (p : PwrSt) : Option PendEntry := p.entry.filter (fun e => decide (11 ≤ e.age) && decide (19 ≤ e.block))

/-- Step 4 and 6 of R505: the pads are latched and the state is entered. -/
def PwrSt.enter (p : PwrSt) (e : PendEntry) (beat : Nat) (pads : Tab PinVal) (pps : Bool) : PwrR :=
  ({ p with
      entry := none, prog := none, mode := e.mode, entries := p.entries + 1, armed := e.wake, latched := 3, padLevels := pads, ppsLevel := pps
      release := 0, wakeAt := none },
   [(0x1103, [wordN e.mode.op, wordN beat])])

/-- Is a wake source armed in the state the device is in (Table 18.6)? -/
def PwrSt.armedFor (p : PwrSt) (source : Nat) : Bool :=
  let w := p.armed
  (match p.mode with | .run => false | .cocoon => decide (source ≠ 3) | _ => true) &&
    (match source with | 1 => w.port | 2 => w.pin | 3 => w.alarm | _ => false)

/-- A wake source fires in Chrysalis or Cocoon at `t` (R507): the first event wakes; of sources that fire together the lowest-numbered is
reported. -/
def PwrSt.wakeSleep (p : PwrSt) (source t : Nat) : PwrSt :=
  let first : Bool := match p.wakeAt with | none => true | some w => decide (t = w) && decide (source < p.lastSource.toNat)
  if first then { p with wakeAt := some t, lastState := BitVec.ofNat 3 p.mode.last, lastSource := BitVec.ofNat 3 source } else p

/-- The first beat after a Chrysalis wake (R509). -/
def PwrSt.woken (p : PwrSt) (t : Nat) (watch : Bool) : PwrR :=
  match p.wakeAt with
  | none => (p, [])
  | some w =>
    let us := (t - w) / 1000
    ({ p with mode := if watch then .watch else .run, wakeAt := none, armed := WakeCfg.zero, wakeUs := satWordU us, flags := setBit p.flags 1 },
     [(0x1104, [3, p.lastSource.setWidth 32, satWordU us])])

/-- PWR_PADREL.DIRECT or ANN (bit 0 or 1, R512). -/
def PwrSt.padRelease (p : PwrSt) (k : Nat) (session : Word) (firstBeat : Bool) : PwrSt :=
  if ¬ firstBeat then { p with flags := setBit p.flags 2 }
  else { p with release := setBit p.release k, releaseBy := session }

/-- Released pads follow PD_OUT from this edge (R512). -/
def PwrSt.padEdge (p : PwrSt) : PwrR :=
  let m := p.release &&& p.latched
  if m = 0 then ({ p with release := 0 }, [])
  else ({ p with release := 0, latched := p.latched &&& ~~~ m }, [(0x1106, [m.setWidth 32, p.releaseBy])])

/-- An Image reset or a Cold start clears the flags and counts and cancels what is pending (R505, R513). -/
def PwrSt.restart (p : PwrSt) : PwrSt :=
  { PwrSt.reset with
    lastState := p.lastState, lastSource := p.lastSource, wakeUs := p.wakeUs, latched := p.latched, padLevels := p.padLevels, ppsLevel := p.ppsLevel
    refBlock := p.refBlock, refCause := p.refCause, wakeCfg := p.wakeCfg }

/-- A Cocoon wake is a Cold start (R510) that leaves PWR_LAST, PWR_WAKE_US and the latched pads as they are (R512, R513). -/
def PwrSt.cocoonReset (p : PwrSt) : PwrSt :=
  { PwrSt.reset with
    lastState := p.lastState, lastSource := p.lastSource, wakeUs := p.wakeUs, wakeAt := p.wakeAt, latched := p.latched, padLevels := p.padLevels
    ppsLevel := p.ppsLevel }

/-- A Beat restart cancels the entry (R505). -/
def PwrSt.beatRestart (p : PwrSt) : PwrSt := p.drop

/-- PWR_STATUS (Table 18.8). -/
def PwrSt.status (p : PwrSt) (gnsOn : Bool) : Word :=
  let idle := (List.range 12).any (fun d => decide (p.domState gnsOn d = .gated))
  let st := if p.mode = .watch then 2 else if idle then 1 else 0
  let op := match p.entry with | some e => e.mode.op | none => (match p.prog with | some x => if x.toWatch then 2 else 1 | none => 0)
  fld st 0 ||| bit p.entry.isSome 3 ||| fld op 4 ||| bit (decide (p.latched ≠ 0)) 7

/-- A read of the PWR block; `sel` is the requester's PWR_CHSEL (Table 18.8). -/
def PwrSt.read (p : PwrSt) (gnsOn : Bool) (sel ofs : Nat) : Option Word :=
  let d := p.dom sel
  let w := p.wakeCfg
  match ofs with
  | 0x0000 => some 0x11010000
  | 0x0004 => some (p.status gnsOn)
  | 0x0010 => some (wordN sel)
  | 0x0020 => some (((maskOf 12 ((List.range 12).filter (fun k => decide (p.domState gnsOn k = .on)))) : BitVec 12).setWidth 32)
  | 0x0024 => some 0
  | 0x0028 => some (p.latched.setWidth 32)
  | 0x002C => some (w.addr.setWidth 32 ||| bit p.armed.port 8 ||| bit p.armed.pin 9 ||| bit p.armed.alarm 10 ||| bit w.pinLow 11)
  | 0x0030 => some (lowOf w.alarmAt)
  | 0x0034 => some (highOf w.alarmAt)
  | 0x0038 => some (p.lastState.setWidth 32 ||| fld p.lastSource.toNat 4)
  | 0x003C => some (p.refBlock.setWidth 32 ||| fld p.refCause.toNat 8)
  | 0x0040 => some (p.flags.setWidth 32)
  | 0x0044 => some p.entries
  | 0x0048 => some p.refusals
  | 0x004C => some p.wakeUs
  | 0x8000 => some (wordN (p.idleMs sel) ||| bit (gateable.contains sel) 16)
  | 0x8004 => some (wordN (p.domState gnsOn sel).code ||| bit d.idle 2)
  | 0x8008 => some (wordN (p.idleMs sel - d.ms))
  | 0x800C => some d.gates
  | _ => none

/-- Is the pad of an output latched (R511)?  AOUT pads never are. -/
def PwrSt.padLatched (p : PwrSt) (k : Nat) : Bool := decide (16 ≤ k) && p.latched.getLsbD 0

/-- W1C of PWR_FLAGS. -/
def PwrSt.clearFlags (p : PwrSt) (w : Word) : PwrSt := { p with flags := p.flags &&& ~~~ (w.setWidth 3) }

end Sys2Proof.Machine
end

