-- ==== Sys2Proof/Machine/Access.lean ====
section
/-! DEFINITION. Register reads over the service fabric (19_service_fabric.md R522 to R525; 01_device_and_beat.md R38) and the
pair-domain state as the join copy sees it. -/

namespace Sys2Proof.Machine

open Sys2Proof

/-- The admission delay of a reference's path, in ns (R34, R230, R231): a channel's group delay, the 2 ms of internal GNSS, the
latency of a source with a sensor time model; other sources have no fixed latency of their own. -/
def State.pathDelay (s : State) (source : Nat) : Nat :=
  if 0x4101 ≤ source ∧ source ≤ 0x4140 then s.cnd.delayTotal (source - 0x4101)
  else if 0x4201 ≤ source ∧ source ≤ 0x4204 then 2000000
  else match s.tim.modelOf (BitVec.ofNat 16 source) with
    | some m => m.latencyNs.toNat
    | none => 0

/-- The pair-domain state of this device (R30). -/
def State.pairDom (s : State) : PairDom :=
  { est := s.est, ctl := s.ctl, alc := s.alc, praline := s.hwk.praline, grid := s.lun.grid, tracks := s.lun.tracks,
    bindings := s.lun.bindings, orbits := s.gns.orbits, solutions := s.gns.solutions, excl := s.gns.excl,
    spoofA := s.gns.spoofA, spoofB := s.gns.spoofB, att := s.gns.att, aid := s.gns.aid,
    nodes := s.fbu.nodes, queues := (List.range 16).map (fun k => (Tab.get ChanSt.zero s.fbu.channels k).queue), regions := s.hst.regionMem, sessions := Tab.mapVals SessionSt.zero s.hst.sessions SessionSt.pairView
    openReqIds := s.hst.openReqIds, cal := s.lun.cal, calPending := s.lun.pending, calSeq := s.lun.calSeq, job := s.hwk.job, powerLog := s.gns.powerLog
    arm := s.tim.arm, changes := s.img.changes, joinBlock := s.pai.joinBlock, exclRun := s.pai.exclRun, takeoversPair := s.pai.takeoversPair }

/-- Take over a pair-domain state. -/
def State.setPairDom (s : State) (d : PairDom) : State :=
  { s with
    est := d.est, ctl := d.ctl, alc := d.alc, hwk := { s.hwk with praline := d.praline, job := d.job }
    lun := { s.lun with grid := d.grid, tracks := d.tracks, bindings := d.bindings, cal := d.cal, pending := d.calPending, calSeq := d.calSeq }
    gns := { s.gns with
      orbits := d.orbits, solutions := d.solutions, excl := d.excl, spoofA := d.spoofA, spoofB := d.spoofB, att := d.att, aid := d.aid, powerLog := d.powerLog }
    tim := { s.tim with arm := d.arm }, img := { s.img with changes := d.changes }
    pai := { s.pai with joinBlock := d.joinBlock, exclRun := d.exclRun, takeoversPair := d.takeoversPair }
    fbu := { s.fbu with
      nodes := d.nodes
      channels := Tab.modifyAll ChanSt.zero s.fbu.channels (List.range 16) (fun k c => match d.queues[k]? with | some q => c.setQueue q | none => c) }
    hst := { s.hst with regionMem := d.regions, sessions := d.sessions, openReqIds := d.openReqIds } }

/-- The layout signature of the active bank; 0 with no bank. -/
def State.layoutSig (s : State) : Long := match s.sch.sched with | some x => x.header.layoutSig | none => 0

/-- The image that runs, and its COMPAT. -/
def State.imageId (s : State) : Long := match s.sch.sched with | some x => x.header.imageId | none => s.img.imageId
def State.compat (s : State) : Half := match s.sch.sched with | some x => x.header.compat | none => 0

/-- Content of page `k` of the slow state. -/
def State.page (s : State) (k : Nat) : List Byte := pageBytes s.layoutSig s.pairDom k

/-- A requester's own copy of a selection register: by block, input and session (R523).  It is held as its difference from
the reset value, so that a requester never heard of reads the reset value. -/
def selKey (who : Who) (block : Nat) : Nat := block * 512 + who.input.toNat * 32 + who.session.toNat % 32

/-- Reset values of the selection registers: HST_CHSEL 1, FBU_SRCSEL (0x21 here) 1, every other 0; FBU_BUFSEL is 0x20. -/
def selReset (block : Nat) : Word := if block = 0x0D ∨ block = 0x21 then 1 else 0

/-- The selection of a requester. -/
def State.sel (s : State) (who : Who) (block : Nat) : Word := Tab.get 0 s.svc.chsel (selKey who block) ^^^ selReset block

/-- Write a selection. -/
def State.setSel (s : State) (who : Who) (block : Nat) (w : Word) : State :=
  { s with svc := { s.svc with chsel := Tab.set 0 s.svc.chsel (selKey who block) (w ^^^ selReset block) } }

/-- A session that closes takes its selections and holding registers with it: a later session starts from the reset values (R523, R524). -/
def SvcSt.dropSession (v : SvcSt) (k : Nat) : SvcSt :=
  let other := fun (p : Nat × Word) => decide (p.1 % 512 ≠ 9 * 32 + k)
  { v with chsel := v.chsel.filter other, pairHold := v.pairHold.filter other, pairLast := v.pairLast.filter (fun p => decide (p.1 % 512 ≠ 9 * 32 + k)) }

/-- What a field-bus read depends on. -/
def State.fbuView (s : State) (who : Who) : FbuView :=
  { chsel := s.sel who 0x0C, bufsel := s.sel who 0x20, srcsel := s.sel who 0x21, live := s.beat.ledgers, snap := s.beat.ledgerSnap }

/-- The value at an address without any effect of the read: none where nothing is mapped (R522).  Registers of the
beat-domain engines return the values of the last publish phase (R38). -/
def State.peek (s : State) (who : Who) (addr : Word) : Option Word :=
  let b := addr.toNat / 65536
  let ofs := addr.toNat % 65536
  let sel := s.sel who b
  let p := s.pub
  let t := fun (l n : Nat) => decide (l ≤ ofs) && decide (ofs < l + 4 * n) && decide (ofs % 4 = 0)
  if ofs % 4 ≠ 0 then none
  else match b with
  | 0x00 => idRead s.img.paramsValid ofs
  | 0x01 => p.sch.read p.beat (bits sel 3 0) ofs
  | 0x02 => s.img.read s.rcd.opsec ofs
  | 0x03 => s.tim.read (bits sel 5 0) ofs
  | 0x04 => p.cnd.read (bits sel 5 0) ofs
  | 0x05 => p.gns.read s.pai.sideB (bits sel 8 0) ofs
  | 0x06 => p.hwk.read (match s.sch.sched with | some x => x.problems.length | none => 0) (bits sel 7 0) ofs
  | 0x07 => p.est.read (bits sel 5 0) (s.pathDelay (p.est.entry (bits sel 5 0)).source.toNat) ofs
  | 0x08 => p.lun.read (bits sel 11 0) ofs
  | 0x09 => p.alc.read (bits sel 5 0) ofs
  | 0x0A => p.ctl.read (bits sel 10 0) ofs
  | 0x0B => s.out.read (bits sel 6 0) (s.pai.gate s.tim.now) ofs
  | 0x0C => if ofs = 0x14 then some (s.sel who 0x20) else if ofs = 0x18 then some (s.sel who 0x21) else s.fbu.read (s.fbuView who) ofs
  | 0x0D => s.hst.read sel ofs
  | 0x0E => s.pai.read s.pairCfg s.img.otp.deviceId s.tim.now (s.pai.dirtyPages s.pairCfg s.page).length ofs
  | 0x0F => if ofs = 0x10 then some sel else s.saf.read s.cnd.delayTotal (bits sel 3 0) (bits sel 11 8) ofs
  | 0x10 => if t 0x9000 8 then some (s.rcd.windowWord ((ofs - 0x9000) / 4)) else s.rcd.read sel ofs
  | 0x11 => s.pwr.read s.gns.powered (bits sel 3 0) ofs
  | 0x12 => if t 0x9000 8 then some (s.svc.tagWord ((ofs - 0x9000) / 4)) else s.svc.read s.img.otp sel ofs
  | _ => none

/-- The RL and RU registers (Table 0.3): reads lock or release. -/
def lockingReg (addr : Word) : Bool :=
  [0x000C9000, 0x000C904C, 0x00109000, 0x0010901C, 0x00129000, 0x0012901C].contains addr.toNat

/-- An unmapped access (R522); a write is an ignored one of its block (Table 19.4). -/
def State.unmapped (s : State) (who : Who) (addr : Word) (write : Bool) : State :=
  let v := s.svc
  let v1 := { v with unmapped := v.unmapped + 1, unmapAddr := if v.flUnmapped then v.unmapAddr else addr, flUnmapped := true }
  let v2 := if write then v1.countIgnored (addr.toNat / 65536) else v1
  { s with svc := v2 }.raise [(0x1202, [who.input.setWidth 32, addr, bit write 0])]

/-- The requester's key in the table of holding registers, one for each block (R524). -/
def State.holdKey (who : Who) (addr : Word) : Nat := selKey who (addr.toNat / 65536)

/-- R524: the low word of a pair read by a requester; the high word goes into the holding register. -/
def State.holdPair (s : State) (who : Who) (addr : Word) : State :=
  let k := State.holdKey who addr
  let high := (s.peek who (addr + 4)).getD 0
  { s with svc := { s.svc with pairHold := Tab.set 0 s.svc.pairHold k high, pairLast := Tab.set 0 s.svc.pairLast k addr.toNat } }

/-- Any other access of a requester to a block ends its claim on the holding register (R524). -/
def State.dropPair (s : State) (who : Who) (addr : Word) : State :=
  { s with svc := { s.svc with pairLast := Tab.set 0 s.svc.pairLast (State.holdKey who addr) 0 } }

/-- The buffer that a requester's FBU_CHSEL and FBU_BUFSEL select. -/
def State.bufKey (s : State) (who : Who) : Nat := bits (s.sel who 0x0C) 3 0 * 512 + bits (s.sel who 0x20) 8 0

/-- A read of FBU_B_HEAD locks the buffer unless another requester holds it (R361). -/
def FbuSt.lockBuffer (f : FbuSt) (who : Who) (k : Nat) : FbuSt :=
  let b := Tab.get RxBuf.zero f.buffers k
  match b.lock with
  | none => { f with buffers := Tab.set RxBuf.zero f.buffers k { b with lock := some (who.input, who.session) } }
  | some _ => f

/-- A read of FBU_B_END by the lock holder releases the lock (R361). -/
def FbuSt.unlockBuffer (f : FbuSt) (who : Who) (k : Nat) : FbuSt :=
  let b := Tab.get RxBuf.zero f.buffers k
  if b.lock = some (who.input, who.session) then { f with buffers := Tab.set RxBuf.zero f.buffers k b.release } else f

/-- The effect of reading an RL or RU register, and the value it answers. -/
def State.lockRead (s : State) (who : Who) (addr : Word) : State × Word :=
  let v := (s.peek who addr).getD 0
  match addr.toNat with
  | 0x000C9000 => ({ s with fbu := s.fbu.lockBuffer who (s.bufKey who) }, v)
  | 0x000C904C => ({ s with fbu := s.fbu.unlockBuffer who (s.bufKey who) }, v)
  | 0x00109000 => let r := s.rcd.lockWindow who.input; ({ s with rcd := r.1 }, r.2)
  | 0x0010901C => ({ s with rcd := s.rcd.releaseWindow who.input }, v)
  | 0x00129000 =>
    let w := s.svc.tagLock (bits (s.sel who 0x12) 23 16)
    ({ s with svc := w }, w.tagWord 0)
  | 0x0012901C => ({ s with svc := s.svc.tagRelease }, v)
  | _ => (s, v)

/-- One word read over the fabric, with all that a read does: the count of the access, an unmapped address, the pair rule
of R524 and the locks. -/
def State.readReg (s0 : State) (who : Who) (addr : Word) : State × Word :=
  let b := addr.toNat / 65536
  let ofs := addr.toNat % 65536
  match s0.peek who addr with
  | none => (s0.unmapped who addr false, 0)
  | some v =>
    let s := { s0 with svc := s0.svc.countAccess who b ofs false (lockingReg addr) }
    if isPairLow b ofs then (s.holdPair who addr, v)
    else
      let k := State.holdKey who addr
      let held := decide (4 ≤ ofs) && isPairLow b (ofs - 4) && decide (Tab.get 0 s.svc.pairLast k = addr.toNat - 4)
      let w := if held then Tab.get 0 s.svc.pairHold k else v
      let s1 := s.dropPair who addr
      if lockingReg addr then s1.lockRead who addr else (s1, w)

end Sys2Proof.Machine
end

