-- ==== Sys2Proof/Machine/Navigation.lean ====
section
/-! DEFINITION. The navigation solution with its integrity and spoofing checks, the three-antenna attitude, and the offers
to the estimator (06_gnss_baseband.md R184 to R191). -/

namespace Sys2Proof.Machine

/-- The fit of R185 with its unknowns at the vessel reference point (R187): mm, 0.1 mm/s, ns, ppt. -/
structure NavFit where
  posN    : Int
  posE    : Int
  posD    : Int
  velN    : Int
  velE    : Int
  velD    : Int
  clkBias : Int
  clkRate : Int
  isbGal  : Int
  isbBds  : Int
  isbGlo  : Int
  /-- Time uncertainty in ns (Table 4.1). -/
  sigmaT  : Nat
deriving DecidableEq, Repr, Inhabited

/-- One latch item of the union (Table 6.8). -/
structure Latch where
  sideB   : Bool
  channel : Nat
  port    : Nat
  stream  : Nat
  signal  : Nat
  sv      : Nat
  cn0     : Nat
  flags   : Nat
  words   : List Word
deriving DecidableEq, Repr

/-- The fields of a latch item. -/
def latchOf (i : Item) : Latch :=
  let w := fun (k : Nat) => (i.payload.getD k 0).toNat
  { sideB := i.sideB, channel := w 0 % 65536, port := w 0 / 65536 % 4, stream := w 0 / 262144 % 4, signal := w 0 / 16777216,
    sv := w 1 % 65536, cn0 := w 1 / 65536, flags := w 7 / 65536, words := i.payload }

/-- The system of a signal code: 0 GPS, QZSS and SBAS, 1 Galileo, 2 BeiDou, 3 GLONASS (Table 6.2). -/
def Latch.system (l : Latch) : Nat := l.signal / 16

/-- A satellite, by system and SV. -/
def Latch.sat (l : Latch) : Nat := l.system * 4096 + l.sv % 4096

/-- The latch's key among the exclusions: side × 384 + channel. -/
def Latch.key (l : Latch) : Nat := (if l.sideB then 384 else 0) + l.channel

end Sys2Proof.Machine

namespace Sys2Proof.Config

open Sys2Proof.Machine

/-- The navigation problem that a solver slot holds: 0 none, 1 + 4·side + antenna, and 4 + 4·side for the attitude.  The spec
names no slot for it. -/
opaque navOf : (slot : Nat) → Nat

/-- The weighted fit of R185 over the latches used, with the orbit data: the spec names its unknowns and weights and leaves the
model tables to Sirlek. -/
opaque navFit : (orbits : Tab (List Word)) → (used : List Latch) → NavFit

/-- The normalised residual of a latch against the fit over the latches used, Q8.8 (R188). -/
opaque navResidual : (orbits : Tab (List Word)) → (used : List Latch) → Latch → Nat

/-- Is the predicted transmit time known to better than a quarter of the ambiguity period (R184)? -/
opaque ambResolved : (orbits : Tab (List Word)) → Latch → Bool

/-- The ionospheric bound of the GNSS table's models on two signals of one satellite, mm (Table 6.9). -/
opaque ionoBoundMm : Latch → Latch → Nat

/-- The Doppler of a latch predicted from the published velocity and rates through the lever arm, 2⁻¹⁰ Hz (Table 6.9). -/
opaque predictedDoppler : (orbits : Tab (List Word)) → (eta : List Int) → Latch → Int

/-- Orbit data with a latch's data symbols decoded into them (R184): the broadcast messages are defined outside the spec. -/
opaque decodeSymbols : (old : List Word) → Latch → List Word

/-- The float attitude of R190: heading, pitch, roll as binary angles, the float ambiguities and the covariance; none where
no satellite is tracked on one signal at all three ports. -/
opaque floatAttitude : (latches : List Latch) → Option (List Int × List Int × List Int)

/-- The attitude that fixed ambiguities give, its covariance, and its RMS phase residual in 0.1 mm (R191). -/
opaque fixedAttitude : (latches : List Latch) → (sats : List Nat) → (ints : List Int) → List Int × List Int × Nat

end Sys2Proof.Config

namespace Sys2Proof.Machine

open Sys2Proof

/-- The latch items of the union (kind 3). -/
def latchesOf (union : List Item) : List Latch := (union.filter (fun i => decide (i.kind = 3))).map latchOf

/-- Broadcast messages decoded from the symbols of the union's latches (R184). -/
def GnsSt.decode (g : GnsSt) (ls : List Latch) : GnsSt :=
  ls.foldl (fun (x : GnsSt) l =>
    if (l.words.getD 8 0) = 0 then x
    else { x with orbits := Tab.set [] x.orbits l.sv (Config.decodeSymbols (Tab.get [] x.orbits l.sv) l) }) g

/-- Satellites that showed SLIP in this latch (R191): FLAGS bit 3. -/
def GnsSt.noteSlips (g : GnsSt) (ls : List Latch) (latchBeat : Nat) : GnsSt :=
  let sl := ls.filter (fun l => l.flags.testBit 3)
  let slips := sl.foldl (fun (t : Tab Nat) l => Tab.set 0 t l.sat latchBeat) g.att.slips
  let kept := (g.att.fixedSats.zip g.att.fixedInts).filter (fun x => !(sl.any (fun l => decide (l.sat = x.1))))
  let sats := kept.map Prod.fst
  { g with att := { g.att with slips := slips, fixedSats := sats, fixedInts := kept.map Prod.snd, fixed := g.att.fixed && decide (4 ≤ sats.length) } }

/-- Is an own stream's AGC outside its limits for 10 beats (Table 6.9)?  The partner's streams are not known. -/
def GnsSt.agcFails (g : GnsSt) (own : Bool) (l : Latch) : Bool :=
  own && decide (10 ≤ (g.strm (4 * l.port + l.stream)).agcBad)

/-- TX_TIME and DOPPLER of a latch item (Table 6.8). -/
def Latch.txTime (l : Latch) : Nat := (l.words.getD 2 0).toNat + (l.words.getD 3 0).toNat * 2 ^ 32
def Latch.doppler (l : Latch) : Int := (l.words.getD 6 0).toInt

/-- The cross-band test on two signals of one satellite: the pseudorange difference less the ionospheric bound (Table 6.9).  One ms
of transmit time is 299,792,458 mm. -/
def bandsApart (t : GnsTable) (l m : Latch) : Bool :=
  decide ((t.xbandM.toNat * 1000 + Config.ionoBoundMm l m) * 2 ^ 32 < ((l.txTime : Int) - m.txTime).natAbs * 299792458)

/-- The checks of Table 6.9 that need no fit: the row of the first that fails, 0 for none. -/
def GnsSt.signalCheck (g : GnsSt) (t : GnsTable) (eta : List Int) (own : Bool) (ls : List Latch) (l : Latch) : Nat :=
  if ls.any (fun m => decide (m.sat = l.sat) && decide (signalBand (BitVec.ofNat 8 m.signal) ≠ signalBand (BitVec.ofNat 8 l.signal)) &&
      !(l.flags.testBit 4) && !(m.flags.testBit 4) && bandsApart t l m) then 2
  else if l.cn0 < t.cn0Min.toNat ∨ 5500 < l.cn0 then 6
  else if g.agcFails own l then 7
  else if t.doppThr.toNat * 1024 < (l.doppler - Config.predictedDoppler g.orbits eta l).natAbs then 8
  else 0

/-- The distinct satellites of a list, and of one of its systems. -/
def satsOf (ls : List Latch) : List Nat := (ls.map Latch.sat).eraseDups
def satsIn (ls : List Latch) (sys : Nat) : Nat := (satsOf (ls.filter (fun l => decide (l.system = sys)))).length

/-- The systems present. -/
def systemsOf (ls : List Latch) : List Nat := (List.range 4).filter (fun k => decide (0 < satsIn ls k))

/-- R186: drop systems with fewer than 2 satellites, then, while the count is short, the system with the fewest; of equals
the one with the higher code goes first. -/
def dropSystems : Nat → List Latch → List Latch
  | 0, _ => []
  | n + 1, ls =>
    let ls1 := ls.filter (fun l => decide (2 ≤ satsIn ls l.system))
    let sys := systemsOf ls1
    if sys.isEmpty then []
    else if 4 + (sys.length - 1) + 1 ≤ (satsOf ls1).length then ls1
    else
      let worst := sys.foldl (fun (w k : Nat) => if satsIn ls1 k ≤ satsIn ls1 w then k else w) (sys.headD 0)
      dropSystems n (ls1.filter (fun l => decide (l.system ≠ worst)))

/-- The latch with the largest normalised residual. -/
def worstLatch (orbits : Tab (List Word)) (used : List Latch) : Option (Latch × Nat) :=
  used.foldl (fun (w : Option (Latch × Nat)) l =>
    let r := Config.navResidual orbits used l
    match w with
    | none => some (l, r)
    | some x => if x.2 < r then some (l, r) else w) none

/-- R188's residual test: fit again without the worst signal, up to `k` times.  Answers the signals used, if no residual
exceeds the threshold in the end, and those left out. -/
def fitLoop (orbits : Tab (List Word)) (thr : Nat) : Nat → List Latch → List Latch → Option (List Latch) × List Latch
  | k, used, out =>
    let u := dropSystems 5 used
    match worstLatch orbits u with
    | none => (none, out)
    | some (l, r) =>
      if r ≤ thr then (some u, out)
      else match k with
        | 0 => (none, out)
        | j + 1 => fitLoop orbits thr j (u.filter (fun m => decide (m ≠ l))) (out ++ [l])

/-- R188 for one signal of a latch with its verdict: exclusion, or a step towards readmission. -/
def GnsSt.exclStep (g : GnsSt) (own : Bool) (readmit : Nat) (l : Latch) (reason : Nat) : GnsSt × List Ev :=
  let x := Tab.get ExclSt.zero g.excl l.key
  let ch := g.ch l.channel
  let side : Word := if l.sideB then 1 else 0
  if reason ≠ 0 then
    let y : ExclSt := { on := true, passed := 0, latches := if x.on then x.latches + 1 else 0 }
    let g1 := { g with excl := Tab.set ExclSt.zero g.excl l.key y }
    let shown : GnsCh :=
      { ch with excluded := true, exclReason := BitVec.ofNat 4 reason, excls := if x.on then ch.excls else ch.excls + 1 }
    let g2 := if own then g1.setCh l.channel shown else g1
    (g2, if x.on then [] else [(0x0504, [BitVec.ofNat 32 l.channel, BitVec.ofNat 32 reason, side])])
  else if x.on then
    if readmit ≤ x.passed + 1 then
      let g1 := { g with excl := Tab.set ExclSt.zero g.excl l.key ExclSt.zero }
      let g2 := if own then g1.setCh l.channel { ch with excluded := false } else g1
      (g2, [(0x0505, [BitVec.ofNat 32 l.channel, BitVec.ofNat 32 (x.latches + 1)])])
    else
      ({ g with excl := Tab.set ExclSt.zero g.excl l.key { x with passed := x.passed + 1, latches := x.latches + 1 } }, [])
  else (g, [])

/-- The clock checks of Table 6.9 against the previous solution and the learned rate (ppt): jump, drift. -/
def clockFails (t : GnsTable) (prev : NavSol) (f : NavFit) (beat : Nat) (learned : Int) : Bool :=
  let predicted := prev.clkBias + Config.quot 188 (prev.clkRate * ((beat : Int) - prev.beat)) 1000000
  (prev.valid && decide (t.clkJump.toNat < (f.clkBias - predicted).natAbs)) ||
    decide (t.clkDrift.toNat * 1000 < (f.clkRate - learned).natAbs)

/-- The cross-antenna check: the other antennas' valid solutions of the same side and beat. -/
def GnsSt.antennaFails (g : GnsSt) (t : GnsTable) (side ant beat : Nat) (f : NavFit) : Bool :=
  (List.range 3).any (fun a =>
    let o := Tab.get NavSol.zero g.solutions (side * 4 + a)
    decide (a ≠ ant) && o.valid && decide (o.beat = beat) &&
      decide ((t.xantM.toNat * 1000) ^ 2 < (o.posN - f.posN).natAbs ^ 2 + (o.posE - f.posE).natAbs ^ 2 + (o.posD - f.posD).natAbs ^ 2))

/-- The systems bits of the GNSS section: GPS, Galileo, BeiDou, GLONASS, QZSS (PRN 193 to 202), SBAS. -/
def systemBits (ls : List Latch) : BitVec 6 :=
  let has (p : Latch → Bool) (k : Nat) : Nat := if ls.any p then 2 ^ k else 0
  let qzss (l : Latch) : Bool := decide (l.system = 0) && decide (193 ≤ l.sv) && decide (l.sv ≤ 202)
  let sbas (l : Latch) : Bool := decide (l.signal = 5) || decide (l.signal = 6)
  BitVec.ofNat 6 (has (fun l => decide (l.system = 0) && !qzss l && !sbas l) 0 + has (fun l => decide (l.system = 1)) 1 +
    has (fun l => decide (l.system = 2)) 2 + has (fun l => decide (l.system = 3)) 3 + has qzss 4 + has sbas 5)

/-- R189's second condition on one baseline: single differences of at least 5 satellites spanning 30° that agree. -/
def oneDirection (t : GnsTable) (vis : List (Nat × Int)) (a b : List Latch) : Bool :=
  let diffs : List (Nat × Word) := a.filterMap (fun l =>
    (b.find? (fun m => decide (m.sat = l.sat) && decide (m.signal = l.signal))).map (fun m =>
      (l.sv, (l.words.getD 4 0) - (m.words.getD 4 0))))
  diffs.any (fun (d : Nat × Word) =>
    let same := diffs.filter (fun (e : Nat × Word) => decide ((e.2 - d.2).toNat ≤ t.spoofPhase.toNat * 65536))
    let elev := same.filterMap (fun (e : Nat × Word) => (vis.find? (fun (v : Nat × Int) => decide (v.1 = e.1))).map Prod.snd)
    decide (5 ≤ (same.map Prod.fst).eraseDups.length) &&
      elev.any (fun x => elev.any (fun y => decide (3000 ≤ x - y))))

/-- R189's third condition: every tracked signal's C/N0 has risen by more than 6 dB-Hz within 10 latches while the AGC fill
fell. -/
def powerRise (now : PowerLog) (old : List PowerLog) : Bool :=
  old.any (fun p =>
    !now.cn0.isEmpty && now.cn0.all (fun (c : Nat × Nat) =>
      match p.cn0.find? (fun (x : Nat × Nat) => decide (x.1 = c.1)) with
      | some x => decide (x.2 + 600 < c.2)
      | none => false) &&
    (match now.fill, p.fill with | some f, some g => decide (f < g) | _, _ => false))

/-- Suspicion of a side. -/
def GnsSt.spoof (g : GnsSt) (sideB : Bool) : SpoofSt := if sideB then g.spoofB else g.spoofA
def GnsSt.setSpoof (g : GnsSt) (sideB : Bool) (x : SpoofSt) : GnsSt := if sideB then { g with spoofB := x } else { g with spoofA := x }

/-- A condition of R189 holds for a side: suspicion, with event 0x0506 when it is new. -/
def GnsSt.suspect (g : GnsSt) (sideB : Bool) (condition : Nat) : GnsSt × List Ev :=
  let x := g.spoof sideB
  (g.setSpoof sideB x.raise, if x.suspected then [] else [(0x0506, [if sideB then 1 else 0, BitVec.ofNat 32 condition])])

/-- The spoofing conditions that the latches themselves show (R189), once for a side and latch. -/
def GnsSt.watchSpoof (g : GnsSt) (t : GnsTable) (sideB own : Bool) (ls : List Latch) (vis : List (Nat × Int)) : GnsSt × List Ev :=
  let side := ls.filter (fun l => l.sideB == sideB)
  if side.isEmpty then (g, [])
  else
    let port (p : Nat) := side.filter (fun l => decide (l.port = p))
    let direction := oneDirection t vis (port 0) (port 1) || oneDirection t vis (port 0) (port 2)
    let fill := ((List.range 12).map (fun k => (g.strm k).fill.toNat)).foldl (· + ·) 0
    let log : PowerLog := { sideB := sideB, cn0 := (side.filter (fun l => l.flags.testBit 0)).map (fun l => (l.channel, l.cn0)),
                            fill := if own then some fill else none }
    let old := g.powerLog.filter (fun p => p.sideB == sideB)
    let power := powerRise log old
    let g1 := { g with powerLog := ((log :: old).take 10) ++ g.powerLog.filter (fun p => p.sideB != sideB) }
    let r1 := if direction then g1.suspect sideB 2 else (g1, [])
    let r2 := if power then r1.1.suspect sideB 3 else (r1.1, [])
    (r2.1, r1.2 ++ r2.2)

/-- What a navigation problem gives besides the block's new state. -/
structure NavOut where
  gns    : GnsSt
  evs    : List Ev
  /-- The position offered to the estimator. -/
  offer  : Option RefOffer
  /-- The side's positions of this latch are withdrawn (clock checks). -/
  drop   : Bool
  /-- The clock bias that the time keeper may take: none where the solution does not qualify. -/
  bias   : Option Int
deriving DecidableEq, Repr

/-- NAVIGATION_SOLUTION of one side and antenna in beat `n` (R185 to R189): `own` says that the side is this device's. -/
def GnsSt.navigate (g : GnsSt) (t : GnsTable) (sideB own : Bool) (ant n : Nat) (eta : List Int) (learned : Int) (all : List Latch) : NavOut :=
  let side := if sideB then 1 else 0
  let ls := all.filter (fun l => (l.sideB == sideB) && decide (l.port = ant))
  let prev := Tab.get NavSol.zero g.solutions (side * 4 + ant)
  let check := fun (l : Latch) => g.signalCheck t eta own ls l
  let usable := ls.filter (fun l => !(Tab.get ExclSt.zero g.excl l.key).on && decide (check l = 0) &&
    (!(l.flags.testBit 4) || Config.ambResolved g.orbits l))
  let fitted := fitLoop g.orbits t.resThr.toNat t.exclMax.toNat usable []
  let reason := fun (l : Latch) =>
    if check l ≠ 0 then check l
    else if fitted.2.contains l then 1
    else match fitted.1 with
      | some u => if t.resThr.toNat < Config.navResidual g.orbits u l then 1 else 0
      | none => 0
  let ex := ls.foldl (fun (a : GnsSt × List Ev) l =>
    let r := a.1.exclStep own t.readmit.toNat l (reason l)
    (r.1, a.2 ++ r.2)) (g, [])
  let excluded := (ls.filter (fun l => (Tab.get ExclSt.zero ex.1.excl l.key).on)).length
  match fitted.1 with
  | none =>
    { gns := { ex.1 with solutions := Tab.set NavSol.zero ex.1.solutions (side * 4 + ant) { prev with valid := false, excluded := excluded, beat := n } },
      evs := ex.2, offer := none, drop := false, bias := none }
  | some u =>
    let f := Config.navFit g.orbits u
    let clock := clockFails t prev f n learned
    let apart := g.antennaFails t side ant n f
    let ok := !clock && !apart
    let sol : NavSol :=
      { valid := ok, posN := f.posN, posE := f.posE, posD := f.posD, velN := f.velN, velE := f.velE, velD := f.velD,
        clkBias := f.clkBias, clkRate := f.clkRate, isbGal := f.isbGal, isbBds := f.isbBds, isbGlo := f.isbGlo,
        used := (satsOf u).length, systems := systemBits u, excluded := excluded, beat := n }
    let g1 := { ex.1 with solutions := Tab.set NavSol.zero ex.1.solutions (side * 4 + ant) sol }
    let sp := if clock then g1.suspect sideB 1 else (g1, [])
    let suspected := (sp.1.spoof sideB).suspected
    { gns := sp.1, evs := ex.2 ++ sp.2,
      offer := if ok then
          some { source := BitVec.ofNat 16 (0x4201 + ant), sideB := sideB, shared := false, vals := [f.posN, f.posE], sigma := none,
                 reject := suspected, instant := ((n - 1 : Nat) : Int) * 1000000, fromBeat := n + 1, slot := none }
        else none,
      drop := clock,
      bias := if ok && !suspected && decide (4 ≤ (satsOf u).length) && decide (f.sigmaT ≤ 100) then some f.clkBias else none }

/-- The attitude of one side (R190, R191): the fixed attitude while ATT_FIXED, else the float one. -/
def GnsSt.attitude (g : GnsSt) (sideB : Bool) (n : Nat) (all : List Latch) : GnsSt × Option RefOffer :=
  let ls := all.filter (fun l => l.sideB == sideB)
  match Config.floatAttitude ls with
  | none => (g, none)
  | some (att, floats, cov) =>
    let offer := fun (v cv : List Int) =>
      ({ source := 0x4204, sideB := sideB, shared := false, vals := [v.headD 0], sigma := some (cv.headD 0).natAbs,
         reject := (g.spoof sideB).suspected, instant := ((n - 1 : Nat) : Int) * 1000000, fromBeat := n + 1, slot := none } : RefOffer)
    let g1 := { g with att := { g.att with latchBeat := BitVec.ofNat 64 (n - 1), floats := att ++ floats, cov := cov } }
    if g.att.fixed then
      let f := Config.fixedAttitude ls g.att.fixedSats g.att.fixedInts
      (g1, some (offer f.1 f.2.1))
    else (g1, some (offer att cov))

/-- R191: a fix for a latch beat, accepted or refused: 0 accepted, 1 STALE, 2 RESIDUAL; with its RMS residual. -/
def GnsSt.fix (g : GnsSt) (latchBeat : Long) (sats : List Nat) (ints : List Int) (ls : List Latch) : GnsSt × Nat × Nat :=
  match g.table with
  | none => (g, 1, 0)
  | some t =>
    if sats.any (fun k => decide (latchBeat.toNat < Tab.get 0 g.att.slips k)) then (g, 1, 0)
    else
      let f := Config.fixedAttitude ls sats ints
      if f.2.2 < t.fixResMm.toNat * 10 then
        ({ g with att := { g.att with fixed := decide (4 ≤ sats.length), fixedSats := sats, fixedInts := ints, latchBeat := latchBeat } }, 0, f.2.2)
      else (g, 2, f.2.2)

/-- An offer to the estimator (R187, R190, R269): it waits for the update problem of its first beat. -/
def EstSt.queueOffer (e : EstSt) (o : RefOffer) : EstSt := { e with offers := e.offers ++ [o] }

/-- NAVIGATION_SOLUTION within STORE (R185): the problem of the slot is taken, its results go to the estimator and, for
antenna GA of the own side, to the time keeper. -/
def State.navStore (s : State) (slot : Nat) : State :=
  let code := Config.navOf slot
  match s.gns.table with
  | none => s
  | some t =>
    if code = 0 then s
    else
      let sideB := decide (4 < code)
      let ant := (code - 1) % 4
      let all := latchesOf s.beat.union
      let n := s.beat.n.toNat
      let own := sideB == s.pai.sideB
      if ant = 3 then
        let r := s.gns.attitude sideB n all
        { s with gns := r.1, est := match r.2 with | some o => s.est.queueOffer o | none => s.est }
      else if all.any (fun l => (l.sideB == sideB) && decide (l.port = ant)) then
        let first := !((List.range 3).any (fun a =>
          decide ((Tab.get NavSol.zero s.gns.solutions ((if sideB then 4 else 0) + a)).beat = n)))
        let vis := Config.visible s.gns.orbits (s.est.shown.getD 0 0) (s.est.shown.getD 1 0) s.tim.now
        let w := if first then s.gns.watchSpoof t sideB own all vis else (s.gns, [])
        let r := w.1.navigate t sideB own ant n s.est.shown s.tim.learned all
        let had := (Tab.get NavSol.zero s.gns.solutions ((if sideB then 4 else 0) + ant)).valid
        let offers := if r.drop then s.est.offers.filter (fun o =>
            !((o.sideB == sideB) && decide (0x4201 ≤ o.source) && decide (o.source ≤ 0x4203) && decide (o.fromBeat = n + 1))) else s.est.offers
        let e := { s.est with offers := offers }
        let s1 := { s with gns := r.gns, est := match r.offer with | some o => e.queueOffer o | none => e }.raise (w.2 ++ r.evs)
        if own && decide (ant = 0) then
          match r.bias with
          | some b => s1.measure .gnss b true
          | none => if had || (s1.gns.spoof sideB).suspected then s1.disqualify .gnss true else s1
        else s1
      else s

end Sys2Proof.Machine
end

