-- ==== Sys2Proof/Machine/References.lean ====
section
/-! DEFINITION. The estimator's beat over the capture union: the samples of each reference, the tests, the posterior, the
target, the published section (08_estimation.md R228 to R247; 09_luna_grid_tracks.md R269). -/

namespace Sys2Proof.Config

/-- How a conditioning channel's value gives the components of a reference slot: no table of the spec states it. -/
opaque refOf : (slot : Nat) → (q31 : Int) → List Int

end Sys2Proof.Config

namespace Sys2Proof.Machine

open Sys2Proof

/-- The number of components of a slot's class (Table 8.1). -/
def classComps : RefClass → Nat
  | .position => 2 | .heading => 1 | .motion => 4 | .wind => 2

/-- Does a source's side suit an entry's SIDE (Table 8.8)? -/
def sideFits (side : Byte) (sideB : Bool) : Bool := decide (side = 0) || (decide (side = 1) && !sideB) || (decide (side = 2) && sideB)

/-- The text of a sentence item (R381). -/
def sentenceText (payload : List Word) : List Byte := wordBytes (payload.drop 7)

/-- A decoded value of a sentence item, where its mask holds it. -/
def sentenceValue (payload : List Word) (k : Nat) : Option Int :=
  if (payload.getD 0 0).getLsbD k then some (payload.getD (1 + k) 0).toInt else none

/-- The sentence entry of a capture source. -/
def FbuSt.sentence (f : FbuSt) (src : Half) : Option SentCfg :=
  match f.table with
  | none => none
  | some t => if 0x4001 ≤ src ∧ src ≤ 0x4100 then t.sentences[src.toNat - 0x4001]? else none

/-- The talker and the time field of a sentence's text. -/
def talkerTime (text : List Byte) : List Byte × List Byte :=
  let fs := commaFields text
  ((fs.headD []).take 2, fs.getD 1 [])

/-- The reported σ of a GGA or GNS item: the larger component of the GST item of the same talker and time in the union
(Table 13.7). -/
def FbuSt.reportedSigma (f : FbuSt) (union : List Item) (i : Item) : Option Nat :=
  let tt := talkerTime (sentenceText i.payload)
  let gst := union.find? (fun j =>
    (match f.sentence j.source with | some c => decide (c.decode = 3) | none => false) &&
      decide (talkerTime (sentenceText j.payload) = tt) && (j.sideB == i.sideB))
  match gst with
  | none => none
  | some j =>
    match sentenceValue j.payload 0, sentenceValue j.payload 1 with
    | some a, some b => some (max a.natAbs b.natAbs)
    | _, _ => none

/-- All values of a list, or none. -/
def allSome : List (Option Int) → Option (List Int)
  | [] => some []
  | none :: _ => none
  | some x :: l => (allSome l).map (x :: ·)

/-- The components and the reported σ that an item gives a slot (R228, R358, R381): none where it holds no valid sample. -/
def FbuSt.itemSample (f : FbuSt) (union : List Item) (slot : Nat) (i : Item) : Option (List Int × Option Nat) :=
  let n := classComps (refClass slot)
  let src := i.source.toNat
  let got : Option (List Int) :=
    if 0x4101 ≤ src ∧ src ≤ 0x4140 then
      match (i.payload.getD 2 0).toNat / 256 % 4 with
      | 0 => some (Config.refOf slot (i.payload.getD 0 0).toInt)
      | 1 => some (Config.refOf slot (i.payload.getD 1 0).toInt)
      | _ => none
    else if 0x4001 ≤ src ∧ src ≤ 0x4100 then allSome ((List.range n).map (sentenceValue i.payload))
    else match f.msgs with
      | none => none
      | some m =>
        let nos := (List.range m.fields.length).filter (fun k =>
          match m.fields[k]? with | some c => decide (c.source.toNat + 1 = src) | none => false)
        allSome ((nos.take n).map (fun k => (f.field [i] (BitVec.ofNat 16 (k + 1))).map Prod.fst))
  match got with
  | none => none
  | some vs => if n ≤ vs.length then some (vs.take n, f.reportedSigma union i) else none

/-- The samples of a slot in a beat, each with its source: those of the union in its order, then the results offered to it. -/
def State.slotSamples (s : State) (k : Nat) : List (Nat × RefSample) :=
  let en := s.est.entry k
  if en.kind = 0 then []
  else
    let fromUnion := (s.beat.union.filter (fun i => decide (i.source = en.source) && sideFits en.side i.sideB)).filterMap (fun i =>
      (s.fbu.itemSample s.beat.union k i).map (fun (v : List Int × Option Nat) =>
        (i.source.toNat, ({ vals := v.1, sigma := v.2, reject := false, instant := (i.instant : Int) } : RefSample))))
    let meant := fun (o : RefOffer) =>
      match o.slot with
      | some j => decide (j = k)
      | none => decide (o.source = en.source) && (o.shared || sideFits en.side o.sideB)
    let offered := (s.est.offers.filter (fun o => meant o && decide (o.fromBeat ≤ s.beat.n.toNat))).map (fun o =>
        (o.source.toNat, ({ vals := o.vals, sigma := o.sigma, reject := o.reject, instant := o.instant } : RefSample)))
    fromUnion ++ offered

/-- The index of the sample that is applied: the latest instant, of equal instants the later (R232). -/
def latestSample (l : List RefSample) : Nat :=
  ((List.range l.length).foldl (fun (b : Nat × Int) i =>
    match l[i]? with
    | none => b
    | some x => if i = 0 ∨ b.2 ≤ x.instant then (i, x.instant) else b) (0, 0)).1

/-- Every sample of a slot, first to last (R231 to R237): the estimator, whether each was LATE, and the events. -/
def EstSt.offerAll (e : EstSt) (par : List Int) (k n : Nat) (l : List RefSample) : EstSt × List Bool × List Ev :=
  let best := latestSample l
  (List.range l.length).foldl (fun (a : EstSt × List Bool × List Ev) i =>
    match l[i]? with
    | none => a
    | some x =>
      let r := a.1.offer par k n x (decide (i ≠ best))
      (r.1, a.2.1 ++ [r.2.1], a.2.2 ++ r.2.2)) (e, [], [])

/-- The samples of a class's slots, with the fate of each in its source's ledger (R40, R231). -/
def State.classSamples (s : State) (cls : RefClass) : State :=
  (classSlots cls).foldl (fun (x : State) k =>
    let l := x.slotSamples k
    let r := x.est.offerAll (x.est.params x.hst.regionMem) k x.beat.n.toNat (l.map Prod.snd)
    let b := (List.zip (l.map Prod.fst) r.2.1).foldl (fun (b : BeatSt) (f : Nat × Bool) =>
      if f.2 then b.fate f.1 .late else if pairSource f.1 then b.fate f.1 .admitted else b) x.beat
    { x with est := r.1, beat := b }.raise r.2.2) s

/-- The group tests of a class. -/
def State.classGroup (s : State) (cls : RefClass) : State :=
  let r := s.est.groupTests cls
  { s with est := r.1 }.raise r.2

/-- TGT_VALID, TGT_N and TGT_E (R243, Table 8.6): η less the followed track's earth position, while its binding holds and its
slot's reference is ADMITTED. -/
def State.followTarget (s : State) : State :=
  let b := Tab.get Binding.zero s.lun.bindings s.ctl.tgt.toNat
  let good := b.bound && decide ((s.est.ref b.slot.toNat).state = .admitted)
  let t := Tab.get Track.zero s.lun.tracks b.track.toNat
  if good then
    { s with est := { s.est with tgtN := s.est.shown.getD 0 0 - t.north, tgtE := s.est.shown.getD 1 0 - t.east, flags := s.est.flags ||| 0x0100 } }
  else { s with est := { s.est with tgtN := 0, tgtE := 0, flags := s.est.flags &&& 0xFEFF } }

/-- REFERENCE_TESTS (R228 to R244) in LOAD of the update problem: motion and wind first, whose votes the prediction and the
lever arms use, then the prediction, then position and heading. -/
def State.referenceTests (s : State) : State :=
  let n := s.beat.n.toNat
  let s1 := { s with est := s.est.beginBeat }
  let s2 := ((s1.classSamples .motion).classSamples .wind)
  let s3 := ((s2.classGroup .motion).classGroup .wind)
  let e := s3.est.vote
  let par := e.params s.hst.regionMem
  let thr := [s3.alc.achieved.1, s3.alc.achieved.2.1, s3.alc.achieved.2.2]
  let tau := List.zipWith (fun (a b : Int) => a + b) thr e.tauWind
  let e1 := if e.initialised then { e with prior := Config.predict par e.xHat tau } else { e with prior := e.xHat }
  let s4 := { s3 with est := e1 }
  let s5 := (s4.classSamples .position).classSamples .heading
  let s6 := (s5.classGroup .position).classGroup .heading
  let i := s6.est.endTests.tryInit par
  let o := i.1.setOrigins s1.est
  let kept := o.1.offers.filter (fun x => decide (n < x.fromBeat))
  { s6 with est := { o.1 with offers := kept } }.raise (i.2 ++ o.2)

/-- ESTIMATE_UPDATE (R234 step 6, R246): the posterior of the beat, its health and the target. -/
def State.estimateUpdate (s : State) (f : ProbFlags) (w : List Int) : State :=
  let u := s.est.update (s.est.params s.hst.regionMem) f w
  let h := u.1.healthStep s.sch.watch
  { s with est := h.1 }.followTarget.raise (u.2 ++ h.2)

/-- The covariance result (R234 step 7). -/
def State.covarianceUpdate (s : State) (f : ProbFlags) (res : List Int) : State :=
  let c := s.est.covariance (s.est.params s.hst.regionMem) f res
  { s with est := c.1 }.raise c.2

/-- The section of Table 8.6, 32 words. -/
def EstSt.section (e : EstSt) : List Word :=
  let x := fun (k : Nat) => satWord (e.shown.getD k 0)
  let ang := fun (v : Int) => BitVec.ofInt 32 v
  let sig := fun (k : Nat) => BitVec.ofInt 32 (clampI 0 4294967295 (Config.sqrtOf 247 (Config.priorVar e.factor k)))
  let adm := e.mask (fun q => decide (q = .admitted))
  let rej := e.mask (fun q => decide (q = .rejected) || decide (q = .deselected))
  [x 0, x 1, ang (e.shown.getD 2 0), x 3, x 4, x 5, x 6, x 7, x 8, x 9, x 10, x 11, x 13, ang (e.shown.getD 15 0), ang e.roll, ang e.pitch,
   satWord e.heave, satWord e.heaveVel, satWord (e.tauWind.getD 0 0), satWord (e.tauWind.getD 1 0), satWord (e.tauWind.getD 2 0),
   sig 0, sig 1, sig 2, lo32 adm, hi32 adm, lo32 rej, hi32 rej,
   BitVec.ofNat 32 (min 0xFFFF e.drBeats + 65536 * e.flags.toNat),
   BitVec.ofNat 32 (e.health.toNat + 256 * e.admittedCount .position + 65536 * min 255 e.delayedNow + 16777216 * min 255 e.lateNow),
   satWord e.tgtN, satWord e.tgtE]

end Sys2Proof.Machine
end

