-- ==== Sys2Proof/Machine/Publish.lean ====
section
/-! DEFINITION. The publish phase: the record of Table 14.5, the sources of outputs and frames, the health word and the
signature (14_host_protocol.md R415; 12_outputs_annunciator.md Table 12.2; 15_swallowtail_pairing.md R434, R437). -/

namespace Sys2Proof.Machine

open Sys2Proof

/-- The value of a pair-domain quantity as it stands (Table 12.2): the output of the slot that names it, else the quantity of
the beat. -/
def State.qid (s : State) (q : Nat) : Int := s.ctl.quantityOf q s.beat.n.toNat

/-- An output source of Table 12.2 but HOST. -/
def State.source (s : State) (kind idx : Nat) : Int :=
  match kind with
  | 1 => s.ctl.output idx
  | 2 => s.qid idx
  | 3 => (s.alc.dev idx).thrust
  | 4 => ((s.alc.dev idx).angle.toNat : Int)
  | 5 => (Tab.get WinchSt.zero s.ctl.winches idx).demand
  | 6 => (Tab.get StabSt.zero s.ctl.stabs idx).demand
  | _ => 0

/-- Is this device's side the active one, as the pair holds it (Table 14.5)? -/
def State.activeHere (s : State) : Bool :=
  match s.pai.role with
  | .solo | .active => true
  | .joining => !s.pai.adopted
  | .standby | .shadow => false

/-- ACTIVE_SIDE: 0 A, 1 B. -/
def State.activeSideB (s : State) : Bool := if s.activeHere then s.pai.sideB else !s.pai.sideB

/-- A TIME entry of this side (Table 14.5). -/
def State.timeEntry (s : State) : List Word :=
  let src := match s.tim.selected with | some x => x.code | none => 0
  [s.tim.state.code ||| fld src 8 ||| bit s.tim.holdFlag 16 ||| bit s.tim.settled 17 ||| bit s.tim.stepUsed 18 ||| bit true 19,
   satWord s.tim.theta, satWord s.tim.applied, wordN (s.tim.holdBeats / 1000)]

/-- The TIME entries of this side and of the partner's as they were carried with the capture sets of the union (Table 14.5): a side
whose set is not in it is 0. -/
def State.ownTime (s : State) : List Word := if s.pai.setsUsed.1 then (s.pai.timeSent ++ [0, 0, 0, 0]).take 4 else [0, 0, 0, 0]
def State.partnerTime (s : State) : List Word :=
  match s.pai.setsUsed.2, s.pai.tokenNow with
  | true, some (t, _) => (t.time ++ [0, 0, 0, 0]).take 4
  | _, _ => [0, 0, 0, 0]

/-- The holdover flag of the active side (R132). -/
def State.holdover (s : State) : Bool := ((if s.activeHere then s.ownTime else s.partnerTime).getD 0 0).getLsbD 16

/-- The GNS entry of one side. -/
def State.gnsEntry (s : State) (sideB : Bool) : List Word :=
  let k := if sideB then 4 else 0
  let ga := Tab.get NavSol.zero s.gns.solutions k
  let sp := s.gns.spoof sideB
  let fix := (List.range 3).any (fun a => (Tab.get NavSol.zero s.gns.solutions (k + a)).valid)
  let excl := (s.gns.excl.filter (fun (x : Nat × ExclSt) => x.2.on && (decide (384 ≤ x.1) == sideB))).length
  [fld (min 255 ga.used) 0 ||| fld ga.systems.toNat 8 ||| bit fix 16 ||| bit sp.suspected 17 |||
     bit (s.gns.notched.getLsbD (if sideB then 1 else 0)) 18 ||| bit s.gns.att.fixed 19 ||| fld (min 255 excl) 24,
   satWord ga.clkBias, 0, 0]

/-- The LUN section: track counts, bindings, LEARNED. -/
def LunSt.section (l : LunSt) : List Word :=
  let count := fun (x : TrackState) => (l.tracks.filter (fun (t : Nat × Track) => decide (t.2.state = x))).length
  let bind := fun (k : Nat) =>
    let b := Tab.get Binding.zero l.bindings k
    let t := Tab.get Track.zero l.tracks b.track.toNat
    [fld b.track.toNat 0 ||| fld b.gen.toNat 16, satWord t.north, satWord t.east, bit b.bound 0 ||| bit (l.assocNow.getLsbD k) 1]
  let learned := fun (k : Nat) => (List.range 6).map (fun j => wordI ((Tab.get [] l.cal.learned k).getD j 0))
  [fld (count .confirmed) 0 ||| fld (count .tentative) 16, wordN l.cal.frozen.toNat, l.calSeq, 0] ++
    (List.range 8).flatMap bind ++ (List.range 8).flatMap learned

/-- The SAF section (R473): the status items of side A and side B in the union; a side without one is 0. -/
def safSection (union : List Item) : List Word :=
  let side := fun (b : Bool) =>
    match union.find? (fun i => decide (i.kind = 1) && (i.sideB == b)) with
    | some i => (i.payload ++ List.replicate 8 0).take 8
    | none => List.replicate 8 0
  side false ++ side true

/-- SO_REQ of the beat (R461): the request bits of QID pairs whose quantity the active bank's range table holds. -/
def State.soReq (s : State) : Byte :=
  maskWhere 8 8 (fun k =>
    match s.saf.so k with
    | some c =>
      decide (c.reqKind = 1) && (s.sch.sched.any (fun x => schedHasQid x c.reqQid)) &&
        decide ((s.qid c.reqQid.toNat / 2 ^ c.reqBit.toNat) % 2 ≠ 0)
    | none => false)

/-- The host table of the active bank. -/
def State.userQids (s : State) : List Half :=
  match s.sch.sched with
  | some x => (x.host.map HostTable.userQids).getD []
  | none => []

/-- The runtime changes in force as one number (R112). -/
def State.changesTotal (s : State) : Word := s.img.changes.regions + s.img.changes.setpoints + s.img.changes.gains

/-- The published state record of the beat (R415, Table 14.5). -/
def State.record (s : State) : PubRec :=
  let user := s.userQids
  let bytes := 1800 + 4 * user.length
  let fl := bit s.tim.recStep 0 ||| bit s.holdover 1 ||| bit s.sch.watch 2 ||| bit s.sch.recSwitch 3 ||| bit s.sch.recRestart 4 |||
    bit s.tim.arm.isSome 5
  let sess := (List.range 16).map (fun k => s.hst.sess (k + 1))
  let times := if s.pai.sideB then s.partnerTime ++ s.ownTime else s.ownTime ++ s.partnerTime
  let head : List Word :=
    [0x42555058, fld 1 0 ||| fld bytes 16, lowOf s.beat.n, highOf s.beat.n, lowOf s.pairId, highOf s.pairId, lowOf s.imageId, highOf s.imageId,
     fld s.pai.pairState 0 ||| bit s.activeSideB 8 ||| (fl <<< 16),
     fld user.length 0 ||| ((maskOf 16 ((List.range 16).filter (fun k => (sess.getD k SessionSt.zero).isOpen)) : Half).setWidth 32 <<< 16),
     s.changesTotal, fld s.soReq.toNat 0] ++
    sess.map (fun x => if x.isOpen then x.lastSeq else 0) ++ [0, 0, 0, 0] ++ times
  { beat := s.beat.n,
    words := head ++ s.est.section ++ s.ctl.section ++ s.alc.section ++ s.lun.section ++ s.gnsEntry false ++ s.gnsEntry true ++
      safSection s.beat.union ++ s.pai.section_ s.pairCfg ++ user.map (fun q => wordI (s.qid q.toNat)) }

/-- Has some output LOOP_FAULT (R342)? -/
def OutBlk.loopFault (o : OutBlk) : Bool := o.outputs.any (fun (p : Nat × OutSt) => p.2.flags.getLsbD 5)

/-- Is the field bus bad for the health word (Table 15.7)?  With the gate open a MASTER channel in bus-off, else R370. -/
def State.busBad (s : State) : Bool :=
  if s.pai.gate s.tim.now then
    (List.range 16).any (fun c => (s.fbu.cfg c).any (fun g => decide (g.role = 1)) && decide ((s.fbu.chan c).mode = .busOff))
  else (List.range 16).any (fun c => (s.fbu.chan c).refSilent)

/-- The health word as it stands (Table 15.7). -/
def State.healthNow (s : State) : Word := s.pai.healthWord s.out.loopFault s.busBad s.saf.anyLock

/-- The local status bits of Table 12.5. -/
def State.localBits (s : State) : BitVec 8 :=
  maskOf 8 ((if s.saf.anyLock then [0] else []) ++ (if s.tim.holdFlag then [1] else []) ++ (if s.pai.gate s.tim.now then [2] else []) ++
    (if 0 < s.out.nFail then [3] else []) ++ (if s.out.loopFault then [4] else []))

/-- What life sign and reference frame carry of the pair. -/
def State.pairView (s : State) : PairView :=
  { role := s.pai.role.code, sideB := s.pai.sideB, holdover := s.tim.holdFlag, dpMode := s.ctl.mode.code, pairId := lowOf s.pairId }

/-- Is an output's source pair-domain (R434)? -/
def State.pairOutput (s : State) (c : OutCfg) : Bool :=
  match c.srcKind.toNat with
  | 1 => (s.ctl.slotCfg c.srcIndex.toNat).any (fun x => decide (x.tag = 1))
  | 2 | 3 | 4 | 5 | 6 => true
  | _ => false

/-- A requested frame as the signature takes it: channel, identifier word, LEN, data (R434). -/
def signFrame (p : Nat × TxFrame) : List Byte :=
  [BitVec.ofNat 8 p.1] ++ wordBytes [p.2.frame.ident] ++ [BitVec.ofNat 8 p.2.frame.data.length] ++ p.2.frame.data

/-- The bytes that the signature of a beat covers, once record, frames and codes stand (R434). -/
def State.signedBytes (s : State) (r : PubRec) : List Byte :=
  let codes := (s.out.managed.filter (fun p => s.pairOutput p.2)).map (fun p =>
    match (s.out.out p.1).staged with | some v => v.word | none => 0)
  wordBytes r.words ++ s.fbu.requested.flatMap signFrame ++ wordBytes codes

/-- The registers of the beat-domain engines as this publish phase leaves them (R38). -/
def State.snapshotRegs (s : State) : PubSt :=
  { beat := s.beat.n, sch := s.sch, cnd := s.cnd, gns := s.gns, hwk := s.hwk, est := s.est, lun := s.lun, alc := s.alc, ctl := s.ctl }

/-- Content of the fast state (R443). -/
def State.fastState (s : State) : List Byte := Config.layOut s.layoutSig true s.pairDom

/-- FRAME_REQUEST, LIFE_SIGN_REQUEST, REFERENCE_FRAME_STAGE, AMDUN_QUERY_STAGE and OUTPUT_COMMIT. -/
def State.stageOutputs (s : State) : State :=
  let on := s.out.segments s.ctl.mode.code s.pai.role.code s.qid s.localBits
  { s with out := s.out.stage s.source on, fbu := s.fbu.stage s.beat.n.toNat s.source s.pairView }

/-- SIGNATURE_SEND (R434), once everything is staged. -/
def State.sendSignature (s : State) (r : PubRec) : State :=
  let sig := crc64 (s.signedBytes r)
  { s with pai := ({ s.pai with sigOwn := some sig }).send s.beat.n.toNat (.signature s.beat.n sig) }

/-- The publish phase of a beat (R35): record, outputs, frames, signature, claim, stream, copy to a joiner, settlement. -/
def State.publish (s : State) : State :=
  let s1 := { s with saf := { s.saf with onReq := s.soReq } }
  let r := s1.record
  let s2 := s1.stageOutputs.sendSignature r
  let hst := ((s2.hst.keep r).sendStream s2.beat.n.toNat)
  let pai := { s2.pai with armed := true, takeoverRec := false }
  let s3 : State :=
    { s2 with
      hst := hst, pai := pai, pwr := s2.pwr.published, beat := s2.beat.settleAll, tim := { s2.tim with recStep := false }
      sch := { s2.sch with recSwitch := false, recRestart := false }
      ctl := { s2.ctl with prevSlack := some s2.alc.slack } }
  let s4 := { s3 with pai := s3.pai.copyBeat s3.pairCfg s3.page s3.fastState s3.beat.n.toNat }
  { s4 with pub := s4.snapshotRegs }

end Sys2Proof.Machine
end

