-- ==== Sys2Proof/Machine/PairWrite.lean ====
section
/-! DEFINITION. What committed writes of pair-domain registers do (01_device_and_beat.md R14): the estimator's references, Luna's
bindings and calibration, the allocator's devices, the control loop and a node's renegotiation.  Every function answers the
state, the status and the detail of a command that carries it. -/

namespace Sys2Proof.Machine

open Sys2Proof

/-- What a judged command gives: the state, its status and its detail (R404, R407). -/
abbrev CmdR := State × Half × Word

/-- Applied, and refused. -/
def applied (s : State) : CmdR := (s, stApplied, 0)
def refusedCmd (s : State) : CmdR := (s, stRefused, 0)

/-- Runtime changes in force (R112): region writes and what counts as one, setpoints, gain changes. -/
def State.countRegion (s : State) (n : Nat) : State :=
  { s with img := { s.img with changes := { s.img.changes with regions := s.img.changes.regions + wordN n } } }
def State.countSetpoint (s : State) : State :=
  { s with img := { s.img with changes := { s.img.changes with setpoints := s.img.changes.setpoints + 1 } } }
def State.countGain (s : State) (n : Nat) : State :=
  { s with img := { s.img with changes := { s.img.changes with gains := s.img.changes.gains + wordN n } } }

/-- The estimator section of the beat as the control law reads it (Table 8.6). -/
def State.estView (s : State) : EstView :=
  let x := fun (k : Nat) => s.est.shown.getD k 0
  { health := s.est.health.toNat, nPos := s.est.admittedCount .position, posN := x 0, posE := x 1, heading := wordI (x 2), velU := x 3,
    velV := x 4, yawRate := x 5, biasN := x 8, biasE := x 9, biasMz := x 10, wind := s.est.tauWind,
    windLost := s.est.flags.getLsbD 6, motionLost := s.est.flags.getLsbD 7, tgtValid := s.est.flags.getLsbD 8, tgtN := s.est.tgtN,
    tgtE := s.est.tgtE, roll := s.est.roll, pitch := s.est.pitch, heave := s.est.heave, heaveVel := s.est.heaveVel }

/-- A command's session as an event parameter. -/
def refWord (ref : HostRef) : Word := if ref.session = 0 then 0xFFFFFFFF else ref.session.setWidth 32

-- ## Estimator references (R236, R241)

/-- DESELECT: any reference but a disabled one. -/
def EstSt.deselect (e : EstSt) (k : Nat) : EstSt :=
  match (e.ref k).state with
  | .disabled => e
  | .deselected => e
  | q => e.setRef k { e.ref k with state := .deselected, deselNow := decide (q = .admitted) }

/-- SELECT: a deselected reference observes again. -/
def EstSt.select (e : EstSt) (k : Nat) : EstSt :=
  match (e.ref k).state with
  | .deselected => e.setRef k { e.ref k with state := .acquire, good := 0 }
  | _ => e

/-- RESET_ORIGIN: a REL_POS reference acquires again and takes its origin anew. -/
def EstSt.resetOrigin (e : EstSt) (k : Nat) : EstSt :=
  if (e.entry k).kind = 2 ∧ (e.ref k).state ≠ .disabled then e.setRef k { e.ref k with state := .acquire, good := 0 } else e

/-- The three bits of EST_R_CTRL. -/
def State.estCtrl (s : State) (k : Nat) (w : Word) : State :=
  let e0 := if bitOf w 2 then s.est.resetOrigin k else s.est
  let e1 := if bitOf w 1 then e0.select k else e0
  { s with est := if bitOf w 0 then e1.deselect k else e1 }

-- ## Luna (R268 to R270, R273)

/-- Is estimator slot `slot` a REL_POS slot that takes targets (R268)? -/
def EstSt.takesTarget (e : EstSt) (slot : Nat) : Bool := decide ((e.entry slot).kind = 2) && (e.entry slot).target

/-- A binding is written with VALID 1 (R268). -/
def State.bind (s : State) (k : Nat) (track : BitVec 12) (gen : Half) (slot : BitVec 4) : CmdR :=
  let old := Tab.get Binding.zero s.lun.bindings k
  if s.lun.bindOk k track gen slot (s.est.takesTarget slot.toNat) then
    let b : Binding := { old with bound := true, track := track, gen := gen, slot := slot }
    applied ((({ s with lun := { s.lun with bindings := Tab.set Binding.zero s.lun.bindings k b } }).countRegion 1).raise
      [(0x0805, [wordN k, track.setWidth 32, gen.setWidth 32, slot.setWidth 32])])
  else refusedCmd { s with lun := { s.lun with flBindRefused := true } }

/-- A binding is written with VALID 0 (R270). -/
def State.unbind (s : State) (k : Nat) : CmdR :=
  let old := Tab.get Binding.zero s.lun.bindings k
  applied ({ s with lun := { s.lun with bindings := Tab.set Binding.zero s.lun.bindings k { old with bound := false } } }.countRegion 1)

/-- LUN_TGT_SLOTk written. -/
def State.setTargetSlot (s : State) (k : Nat) (slot : BitVec 4) : State :=
  let old := Tab.get Binding.zero s.lun.bindings k
  { s with lun := { s.lun with bindings := Tab.set Binding.zero s.lun.bindings k { old with slotReg := slot } } }

/-- The command of LUN_CAL_CTRL.CMD. -/
def calCmdOf (n : Nat) : CalCmd := match n with | 1 => .freeze | 2 => .unfreeze | 3 => .accept | 4 => .reset | _ => .none

/-- A calibration command waits for the boundary (R273). -/
def State.calCommand (s : State) (sensors : Byte) (c : CalCmd) : CmdR :=
  match c with
  | .none => applied s
  | _ => applied { s with lun := s.lun.calQueue sensors c }

-- ## Allocation (R284, R286, R290, R293)

/-- A refused device command (R286). -/
def State.refuseDevice (s : State) : CmdR := refusedCmd { s with alc := { s.alc with sticky := s.alc.sticky ||| 512 } }

/-- Host OUT: a device is lost with reason HOST. -/
def State.deviceOut (s : State) (k : Nat) : CmdR :=
  let d := s.alc.dev k
  match s.alc.stateOf k with
  | .unused => s.refuseDevice
  | .lost => applied ({ s with alc := s.alc.setDev k { d with reason := 3 } }.countRegion 1)
  | _ =>
    let r := d.lose k 3
    applied (({ s with alc := { s.alc.setDev k r.1 with sticky := s.alc.sticky ||| 1 } }.countRegion 1).raise r.2)

/-- Host IN: a lost device returns, except from START. -/
def State.deviceIn (s : State) (k : Nat) : CmdR :=
  let d := s.alc.dev k
  if s.alc.stateOf k = .lost ∧ d.reason ≠ 4 ∧ d.healthy ∧ d.fbNow ∧ ¬ d.eventNow then
    applied (({ s with alc := s.alc.setDev k { d with state := .available, reason := 0, thrust := 0, mismatch := 0 } }.countRegion 1).raise
      [(0x0908, [wordN k, 1])])
  else s.refuseDevice

/-- Host UNLOCK: a locked azimuth turns again while its feedback lies within LOCK_TOL of d_lock. -/
def State.deviceUnlock (s : State) (k : Nat) : CmdR :=
  let d := s.alc.dev k
  let tol := match s.alc.devCfg k with | some c => c.lockTol.toNat | none => 0
  if s.alc.stateOf k = .locked ∧ d.healthy ∧ d.fbNow ∧ angleDist d.fbAngle d.dLock ≤ tol ∧ ¬ d.eventNow then
    applied (({ s with alc := s.alc.setDev k { d with state := .available, reason := 0, mismatch := 0 } }.countRegion 1).raise
      [(0x0908, [wordN k, 2])])
  else s.refuseDevice

/-- The three bits of ALC_D_CTRL; a loss wins over a return (R286). -/
def State.deviceCtrl (s : State) (k : Nat) (w : Word) : CmdR :=
  if bitOf w 0 then s.deviceOut k
  else if bitOf w 1 then s.deviceIn k
  else if bitOf w 2 then s.deviceUnlock k
  else applied s

/-- ALC_D_SECTOR (R290). -/
def State.sectorWrite (s : State) (k : Nat) (mask : BitVec 4) : CmdR :=
  match s.alc.stateOf k with
  | .unused => s.refuseDevice
  | _ => applied ({ s with alc := s.alc.setDev k { s.alc.dev k with enabled := mask } }.countRegion 1)

/-- The variants of the active bank. -/
def State.variants (s : State) : List VariantEntry := match s.sch.sched with | some x => x.variants | none => []

/-- ALC_OVERRIDE (R293). -/
def State.overrideWrite (s : State) (variant : BitVec 12) (enable : Bool) : CmdR :=
  if !enable then applied { s with alc := { s.alc with override := none, ovrReg := variant.setWidth 16 } }
  else
    match s.variants.find? (fun v => decide (v.id = variant.setWidth 16)) with
    | some v =>
      if s.alc.usable v then applied { s with alc := { s.alc with override := some v.id, ovrReg := variant.setWidth 16 ||| 0x8000 } }
      else refusedCmd ({ s with alc := { s.alc with sticky := s.alc.sticky ||| 256 } }.raise [(0x0909, [variant.setWidth 32, 1])])
    | none => refusedCmd ({ s with alc := { s.alc with sticky := s.alc.sticky ||| 256 } }.raise [(0x0909, [variant.setWidth 32, 1])])

-- ## Control (R307, R314 to R323)

/-- A mode request (R315, R316); a value above 4 is ignored (Table 11.11). -/
def State.modeRequest (s : State) (mode : Nat) (session : Word) : CmdR :=
  match DpMode.ofCode mode with
  | none => applied s
  | some m =>
    let r := s.ctl.request m session s.estView s.sch.watch
    let s1 := { s with ctl := r.1 }.raise r.2.1
    if r.2.2 = 0 then applied s1 else (s1, stPermissive, wordN r.2.2)

/-- A setpoint commit (R318): TURN 3 is refused as a whole. -/
def State.setpointGo (s : State) (goPos goPsi : Bool) (turn : Nat) : CmdR :=
  if turn = 3 then refusedCmd s
  else
    let c0 := if goPos then s.ctl.goPos s.ctl.regN s.ctl.regE else s.ctl
    let c1 := if goPsi then c0.goPsi s.ctl.regPsi turn else c0
    if goPos || goPsi then applied ({ s with ctl := c1 }.countSetpoint) else applied s

/-- SET_POINT: the three setpoint registers and the commit in one command (R318). -/
def State.setPoint (s : State) (north east : Int) (heading : Word) (goPos goPsi : Bool) (turn : Nat) : CmdR :=
  if turn = 3 then (s, stBadRequest, 0)
  else { s with ctl := { s.ctl with regN := north, regE := east, regPsi := heading } }.setpointGo goPos goPsi turn

/-- CTL_TGT (R314). -/
def State.setTarget (s : State) (k : BitVec 3) : CmdR := applied { s with ctl := { s.ctl with tgt := k } }

/-- CTL_WINCHw (R321). -/
def State.winchWrite (s : State) (w mode : Nat) (session : Word) : CmdR :=
  let r := s.ctl.winchRequest w (WinchMode.ofCode mode) session s.estView.motionLost
  let s1 := { s with ctl := r.1 }.raise r.2.1
  if r.2.2 then applied s1 else refusedCmd s1

/-- CTL_STABs (R323): only a configured loop can be enabled. -/
def State.stabWrite (s : State) (k : Nat) (enable : Bool) : CmdR :=
  match s.ctl.table.bind (fun (t : CtlTable) => t.stabs[k]?) with
  | none => refusedCmd s
  | some _ => applied { s with ctl := { s.ctl with stabs := Tab.modify StabSt.zero s.ctl.stabs k (fun v => { v with enabled := enable }) } }

/-- Is a slot tagged PAIR (Table 11.2)? -/
def State.slotIsPair (s : State) (k : Nat) : Bool := match s.ctl.slotCfg k with | some c => decide (c.tag = 1) | none => true

/-- APPLY of a slot's coefficients in the beat in which it takes effect (R307). -/
def State.coefsNow (s : State) (k : Nat) (session : Word) : CmdR :=
  let r := s.ctl.applyCoefs k session
  let s1 := { s with ctl := r.1 }.raise r.2.1
  if r.2.2 then applied (s1.countGain 1) else refusedCmd s1

/-- A coefficient register or APPLY of a slot: LOCAL slots wait for the next edge (R307). -/
def State.coefWrite (s : State) (k ofs : Nat) (w session : Word) : CmdR :=
  if ofs = 0x803C then
    if !bitOf w 0 then applied s
    else if s.slotIsPair k then s.coefsNow k session
    else applied { s with ctl := s.ctl.setSlot k { s.ctl.slot k with pendApply := some session } }
  else applied { s with ctl := s.ctl.setSlot k ((s.ctl.slot k).writeCoef ofs w) }

/-- A committed write of a pair-domain register (R14): `sel` is the selection of the writer's channel window. -/
def State.pairWrite (s : State) (sel session addr w : Word) : CmdR :=
  let b := addr.toNat / 65536
  let ofs := addr.toNat % 65536
  match b with
  | 0x07 => applied (s.estCtrl (bits sel 5 0) w)
  | 0x08 =>
    if ofs = 0x30 then s.calCommand (w.setWidth 8) (calCmdOf (bits w 10 8))
    else if ofs < 0x60 then
      let k := (ofs - 0x40) / 4
      if bitOf w 31 then s.bind k (w.setWidth 12) (BitVec.ofNat 16 (bits w 27 12)) (Tab.get Binding.zero s.lun.bindings k).slotReg
      else s.unbind k
    else applied (s.setTargetSlot ((ofs - 0x60) / 4) (w.setWidth 4))
  | 0x09 =>
    if ofs = 0x24 then s.overrideWrite (w.setWidth 12) (bitOf w 31)
    else if ofs = 0x8018 then s.deviceCtrl (bits sel 5 0) w
    else s.sectorWrite (bits sel 5 0) (w.setWidth 4)
  | 0x0A =>
    if ofs = 0x20 then s.modeRequest (bits w 2 0) session
    else if ofs = 0x24 then applied { s with ctl := { s.ctl with regN := w.toInt } }
    else if ofs = 0x28 then applied { s with ctl := { s.ctl with regE := w.toInt } }
    else if ofs = 0x2C then applied { s with ctl := { s.ctl with regPsi := w } }
    else if ofs = 0x30 then s.setpointGo (bitOf w 0) (bitOf w 1) (bits w 3 2)
    else if ofs = 0x34 then s.setTarget (w.setWidth 3)
    else if ofs < 0x180 then s.winchWrite ((ofs - 0x100) / 4) (bits w 1 0) session
    else if ofs < 0x1A0 then s.stabWrite ((ofs - 0x180) / 4) (bitOf w 0)
    else s.coefWrite (bits sel 10 0) ofs w session
  | 0x0C => if bitOf w 2 then applied { s with fbu := s.fbu.requeue (bits sel 3 0) } else applied s
  | _ => applied s

/-- A write travels staged (R14): a pair-domain register, but the coefficients of a LOCAL slot (R307), or RENEGOTIATE. -/
def State.staged (s : State) (who : Who) (addr w : Word) : Bool :=
  if addr.toNat / 65536 = 0x0A ∧ 0x8018 ≤ addr.toNat % 65536 then
    pairRegister addr.toNat && s.slotIsPair (bits (s.sel who 0x0A) 10 0)
  else pairRegister addr.toNat || (decide (addr = 0x000C8008) && bitOf w 2)

end Sys2Proof.Machine
end

