-- ==== Sys2Proof/Machine/RegWrite.lean ====
section
/-! DEFINITION. Register writes over the service fabric (00_scope.md R4; 01_device_and_beat.md R14; 19_service_fabric.md R522 to
R525): direct effects by block, staging of pair-domain writes, and writes that change nothing. -/

namespace Sys2Proof.Machine

open Sys2Proof

-- ## Selections (R523)

/-- A refused value is an ignored write of its block (Table 19.4). -/
def State.ignoredIf (s : State) (refused : Bool) (block : Nat) : State :=
  if refused then { s with svc := s.svc.countIgnored block } else s

/-- A requester's selection written: a field with a value that its table ignores keeps what it held. -/
def State.writeSel (s : State) (who : Who) (block : Nat) (w : Word) : State :=
  let old := s.sel who block
  let upTo := fun (hi lim : Nat) => if bits w hi 0 ≤ lim then s.setSel who block (wordN (bits w hi 0)) else s.ignoredIf true block
  match block with
  | 0x01 => upTo 3 13
  | 0x03 => upTo 5 45
  | 0x04 => upTo 5 63
  | 0x05 => upTo 8 383
  | 0x06 => upTo 7 255
  | 0x07 => upTo 5 39
  | 0x08 => upTo 11 4095
  | 0x09 => upTo 5 47
  | 0x0A => upTo 10 2047
  | 0x0B => upTo 6 111
  | 0x0C =>
    let ser := if bits w 11 8 ≤ 11 then bits w 11 8 else bits old 11 8
    s.setSel who block (fld (bits w 3 0) 0 ||| fld ser 8 ||| fld (bits w 21 16) 16 ||| (w &&& 0x80000000))
  | 0x0D => if bits w 4 0 ≤ 16 then s.setSel who block (w &&& 0x8000001F) else s.setSel who block ((old &&& 0x1F) ||| (w &&& 0x80000000))
  | 0x0F => s.setSel who block (w &&& 0x0F0F)
  | 0x10 => s.setSel who block (w &&& 0x8000FFFF)
  | 0x11 => upTo 3 11
  | 0x12 =>
    let b := if bits w 4 0 ≤ 18 then bits w 4 0 else bits old 4 0
    let c := if bits w 11 8 < counterCount b then bits w 11 8 else bits old 11 8
    s.setSel who block (fld b 0 ||| fld c 8 ||| fld (bits w 23 16) 16)
  | 0x20 => s.setSel who block (w &&& 0x1FF)
  | 0x21 => s.setSel who block (w &&& 0x7FFF)
  | _ => s

-- ## Effects of single registers

/-- CND_C_CTRL.FREEZE and SRC_RETURN wait for the next edge (R160). -/
def CndSt.askFreeze (d : CndSt) (c : Nat) (v : Bool) : CndSt := d.setCh c { d.ch c with pendFreeze := some v }
def CndSt.askReturn (d : CndSt) (c : Nat) : CndSt := d.setCh c { d.ch c with pendReturn := true }

/-- FBU_C_CTRL.FORCE_ACTIVE (R355): an Engineer or Maintainer takes a mismatched channel active at the next edge. -/
def State.forceActive (s : State) (who : Who) (c : Nat) : State :=
  let ch := s.fbu.chan c
  if 3 ≤ who.role.toNat ∧ ch.mode = .listen ∧ ch.mismatch then { s with fbu := s.fbu.setChan c { ch with forceNext := true } }
  else s.ignoredIf (decide (who.role.toNat < 3)) 0x0C

/-- FBU_C_CTRL.RECOVER (R356): a further recovery from bus-off begins. -/
def State.recoverBus (s : State) (c : Nat) : State :=
  let ch := s.fbu.chan c
  if ch.mode = .busOff ∧ ch.recovering = none then { s with fbu := s.fbu.setChan c { ch with recovering := some true } } else s

/-- A window copy is written, or the write is refused (R367). -/
def State.windowWrite (s : State) (c copy w : Nat) (v : Word) : State :=
  let f := s.fbu
  if f.activeCopy c = copy ∨ f.winPend.getLsbD c then { s with fbu := { f with flags := f.flags ||| 64 } }.ignoredIf true 0x0C
  else
    { s with fbu := { f with windows := Tab.set none f.windows (c * 64 + copy * 32 + w) (some (v &&& 0x7FFFFF)) } }

/-- FBU_WIN_SWITCH (R367): switches requested for the boundary. -/
def State.winSwitch (s : State) (mask : Half) : State := { s with fbu := { s.fbu with winPend := s.fbu.winPend ||| mask } }

/-- FBU_R_CTRL.RESET (R386). -/
def State.resetRing (s : State) (r : Nat) : State :=
  let g := s.fbu.ring r
  match s.fbu.ringCfg r with
  | none => s
  | some _ => { s with fbu := s.fbu.setRing r g.resetRing }.raise [(0x0C0D, [wordN r, wordN g.entries.length, g.seq])]

/-- OUT_O_HOST (R336). -/
def OutBlk.writeHost (o : OutBlk) (k : Nat) (v : Word) : OutBlk := o.setOut k { o.out k with host := v }

-- ## Writes by block

/-- Channel `k` of a window register at `base` with the given stride. -/
def slotOfs (base stride ofs : Nat) : Nat := (ofs - base) / stride

/-- Beat-domain engines and the time keeper. -/
def State.writeEngines (s : State) (who : Who) (b ofs : Nat) (w : Word) : Option State :=
  let sel := s.sel who b
  match b with
  | 0x01 =>
    match ofs with
    | 0x60 => some { s with sch := s.sch.clearFlags w }
    | 0x64 => some (({ s with sch := s.sch.ovrWrite who.role.toNat w } : State).ignoredIf
        (decide (who.role.toNat < 3) || decide (bits w 3 0 = 0) || decide (bits w 15 8 = 0)) 1)
    | 0x8008 => if bitOf w 31 then some { s with sch := s.sch.peakClear (bits sel 3 0) } else none
    | _ => none
  | 0x03 => if ofs = 0x44 then some { s with tim := s.tim.clearFlags w } else none
  | 0x04 =>
    let c := bits sel 5 0
    match ofs with
    | 0x8010 =>
      let d := s.cnd.askFreeze c (bitOf w 0)
      some { s with cnd := if bitOf w 1 then d.askReturn c else d }
    | 0x8018 => some { s with cnd := s.cnd.setCh c ((s.cnd.ch c).clearFlags w) }
    | _ => none
  | 0x05 =>
    if ofs = 0x8020 then some { s with gns := s.gns.setCh (bits sel 8 0) ((s.gns.ch (bits sel 8 0)).clearFlags w) }
    else if 0x104 ≤ ofs ∧ ofs < 0x184 ∧ ofs % 8 = 4 then
      some { s with gns := s.gns.setStrm (slotOfs 0x104 8 ofs) ((s.gns.strm (slotOfs 0x104 8 ofs)).clearFlags w) }
    else none
  | 0x06 => if ofs = 0x20 then some { s with hwk := s.hwk.clearFlags w } else none
  | 0x07 => if ofs = 0x20 then some { s with est := s.est.clearFlags w } else none
  | 0x08 => if ofs = 0x20 then some { s with lun := s.lun.clearFlags w } else none
  | 0x09 => if ofs = 0x20 then some { s with alc := s.alc.clearFlags w } else none
  | 0x0A =>
    if ofs = 0x38 then some { s with ctl := s.ctl.clearFlags w }
    else if ofs = 0x8014 then some { s with ctl := s.ctl.setSlot (bits sel 10 0) ((s.ctl.slot (bits sel 10 0)).clearFlags w) }
    else if 0x8018 ≤ ofs ∧ ofs < 0x8040 then some (s.coefWrite (bits sel 10 0) ofs w (Who.sessionWord who)).1
    else none
  | _ => none

/-- Outputs and field buses. -/
def State.writeBuses (s : State) (who : Who) (b ofs : Nat) (w : Word) : Option State :=
  let sel := s.sel who b
  match b with
  | 0x0B =>
    let k := bits sel 6 0
    if ofs = 0x34 then some { s with out := s.out.clearFlags w }
    else if 0x70 ≤ ofs ∧ ofs < 0x88 then some { s with out := s.out.writeAnn ((ofs - 0x70) / 4) w }
    else if ofs = 0x800C then some { s with out := s.out.writeHost k w }
    else if ofs = 0x8010 then (if bitOf w 0 then some { s with out := s.out.releaseWrite k (Who.sessionWord who) } else none)
    else if ofs = 0x8014 then some { s with out := s.out.setOut k ((s.out.out k).clearFlags w) }
    else none
  | 0x0C =>
    let c := bits sel 3 0
    if ofs = 0x14 then some (s.writeSel who 0x20 w)
    else if ofs = 0x18 then some (s.writeSel who 0x21 w)
    else if ofs = 0x20 then some { s with fbu := s.fbu.clearFlags w }
    else if ofs = 0x28 then some (s.winSwitch (w.setWidth 16))
    else if ofs = 0x8008 then
      let s1 := if bitOf w 0 then s.forceActive who c else s
      some (if bitOf w 1 then s1.recoverBus c else s1)
    else if 0x8100 ≤ ofs ∧ ofs < 0x8180 then some (s.windowWrite c 0 ((ofs - 0x8100) / 4) w)
    else if 0x8180 ≤ ofs ∧ ofs < 0x8200 then some (s.windowWrite c 1 ((ofs - 0x8180) / 4) w)
    else if ofs = 0xB00C then (if bitOf w 0 then some (s.resetRing (bits sel 21 16)) else none)
    else none
  | _ => none

/-- PWR_PADREL (R512): the mask of released groups. -/
def State.padRelease (s : State) (who : Who) (mask : Nat) : State :=
  let one := fun (a : PwrSt) (k : Nat) => if mask / 2 ^ k % 2 = 1 then a.padRelease k (Who.sessionWord who) (decide (s.img.phase = .running)) else a
  ({ s with pwr := one (one s.pwr 0) 1 } : State).ignoredIf (decide (s.img.phase ≠ .running) && decide (mask ≠ 0)) 0x11

/-- Service-domain blocks. -/
def State.writeService (s : State) (who : Who) (b ofs : Nat) (w : Word) : Option State :=
  match b with
  | 0x0E => if ofs = 0x50 then some { s with pai := s.pai.clearFlags w } else none
  | 0x0F => if ofs = 0x34 then some { s with saf := s.saf.clearFlags w } else none
  | 0x10 =>
    if ofs = 0x14 then some { s with rcd := { s.rcd with seqSel := w } }
    else if ofs = 0x54 then some { s with rcd := s.rcd.clearFlags w }
    else none
  | 0x11 =>
    if ofs = 0x24 then some (s.padRelease who (bits w 1 0))
    else if ofs = 0x40 then some { s with pwr := s.pwr.clearFlags w }
    else none
  | 0x12 =>
    if ofs = 0x20 then some (let r := s.svc.arbWrite who w; { s with svc := r.1 }.raise r.2)
    else if ofs = 0x24 then some { s with svc := s.svc.clearFlags w }
    else if ofs = 0x30 ∨ ofs = 0x8000 ∨ ofs = 0x8004 ∨ ofs = 0x8008 then some { s with svc := s.svc.counterWrite who (s.sel who 0x12) ofs w }
    else if ofs = 0x48 then some { s with svc := s.svc.tagCfg who w }
    else if ofs = 0x4C then some { s with svc := s.svc.tagBase who w }
    else if ofs = 0x50 then some { s with svc := s.svc.seedWrite who w }
    else none
  | _ => none

/-- What a write does to the register itself; none where the write changes nothing (R4). -/
def State.directWrite (s : State) (who : Who) (addr w : Word) : Option State :=
  let b := addr.toNat / 65536
  let ofs := addr.toNat % 65536
  if ofs = 0x10 ∧ b ≠ 0x0E then some (s.writeSel who b w)
  else if b ≤ 0x0A then s.writeEngines who b ofs w
  else if b ≤ 0x0C then s.writeBuses who b ofs w
  else s.writeService who b ofs w

-- ## Staging (R14, R20)

/-- A staged write enters the capture set as a kind 8 item on the requester's channel, its identifier the staging count. -/
def State.stageWriteSel (s : State) (who : Who) (addr w sel : Word) : State :=
  let k := who.input.toNat
  let n := Tab.get 0 s.svc.stagingCount k + 1
  let payload := [addr, w, sel]
  let i : Item := { kind := 8, channel := BitVec.ofNat 16 (0x0200 + k), ident := n, sideB := s.pai.sideB, shared := true,
                    check := payloadCheck payload, source := 0, bytes := 12, instant := s.tim.now, payload := payload, host := none }
  { s with
    svc := ({ s.svc with stagingCount := Tab.set 0 s.svc.stagingCount k n }).countStaged who (addr.toNat / 65536) (addr.toNat % 65536)
    beat := { s.beat with collecting := s.beat.collecting ++ [i] } }

/-- A staged write with the requester's selection. -/
def State.stageWrite (s : State) (who : Who) (addr w : Word) : State := s.stageWriteSel who addr w (s.sel who (addr.toNat / 65536))

/-- One word written over the fabric: counted; unmapped and ignored; staged; or applied by its access code. -/
def State.writeReg (s0 : State) (who : Who) (addr w : Word) : State :=
  let b := addr.toNat / 65536
  let ofs := addr.toNat % 65536
  match s0.peek who addr with
  | none => s0.unmapped who addr true
  | some _ =>
    let s := { s0 with svc := s0.svc.countAccess who b ofs true false }.dropPair who addr
    if s.staged who addr w then
      let s1 := s.stageWrite who addr w
      if b = 0x0C then (s1.directWrite who addr w).getD s1 else s1
    else
      match s.directWrite who addr w with
      | some t => t
      | none => { s with svc := s.svc.countIgnored b }

end Sys2Proof.Machine
end

