-- ==== Sys2Proof/Machine/Resets.lean ====
section
/-! DEFINITION. The resets (03_image_start_resets.md R106 to R112, Table 3.7; 02_schedule_contract.md R64 to R66;
01_device_and_beat.md R42, R43). -/

namespace Sys2Proof.Machine

open Sys2Proof

/-- When the exclusive gate, open before, is closed now, the frames in progress are aborted GATED (R365). -/
def State.closeGate (s : State) (was : Bool) : State :=
  if was && !s.pai.gate s.tim.now then
    { s with fbu := { s.fbu with channels := Tab.modifyAll ChanSt.zero s.fbu.channels (Tab.keys s.fbu.channels) (fun _ c => c.gateClosed) } }
  else s

/-- The estimator from the companion area of its table (Table 3.7). -/
def EstSt.restart (e : EstSt) (keepCounts : Bool) : EstSt :=
  match e.table with | some t => EstSt.fromTable e t keepCounts | none => e

/-- What a Beat restart does to the baseband: the channels run on, and the pair-domain data are lost (R196, Table 3.7). -/
def GnsSt.beatRestart (g : GnsSt) : GnsSt :=
  { g with orbits := [], aid := none, solutions := [], excl := [], powerLog := [], att := GnsSt.reset.att, spoofA := SpoofSt.zero, spoofB := SpoofSt.zero }

/-- What an Image reset leaves of device time (Table 3.7, R142): the time runs on, its step stays used, and arms, pending
steps, models, flags and counts go. -/
def TimSt.imageReset (t : TimSt) : TimSt :=
  { t with
    arm := none, pending := none, models := [], refusals := 0, flJumpRefused := false, flStepApplied := false
    flHoldover := false, flSourceChanged := false, flArmExpired := false, flModelLost := false, flPpsIn := false }

/-- What a Cold start or a Cocoon wake leaves of device time: the learned rate in MRAM. -/
def TimSt.cold (t : TimSt) : TimSt := { TimSt.reset with learned := t.learnedSaved, learnedSaved := t.learnedSaved }

/-- Event 0x0203 with the runtime changes that were in force, which then count from zero (R112). -/
def State.revertChanges (s : State) (kind : ResetKind) : State :=
  let c := s.img.changes
  { s with img := { s.img with changes := { regions := 0, setpoints := 0, gains := 0 } } }.raise
    [(0x0203, [kind.code, c.regions, c.setpoints, c.gains])]

/-- The host commands of the capture set that have not been committed (R43): before the union is formed those of the own
set, and after it those still to be applied. -/
def State.uncommitted (s : State) : List HostCmd :=
  if s.beat.captured then s.beat.own.filterMap Item.host
  else (s.beat.union.filterMap Item.host).filter (fun c => s.hst.toApply.contains c.ref)

/-- The writes staged from the service fabric among some items (R20). -/
def stagedCount (l : List Item) : Nat :=
  (l.filter (fun i => decide (i.kind = 8) && i.host.isNone && decide (0x0200 ≤ i.channel.toNat))).length

/-- Staged writes that a Beat restart discards, in session 0's ledger (R43, Table 1.9). -/
def HstSt.loseStaged (h : HstSt) (k : Nat) : HstSt :=
  let x := h.sess 0
  h.setSess 0 { x with ledger := x.ledger.settle .restart k }

/-- A Beat restart (R43, R64, R66): the engines stop, work in flight is discarded and counted, and beat-domain state is
taken from the companion area. `counted`: the restart enters the overrun window. -/
def State.beatRestart (s : State) (counted : Bool) : State :=
  let sch := s.sch.restart counted
  let hst := s.hst.beatRestart s.uncommitted s.beat.n
  let tag := s.svc.tagAbandon
  let pai := (s.pai.askTakeover s.beat.n.toNat).restart
  let job := s.hwk.discardJob 2
  let pwr := if s.pwr.entry.isSome then s.pwr.beatRestart else s.pwr
  let t : State :=
    { s with
      sch := sch.1, beat := { s.beat.settleRestart.loseOffers s.est.offers with live := false }
      hst := { hst.1.loseStaged ((if s.beat.captured then stagedCount s.beat.own else 0) + s.ctl.waiting.length) with regionMem := [] }, fbu := s.fbu.beatRestart
      hwk := { job.1.discardProblems with praline := [] }
      est := s.est.restart true, alc := s.alc.restart s.alc.table false, ctl := s.ctl.restart s.ctl.table false false
      lun := s.lun.restart false, gns := s.gns.beatRestart, out := (s.out.restart false).withdraw
      pai := pai, saf := s.saf.onReset false, pwr := pwr, svc := tag.1 }
  (t.closeGate (s.pai.gate s.tim.now)).raise (sch.2 ++ job.2 ++ hst.2 ++ tag.2)

/-- The image that runs or ran, as the escalation rule of R95 names it. -/
def State.ranImage (s : State) : Option Bool := if s.img.accepted.isSome then some s.img.imageB else none

/-- The order in which a start tries the images (R95); false A, true B. -/
def imageOrder (forceB : Bool) (escalated : Option Bool) : List Bool :=
  if forceB then [true]
  else match escalated with
    | some b => [!b, b]
    | none => [false, true]

/-- The phase in which the loader tries the first image of its order; NO_IMAGE when none is left (R95, R96). -/
def ImgSt.tryNext (g : ImgSt) : ImgSt :=
  match g.order with
  | false :: _ => { g with phase := .loadA, imageB := false }
  | true :: _ => { g with phase := .loadB, imageB := true }
  | [] => { g with phase := .noImage }

/-- The work of an Image reset (R108, Table 3.7); `session` is its order's session. The load, discovery first, starts at once
unless nRESET_IN holds it; a load that the reset abandons starts again in its own order (R110). -/
def State.imageReset (s : State) (cause : ResetCause) (session : Word) : State :=
  let loading := s.img.accepted.isNone && decide (s.img.phase ≠ .noImage)
  let esc : Option Bool := match cause with
    | .escalationOverrun | .escalationFault => s.ranImage
    | _ => if loading then s.img.escalated else none
  let hold := ((s.out.restart true).withdraw).startHold s.beat.n s.tim.now 1
  let closed := s.hst.closeAll 3 s.beat.n
  let sch := s.sch.imageReset 2
  let tag := s.svc.tagAbandon
  let dbg := s.svc.debugEnd
  let img : ImgSt :=
    { s.img with
      phase := .discover, imageB := false, provisional := false, nvmMode := 3, nvmMhz := 0, nvmSize := 0, errA := 0, errASec := 0xFFFF, errB := 0, errBSec := 0xFFFF
      order := imageOrder s.img.forceB esc, escalated := esc, kind := .image, cause := cause, faultOut := true, faultRst := 0
      nresetOut := s.img.nresetIn, imageId := 0, secver := 0
      faultRound := none, accepted := none, delivered := false, loadUs := 0, startUs := 0 }
  let t : State :=
    { s with
      beat := { BeatSt.reset with n := s.beat.n }, sch := sch.1, img := img, tim := s.tim.imageReset, cnd := CndSt.reset
      gns := GnsSt.reset, hwk := HwkSt.reset, est := EstSt.reset, lun := s.lun.restart true, alc := AlcSt.reset, ctl := CtlSt.reset
      out := hold.1, fbu := s.fbu.imageReset, hst := closed.1.imageReset, pai := s.pai.imageReset, saf := s.saf.onReset true
      rcd := s.rcd.restart, pwr := s.pwr.restart, svc := tag.1.restart, pub := PubSt.reset }
  t.raise (sch.2 ++ hold.2 ++ closed.2 ++ dbg.2 ++ [(0x0E0C, [1, 0])] ++ [(0x0204, [cause.code, lowOf s.beat.n, session])])

/-- What a Cold start or a Cocoon wake leaves (Table 3.7): OTP, MRAM and the recorder's records; a Cocoon wake also keeps
what PD_AON holds (R513).  A switch that was pending is cancelled (R73). -/
def State.coldReset (s : State) (cocoon : Bool) : State :=
  let sch := s.sch.imageReset 3
  let img : ImgSt := { ImgSt.reset with otp := s.img.otp, pwrcyc := s.img.pwrcyc, changes := s.img.changes }
  let pwr := if cocoon then s.pwr.cocoonReset else PwrSt.reset
  let t : State :=
    { State.reset with
      img := img, sch := sch.1, tim := s.tim.cold, lun := s.lun.restart true, saf := { SafSt.reset with lockA := s.saf.lockA, lockB := s.saf.lockB }
      hst := { HstSt.reset with nvmLast := s.hst.nvmLast }
      rcd := { s.rcd.restart with ready := false, held := if cocoon then s.rcd.held else [] }
      pwr := pwr, svc := SvcSt.reset
      freeCtr := s.freeCtr, pending := s.pending }
  t.raise sch.2

end Sys2Proof.Machine
end

