-- ==== Sys2Proof/Machine/Beat.lean ====
section
/-! DEFINITION. The beat edge: capture sets, the work of every block at the capture instant, the TOKEN, and the capture union
with what it carries (01_device_and_beat.md R15 to R28; 14_host_protocol.md R403 to R405; 15_swallowtail_pairing.md R430 to R432). -/

namespace Sys2Proof.Machine

open Sys2Proof

-- ## Shared views

/-- Does the edge of beat `n` close a round (R25)?  The edge of a step does too (R129). -/
def BeatSt.closes (b : BeatSt) (n : Nat) : Bool := decide (n % 1000 = 0) || b.stepEdge

/-- The programs that banks in READY, PENDING or ACTIVE hold (Table 18.2). -/
def SchSt.readySchedules (v : SchSt) : List Schedule :=
  ([v.bank0, v.bank1].filter (fun b => decide (b.phase = .ready) || decide (b.phase = .pending) || decide (b.phase = .active))).filterMap Bank.image

/-- Does a schedule hold an operation of an opcode class (Table 2.4)? -/
def schedHasClass (s : Schedule) (cls : Nat) : Bool :=
  (s.runDir ++ s.watchDir).any (fun d => d.beats.any (fun b => b.ops.any (fun o => decide (o.opcode.toNat / 256 = cls))))

/-- The idle condition of a gateable domain (Table 18.2); domains in the order of `gateable`. -/
def State.idle (s : State) (d : Nat) : Bool :=
  let l := s.sch.readySchedules
  match d with
  | 6 => !(l.any (fun x => schedHasClass x 2))
  | 7 =>
    let sources := (List.range 4).any (fun k => (s.lun.camera k).isSome) || (List.range 4).any (fun k => (s.lun.lidar (k + 4)).isSome)
    (s.sch.watch && !(s.pwr.prog.any (fun p => !p.toWatch))) || (!(l.any schedHasLuna) && !sources)
  | 8 => !(l.any (fun x => x.gns.any (fun t => decide (t.signals ≠ 0))))
  | _ =>
    let chans := l.any (fun x => x.cnd.any (fun t => t.entries.any (fun e => decide (e.source ≠ cndEntryOff.source))))
    let senses := s.saf.cfg.any (fun c => c.sense.any (fun e => decide (e.kind ≠ 0) && (decide (e.srcA.toNat < 0x40) || decide (e.srcB.toNat < 0x40))))
    !chans && !senses

/-- The aiding inputs of Table 6.5 from the last published estimator state. -/
def State.aiding (s : State) : Aiding :=
  let e := s.pub.est
  let horiz := fun (a b : Nat) => (Config.sqrtOf 179 (Config.priorVar e.factor a + Config.priorVar e.factor b)).toNat
  let band := s.tim.lockBand
  let hold := band + 100 * (s.tim.holdBeats / 1000)
  let have_ := decide (0 < e.admittedCount .position)
  { sigmaPos := if have_ then horiz 0 1 else match s.gns.aid with | some (_, _, sg) => sg.toNat | none => 10000000,
    sigmaVel := if have_ then horiz 3 4 else 200000,
    sigmaT := if s.tim.state = .locked ∧ s.tim.settled then band else hold,
    timeSet := decide (s.tim.state ≠ .unset) }

/-- The position that visibility is computed from: the published one, or the host's aiding position. -/
def State.aidPos (s : State) : Int × Int :=
  if 0 < s.pub.est.admittedCount .position then (s.pub.est.shown.getD 0 0, s.pub.est.shown.getD 1 0)
  else match s.gns.aid with | some (n, e, _) => (n, e) | none => (0, 0)

-- ## Items of an edge

/-- A sided item of this device. -/
def State.sidedItem (s : State) (kind : BitVec 4) (ch : Nat) (source : Half) (bytes : Nat) (instant : Nat) (payload : List Word) : Item :=
  { kind := kind, channel := BitVec.ofNat 16 ch, ident := 0, sideB := s.pai.sideB, shared := false, check := payloadCheck payload,
    source := source, bytes := bytes, instant := instant, payload := payload, host := none }

/-- CONDITIONED_SAMPLE_CAPTURE (R155): every enabled channel is captured at the edge. -/
def CndSt.captureAll (d : CndSt) : CndSt :=
  (List.range 64).foldl (fun (a : CndSt) c => if a.isOn c then a.setCh c (a.ch c).capture else a) d

/-- The items of the enabled channels (R155, R156): they describe the instant of the edge less the admission delay. -/
def State.cndItems (s : State) (edge : Nat) : List Item :=
  ((List.range 64).filter s.cnd.isOn).map (fun c =>
    s.sidedItem 2 c (BitVec.ofNat 16 (0x4101 + c)) 12 (edge - s.cnd.delayTotal c) ((s.cnd.ch c).itemWords c))

/-- The safety status item of the edge (R473). -/
def State.safItem (s : State) (edge : Nat) : Item := s.sidedItem 1 0 0x4400 32 edge s.saf.status

/-- The host-command items that sessions and OPEN give the capture set (R399, R403). -/
def State.hostItem (s : State) (edge : Nat) (x : Nat × HostCmd) : Item :=
  { kind := 8, channel := BitVec.ofNat 16 x.1, ident := if x.1 = 0 then x.2.payload.getD 1 0 else x.2.ref.hostSeq, sideB := s.pai.sideB,
    shared := true, check := x.2.check, source := 0, bytes := 4 * x.2.payload.length, instant := edge, payload := x.2.payload, host := some x.2 }

/-- The words of a ring entry as a host-command item: its header word, then its payload (R387). -/
def ringItem (s : State) (edge r : Nat) (e : RingEntry) : Item :=
  let payload := e.word :: packBytes e.payload
  { kind := 8, channel := BitVec.ofNat 16 (0x0100 + r), ident := e.seq, sideB := s.pai.sideB, shared := true, check := payloadCheck payload,
    source := 0, bytes := e.payload.length, instant := edge, payload := payload, host := none }

/-- CAPTURE_RING_TAKE (R387): up to TAKE entries of each CAPTURE ring. -/
def State.takeRings (s : State) (edge : Nat) (beat : Word) : State × List Item :=
  (List.range 64).foldl (fun (a : State × List Item) r =>
    match a.1.fbu.ringCfg r with
    | none => a
    | some c =>
      if c.consumer = 5 then
        let x := a.1.fbu.takeRing r c.take.toNat beat
        ({ a.1 with fbu := x.1 }, a.2 ++ x.2.map (ringItem s edge r))
      else a) (s, [])

/-- SERIAL_TX rings are consumed at the edge: their text goes to their port (Table 13.8). -/
def State.serialTx (s : State) (beat : Word) : State :=
  (List.range 64).foldl (fun (a : State) r =>
    match a.fbu.ringCfg r with
    | none => a
    | some c =>
      if c.consumer = 6 then
        let x := a.fbu.takeRing r 1 beat
        let p := c.serPort.toNat
        let text := x.2.flatMap (fun (e : RingEntry) => e.payload)
        if text.isEmpty then { a with fbu := x.1 }
        else { a with fbu := { x.1 with serial := Tab.set SerSt.zero x.1.serial p { Tab.get SerSt.zero x.1.serial p with sent := text } } }
      else a) s

-- ## GNSS at an edge

/-- The latch of every channel in TRACK, PULL_IN or HOLD (R182, R183), in a Watch burst of those in TRACK alone (R192): its items
complete at the edge and belong to the next capture set. -/
def State.latchGnss (s : State) (edge : Nat) (trackOnly : Bool) : State :=
  (List.range 384).foldl (fun (a : State) c =>
    let ch := a.gns.ch c
    if ch.state = .idle ∨ ch.state = .search ∨ (trackOnly ∧ ch.state ≠ .track) then a
    else
      match signalDef ch.signal (ch.sv.toNat / 256) with
      | none => a
      | some sd =>
        let cfg := match a.gns.table with | some t => gnsStream t ch.stream.toNat | none => { rate := 0, bits := 0, band := 0, ifHz := 0 }
        let g1 := a.gns.setCh c (ch.latch sd (streamKhz cfg.rate) cfg.ifHz)
        let i := { a with gns := g1 }.sidedItem 3 c 0x4200 52 edge (g1.latchWords c)
        { a with gns := g1.setCh c (g1.ch c).latched, beat := a.beat.offer i 19968 }) s

/-- Is the edge of beat `n` a latch edge of the RUN program (R182)? -/
def GnsSt.latchEdge (g : GnsSt) (n : Nat) : Bool :=
  match g.table with
  | some t => g.powered && decide (t.signals ≠ 0) && decide (n % t.latchBeats.toNat = 0)
  | none => false

/-- The record and the search of the acquisition engine go on by one beat (R180): a record starts at the edge of beat `n` once
no finished record waits for the search. -/
def GnsSt.engineBeat (g : GnsSt) (n : Nat) : GnsSt :=
  let rec_ : Option (AcqReq × Nat) :=
    match g.recording, g.queue with
    | some (r, k), _ => some (r, k - 1)
    | none, r :: _ => if g.recorded.isEmpty then some ({ r with start := n }, r.recMs) else none
    | none, [] => none
  let queue := match g.recording with | some _ => g.queue | none => if g.recorded.isEmpty then g.queue.drop 1 else g.queue
  let search : Option (AcqReq × Nat) :=
    match g.searching, g.recorded with
    | some (r, k), _ => some (r, k - 1)
    | none, r :: _ => some (r, r.beats)
    | none, [] => none
  let recorded := match g.searching with | some _ => g.recorded | none => g.recorded.drop 1
  { g with recording := rec_, queue := queue, searching := search, recorded := recorded }

/-- The beats of the round that closes now: 1,000, or those of the short round after a step (R129). -/
def TimSt.roundBeats (t : TimSt) : Nat :=
  let n := t.now / 1000000
  let since := n - t.stepBeat.toNat
  if t.stepBeat.toNat < n ∧ since < 1000 then since else 1000

/-- One stream's measurements over the beat, and at a boundary its rate check (R168, R169). -/
def State.streamEdge (s : State) (boundary : Bool) (i : StreamIn) : State :=
  let r := s.gns.streamEdge i
  let s1 := { s with gns := r.1 }.raise r.2
  if !boundary then s1
  else
    let k := i.stream.toNat
    let st := s1.gns.strm k
    match s1.gns.table with
    | none => s1
    | some t =>
      let g0 := s1.gns.setStrm k { st with clocks := 0 }
      match rateError t k st.clocks s1.tim.roundBeats s1.tim.applied with
      | none => { s1 with gns := g0 }
      | some ppb =>
        let g1 := (g0.setStrm k { g0.strm k with rateFault := true, disabled := true }).stopStream k
        { s1 with gns := g1 }.raise [(0x0508, [BitVec.ofNat 32 k, satWord ppb])]

/-- The GNSS baseband at an edge: streams, oscillators, engine, channel manager (R168 to R180). -/
def State.gnsEdge (s : State) (inp : EdgeIn) (n : Nat) : State :=
  if !s.gns.powered then s
  else
    let boundary := s.beat.closes n
    let s1 := inp.streams.foldl (fun (a : State) i => a.streamEdge boundary i) s
    let samples := fun (ch : GnsCh) =>
      match inp.streams.find? (fun i => decide (i.stream = ch.stream)) with | some i => i.clocks | none => 0
    let chans := match s1.gns.table with
      | none => s1.gns.channels
      | some t => Tab.modifyAll GnsCh.zero s1.gns.channels (Tab.keys s1.gns.channels) (fun _ ch => (ch.advance (samples ch)).edge t)
    let g1 := { s1.gns with channels := chans }.engineBeat n
    let g2 := if boundary then { g1 with spoofA := g1.spoofA.round, spoofB := g1.spoofB.round } else g1
    let pos := s1.aidPos
    let g3 := if n % 1000 = 0 then g2.manage pos.1 pos.2 s1.tim.now n s1.aiding else g2
    { s1 with gns := g3 }

-- ## TOKEN

/-- The TOKEN of this device (Table 15.3) for its own items. -/
def State.token (s : State) (items : List Item) : Token :=
  let echo := s.pai.tokenLast
  let due := if s.pai.role = .active then s.tim.stepDue s.beat.n.toNat (decide (s.pub.ctl.mode = .standby)) else none
  { beat := s.beat.n, items := wordN items.length, bytes := wordN (items.map (fun i => i.bytes)).sum, setCheck := setCheck items, health := s.pai.health,
    role := BitVec.ofNat 3 s.pai.role.code, sideB := s.pai.sideB, claiming := s.pai.toggling, gateOpen := s.pai.gate s.tim.now,
    partnerClaimed := s.pai.claimed s.tim.now, join := BitVec.ofNat 3 s.pai.join.code, txTime := BitVec.ofNat 64 s.tim.now,
    echoTx := match echo with | some (t, _) => t.txTime | none => 0,
    echoRx := match echo with | some (_, a) => BitVec.ofNat 64 a | none => 0,
    time := s.timeEntry,
    stepEdge := match due with
      | some _ => s.beat.n + 1
      | none => 0,
    stepK := match due with | some (_, th) => stepBeats th | none => 0,
    imageId := s.imageId, layoutSig := s.layoutSig, compat := s.compat }

/-- TOKEN_SEND (R431): the items of the beat in CAPTURE frames, then TOKEN(n) with the health word of the instant. -/
def State.sendToken (s : State) : State :=
  let h := s.pai.setHealth s.pairCfg s.beat.n.toNat s.healthNow
  let s1 := { s with pai := h.1 }.raise h.2
  let n := s1.beat.n.toNat
  let p1 := { s1.pai.sendItems n s1.beat.own with timeSent := s1.timeEntry }
  { s1 with pai := p1.send n (.token ({ s1 with pai := p1 }.token s1.beat.own)) }

-- ## The edge

/-- What the beat's counters and sets become at edge `n`, with the items that complete at it. -/
def BeatSt.edge (b : BeatSt) (n : Long) (boundary : Bool) (items : List Item) : BeatSt :=
  { b with
    n := n, cycle := 0, own := b.collecting ++ items, collecting := [], partner := [], union := [], used := [], fates := b.refusedNext
    refusedNext := [], captured := true, boundary := boundary, stepEdge := false, ledgerSnap := if boundary then b.ledgers else b.ledgerSnap }

/-- A round begins: the counts of the round start again (Table 9.5). -/
def LunSt.newRound (l : LunSt) : LunSt :=
  { l with
    assocNow := 0, roundFull := 0
    sources := Tab.modifyAll LunSrc.zero l.sources (Tab.keys l.sources) (fun _ x => { x with roundDrops := 0 }) }

/-- The work that every edge does while device time runs: the time keeper, PD_OUT, the field buses, the ledger snapshots of a
round boundary, and the power controller's ms. -/
def State.commonEdge (s : State) (inp : EdgeIn) (n : Nat) : State :=
  let boundary := s.beat.closes n
  let now := n * 1000000
  let tim : TimSt := { s.tim.edge with now := now, roundsSinceSave := if boundary then s.tim.roundsSinceSave + 1 else s.tim.roundsSinceSave }
  let pps : Option Nat := if n % 1000 = 0 then (if tim.ppsWidth = 0 then none else some tim.ppsWidth) else tim.ppsOut
  let out := s.out.edge (BitVec.ofNat 64 n) now inp.gpio
  let fe := s.fbu.edge (!s.pai.gate now && s.pai.claimed now)
  let fbu := fe.1
  let tag := s.hst.tagReport
  let hst := if boundary then tag.1.snapshotLedgers else s.hst
  let pad := s.pwr.beat.padEdge
  let s1 : State :=
    { s with
      rcd := if boundary then { s.rcd with ledgerSnap := s.rcd.ledger } else s.rcd
      tim := { tim with ppsOut := pps }, out := out.1, fbu := if boundary then fbu.snapshot else fbu, hst := hst.idleBeat, pwr := pad.1
      lun := if boundary then s.lun.newRound else { s.lun with assocNow := 0 } }
  let s2 := s1.raise (out.2 ++ fe.2 ++ (if boundary then tag.2 else []) ++ pad.2)
  let idle := s2.pwr.tick s2.idle
  { s2 with pwr := idle.1 }.raise idle.2

/-- A beat edge while a Beat restart keeps the schedule stopped (Table 2.5): no capture runs, and what completed for the edge
is discarded with reason RESTART. -/
def State.restartEdge (s : State) (inp : EdgeIn) : State :=
  let n := s.beat.n.toNat + 1
  let s1 := s.commonEdge inp n
  let boundary := s.beat.closes n
  let b0 := if boundary then { s1.beat with ledgerSnap := s1.beat.ledgers } else s1.beat
  { s1 with
    beat := { b0.dropCollected with n := BitVec.ofNat 64 n, boundary := boundary, stepEdge := false }, hst := s1.hst.loseStaged (stagedCount b0.collecting)
    sch := { s1.sch.edge (s1.sch.bip (n - 1)) boundary with restartLeft := s1.sch.restartLeft - 1 } }

/-- A beat edge of the running schedule (R28). -/
def State.liveEdge (s : State) (inp : EdgeIn) : State :=
  let n := s.beat.n.toNat + 1
  let boundary := s.beat.closes n
  let edge := n * 1000000
  let s1 := s.commonEdge inp n
  let s2 := s1.gnsEdge inp n
  let coefs := s2.ctl.edgeCoefs
  let s3 := { s2 with
    sch := (s2.sch.edge (s2.sch.bip (n - 1)) boundary).ageSwitch, cnd := s2.cnd.captureAll, hwk := { s2.hwk with factors := [] }
    est := { s2.est with prevPose := s2.est.shown.take 3 }
    ctl := coefs.1 }.raise coefs.2.1
  let s4 := if coefs.2.2 = 0 then s3 else s3.countGain coefs.2.2
  let cmds := s4.hst.takeAll
  let rings := { s4 with hst := cmds.1 }.takeRings edge (wordN n)
  let s5 := rings.1.serialTx (wordN n)
  let items := s5.safItem edge :: s5.cndItems edge ++ cmds.2.map (s5.hostItem edge) ++ rings.2
  let s6 := { s5 with beat := s5.beat.edge (BitVec.ofNat 64 n) boundary items }
  let same := match s6.pai.tokenLast with | some (t, _) => decide (t.imageId = s6.imageId) | none => false
  let p := s6.pai.edge s6.pairCfg n edge boundary same
  let s7 := ({ s6 with pai := p.1 }.raise p.2).sendToken
  if !s7.sch.watch && s7.gns.latchEdge n then s7.latchGnss edge false else s7

end Sys2Proof.Machine
end

