-- ==== Sys2Proof/Machine/Union.lean ====
section
/-! DEFINITION. The capture union: merging, sorting, and what its items do as they are taken (01_device_and_beat.md R14, R18 to R20;
11_positioning_loop.md R316; 13_field_bus.md R387; 14_host_protocol.md R404, R405, R410). -/

namespace Sys2Proof.Machine

open Sys2Proof

-- ## Forming the union (R18)

/-- Two SHARED items count as one and the same: kind, channel, identifier and payload check (R18). -/
def sameShared (a b : Item) : Bool :=
  decide (a.kind = b.kind) && decide (a.channel = b.channel) && decide (a.ident = b.ident) && decide (a.check = b.check)

/-- Remove the first item that counts as the same as `i`; none where there is none. -/
def takeSame (i : Item) : List Item → Option (List Item)
  | [] => none
  | x :: l => if sameShared x i then some l else (takeSame i l).map (fun r => x :: r)

/-- The items of `b` that are left over once each SHARED one has been matched with a copy in `a`: with x copies in `a` and y
in `b`, y − x of them remain, so that the union holds max(x, y) (R18). -/
def leftOver : List Item → List Item → List Item
  | _, [] => []
  | a, i :: l =>
    if i.shared then
      match takeSame i a with
      | some r => leftOver r l
      | none => i :: leftOver a l
    else i :: leftOver a l

/-- The sort key of R18: kind, channel, identifier, side. -/
def Item.sortKey (i : Item) : Nat :=
  ((i.kind.toNat * 65536 + i.channel.toNat) * 4294967296 + i.ident.toNat) * 2 + (if i.sideB then 1 else 0)

/-- Insert an item into a sorted list, before the first item with a key above its own: equal keys keep their order. -/
def insertItem (x : Item) : List Item → List Item
  | [] => [x]
  | y :: l => if Item.sortKey x < Item.sortKey y then x :: y :: l else y :: insertItem x l

/-- Sort by the key, keeping the order of completion within one side. -/
def sortItems (l : List Item) : List Item := l.foldl (fun acc i => insertItem i acc) []

/-- UNION_FORM (R18, R19): the items of side A, then what is left over of side B's, sorted. -/
def unionForm (a b : List Item) : List Item := sortItems (a ++ leftOver (a.filter (fun i => i.shared)) b)

-- ## Host commands in the union (R404, R405)

/-- Is an item a mode request that R316 counts: SET_MODE, or a write of CTL_MODE_REQ with a mode of Table 11.5?  A command
that is refused with SEQ is none. -/
def State.isModeRequest (s : State) (i : Item) : Bool :=
  let names := fun (l : List (Word × Word)) => l.any (fun p => decide (p.1 = 0x000A0020) && decide (bits p.2 2 0 ≤ 4))
  decide (i.kind = 8) &&
  match i.host with
  | some c =>
    let x := s.hst.sess c.ref.session.toNat
    decide (i.channel ≠ 0) && x.isOpen && decide (x.lastSeq < c.ref.hostSeq) &&
      (decide (c.opcode = 0x0030) || (decide (c.opcode = 0x0021) && names (writePairs c.payload)))
  | none => decide (0x0200 ≤ i.channel.toNat) && names (writePairs (i.payload.take 2))
where
  /-- The address and value pairs of a WRITE_REG payload. -/
  writePairs : List Word → List (Word × Word)
    | a :: v :: l => (a, v) :: writePairs l
    | _ => []

/-- The items whose mode request is discarded SUPERSEDED: every one of the union but the last (R316). -/
def State.superseded (s : State) (u : List Item) : List Item :=
  let l := u.filter s.isModeRequest
  l.take (l.length - 1)

/-- A command of a session is taken from the union (R404, R405): refused SEQ, SUPERSEDED, or left waiting for its own row,
after the gap it reveals. -/
def State.takeCommand (s : State) (c : HostCmd) (dropped : Bool) : State :=
  let k := c.ref.session.toNat
  let x := s.hst.sess k
  if !x.isOpen then s
  else if c.ref.hostSeq ≤ x.lastSeq then { s with hst := s.hst.answerSeq c.ref c.opcode s.beat.n }
  else
    let g := x.gap k c.ref.hostSeq s.beat.n
    let h := s.hst.setSess k { g.1 with lastHandled := if g.1.lastHandled < c.ref.hostSeq then c.ref.hostSeq else g.1.lastHandled }
    let s1 := { s with hst := h }.raise g.2
    if dropped then
      let y := (s1.hst.sess k).settle c.ref.hostSeq .superseded s.beat.n
      { s1 with hst := (s1.hst.setSess k y).respondTo c.ref (cmdResponse c.ref c.opcode s.beat.n stSuperseded 0 []) }
    else { s1 with hst := { s1.hst with toApply := s1.hst.toApply ++ [c.ref] } }

/-- A command without a session of its own is settled in session 0's ledger (Table 1.9). -/
def HstSt.settleZero (h : HstSt) (f : CmdFate) : HstSt :=
  let x := h.sess 0
  h.setSess 0 { x with ledger := x.ledger.settle f 1 }

/-- A staged write takes effect and is settled in session 0's ledger; events name session 0 (R20, Table 11.10). -/
def State.commitStaged (s : State) (sel addr w : Word) : State :=
  let r := s.pairWrite sel 0 addr w
  { r.1 with hst := r.1.hst.settleZero (if r.2.1 = stApplied then .applied else .refused) }

/-- A staged write is applied in the beat of its union (R14, R20); mode and setpoint requests wait for the automatic mode
rows (R316, R324). -/
def State.takeStaged (s : State) (i : Item) (dropped : Bool) : State :=
  let addr := i.payload.getD 0 0
  let w := i.payload.getD 1 0
  if dropped then { s with hst := s.hst.settleZero .superseded }
  else if (0x000A0020 : Word) ≤ addr ∧ addr ≤ (0x000A0030 : Word) then { s with ctl := { s.ctl with waiting := s.ctl.waiting ++ [(addr, w)] } }
  else s.commitStaged (i.payload.getD 2 0) addr w

/-- The frame of a CAPTURE ring entry: header word, identifier word, bus time and data (R385, R387). -/
def ringTx (i : Item) (window : Nat) : TxFrame :=
  let id := i.payload.getD 1 0
  let len := i.bytes - 12
  { kind := .ringFrame, window := window, arb := 0,
    frame := { ident := id &&& 0x3FFFFFFF, remote := false, fd := id.getLsbD 30, brs := id.getLsbD 31, data := ((wordBytes i.payload).drop 16).take len, nom := 0, dat := 0 } }

/-- An entry of a CAPTURE ring asks for its frame (R387). -/
def State.takeRingFrame (s : State) (i : Item) : State :=
  let ch := bits (i.payload.getD 0 0) 19 16
  match s.fbu.cfg ch with
  | none => s
  | some g =>
    if g.hostWindow = 0xFF then { s with fbu := s.fbu.setChan ch ((s.fbu.chan ch).settle (some .window)) }
    else { s with fbu := s.fbu.request ch (ringTx i g.hostWindow.toNat) }

/-- One item of the union with an effect of its own when the union is formed. -/
def State.takeItem (dropped : List Item) (s : State) (i : Item) : State :=
  if i.kind ≠ 8 then s
  else
    let ch := i.channel.toNat
    match i.host with
    | some c =>
      if ch = 0 then { s with hst := { s.hst with toApply := s.hst.toApply ++ [c.ref] } }
      else s.takeCommand c (dropped.contains i)
    | none => if 0x0200 ≤ ch then s.takeStaged i (dropped.contains i) else s.takeRingFrame i

-- ## CAPTURE_OP

/-- What the latches of the union do (R171, R184, R191): messages decoded, slips and notches noted. -/
def GnsSt.takeLatches (g : GnsSt) (u : List Item) (n : Nat) : GnsSt :=
  let ls := latchesOf u
  if ls.isEmpty then g
  else
    let side := fun (b : Bool) => ls.filter (fun l => decide (l.sideB = b))
    let notch := fun (b : Bool) (k : Nat) =>
      if (side b).isEmpty then g.notched.getLsbD k else (side b).any (fun l => l.flags.testBit 6)
    { (g.decode ls).noteSlips ls (n - 1) with notched := fld' (notch false 0) 0 ||| fld' (notch true 1) 1 }
where
  /-- One bit of the mask of sides. -/
  fld' (b : Bool) (k : Nat) : BitVec 2 := if b then 1 <<< k else 0

/-- A status or feedback field of a device: from the side that FB_SIDE names when the union holds it, otherwise from the other
side (R286, Table 10.3). -/
def FbuSt.sideReader (f : FbuSt) (u : List Item) : FieldReader := fun no side =>
  match f.fieldU (u.filter (fun i => sideFits side i.sideB)) no with
  | some v => some v
  | none => f.fieldU u no

/-- The commands of the union that this device's own capture set held: those it answers (R407). -/
def ownRefs (own : List Item) : List HostRef := own.filterMap (fun i => i.host.map (fun c => c.ref))

/-- The union of the beat is formed and taken (R18 to R20, R404): Amdun answers, device states and latches first, then
commands in union order. -/
def State.formUnion (s : State) : State :=
  if !s.beat.captured then s
  else
    let n := s.beat.n.toNat
    let sets := s.pai.unionSets n s.beat.own
    let u := if s.pai.sideB then unionForm sets.2 sets.1 else unionForm sets.1 sets.2
    let s1 : State :=
      { s with
        beat := { s.beat with union := u, partner := sets.2, captured := false }
        gns := s.gns.takeLatches u n
        hst := { s.hst with heard := s.hst.heard.filter (fun r => s.hst.toApply.contains r) ++ ownRefs s.beat.own } }
    let a := s1.fbu.amdunUnion n u
    let s2 := { s1 with fbu := a.1 }.raise a.2
    let d := s2.alc.updateDevices (s2.fbu.sideReader u)
    let s3 := { s2 with alc := d.1 }.raise d.2
    u.foldl (State.takeItem (s3.superseded u)) s3

end Sys2Proof.Machine
end

