-- ==== Sys2Proof/Machine/CmdBeat.lean ====
section
/-! DEFINITION. Meanings of the commands of the beat and of the sequencer: edges, engine operations, capture, publish, self-test,
overrun and restart (01_device_and_beat.md R15 to R43; 02_schedule_contract.md R59 to R66; 03_image_start_resets.md R107). -/

namespace Sys2Proof.Machine

open Sys2Proof

/-- Do beat edges come: the first beat has run, and the device is in RUN or WATCH (R23, R97, R505)? -/
def State.edgesRun (s : State) : Bool :=
  decide (s.img.phase = .running) && (decide (s.pwr.mode = .run) || decide (s.pwr.mode = .watch))

/-- BEAT_EDGE (R23, R28): the next edge; while a Beat restart keeps the schedule stopped, an edge without capture (Table 2.5). -/
def execBeatEdge (inp : EdgeIn) (s : State) : Host.Outcome State Fault Refusal :=
  .next (if !s.edgesRun then s
    else if s.sch.restarting then (if 1 < s.sch.restartLeft then s.restartEdge inp else s)
    else if s.beat.live then s.liveEdge inp
    else s)

/-- END (R59, R62): the engine's marker for the beat. -/
def execEndOp (op : OpRun) (s : State) : Host.Outcome State Fault Refusal :=
  .next (s.engineOp op (fun a => let r := a.sch.endOp op a.beat.n.toNat; { a with sch := r.1 }.raise r.2))

/-- WAIT_CYCLE (R59): the engine idles until a cycle. -/
def execWaitCycle (op : OpRun) (until_ : BitVec 20) (s : State) : Host.Outcome State Fault Refusal :=
  .next (s.engineOp op (fun a => { a with sch := a.sch.waitOn op (.cycle until_.toNat) }))

/-- SIGNAL (R59): a synchronisation event of the beat. -/
def execSignalOp (op : OpRun) (event : BitVec 8) (s : State) : Host.Outcome State Fault Refusal :=
  .next (s.engineOp op (fun a => { a with sch := a.sch.signal event }))

/-- WAIT_EVENT (R59): the engine idles until the event has been raised; one raised already lets it go on. -/
def execWaitEvent (op : OpRun) (event : BitVec 8) (s : State) : Host.Outcome State Fault Refusal :=
  .next (s.engineOp op (fun a => if a.sch.events.contains event.toNat then a else { a with sch := a.sch.waitOn op (.event event) }))

/-- WAIT_RELEASE (R59): the wait of an engine is over; the time it waited is stall (Table 19.4). -/
def execWaitRelease (op : OpRun) (s : State) : Host.Outcome State Fault Refusal :=
  .next (if s.sch.running && s.sch.released op then
      { s with
        sch := s.sch.setEng op.engine.toNat { s.sch.eng op.engine.toNat with wait := .none }
        svc := s.svc.countOp op true }
    else s)

/-- CAPTURE_OP (R15, R18): the capture union of the beat, once. -/
def execCaptureOp (op : OpRun) (s : State) : Host.Outcome State Fault Refusal :=
  .next (s.engineOp op State.formUnion)

/-- PUBLISH_OP (R35): the whole publish phase of the beat. -/
def execPublishOp (op : OpRun) (s : State) : Host.Outcome State Fault Refusal :=
  .next (s.engineOp op State.publish)

/-- The JOIN_REQ of this device (R442, Table 15.6a). -/
def State.ownJoinReq (s : State) : JoinReq :=
  { deviceId := s.img.otp.deviceId, imageId := s.imageId, layoutSig := s.layoutSig, compat := s.compat,
    accepts := match s.sch.sched with | some x => x.header.acceptCompat | none => [], sideB := s.pai.sideB, stepUsed := s.tim.stepUsed && s.tim.arm.isNone,
    translate := match s.sch.sched, s.pai.tokenLast with
      | some x, some (t, _) => (translationFrom x t.layoutSig).isSome
      | _, _ => false,
    health := s.pai.health }

/-- The output loopback of R342 on the readings of the guard phase; it is suspended for a latched pad (R512). -/
def State.loopback (s : State) (readings : List (BitVec 7 × Int)) : State :=
  let r := (readings.filter (fun x => !s.pwr.padLatched x.1.toNat)).foldl (fun (a : OutBlk × List Ev) (x : BitVec 7 × Int) =>
    let c := a.1.loopCheck x.1.toNat (s.pai.gate s.tim.now) x.2
    (c.1, a.2 ++ c.2)) (s.out, [])
  { s with out := r.1 }.raise r.2

/-- SELF_TEST_OP (R437): a logic slice, a scrub and the loopback; an unadopted Joining device asks to join (R442). -/
def execSelfTestOp (op : OpRun) (sliceOk : Bool) (corrected : Half) (readings : List (BitVec 7 × Int)) (s : State) :
    Host.Outcome State Fault Refusal :=
  .next (s.engineOp op (fun a =>
    let b := { a with pai := a.pai.selfTest a.beat.n.toNat sliceOk corrected.toNat }.loopback readings
    { b with pai := b.pai.sendJoinReq b.ownJoinReq b.beat.n.toNat b.tim.now }))

/-- OVERRUN_CHECK (R61, R64, R65): an engine without its marker at cycle 768,000 causes a Beat restart, or past RESTART_LIMIT
an Image reset. -/
def execOverrunCheck (s : State) : Host.Outcome State Fault Refusal :=
  .next (if !s.sch.running || s.sch.lateEngines.isEmpty then s
    else
      let o := s.sch.overrun s.beat.n.toNat
      let a := { s with sch := o.1 }.raise o.2
      if s.sch.escalates then (a.raise [s.sch.escalationEv s.beat.n.toNat]).imageReset .escalationOverrun 0xFFFFFFFF
      else a.beatRestart true)

/-- BEAT_RESTART_RESUME (R64, R112): before edge n+10 the schedule runs again, in the Solo role, and the changes that the restart
took back are reported. -/
def execBeatRestartResume (s : State) : Host.Outcome State Fault Refusal :=
  .next (if s.sch.restarting && decide (s.sch.restartLeft ≤ 1) then
      { s with
        sch := { s.sch with running := true, restarting := false, restartLeft := 0 }
        beat := { s.beat with live := true } }.revertChanges .beatRestart
    else s)

/-- BEAT_FAULT (R106, R107, R110): a Beat restart by fault, or an Image reset on the second such fault within a round and on one
during the re-initialisation of a Beat restart. -/
def execBeatFault (source : Word) (address : Word) (s : State) : Host.Outcome State Fault Refusal :=
  .next (if s.img.phase ≠ .running then s
    else
      let bip := s.sch.bip s.beat.n.toNat
      if s.img.faultRound = some s.sch.roundNo ∨ s.sch.restarting = true then
        s.imageReset .escalationFault 0xFFFFFFFF
      else
        let a := { s with img := { s.img with faultRound := some s.sch.roundNo, faultRst := s.img.faultRst + 1 } }
        (a.raise [(0x0205, [source, wordN bip, address])]).beatRestart false)

/-- SCH_OVR_CFG_WRITE (R82): taken, or refused with CFG_REFUSED. -/
def execSchOvrCfgWrite (who : Who) (value : Word) (s : State) : Host.Outcome State Fault Refusal :=
  .next (s.writeReg who 0x00010064 value)

/-- PEAK_CLEAR (R81): the selected engine's PEAK and PEAK_BEAT. -/
def execPeakClear (who : Who) (s : State) : Host.Outcome State Fault Refusal :=
  .next (s.writeReg who 0x00018008 0x80000000)

end Sys2Proof.Machine
end

