-- ==== Sys2Proof/Machine/CmdBank.lean ====
section
/-! DEFINITION. Meanings of the bank commands (02_schedule_contract.md R67 to R74; 05_conditioning.md R161; 17_event_recorder.md R490;
18_power_states.md R497). -/

namespace Sys2Proof.Machine

open Sys2Proof

/-- The opcode of BANK_LOAD and of BANK_SWITCH (Table 14.3). -/
def opBankLoad : Half := 0x0040
def opBankSwitch : Half := 0x0041

-- ## Loading (R70)

/-- BANK_LOAD BEGIN (R70): a local command of an Engineer. -/
def execBankLoadBegin (h : HostRef) (offset : Word) (nData : Nat) (s : State) : Host.Outcome State Fault Refusal :=
  .next (s.localCmd h 2 (fun a => let r := a.sch.loadBegin h.session offset nData; { a with sch := r.1 }.reply h opBankLoad r.2 0 []))

/-- BANK_LOAD DATA (R70). -/
def execBankLoadData (h : HostRef) (offset : Word) (data : List Byte) (s : State) : Host.Outcome State Fault Refusal :=
  .next (s.localCmd h 2 (fun a => let r := a.sch.loadData h.session offset data; { a with sch := r.1 }.reply h opBankLoad r.2 0 []))

/-- BANK_LOAD END (R70): answered at once where it is refused, otherwise when verification ends. -/
def execBankLoadEnd (h : HostRef) (offset : Word) (nData : Nat) (s : State) : Host.Outcome State Fault Refusal :=
  .next (s.localCmd h 2 (fun a =>
    let r := a.sch.loadEnd h.session h.reqId offset nData
    let b := { a with sch := r.1 }
    if r.2 = stOk then b else b.reply h opBankLoad r.2 0 []))

/-- BANK_LOAD ABORT (R70). -/
def execBankLoadAbort (h : HostRef) (nData : Nat) (s : State) : Host.Outcome State Fault Refusal :=
  .next (s.localCmd h 2 (fun a =>
    let r := a.sch.loadAbort h.session nData
    ({ a with sch := r.1 }.raise r.2.1).reply h opBankLoad r.2.2 0 []))

/-- The idle conditions of the gateable domains as they stand: a domain that a program needs is powered (R497). -/
def State.powerUp (s : State) : State :=
  let p := s.pwr.refresh s.idle
  { s with pwr := p.1 }.raise p.2

/-- The answer that END waits for goes to its session while it is open. -/
def State.answerEnd (s : State) (a : Option (BitVec 8 × Word × Half × Word)) : State :=
  match a with
  | none => s
  | some (ses, req, st, detail) =>
    if (s.hst.sess ses.toNat).isOpen then s.reply { session := ses, hostSeq := 0, reqId := req } opBankLoad st detail [] else s

/-- BANK_VERIFY_DONE (R68, R70): the bank is READY or EMPTY, END is answered, and domains that the new program needs are powered. -/
def execBankVerifyDone (img : ImageDesc) (s : State) : Host.Outcome State Fault Refusal :=
  .next (match s.sch.inactive.phase with
    | .verify =>
      let r := s.sch.verified img s.img.otp
      (({ s with sch := r.1 }.raise r.2.1).answerEnd r.2.2).powerUp
    | _ => s)

/-- BANK_LOAD_TIMEOUT (R68, R70): 10 s without data abort a load. -/
def execBankLoadTimeout (s : State) : Host.Outcome State Fault Refusal :=
  .next (match s.sch.inactive.phase with
    | .loading => let r := s.sch.abortLoad 3; { s with sch := r.1 }.raise r.2
    | _ => s)

-- ## Switching (R71)

/-- BANK_SWITCH (R71): judged in the union. -/
def execBankSwitch (h : HostRef) (imageId : Long) (s : State) : Host.Outcome State Fault Refusal :=
  .next (s.unionCmd h opBankSwitch (fun a => let r := a.sch.orderSwitch imageId a.paired; ({ a with sch := r.1 }, r.2, 0)))

/-- The pair-domain state of a companion area: what a device holds that has just loaded the schedule (R71, Table 15.11). -/
def PairDom.initial (x : Schedule) : PairDom :=
  { est := match x.est with | some t => EstSt.fromTable EstSt.reset t false | none => EstSt.reset
    ctl := CtlSt.reset.restart x.ctl false true, alc := AlcSt.reset.restart x.alc true, praline := [], grid := [], tracks := []
    bindings := [], orbits := [], solutions := [], excl := [], spoofA := SpoofSt.zero, spoofB := SpoofSt.zero, att := GnsSt.reset.att
    aid := none, nodes := [], queues := [], regions := [], sessions := [], openReqIds := [], cal := CalSets.zero, calPending := []
    calSeq := 0, job := BaJob.zero, powerLog := [], arm := none, changes := { regions := 0, setpoints := 0, gains := 0 }, joinBlock := false, exclRun := 0
    takeoversPair := 0 }

/-- The slow and the fast state of a pair-domain state, one after the other (Table 15.11). -/
def PairDom.bytes (d : PairDom) (sig : Long) : List Byte := Config.layOut sig false d ++ Config.layOut sig true d

/-- Pair-domain bytes of another layout, translated into a schedule's (R71, R447): what no operation covers takes the schedule's
initial values.  `old` stands where the bytes hold no state. -/
def translateInto (x : Schedule) (t : TransTable) (src : List Byte) (old : PairDom) : PairDom :=
  let sig := x.header.layoutSig
  let init := PairDom.initial x
  let b := translate t src (init.bytes sig)
  let k := (Config.layOut sig false init).length
  pairFrom sig (b.take k) (b.drop k) old

/-- The control block with another bank's table: the slots that both hold go on, and a new one starts from the table. -/
def CtlSt.switch (c : CtlSt) (t : Option CtlTable) : CtlSt :=
  let fresh := CtlSt.reset.restart t false true
  { c with
    table := t
    slots := Tab.modifyAll SlotSt.zero fresh.slots (Tab.keys fresh.slots) (fun k v =>
      if Tab.get SlotSt.zero c.slots k = SlotSt.zero then v else Tab.get SlotSt.zero c.slots k) }

/-- The tables of a schedule come into force in their blocks; `old` is the rate table in force before (R161, R490). -/
def State.installTables (s : State) (x : Schedule) : State :=
  let entries := match x.rate with | some t => t.entries | none => []
  let s1 : State :=
    { s with
      cnd := match x.cnd with | some t => s.cnd.switch t | none => CndSt.reset
      gns := { s.gns with table := x.gns }, est := { s.est with table := x.est }, lun := { s.lun with table := x.luna }
      alc := { s.alc with table := x.alc }, ctl := s.ctl.switch x.ctl, fbu := { s.fbu with msgs := x.msg }, pwr := { s.pwr with table := x.power }
      rcd := s.rcd.setTable entries }
  if s.rcd.table = entries then s1
  else s1.raise [(0x1003, [wordN entries.length, lowOf x.header.imageId, 1])]

/-- What no schedule lays out stands through a device's own switch: sessions, runtime changes, an arm, the pair counts. -/
def State.keepOwn (t s : State) : State :=
  { t with tim := s.tim, img := s.img, pai := s.pai, hst := { t.hst with sessions := s.hst.sessions, openReqIds := s.hst.openReqIds } }

/-- The pending switch takes effect (R71): pair-domain state carries over or is translated, a background job is discarded
(R221), a join in progress starts again (R446). -/
def State.applySwitch (s : State) : State :=
  match s.sch.inactive.image with
  | none => s
  | some x =>
    let sig := s.layoutSig
    let a : State :=
      if sig = x.header.layoutSig then s
      else match translationFrom x sig with
        | some t => (s.setPairDom (translateInto x t (s.pairDom.bytes sig) s.pairDom)).keepOwn s
        | none => s
    let b := { a with sch := a.sch.applySwitch }.installTables x
    let j := b.hwk.discardJob 3
    let p := b.pai.bankSwitched
    ({ b with hwk := j.1, pai := p.1 }.raise (j.2 ++ p.2)).powerUp

/-- Is this the edge of beat 0 of a round while the schedule runs (R27)? -/
def State.atBoundary (s : State) : Bool := s.sch.running && s.beat.live && s.beat.boundary

/-- BANK_SWITCH_APPLY (R71): at the first round boundary at least 2 beats after the command. -/
def execBankSwitchApply (s : State) : Host.Outcome State Fault Refusal :=
  .next (if s.atBoundary && s.sch.switchDue then s.applySwitch else s)

end Sys2Proof.Machine
end

