-- ==== Sys2Proof/Machine/CmdStart.lean ====
section
/-! DEFINITION. Meanings of the commands of start-up and of the resets (03_image_start_resets.md R84 to R110; 19_service_fabric.md;
20_package_electrical.md R543, R550). -/

namespace Sys2Proof.Machine

open Sys2Proof

-- ## Power

/-- Power good starts a Cold start or a Cocoon wake (R97, R550): the power-cycle count, the straps, the island's self-test.
`badCopies` are the copies of the latch that fail their CRC (R468). -/
def State.powerOn (s : State) (cocoon : Bool) (straps : BitVec 4) (sideB : Bool) (badCopies : BitVec 2) : State :=
  let forceB := straps.getLsbD 0
  let saf := s.saf.start (if cocoon then 1 else 0) badCopies
  let img : ImgSt :=
    { s.img with
      powered := true, phase := .discover, forceB := forceB, nvmMap := straps.getLsbD 1, strap2 := straps.getLsbD 2, strap3 := straps.getLsbD 3
      order := imageOrder forceB none, kind := if cocoon then .cocoonWake else .cold, nresetOut := true, faultOut := true
      pwrcyc := satInc s.img.pwrcyc }
  let pai := { s.pai with sideB := sideB }.startTraining
  { s with img := img, saf := saf.saf, pai := pai.1 }.raise (saf.evs ++ pai.2)

/-- POWER_GOOD (R97, R106): from no power a Cold start; after a wake event in Cocoon a Cocoon wake. -/
def execPowerGood (cocoon : Bool) (straps : BitVec 4) (sideB : Bool) (lockBad : BitVec 2) (s : State) : Host.Outcome State Fault Refusal :=
  .next (if cocoon then
      (if s.img.powered && decide (s.pwr.mode = .cocoon) && s.pwr.wakeAt.isSome then (s.coldReset true).powerOn true straps sideB lockBad else s)
    else if s.img.powered then s
    else s.powerOn false straps sideB lockBad)

/-- SUPPLY_TRIP (R106, R543): power is lost with all that needs it; the Cold start begins at the next power good. -/
def execSupplyTrip (s : State) : Host.Outcome State Fault Refusal :=
  .next (if s.img.powered then s.coldReset false else s)

/-- FUSES_READ (R10, R97): PARAMS_VALID. -/
def execFusesRead (s : State) : Host.Outcome State Fault Refusal :=
  .next (if s.img.powered then { s with img := { s.img with paramsValid := true } } else s)

/-- Every field-bus channel listens (R99). -/
def FbuSt.listenAll (f : FbuSt) : FbuSt :=
  { f with enabled := true, channels := Tab.modifyAll ChanSt.zero f.channels (List.range 16) (fun _ c => { c with mode := .listen }) }

/-- NRESET_OUT_RELEASE (R97, R99): the interfaces are enabled in listen-only. -/
def execNresetOutRelease (s : State) : Host.Outcome State Fault Refusal :=
  .next (if s.img.powered && !s.img.nresetIn && !s.fbu.enabled then
      { s with img := { s.img with nresetOut := false }, fbu := s.fbu.listenAll }
    else s)

-- ## Loading

/-- Is the loader reading or about to read an image? nRESET_IN low abandons a load (R108, R110). -/
def State.loading (s : State) : Bool :=
  s.img.powered && !s.img.nresetIn && s.img.accepted.isNone && (decide (s.img.phase = .loadA) || decide (s.img.phase = .loadB))

/-- The time keeper under another TIME_CFG, or under none (R96, R98). -/
def TimSt.configure (t : TimSt) (c : Option TimeCfg) : TimSt :=
  match c with
  | some x => { t with cfg := c, utc := if t.utcFrom.toNat ≤ 1 then x.utcDefault else t.utc,
                       utcFrom := if t.utcFrom.toNat ≤ 1 then (if x.utcDefault = 0 then 0 else 1) else t.utcFrom }
  | none => { t with cfg := none, sources := [], utc := if t.utcFrom.toNat ≤ 1 then 0 else t.utc, utcFrom := if t.utcFrom.toNat ≤ 1 then 0 else t.utcFrom }

/-- A TIME_CFG comes into force and the source is selected again (R119, R131). -/
def State.useTime (s : State) (c : Option TimeCfg) : State :=
  let r := (s.tim.configure c).reselect s.partnerOk
  { s with tim := r.1 }.raise r.2

/-- An image fails with an error of Table 3.3 (R94, R98): its provisional settings go, and the next image is tried or the device
is in NO_IMAGE with its recovery settings (R95, R96). -/
def State.failImage (s : State) (isB : Bool) (code : Nat) (idx : Word) : State :=
  let g0 := s.img
  let sec : Half := if idx = 0xFFFFFFFF then 0xFFFF else idx.setWidth 16
  let g1 := if isB then { g0 with errB := BitVec.ofNat 8 code, errBSec := sec } else { g0 with errA := BitVec.ofNat 8 code, errASec := sec }
  let g : ImgSt := { g1 with provisional := false, order := g0.order.filter (fun b => b != isB) }
  let next := match g0.phase with | .discover => if g.order = [] then { g with phase := .noImage } else g | _ => g.tryNext
  let gone := decide (next.phase = .noImage)
  let ev : List Ev := [(0x0202, [if isB then 1 else 0, wordN code, idx])]
  let evN : List Ev := if gone then [(0x0208, [next.errA.setWidth 32, next.errB.setWidth 32])] else []
  ({ s with img := next, hst := { s.hst with netCfg := if gone then s.img.otp.recovery else none, provisional := false } }.raise (ev ++ evN)).useTime none

/-- The first mode of R84 that an SFDP table declares: bits 0 to 2 of `modes` are 8D-8D-8D, 4S-4D-4D and 1S-4S-4S. -/
def nvmModeOf (modes : BitVec 3) : BitVec 2 :=
  if modes.getLsbD 0 then 0 else if modes.getLsbD 1 then 1 else if modes.getLsbD 2 then 2 else 3

/-- NVM_DISCOVERY (R84, R85): the mode, and an image whose chip select shows no SFDP table fails. -/
def execNvmDiscovery (sfdp0 sfdp1 : Bool) (modes : BitVec 3) (maxMhz sizeLog2 : BitVec 8) (s : State) : Host.Outcome State Fault Refusal :=
  .next (if s.img.powered && !s.img.nresetIn && decide (s.img.phase = .discover) then
      let found := fun (isB : Bool) => if isB && s.img.nvmMap then sfdp1 else sfdp0
      let any := s.img.order.any found
      let g : ImgSt :=
        { s.img with
          nvmMode := if any then nvmModeOf modes else 3, nvmMhz := if any then (if maxMhz.toNat < 200 then maxMhz else 200) else 0
          nvmSize := if any then sizeLog2 else 0 }
      let a := s.img.order.foldl (fun (x : State) b => if found b then x else x.failImage b 0x01 0xFFFFFFFF) { s with img := g }
      if a.img.order = [] then a else { a with img := a.img.tryNext }
    else s)

/-- PROVISIONAL_APPLY (R98): the NET_CFG and the TIME_CFG that keep their own rules; the rule on PERIOD is not the section's own. -/
def execProvisionalApply (net : Option NetCfg) (time : Option TimeCfg) (s : State) : Host.Outcome State Fault Refusal :=
  .next (if s.loading then
      let n := net.filter (fun c => netOk c.streamInterval.toNat c)
      let t := time.filter timeCfgOk
      let a : State :=
        { s with img := { s.img with provisional := n.isSome }, hst := { s.hst with netCfg := n, provisional := n.isSome } }
      match t with
      | some c => a.useTime (some c)
      | none => a
    else s)

/-- The rate table of bank 0 comes into force once the recorder's scan is over (R490): event 0x1003. -/
def State.startRates (s : State) : State :=
  match s.img.accepted with
  | some img =>
    let entries := match img.sched.bind Schedule.rate with | some t => t.entries | none => []
    { s with rcd := s.rcd.setTable entries }.raise [(0x1003, [wordN entries.length, lowOf img.header.imageId, 0])]
  | none => s

/-- An image is accepted (R92, R97, R98): its NET_CFG and TIME_CFG are in force, device time can be set (R125). -/
def State.acceptImage (s : State) (img : ImageDesc) (us : Word) : State :=
  let g : ImgSt :=
    { s.img with
      accepted := some img, phase := .init, imageId := img.header.imageId, secver := img.header.secver, loadUs := us, provisional := false }
  let a := { s with img := g, hst := { s.hst with netCfg := img.net, provisional := false } }.raise
    [(0x0201, [if s.img.imageB then 1 else 0, lowOf img.header.imageId, img.header.secver.setWidth 32, us])]
  let b := a.useTime img.time
  if b.rcd.ready then b.startRates else b

/-- IMAGE_READ_DONE (R92): accepted, or refused with the first error. -/
def execImageReadDone (img : ImageDesc) (us : Word) (s : State) : Host.Outcome State Fault Refusal :=
  .next (if s.loading then
      let e := imageErr img s.img.otp false
      if e.1 = 0 then s.acceptImage img us else s.failImage s.img.imageB e.1 e.2
    else s)

/-- NVM_READ_STALL (R94): 100 ms without progress. -/
def execNvmReadStall (s : State) : Host.Outcome State Fault Refusal :=
  .next (if s.loading then s.failImage s.img.imageB 0x02 0xFFFFFFFF else s)

/-- What an action of the island does outside it: outputs trip and recover, events are raised (R341). -/
def State.applySaf (s : State) (r : SafR) : State :=
  let o := s.out.trip (r.saf.tripLine &&& ~~~ s.out.tripped)
  { s with saf := r.saf, out := o.1.tripClear (~~~ r.saf.tripLine) }.raise (r.evs ++ o.2)

/-- The tables of the image go to the blocks of the beat domain (R97, R156, R162, R196, R249, R287, R327). -/
def State.deliverSchedule (s : State) (x : Schedule) : State :=
  { s with
    sch := s.sch.deliver x
    cnd := match x.cnd with | some t => CndSt.load t | none => CndSt.reset
    gns := { GnsSt.reset with table := x.gns }
    est := match x.est with | some t => EstSt.fromTable EstSt.reset t false | none => EstSt.reset
    alc := AlcSt.reset.restart x.alc true, ctl := CtlSt.reset.restart x.ctl false true, pwr := { s.pwr with table := x.power } }

/-- The sections of an accepted image go to their blocks (R97): calibration (R274), outputs (R344), the island (R472), buses. -/
def State.deliverSections (s : State) (img : ImageDesc) (x : Schedule) : State :=
  let isImage := decide (s.img.kind = .image)
  let a := s.deliverSchedule x
  let cal := match img.cal with | some b => a.lun.calLoad b | none => (a.lun, [])
  let lun : LunSt := { cal.1 with table := x.luna, nets := match img.luna with | some w => w.nets | none => [] }
  let out := match img.out with | some t => a.out.configure t isImage | none => (a.out, [])
  let b := { a with lun := lun, out := out.1, fbu := a.fbu.load x.msg img.nodes }.raise (cal.2 ++ out.2)
  match img.safety with
  | some c => if isImage then b.applySaf (b.saf.compare c) else { b with saf := b.saf.load c }
  | none => b

/-- SECTIONS_DELIVERED (R74, R97, R112): bank 0 ACTIVE, the blocks on image values, the runtime changes reported. -/
def execSectionsDelivered (s : State) : Host.Outcome State Fault Refusal :=
  .next (if s.img.powered && !s.img.nresetIn && decide (s.img.phase = .init) then
      match s.img.accepted with
      | some img =>
        match img.sched with
        | some x =>
          let a := s.deliverSections img x
          { a with img := { a.img with phase := .waitTime, delivered := true } }.revertChanges s.img.kind
        | none => s
      | none => s
    else s)

-- ## The first beat

/-- CHANNEL_LEAVE_LISTEN and the start of the node handshakes (R100, R104). -/
def State.leaveListen (s : State) : State :=
  (List.range 16).foldl (fun (a : State) k =>
    match a.fbu.cfg k with
    | some g =>
      let r := (a.fbu.chan k).leaveListen k g
      { a with fbu := (a.fbu.setChan k r.1).requeue k }.raise r.2
    | none => { a with fbu := a.fbu.setChan k { a.fbu.chan k with mode := .off } }) s

/-- The capture sets before a first edge: an item that completed earlier than one beat before the edge at `t` enters none
(R100). -/
def BeatSt.prepare (b : BeatSt) (t : Nat) : BeatSt :=
  { b with
    n := BitVec.ofNat 64 (t / 1000000 - 1), live := true, collecting := b.collecting.filter (fun i => decide (t ≤ i.instant + 1000000))
    refusedNext := [], used := [] }

/-- FREE without a source, and after an Image reset HOLDOVER where no source is selectable (Table 4.2). -/
def TimSt.firstBeat (t : TimSt) (now : Nat) (partnerOk : Bool) : TimSt × List Ev :=
  let u := { t with now := now }
  match t.state with
  | .unset => ({ u with state := .free }, [(0x0206, [lo32 now])])
  | .free => (u, [])
  | _ => u.reselect partnerOk

/-- The power controller at the first beat after a Cocoon wake (R514, Table 18.9).  DESIGN CHOICE (log 20): the time from the wake
event to power good is no operand, so PWR_WAKE_US is a free value. -/
def State.cocoonWoken (s : State) : State :=
  match s.img.kind, s.pwr.wakeAt with
  | .cocoonWake, some _ =>
    let f := s.fresh
    let us : Word := wordI (Config.freeInt 514 f.1)
    { f.2 with pwr := { s.pwr with wakeAt := none, armed := WakeCfg.zero, wakeUs := us, flags := setBit s.pwr.flags 1 } }.raise
      [(0x1104, [4, s.pwr.lastSource.setWidth 32, us])]
  | _, _ => s

/-- FIRST_BEAT (R97, R100, R103, R104, R170): the schedule starts with the edge at device time `t`, its first BEAT_EDGE. -/
def execFirstBeat (t : Nat) (us : Word) (s : State) : Host.Outcome State Fault Refusal :=
  .next (if s.img.powered && !s.img.nresetIn && decide (s.img.phase = .waitTime) && decide (t % 1000000 = 0) && decide (0 < t) &&
      decide (s.tim.now ≤ t) && (decide (s.img.kind = .image) || decide (s.tim.state ≠ .unset) || decide (300000 ≤ us.toNat)) then
      let r := s.tim.firstBeat t s.partnerOk
      let img : ImgSt := { s.img with phase := .running, startUs := us, faultOut := false }
      let writes := match s.gns.table with | some x => x.spi | none => []
      let a : State :=
        { s with
          img := img, tim := r.1, beat := { s.beat.prepare t with n := BitVec.ofNat 64 (t / 1000000) }, sch := { s.sch with running := true }, gns := { s.gns with spiPending := writes } }
      let b := ((a.raise (r.2 ++ [(0x0207, [s.img.kind.code, if s.img.imageB then 1 else 0, us])])).leaveListen).cocoonWoken
      { b with beat := { b.beat with n := b.beat.n - 1 } }
    else s)

-- ## Image resets

/-- Is the device awake: neither Chrysalis nor Cocoon? -/
def State.awake (s : State) : Bool := s.img.powered && !s.svcDown

/-- NRESET_IN_ASSERT (R106, R108, R110): low for 1 µs or more starts an Image reset, whose load waits for the release. -/
def execNresetInAssert (widthNs : Nat) (s : State) : Host.Outcome State Fault Refusal :=
  .next (if s.awake && !s.img.nresetIn && decide (1000 ≤ widthNs) then
      { s with img := { s.img with nresetIn := true } }.imageReset .pin 0xFFFFFFFF
    else s)

/-- NRESET_IN_RELEASE (R108): nRESET_OUT is released and the load starts. -/
def execNresetInRelease (s : State) : Host.Outcome State Fault Refusal :=
  .next (if s.img.nresetIn then { s with img := { s.img with nresetIn := false, nresetOut := false } } else s)

/-- RESET_IMAGE (R109): at the end of the publish phase of the beat in which it was accepted; in NO_IMAGE, where no beat runs,
at once. -/
def execResetImage (h : HostRef) (s : State) : Host.Outcome State Fault Refusal :=
  .next (s.localCmd h 3 (fun a => a.imageReset .host (h.session.setWidth 32)))

end Sys2Proof.Machine
end

