-- ==== Sys2Proof/Machine/CmdTime.lean ====
section
/-! DEFINITION. Meanings of the device-time commands (04_device_time.md; 14_host_protocol.md R394, R395; 18_power_states.md R503,
R507). -/

namespace Sys2Proof.Machine

open Sys2Proof

/-- Device time has reached `t`. -/
def State.reach (s : State) (t : Nat) : State := { s with tim := { s.tim with now := max s.tim.now t } }

-- ## PTP

/-- Is port `k` a PTP slave port of TIME_CFG, or a master port of NET_CFG (R394)? -/
def State.ptpSlave (s : State) (k : Nat) : Bool :=
  match s.tim.cfg with | some c => c.sources.getLsbD 1 && c.ptpPorts.getLsbD k | none => false
def State.ptpMaster (s : State) (k : Nat) : Bool :=
  match s.hst.netCfg with | some n => n.ptpMaster.getLsbD k | none => false

/-- A PTP port is in `state`, announcing the class of Table 14.1; a change is event 0x0D06. -/
def State.ptpPort (s : State) (k : Nat) (state : Byte) : State :=
  let p := Tab.get PortSt.zero s.hst.ports k
  let c := (announcedClass s.tim).getD 0
  let q := { s with hst := { s.hst with ports := Tab.set PortSt.zero s.hst.ports k { p with ptpState := state, clockClass := BitVec.ofNat 8 c } } }
  if p.ptpState = state then q else q.raise [(0x0D06, [wordN k, state.setWidth 32, wordN c])]

/-- Does a clockClass qualify a parent (Table 4.1)? -/
def parentOk (c : Byte) : Bool := [6, 7, 13, 14].contains c.toNat

/-- TAI − UTC as a source gives it (R118): GNSS before PTP before the image's default. -/
def TimSt.takeUtc (t : TimSt) (diff : Half) (src : BitVec 2) : TimSt :=
  if t.utcFrom.toNat ≤ src.toNat then { t with utc := diff, utcFrom := src } else t

/-- PTP_MESSAGE_RECEIVE (R119, R121, R394): the port's state, and on a slave port the parent's class and offset. -/
def execPtpMessageReceive (port : BitVec 2) (parentClass : Byte) (offset : Option Int) (portState : Byte) (utcOffset : Option Half)
    (t : Nat) (s : State) : Host.Outcome State Fault Refusal :=
  .next (
    let k := port.toNat
    if s.awake && (Tab.get PortSt.zero s.hst.ports k).up && (s.ptpSlave k || s.ptpMaster k) then
      let a := (s.reach t).ptpPort k portState
      if !s.ptpSlave k then a
      else
        let tim := { a.tim with parentClass := parentClass }
        let b := { a with tim := match utcOffset with | some u => tim.takeUtc u 2 | none => tim }
        if !parentOk parentClass then b.disqualify .ptp true
        else match offset with | some theta => b.measure .ptp theta false | none => b
    else s)

/-- PTP_MASTER_SEND (R394, R395): a master port that no better master keeps passive sends, except in UNSET. -/
def execPtpMasterSend (port : BitVec 2) (s : State) : Host.Outcome State Fault Refusal :=
  .next (
    let k := port.toNat
    let p := Tab.get PortSt.zero s.hst.ports k
    if s.awake && p.up && s.ptpMaster k && decide (p.ptpState ≠ 7) && (announcedClass s.tim).isSome then s.ptpPort k 6 else s)

-- ## Pulse per second

/-- Is GNSS taken from PPS_IN (Table 4.3)? -/
def TimSt.external (t : TimSt) : Bool :=
  match t.cfg with | some c => c.sources.getLsbD 0 && c.sources.getLsbD 3 | none => false

/-- External GNSS loses its qualification (R121, R135). -/
def State.ppsFault (s : State) (interval : Word) (present : Bool) : State :=
  let a := s.disqualify .gnss present
  { a with tim := { a.tim with flPpsIn := true } }.raise [(0x030B, [interval])]

/-- PPS_IN_EDGE (R119, R135): an edge of the configured polarity at `t`, with the time of day that a matching sentence gave it. -/
def execPpsInEdge (t : Nat) (label : Option Nat) (s : State) : Host.Outcome State Fault Refusal :=
  .next (
    if !s.awake then s
    else
      let delay : Int := match s.tim.cfg with | some c => c.ppsInDelay | none => 0
      let at_ := ((t : Int) - delay).toNat
      let last := s.tim.ppsIn
      let b := s.reach t
      let a := { b with tim := { b.tim with ppsIn := at_ } }
      if !s.tim.external then a
      else if last = 0 then
        a.disqualify .gnss true
      else
        let gap : Int := (at_ : Int) - last
        if 10000 < (gap - 1000000000).natAbs then a.ppsFault (satWordU (gap.toNat / 1000)) true
        else match label with
          | some l => a.measure .gnss ((l : Int) - at_) false
          | none => a.disqualify .gnss true)

/-- PPS_IN_TIMEOUT (R135): an edge missing for 1.5 s. -/
def execPpsInTimeout (s : State) : Host.Outcome State Fault Refusal :=
  .next (if s.awake && s.tim.external then s.ppsFault 0xFFFFFFFF false else s)

/-- PPS_OUT_PULSE_END (R134). -/
def execPpsOutPulseEnd (s : State) : Host.Outcome State Fault Refusal :=
  .next { s with tim := { s.tim with ppsOut := none } }

-- ## The step

/-- TIME_STEP_ARM (R128): a union command; a second arm restarts the window. -/
def execTimeStepArm (h : HostRef) (s : State) : Host.Outcome State Fault Refusal :=
  .next (s.unionCmd h 0x0042 (fun a =>
    let win := match a.tim.cfg with | some c => c.armWindow.toNat | none => 0
    applied ({ a with tim := { a.tim with arm := some { session := h.session, left := win * 1000 } } }.raise
      [(0x0307, [h.session.setWidth 32, wordN win])])))

/-- ARM_EXPIRED (R128): the window has run out; a step that waited under the arm goes with it (R129). -/
def execArmExpired (s : State) : Host.Outcome State Fault Refusal :=
  .next (match s.tim.arm with
    | some x =>
      if x.left = 0 then
        let pending := s.tim.pending.filter (fun p => !p.byArm)
        { s with tim := { s.tim with arm := none, pending := pending, flArmExpired := true } }.raise [(0x0308, [x.session.setWidth 32])]
      else s
    | none => s)

/-- An instant or a beat number on the scale after a step. -/
def shiftN (d : Int) (x : Nat) : Nat := ((x : Int) + d).toNat
def shiftL (d : Int) (x : Long) : Long := BitVec.ofInt 64 ((x.toNat : Int) + d)

/-- The TOKEN held and its arrival on the scale after a step. -/
def shiftToken (ns : Int) (x : Token × Nat) : Token × Nat := ({ x.1 with txTime := shiftL ns x.1.txTime }, shiftN ns x.2)

/-- A frame or sweep on the scale after a step. -/
def LunSrc.shift (ns : Int) (x : LunSrc) : LunSrc :=
  let frame := fun (f : LunFrame) => { f with instant := shiftN ns f.instant }
  { x with
    open_ := x.open_.map (shiftN ns), points := x.points.map (fun p => (p.1, shiftN ns p.2)), waiting := x.waiting.map frame
    running := x.running.map (fun r => { r with frame := frame r.frame }) }

/-- The baseband on the scale after a step of `k` beats: deadlines, latch beats and the clock bias against device time. -/
def GnsSt.shift (k : Int) (g : GnsSt) : GnsSt :=
  let req := fun (r : AcqReq) => { r with beat := shiftN k r.beat, start := shiftN k r.start }
  let sol := fun (_ : Nat) (x : NavSol) => { x with beat := shiftN k x.beat, clkBias := x.clkBias - k * 1000000 }
  { g with
    queue := g.queue.map req, recorded := g.recorded.map req, recording := g.recording.map (fun x => (req x.1, x.2))
    searching := g.searching.map (fun x => (req x.1, x.2)), solutions := Tab.modifyAll NavSol.zero g.solutions (Tab.keys g.solutions) sol
    att := { g.att with latchBeat := shiftL k g.att.latchBeat, slips := Tab.mapVals 0 g.att.slips (shiftN k) } }

/-- The field buses on the scale after a step: query beats and the beats of waiting ring entries. -/
def FbuSt.shift (k : Int) (f : FbuSt) : FbuSt :=
  let node := fun (_ : Nat) (x : NodeSt) => { x with query := x.query.map (fun q => (shiftN k q.1, q.2)) }
  let entry := fun (e : RingEntry) => { e with beat := BitVec.ofInt 32 ((e.beat.toNat : Int) + k) }
  let ring := fun (_ : Nat) (r : RingSt) => { r with entries := r.entries.map entry }
  { f with
    nodes := Tab.modifyAll NodeSt.zero f.nodes (Tab.keys f.nodes) node
    rings := Tab.modifyAll RingSt.zero f.rings (Tab.keys f.rings) ring }

/-- The pair on the scale after a step. -/
def PaiSt.shift (k : Int) (p : PaiSt) : PaiSt :=
  let ns := k * 1000000
  { p with
    lastIn := p.lastIn.map (shiftN ns), tokenNow := p.tokenNow.map (shiftToken ns), tokenLast := p.tokenLast.map (shiftToken ns)
    swap := p.swap.map (shiftL k), adoptBeat := p.adoptBeat.map (shiftL k) }

/-- R129 step 4: every device-time value and every beat number from which something counts moves with the step. -/
def State.shift (s : State) (k : Int) : State :=
  let ns := k * 1000000
  let item := fun (i : Item) => { i with instant := shiftN ns i.instant }
  let offer := fun (o : RefOffer) => { o with instant := o.instant + ns, fromBeat := shiftN k o.fromBeat }
  let tile := fun (_ : Nat) (g : GridTile) => { g with instant := shiftN ns g.instant }
  { s with
    beat := { s.beat with collecting := s.beat.collecting.map item }
    est := { s.est with offers := s.est.offers.map offer }
    lun := { s.lun with
      sources := Tab.modifyAll LunSrc.zero s.lun.sources (Tab.keys s.lun.sources) (fun _ x => x.shift ns)
      grid := Tab.modifyAll GridTile.zero s.lun.grid (Tab.keys s.lun.grid) tile }
    gns := s.gns.shift k, fbu := s.fbu.shift k, pai := s.pai.shift k
    out := { s.out with holdStart := shiftN ns s.out.holdStart } }

/-- An alarm that the power controller waits for, once device time has reached it (R130, R503, R507). -/
def State.alarmDue (s : State) : State :=
  if s.pwr.armedFor 3 && decide (s.pwr.armed.alarmAt.toNat ≤ s.tim.now) then
    match s.pwr.mode with
    | .watch =>
      if s.pai.role = .solo && !(s.pwr.prog.any (fun p => !p.toWatch)) then
        let r := s.pwr.wakeWatch 3
        ({ s with pwr := { r.1 with armed := { r.1.armed with alarm := false } } }.raise r.2).powerUp
      else s
    | .chrysalis => { s with pwr := s.pwr.wakeSleep 3 s.pwr.armed.alarmAt.toNat }
    | _ => s
  else s

/-- The step that takes effect at the coming edge: its source, k, and r in ns, which a partner's announcement does not carry
(DESIGN CHOICE, log 21: a free value). -/
def State.stepNow (s : State) : Option (TimeSource × Int × Int) :=
  let n := s.beat.n.toNat
  match s.pai.role with
  | .solo | .active =>
    (s.tim.stepDue n (decide (s.pub.ctl.mode = .standby))).map (fun x =>
      let k := stepBeats x.2
      (x.1, k, x.2 - k * 1000000))
  | _ =>
    match s.pai.tokenLast with
    | some (t, _) =>
      if t.stepEdge = s.beat.n + 1 ∧ t.beat = s.beat.n then some (.partner, t.stepK, Config.freeInt 133 s.freeCtr) else none
    | none => none

/-- TIME_STEP_APPLY (R129, R130, R133): before the BEAT_EDGE of E, device time and what counts by it move by k ms, and E closes
the round under way. -/
def execTimeStepApply (s : State) : Host.Outcome State Fault Refusal :=
  .next (if s.sch.running && s.beat.live && !s.beat.stepEdge then
      match s.stepNow with
      | some (src, k, r) =>
        let n := shiftL k s.beat.n
        let x := s.tim.applyStep src k r (n.toNat + 1)
        let a := s.shift k
        let b := { a with tim := x.1, beat := { a.beat with n := n, stepEdge := true }, freeCtr := a.freeCtr + 1, fbu := a.fbu.renegotiateAll }
        (b.raise x.2).alarmDue
      | none => s
    else s)

-- ## Differences, rates and alarms

/-- LEAP_SECOND (R118): the announced difference TAI − UTC is applied at its instant. -/
def execLeapSecond (diff : Half) (atTime : Nat) (fromGnss : Bool) (s : State) : Host.Outcome State Fault Refusal :=
  .next (if s.awake then
      let a := s.reach atTime
      { a with tim := a.tim.takeUtc diff (if fromGnss then 3 else 2) }
    else s)

/-- LEARNED_RATE_SAVE (R123): every 1,000 rounds the learned rate goes to MRAM. -/
def execLearnedRateSave (s : State) : Host.Outcome State Fault Refusal :=
  .next (if 1000 ≤ s.tim.roundsSinceSave then { s with tim := { s.tim with learnedSaved := s.tim.learned, roundsSinceSave := 0 } } else s)

/-- ALARM_REACHED (R130, R503, R507): device time reaches `alarm`. -/
def execAlarmReached (alarm : Nat) (s : State) : Host.Outcome State Fault Refusal := .next (s.reach alarm).alarmDue

end Sys2Proof.Machine
end

