-- ==== Sys2Proof/Machine/CmdSense.lean ====
section
/-! DEFINITION. Meanings of the sensing commands: conditioning chains, the GNSS baseband, estimator references, cameras, lidars,
Luna's bindings and calibration (05_conditioning.md; 06_gnss_baseband.md; 08_estimation.md; 09_luna_grid_tracks.md). -/

namespace Sys2Proof.Config

open Sys2Proof.Machine

/-- The predicted code phase, in half chips, and Doppler, in Hz, at the centre of an aided search (R179): from orbit data, position
and the beat of the record's start, or around coasted values.  The spec names the prediction and does not lay it out. -/
opaque acqCentre : (orbit : List Word) → (signal : Byte) → (north east : Int) → (coasted : Int × Int) → (start : Nat) → Int × Int

/-- The code phase, in 2⁻⁴⁸ chip, and Doppler, in 2⁻¹⁰ Hz, that orbit data and the published state predict (R192). -/
opaque predictChannel : (orbit : List Word) → (signal : Byte) → (north east : Int) → (beat : Nat) → Int × Int

/-- The azimuth of a Cartesian lidar point, where the spec compares azimuths without defining one (R256). -/
opaque azimuthOf : (x y : Int) → Int

end Sys2Proof.Config

namespace Sys2Proof.Machine

open Sys2Proof

/-- Is a power domain on? -/
def State.domainOn (s : State) (d : Nat) : Bool := s.awake && decide (s.pwr.domState s.gns.powered d = .on)

-- ## Conditioning

/-- Does an input fit a source (Table 5.1)? -/
def inputFits (src : Byte) (i : CndInput) : Bool :=
  match i with
  | .bits _ => isBitstream src
  | .code _ => isAin src
  | .monitor _ => decide (0x38 ≤ src.toNat) && decide (src.toNat ≤ 0x3F)

/-- The conditioning block with what one of its operations did. -/
def State.withCnd (s : State) (r : CndSt × List Ev) : State := { s with cnd := r.1 }.raise r.2

/-- CHAIN_SAMPLE (R150 to R159). -/
def execChainSample (channel : BitVec 6) (input : CndInput) (otherBad : Bool) (s : State) : Host.Outcome State Fault Refusal :=
  .next (if s.domainOn 9 && inputFits (s.cnd.sourceInUse channel.toNat) input then s.withCnd (s.cnd.sample channel.toNat input otherBad)
    else s)

/-- SOURCE_STUCK (R158). -/
def execSourceStuck (channel : BitVec 6) (s : State) : Host.Outcome State Fault Refusal :=
  .next (if s.domainOn 9 then s.withCnd (s.cnd.sourceStuck channel.toNat) else s)

/-- CND_FREEZE (R160): a write of CND_C_CTRL.FREEZE on this device. -/
def execCndFreeze (channel : BitVec 6) (value : Bool) (s : State) : Host.Outcome State Fault Refusal :=
  .next (if s.awake then { s with cnd := s.cnd.askFreeze channel.toNat value } else s)

/-- SRC_RETURN (R159, R160): a write of 1 to CND_C_CTRL.SRC_RETURN. -/
def execSrcReturn (channel : BitVec 6) (s : State) : Host.Outcome State Fault Refusal :=
  .next (if s.awake then { s with cnd := s.cnd.askReturn channel.toNat } else s)

/-- CND_CTRL_APPLY (R159, R160). -/
def execCndCtrlApply (channel : BitVec 6) (s : State) : Host.Outcome State Fault Refusal :=
  .next (if s.domainOn 9 then s.withCnd (s.cnd.applyCtrl channel.toNat) else s)

-- ## Tracking channels

/-- The nominal increments per sample of a channel's code and carrier oscillators for a Doppler in 2⁻¹⁰ Hz (R173). -/
def gnsRates (sd : SignalDef) (c : GnsStreamCfg) (dopp : Int) : Int × Int :=
  let khz := streamKhz c.rate
  let carrier := sd.carrier * 512000
  (Config.quot 173 (sd.kchips * 281474976710656 * ((carrier : Nat) + dopp)) (khz * carrier),
   Config.quot 173 ((dopp + c.ifHz * 1024) * 281474976710656) (khz * 1024000))

/-- A channel whose oscillators start at a code phase and a Doppler, in PULL_IN (Table 6.4). -/
def GnsCh.pull (ch : GnsCh) (sd : SignalDef) (c : GnsStreamCfg) (phase dopp : Int) : GnsCh :=
  let r := gnsRates sd c dopp
  { ch with
    state := .pullIn, beats := 0, lockBeats := 0, lowBeats := 0, dumps := [], codePhase := phase, carrPhase := 0, codeRate := r.1, carrRate := r.2
    codeOffset := 0, carrOffset := 0, doppler := dopp, txAmbig := true, handoff := none, failures := 0, discDelay := 0, discCarr := 0
    discND := 0, discNC := 0, satLatches := 0 }

/-- `f` on an assigned channel, with the table and the channel's signal, where the baseband is powered. -/
def State.gnsCh (s : State) (c : Nat) (f : GnsTable → SignalDef → GnsCh → State) : State :=
  if s.domainOn 8 && s.gns.powered && decide (c < 384) then
    match s.gns.table with
    | none => s
    | some t =>
      let ch := s.gns.ch c
      match signalDef ch.signal (ch.sv.toNat / 256) with
      | none => s
      | some sd => f t sd ch
  else s

/-- The channel queues a search anew. -/
def State.research (s : State) (c : Nat) : State := { s with gns := s.gns.research c s.beat.n.toNat s.tim.now s.aiding }

/-- CORRELATOR_DUMP (R173, R174, R178). -/
def execCorrelatorDump (channel : BitVec 9) (d : Dump) (s : State) : Host.Outcome State Fault Refusal :=
  .next (s.gnsCh channel.toNat (fun _ _ ch =>
    match ch.state with
    | .pullIn | .track | .hold => { s with gns := s.gns.setCh channel.toNat (ch.dump d) }
    | _ => s))

/-- The beat `n`: a finished record is searched once the search is idle, and the next request's record starts (R180). -/
def GnsSt.recordDone (g : GnsSt) (n : Nat) : GnsSt :=
  match g.recording with
  | some (r, 0) =>
    let g1 : GnsSt :=
      match g.searching with
      | none => { g with recording := none, searching := some (r, r.beats) }
      | some _ => { g with recording := none, recorded := g.recorded ++ [r] }
    match g1.queue with
    | q :: l => if g1.recorded.isEmpty ∧ q.beat < n then { g1 with recording := some ({ q with start := n }, q.recMs), queue := l } else g1
    | [] => g1
  | _ => g

/-- ACQ_RECORD_DONE (R180). -/
def execAcqRecordDone (s : State) : Host.Outcome State Fault Refusal :=
  .next (if s.gns.powered then { s with gns := s.gns.recordDone s.beat.n.toNat } else s)

/-- A search found nothing (Table 6.4): an aided window widens by 4, and after the second failure the windows are unaided; an
unaided failure releases the channel. -/
def State.noPeak (s : State) (c : Nat) : State :=
  let ch := s.gns.ch c
  if ch.aided then
    let k := ch.failures + 1
    { s with gns := (s.gns.setCh c { ch with failures := k }).queueAcq c s.beat.n.toNat s.aiding (decide (k < 2)) k }
  else
    { s with gns := s.gns.setCh c ch.release }.raise [(0x0502, [wordN c, ch.sigSv, 1])]

/-- The detected code phase propagated to the next edge, and the Doppler (R180). -/
def State.handoffOf (s : State) (t : GnsTable) (sd : SignalDef) (ch : GnsCh) (r : AcqReq) (p : AcqPeak) : Int × Int :=
  let pos := s.aidPos
  let centre := if ch.aided then
      Config.acqCentre (Tab.get [] s.gns.orbits ch.sv.toNat) ch.signal pos.1 pos.2 (ch.codePhase, ch.doppler) r.start
    else (0, 0)
  let c := gnsStream t ch.stream.toNat
  let dopp := centre.2 * 1024 + Config.quot 180 (p.doppBin * 512000) t.cohMs.toNat
  let samples : Int := streamKhz c.rate * (s.beat.n.toNat + 1 - r.start)
  ((centre.1 + p.codeBin) * 140737488355328 + (gnsRates sd c dopp).1 * samples, dopp)

/-- ACQ_SEARCH_DONE (R180, R181): in the beat in which its last cell is evaluated. -/
def execAcqSearchDone (peak : Option AcqPeak) (s : State) : Host.Outcome State Fault Refusal :=
  .next (match s.gns.searching with
    | some (r, left) =>
      if 1 < left then s
      else
        let a : State := { s with gns := { s.gns with searching := none } }
        let c := r.channel
        if (s.gns.ch c).state ≠ .search then a
        else a.gnsCh c (fun t sd ch =>
          match peak with
          | some p =>
            if t.acqThr.toNat < p.ratio ∧ ¬ (p.outer ∧ ch.aided) then
              { a with gns := a.gns.setCh c { ch with handoff := some (a.handoffOf t sd ch r p) } }
            else a.noPeak c
          | none => a.noPeak c)
    | none => s)

/-- ACQ_HANDOFF (R176, R180): PULL_IN, with event 0x0501. -/
def execAcqHandoff (channel : BitVec 9) (s : State) : Host.Outcome State Fault Refusal :=
  .next (s.gnsCh channel.toNat (fun t sd ch =>
    match ch.state, ch.handoff with
    | .search, some (phase, dopp) =>
      let x := ch.pull sd (gnsStream t ch.stream.toNat) phase dopp
      { s with gns := s.gns.setCh channel.toNat { x with acqs := x.acqs + 1 } }.raise
        [(0x0501, [channel.setWidth 32, ch.sigSv, satWord (Config.quot 194 dopp 1024), wordN (searchBeats t ch.codeBins ch.doppBins)])]
    | _, _ => s))

/-- PULL_IN_DONE (Table 6.4): the TRACK discriminators. -/
def execPullInDone (channel : BitVec 9) (s : State) : Host.Outcome State Fault Refusal :=
  .next (s.gnsCh channel.toNat (fun t _ ch =>
    if ch.state = .pullIn ∧ t.pullBeats.toNat ≤ ch.beats ∧ t.cn0Min ≤ ch.cn0 ∧ 1717986918 ≤ ch.lockInd then
      { s with gns := s.gns.setCh channel.toNat { ch with state := .track, lowBeats := 0, beats := 0 } }
    else s))

/-- PULL_IN_TIMEOUT (Table 6.4). -/
def execPullInTimeout (channel : BitVec 9) (s : State) : Host.Outcome State Fault Refusal :=
  .next (s.gnsCh channel.toNat (fun _ _ ch =>
    if ch.state = .pullIn ∧ 200 ≤ ch.beats then
      (s.raise [(0x0502, [channel.setWidth 32, ch.sigSv, if ch.aided then 0 else 1])]).research channel.toNat
    else s))

/-- TRACK_LOW_CN0 (R175, R176): both oscillators coast at their last rates. -/
def execTrackLowCn0 (channel : BitVec 9) (s : State) : Host.Outcome State Fault Refusal :=
  .next (s.gnsCh channel.toNat (fun _ _ ch =>
    if ch.state = .track ∧ (20 ≤ ch.lowBeats ∨ 8 ≤ ch.satLatches) then
      { s with gns := s.gns.setCh channel.toNat { ch with state := .hold, beats := 0 } }
    else s))

/-- COAST_EXPIRED (R176): a search around the coasted values. -/
def execCoastExpired (channel : BitVec 9) (s : State) : Host.Outcome State Fault Refusal :=
  .next (s.gnsCh channel.toNat (fun t _ ch =>
    if ch.state = .hold ∧ t.coastBeats.toNat ≤ ch.beats then
      let a := s.raise [(0x0503, [channel.setWidth 32, ch.sigSv, ch.cn0.setWidth 32])]
      let x := { ch with flLost := true, failures := 0, handoff := none }
      { a with gns := (a.gns.setCh channel.toNat x).queueAcq channel.toNat a.beat.n.toNat a.aiding a.aiding.timeSet 0 }
    else s))

/-- NOTCH_RELEASE (R171): after 100 beats below the threshold. -/
def execNotchRelease (stream : BitVec 4) (s : State) : Host.Outcome State Fault Refusal :=
  .next (
    let k := stream.toNat
    let st := s.gns.strm k
    { s with gns := s.gns.setStrm k { st with notches := st.notches.filter (fun (n : Int × Nat) => decide (n.2 < 100)) } })

/-- SPOOF_CLEAR (R189). -/
def execSpoofClear (sideB : Bool) (s : State) : Host.Outcome State Fault Refusal :=
  .next (match s.gns.table with
    | some t =>
      let x := s.gns.spoof sideB
      if x.suspected && decide (t.spoofClear.toNat ≤ x.clean) then
        { s with gns := s.gns.setSpoof sideB SpoofSt.zero }.raise [(0x0507, [if sideB then 1 else 0, wordN x.rounds])]
      else s
    | none => s)

-- ## Host data for the baseband

/-- GNSS_AID (R179): a union command. -/
def execGnssAid (h : HostRef) (north east : Int) (sigma : Word) (s : State) : Host.Outcome State Fault Refusal :=
  .next (s.unionCmd h 0x0043 (fun a => applied { a with gns := { a.gns with aid := some (north, east, sigma) } }))

/-- GNSS_EPH (R179): a union command. -/
def execGnssEph (h : HostRef) (sv : BitVec 12) (words : List Word) (s : State) : Host.Outcome State Fault Refusal :=
  .next (s.unionCmd h 0x0044 (fun a => applied { a with gns := { a.gns with orbits := Tab.set [] a.gns.orbits sv.toNat words } }))

/-- GNSS_AMB_READ (R191): a local command on the published float solution.  DESIGN CHOICE (log 23): another latch beat than the one
held is answered NOT_YET when later and STALE when earlier. -/
def execGnssAmbRead (h : HostRef) (latchBeat : Long) (s : State) : Host.Outcome State Fault Refusal :=
  .next (s.localCmd h 0 (fun a =>
    let f := a.pub.gns.att
    if f.latchBeat = latchBeat then a.reply h 0x0016 stOk 0 ((f.floats ++ f.cov).map wordI)
    else a.reply h 0x0016 (if f.latchBeat < latchBeat then stNotYet else stStale) 0 []))

/-- GNSS_AMB_FIX (R191): a union command on the latches of the union. -/
def execGnssAmbFix (h : HostRef) (latchBeat : Long) (sats : List Nat) (ints : List Int) (s : State) : Host.Outcome State Fault Refusal :=
  .next (s.unionCmd h 0x0045 (fun a =>
    let r := a.gns.fix latchBeat sats ints (latchesOf a.beat.union)
    match r.2.1 with
    | 0 => applied ({ a with gns := r.1 }.raise [(0x0509, [lowOf latchBeat, wordN sats.length, wordN r.2.2])])
    | 1 => (a, stStale, 0)
    | _ => (a, stResidual, 0)))

-- ## Watch bursts

/-- The channels at the start of a burst (R192): those in TRACK at the end of the last one enter PULL_IN, the others search. -/
def State.burstChannels (s : State) : State :=
  (List.range 384).foldl (fun (a : State) c =>
    if (a.gns.ch c).state = .idle then a
    else if (a.gns.ch c).wasTrack then a.gnsCh c (fun t sd ch =>
      let pos := a.aidPos
      let p := Config.predictChannel (Tab.get [] a.gns.orbits ch.sv.toNat) ch.signal pos.1 pos.2 a.beat.n.toNat
      { a with gns := a.gns.setCh c { ch.pull sd (gnsStream t ch.stream.toNat) p.1 p.2 with wasTrack := false } })
    else a.research c) s

/-- WATCH_BURST_START (R192). -/
def execWatchBurstStart (s : State) : Host.Outcome State Fault Refusal :=
  .next (match s.gns.table with
    | some t =>
      if s.sch.running && s.beat.live && s.sch.watch && !s.gns.burst && decide (t.burstBeats ≠ 0) &&
          decide (s.beat.n.toNat % 1000 = t.burstBeat.toNat) then
        { s with gns := { s.gns with powered := true, burst := true, queue := [], recording := none, recorded := [], searching := none } }.burstChannels
      else s
    | none => s)

/-- WATCH_BURST_END (R192): the latch edge of the burst, then no stream is sampled. -/
def execWatchBurstEnd (s : State) : Host.Outcome State Fault Refusal :=
  .next (if s.sch.running && s.beat.live && s.gns.burst then
      let a := s.latchGnss (s.beat.n.toNat * 1000000) true
      let chans := Tab.mapVals GnsCh.zero a.gns.channels (fun ch => { ch with wasTrack := decide (ch.state = .track) })
      { a with gns := { a.gns with channels := chans, powered := false, burst := false } }
    else s)

-- ## Estimator references

/-- REFERENCE_STALE (Table 8.2). -/
def execReferenceStale (slot : BitVec 6) (s : State) : Host.Outcome State Fault Refusal :=
  .next (
    let k := slot.toNat
    let r := s.est.ref k
    let limit := (s.est.entry k).staleBeats.toNat
    if (r.state = .acquire ∨ r.state = .admitted ∨ r.state = .rejected) ∧ limit ≠ 0 ∧ limit ≤ r.stale then
      { s with est := s.est.setRef k { r with state := .stale } }.raise [(0x0706, [wordN k, wordN limit])]
    else s)

/-- INIT_BEATS_END (R240). -/
def execInitBeatsEnd (s : State) : Host.Outcome State Fault Refusal :=
  .next (if s.est.initialised && s.est.initFlag && decide (s.est.initLeft = 0) then
      { s with est := { s.est with initFlag := false, flags := s.est.flags &&& 0xFDFF } }
    else s)

/-- DESELECT (R236): a staged write of EST_R_CTRL. -/
def execDeselectRef (h : HostRef) (slot : BitVec 6) (s : State) : Host.Outcome State Fault Refusal :=
  .next (s.unionCmd h 0x0021 (fun a => applied { a with est := a.est.deselect slot.toNat }))

/-- SELECT (R236): a staged write of EST_R_CTRL. -/
def execSelectRef (h : HostRef) (slot : BitVec 6) (s : State) : Host.Outcome State Fault Refusal :=
  .next (s.unionCmd h 0x0021 (fun a => applied { a with est := a.est.select slot.toNat }))

/-- RESET_ORIGIN (R241): a staged write of EST_R_CTRL. -/
def execResetOrigin (h : HostRef) (slot : BitVec 6) (s : State) : Host.Outcome State Fault Refusal :=
  .next (s.unionCmd h 0x0021 (fun a => applied { a with est := a.est.resetOrigin slot.toNat }))

-- ## Cameras and lidars

/-- A sample with sensor time `stamp` that completes at `t` through a time model (R138, R139): its instant, or none where the model
discards it TIME_LOST.  Without a model it takes its completion time. -/
def State.sampleBy (s : State) (model : Option ModelEntry) (source : Half) (stamp : Int) (t : Nat) : State × Option Int :=
  match model with
  | none => (s, some (t : Int))
  | some e =>
    let m := Tab.get SensorModel.zero s.tim.models e.model.toNat
    let g := 2 ^ e.rateLog2.toNat
    let r := m.sample e (s.tim.stampToTai e.stamp stamp) t (fun x => Config.quot 139 x g)
      (fun x span => Config.quot 139 (x * 1000000000000) (g * g * span))
    let lost := decide (r.1.losts ≠ m.losts)
    let tim := { s.tim with models := Tab.set SensorModel.zero s.tim.models e.model.toNat r.1, flModelLost := s.tim.flModelLost || lost }
    let a := { s with tim := tim }.raise r.2.2
    (if r.2.1.isSome then a else { a with beat := a.beat.loseTime source.toNat }, r.2.1)

/-- A sample of a capture source through its model. -/
def State.modelSample (s : State) (source : Half) (stamp : Int) (t : Nat) : State × Option Int :=
  s.sampleBy (s.tim.modelOf source) source stamp t

/-- The model of number `k`, where TIME_CFG assigns it: 40 to 43 are those of the camera ports, 44 and 45 those of ES0 and ES1 (R138,
R254, R256). -/
def TimSt.portModel (t : TimSt) (k : Nat) : Option ModelEntry :=
  match t.cfg with
  | none => none
  | some c => c.models.find? (fun m => decide (m.model.toNat = k))

/-- Luna with what one of its operations did. -/
def State.withLun (s : State) (r : LunSt × List Ev) : State := { s with lun := r.1 }.raise r.2

/-- A frame of another virtual channel or data type is ignored and counted (R253). -/
def State.cameraFrame (s : State) (port : BitVec 2) (vc dataType : Byte) (f : CameraCfg → State) : State :=
  if !s.domainOn 7 then s
  else match s.lun.camera port.toNat with
    | none => s
    | some c =>
      if c.vc = vc ∧ c.dataType = dataType then f c
      else
        let v := s.lun.src port.toNat
        { s with lun := s.lun.setSrc port.toNat { v with ignored := v.ignored + 1 } }

/-- CSI_FRAME_START (R254, R255): a frame still open has lost its Frame End. -/
def execCsiFrameStart (port : BitVec 2) (vc dataType : Byte) (t : Nat) (s : State) : Host.Outcome State Fault Refusal :=
  .next ((s.reach t).cameraFrame port vc dataType (fun _ =>
    let k := port.toNat
    let a := s.reach t
    let b := if (a.lun.src k).open_.isSome then a.withLun (a.lun.csiError k 4) else a
    { b with lun := b.lun.setSrc k { b.lun.src k with open_ := some t } }))

/-- CSI_FRAME_END (R254, R255, R260): `error` is 1 ECC, 2 CRC, 3 geometry, 0 none. -/
def execCsiFrameEnd (port : BitVec 2) (vc dataType error : Byte) (stamp : Option Nat) (data : List Int) (t : Nat) (s : State) :
    Host.Outcome State Fault Refusal :=
  .next ((s.reach t).cameraFrame port vc dataType (fun c =>
    let k := port.toNat
    let a := s.reach t
    match (a.lun.src k).open_ with
    | none => a
    | some fs =>
      if error ≠ 0 then a.withLun (a.lun.csiError k error.toNat)
      else
        let b := { a with lun := a.lun.setSrc k { a.lun.src k with open_ := none } }
        if c.embTsLine = 0 then b.withLun (b.lun.complete k { instant := fs - c.fsOffset.toNat, data := data })
        else match stamp with
          | none => a.withLun (a.lun.csiError k 3)
          | some x =>
            let m := b.sampleBy (b.tim.portModel (40 + k)) (BitVec.ofNat 16 (0x4300 + k)) x t
            match m.2 with
            | some i => m.1.withLun (m.1.lun.complete k { instant := i.toNat, data := data })
            | none => m.1.withLun (m.1.lun.drop k 2)))

/-- One point record of a lidar datagram (Table 9.1): its values, its azimuth and its offset from the datagram's instant. -/
def lidarPoint (c : LidarCfg) (d : List Byte) (at_ : Nat) : List Int × Int × Nat :=
  let co := at_ + c.coordOfs.toNat
  let sc : Int := c.scaleUm.toNat
  let int : Int := if c.intOfs = 0xFF then 0 else (leAt d (at_ + c.intOfs.toNat) 1 : Nat)
  let pt := if c.ptimeOfs = 0xFF then 0 else leAt d (at_ + c.ptimeOfs.toNat) 4
  if c.mode = 1 then
    let x := leAtS d co 4
    let y := leAtS d (co + 4) 4
    ([x * sc, y * sc, leAtS d (co + 8) 4 * sc, int], Config.azimuthOf x y, pt)
  else
    let az : Int := (leAt d (co + 4) 2 : Nat)
    ([(leAt d co 4 : Nat) * sc, az, (leAt d (co + 6) 2 : Nat), int], az, pt)

/-- A sweep closes (R256): its instant is that of its middle point. -/
def LunSt.closeSweep (l : LunSt) (k : Nat) : LunSt × List Ev :=
  let v := l.src k
  match v.points with
  | [] => (l, [])
  | p :: ps =>
    let mid := (p :: ps).getD ((p :: ps).length / 2) p
    (l.setSrc k { v with points := [] }).complete k { instant := mid.2, data := (p :: ps).flatMap Prod.fst }

/-- One point enters the open sweep (R256). -/
def LunSt.takePoint (l : LunSt) (k : Nat) (c : LidarCfg) (base : Int) (p : List Int × Int × Nat) : LunSt × List Ev :=
  let back := match (l.src k).lastAz with | some a => decide (p.2.1 < a) | none => false
  let r := if back then l.closeSweep k else (l, [])
  let v := r.1.src k
  let l1 := r.1.setSrc k { v with points := v.points ++ [(p.1, (base + p.2.2).toNat)], lastAz := some p.2.1 }
  if c.sweepMax.toNat ≤ (l1.src k).points.length then let x := l1.closeSweep k; (x.1, r.2 ++ x.2) else (l1, r.2)

/-- LIDAR_DATAGRAM (R256): every point record at POINT_STRIDE intervals from HDR_BYTES. -/
def execLidarDatagram (source : BitVec 2) (data : List Byte) (t : Nat) (s : State) : Host.Outcome State Fault Refusal :=
  .next (
    let k := source.toNat + 4
    let a := s.reach t
    match s.lun.lidar k with
    | none => s
    | some c =>
      if !s.domainOn 7 then s
      else
        let m := a.sampleBy (a.tim.portModel (28 + c.port.toNat)) (BitVec.ofNat 16 (0x4300 + k)) (leAt data c.tsOfs.toNat 8 : Nat) t
        match m.2 with
        | none => m.1.withLun (m.1.lun.drop k 2)
        | some base =>
          let n := (data.length - c.hdrBytes.toNat) / c.stride.toNat
          let r := (List.range n).foldl (fun (x : LunSt × List Ev) i =>
            let y := x.1.takePoint k c base (lidarPoint c data (c.hdrBytes.toNat + i * c.stride.toNat))
            (y.1, x.2 ++ y.2)) (m.1.lun, [])
          m.1.withLun r)

-- ## Bindings and calibration

/-- TARGET_BIND (R268): a staged write of LUN_TGTk with VALID 1. -/
def execTargetBind (h : HostRef) (binding : BitVec 3) (track : BitVec 12) (gen : Half) (slot : BitVec 4) (s : State) :
    Host.Outcome State Fault Refusal :=
  .next (s.unionCmd h 0x0021 (fun a => a.bind binding.toNat track gen slot))

/-- TARGET_CLEAR (R270): a staged write of LUN_TGTk with VALID 0. -/
def execTargetClear (h : HostRef) (binding : BitVec 3) (s : State) : Host.Outcome State Fault Refusal :=
  .next (s.unionCmd h 0x0021 (fun a => a.unbind binding.toNat))

/-- CAL_FREEZE (R273). -/
def execCalFreeze (h : HostRef) (sensors : Byte) (s : State) : Host.Outcome State Fault Refusal :=
  .next (s.unionCmd h 0x0021 (fun a => a.calCommand sensors .freeze))

/-- CAL_UNFREEZE (R273). -/
def execCalUnfreeze (h : HostRef) (sensors : Byte) (s : State) : Host.Outcome State Fault Refusal :=
  .next (s.unionCmd h 0x0021 (fun a => a.calCommand sensors .unfreeze))

/-- CAL_ACCEPT (R273). -/
def execCalAccept (h : HostRef) (sensors : Byte) (s : State) : Host.Outcome State Fault Refusal :=
  .next (s.unionCmd h 0x0021 (fun a => a.calCommand sensors .accept))

/-- CAL_RESET (R273). -/
def execCalReset (h : HostRef) (sensors : Byte) (s : State) : Host.Outcome State Fault Refusal :=
  .next (s.unionCmd h 0x0021 (fun a => a.calCommand sensors .reset))

/-- CALIBRATION_APPLY (R272 to R274): at a round boundary, the candidates of a finished job with what the host queued. -/
def execCalibrationApply (s : State) : Host.Outcome State Fault Refusal :=
  .next (if s.atBoundary then
      let cand := s.hwk.job.candidate
      { s with hwk := { s.hwk with job := match cand with | some _ => BaJob.zero | none => s.hwk.job } }.withLun (s.lun.calApply cand)
    else s)

end Sys2Proof.Machine
end

