-- ==== Sys2Proof/Machine/CmdCtl.lean ====
section
/-! DEFINITION. Meanings of the allocation, control and output commands (06_gnss_baseband.md R170; 10_thrust_allocation.md; 11_positioning_loop.md; 12_outputs_annunciator.md). -/

namespace Sys2Proof.Machine

open Sys2Proof

/-- The opcode of WRITE_REG (Table 14.3), which carries writes of pair-domain registers. -/
def opWriteReg : Half := 0x0021

/-- The register access that a command stands for is counted (R534). -/
def State.accessed (s : State) (who : Who) (block ofs : Nat) : State := { s with svc := s.svc.countAccess who block ofs true false }

-- ## The front ends

/-- The index and value of the first verified entry of a port that reads back otherwise (R170). -/
def spiMismatch (port : Nat) : Nat → List SpiWrite → List Word → Option (Nat × Word)
  | _, [], _ => none
  | i, w :: l, vals =>
    if w.port.toNat = port ∧ w.verify then
      match vals with
      | v :: vs => if v = w.value then spiMismatch port (i + 1) l vs else some (i, v)
      | [] => none
    else spiMismatch port (i + 1) l vals

/-- FRONT_END_READBACK (R170): the verified entries of a port read back; a mismatch disables its streams. -/
def execFrontEndReadback (port : BitVec 2) (values : List Word) (s : State) : Host.Outcome State Fault Refusal :=
  .next (
    let p := port.toNat
    if s.gns.spiPending.any (fun w => decide (w.port.toNat = p)) then
      let a : State := { s with gns := { s.gns with spiPending := s.gns.spiPending.filter (fun w => decide (w.port.toNat ≠ p)) } }
      let writes := match s.gns.table with | some t => t.spi | none => []
      match spiMismatch p 0 writes values with
      | none => a
      | some (i, v) =>
        let g := (List.range 4).foldl (fun (g : GnsSt) k =>
          (g.setStrm (4 * p + k) { g.strm (4 * p + k) with feCfg := true, disabled := true }).stopStream (4 * p + k)) a.gns
        { a with gns := g }.raise [(0x050A, [wordN p, wordN i, v])]
    else s)

-- ## Allocation

/-- DEVICE_OUT (R284): a staged write of ALC_D_CTRL. -/
def execDeviceOut (h : HostRef) (device : BitVec 6) (s : State) : Host.Outcome State Fault Refusal :=
  .next (s.unionCmd h opWriteReg (fun a => a.deviceOut device.toNat))

/-- DEVICE_IN (R284, R286). -/
def execDeviceIn (h : HostRef) (device : BitVec 6) (s : State) : Host.Outcome State Fault Refusal :=
  .next (s.unionCmd h opWriteReg (fun a => a.deviceIn device.toNat))

/-- DEVICE_UNLOCK (R284, R286). -/
def execDeviceUnlock (h : HostRef) (device : BitVec 6) (s : State) : Host.Outcome State Fault Refusal :=
  .next (s.unionCmd h opWriteReg (fun a => a.deviceUnlock device.toNat))

/-- SECTOR_ENABLE (R290): a staged write of ALC_D_SECTOR. -/
def execSectorEnable (h : HostRef) (device : BitVec 6) (mask : BitVec 4) (s : State) : Host.Outcome State Fault Refusal :=
  .next (s.unionCmd h opWriteReg (fun a => a.sectorWrite device.toNat mask))

/-- VARIANT_OVERRIDE (R293). -/
def execVariantOverride (h : HostRef) (variant : BitVec 12) (enable : Bool) (s : State) : Host.Outcome State Fault Refusal :=
  .next (s.unionCmd h 0x0033 (fun a => a.overrideWrite variant enable))

-- ## Control

/-- SET_MODE (R315, R316); a mode that Table 11.5 does not list breaks the payload. -/
def execSetMode (h : HostRef) (mode : Byte) (s : State) : Host.Outcome State Fault Refusal :=
  .next (s.unionCmd h 0x0030 (fun a => if 4 < mode.toNat then (a, stBadRequest, 0) else a.modeRequest mode.toNat (refWord h)))

/-- SET_POINT (R318). -/
def execSetPoint (h : HostRef) (north east : Int) (heading : Word) (goPos goPsi : Bool) (turn : BitVec 2) (s : State) :
    Host.Outcome State Fault Refusal :=
  .next (s.unionCmd h 0x0031 (fun a => a.setPoint north east heading goPos goPsi turn.toNat))

/-- GO_POS (R318): a staged write of CTL_SP_CTRL. -/
def execGoPos (h : HostRef) (s : State) : Host.Outcome State Fault Refusal :=
  .next (s.unionCmd h opWriteReg (fun a => a.setpointGo true false 0))

/-- GO_PSI (R318): a staged write of CTL_SP_CTRL, with GO_POS in the same word or without it. -/
def execGoPsi (h : HostRef) (turn : BitVec 2) (withPos : Bool) (s : State) : Host.Outcome State Fault Refusal :=
  .next (s.unionCmd h opWriteReg (fun a => a.setpointGo withPos true turn.toNat))

/-- SET_TARGET (R314). -/
def execSetTarget (h : HostRef) (binding : BitVec 3) (s : State) : Host.Outcome State Fault Refusal :=
  .next (s.unionCmd h 0x0032 (fun a => a.setTarget binding))

/-- WINCH_MODE_REQUEST (R321): a staged write of CTL_WINCHw. -/
def execWinchModeRequest (h : HostRef) (winch : BitVec 5) (mode : BitVec 2) (s : State) : Host.Outcome State Fault Refusal :=
  .next (s.unionCmd h opWriteReg (fun a => a.winchWrite winch.toNat mode.toNat (refWord h)))

/-- STAB_ENABLE (R323): a staged write of CTL_STABs. -/
def execStabEnable (h : HostRef) (stab : BitVec 3) (enable : Bool) (s : State) : Host.Outcome State Fault Refusal :=
  .next (s.unionCmd h opWriteReg (fun a => a.stabWrite stab.toNat enable))

/-- COEF_APPLY (R307): staged for a PAIR slot; on a LOCAL slot a direct write that waits for the next edge. -/
def execCoefApply (who : Who) (h : HostRef) (slot : BitVec 11) (s : State) : Host.Outcome State Fault Refusal :=
  .next (if s.slotIsPair slot.toNat then s.unionCmd h opWriteReg (fun a => a.coefsNow slot.toNat (refWord h))
    else ((s.accessed who 0x0A 0x803C).coefWrite slot.toNat 0x803C 1 (Who.sessionWord who)).1)

/-- JOY_TIMEOUT (R310): no entry for JOY_TIMEOUT beats. -/
def execJoyTimeout (s : State) : Host.Outcome State Fault Refusal :=
  .next (match s.ctl.table with
    | none => s
    | some t =>
      if t.joyField ≠ 0 ∧ (∀ m, s.ctl.joyMiss = some m → t.joyTimeout.toNat ≤ m) then
        { s with ctl := { s.ctl with joy := [0, 0, 0], flags := s.ctl.flags ||| 4, sticky := s.ctl.sticky ||| 32 } }
      else s)

/-- TARGET_LOSS (R315): TGT_VALID clear for TGT_LOSS_BEATS beats. -/
def execTargetLoss (s : State) : Host.Outcome State Fault Refusal :=
  .next (match s.ctl.table with
    | none => s
    | some t =>
      if s.ctl.mode = .followTarget ∧ t.tgtLossBeats.toNat ≤ s.ctl.lostBeats then
        let r := s.ctl.targetLost s.estView
        { s with ctl := r.1 }.raise r.2
      else s)

-- ## Outputs

/-- The output domain with what one of its operations did. -/
def State.withOut (s : State) (r : OutBlk × List Ev) : State := { s with out := r.1 }.raise r.2

/-- HOLD_TIMEOUT (R338): 1,100 µs after the last commit with no edge. -/
def execHoldTimeout (t : Nat) (s : State) : Host.Outcome State Fault Refusal :=
  .next (if s.awake && decide (s.beat.n.toNat * 1000000 + 1100000 ≤ t) then
      let a := s.reach t
      a.withOut (a.out.startHold a.beat.n t 2)
    else s)

/-- HOLD_LIMIT_EXPIRE (R338, R339): `atEdge` says that it falls on the edge of the first commit after hold. -/
def execHoldLimitExpire (output : BitVec 7) (atEdge : Bool) (s : State) : Host.Outcome State Fault Refusal :=
  .next (s.withOut (s.out.expire output.toNat atEdge))

/-- OUTPUT_RELEASE (R340). -/
def execOutputRelease (who : Who) (output : BitVec 7) (s : State) : Host.Outcome State Fault Refusal :=
  .next (if s.awake then
      let a := s.accessed who 0x0B 0x8010
      { a with out := a.out.releaseWrite output.toNat (Who.sessionWord who) }
    else s)

/-- HOST_VALUE_WRITE (R336). -/
def execHostValueWrite (who : Who) (output : BitVec 7) (value : Word) (s : State) : Host.Outcome State Fault Refusal :=
  .next (if s.awake then
      let a := s.accessed who 0x0B 0x800C
      { a with out := a.out.writeHost output.toNat value }
    else s)

/-- VLCD_FAULT (R347).  DESIGN CHOICE (log 24): the VLCD measured is no operand of the row, so event 0x0B07 carries a free value. -/
def execVlcdFault (s : State) : Host.Outcome State Fault Refusal :=
  .next (if s.awake && s.out.cfg.any (fun t => decide (t.annBias = 2)) then
      let f := s.fresh
      { f.2 with out := { s.out with flags := s.out.flags ||| 16 } }.raise [(0x0B07, [wordI (Config.freeInt 347 f.1)])]
    else s)

end Sys2Proof.Machine
end

