-- ==== Sys2Proof/Machine/CmdBus.lean ====
section
/-! DEFINITION. Meanings of the field-bus, serial-sensor and ring commands (13_field_bus.md). -/

namespace Sys2Proof.Config

/-- How long a received frame lasted on the bus, in ns: ISO 11898-1 fixes it by the frame's bits, outside the spec. -/
opaque frameNs : Sys2Proof.CanFrame → Nat

end Sys2Proof.Config

namespace Sys2Proof.Machine

open Sys2Proof

/-- Are the interfaces of the field-bus block enabled (R97)? -/
def State.fioOn (s : State) : Bool := s.awake && s.fbu.enabled

/-- The field-bus block with what one of its operations did. -/
def State.withFbu (s : State) (r : FbuSt × List Ev) : State := { s with fbu := r.1 }.raise r.2

-- ## Reception

/-- Is a frame a reference frame of its channel: classical, 8 bytes, identifier REF_ID (R368)? -/
def isReference (g : ChanCfg) (fr : CanFrame) : Bool :=
  !fr.remote && !fr.fd && decide (fr.data.length = 8) && decide (fr.ident &&& 0x3FFFFFFF = g.refId &&& 0x3FFFFFFF)

/-- The offset that a reference frame gives, in ns: its bus time less the device's own at its start of frame, compared by R136. -/
def refOffset (fr : CanFrame) (t : Nat) : Int :=
  wrapDiff (4294967296 * 1000) (leAt fr.data 1 4 * 1000) ((t - Config.frameNs fr) % (4294967296 * 1000))

/-- What a reference frame does: on BUS_CHANNEL as a SLAVE it measures time source BUS (R369); on a MASTER channel it is no
longer missing (R370). -/
def State.takeReference (s : State) (ch : Nat) (fr : CanFrame) (t : Nat) : State :=
  match s.fbu.cfg ch with
  | none => s
  | some g =>
    if !isReference g fr then s
    else if g.role = 1 then { s with fbu := s.fbu.setChan ch { s.fbu.chan ch with refMissing := 0, refSilent := false } }
    else if g.role = 2 ∧ s.tim.cfg.any (fun c => c.sources.getLsbD 2 && decide (c.busChannel.toNat = ch)) then s.measure .bus (refOffset fr t) false
    else s

/-- The capture item of a frame (R360, R557): its identifier is the identifier word. -/
def State.frameItem (s : State) (channel : Nat) (shared : Bool) (source : Nat) (fr : CanFrame) (t : Nat) : Item :=
  { kind := 5, channel := BitVec.ofNat 16 channel, ident := fr.ident &&& 0x3FFFFFFF, sideB := s.pai.sideB, shared := shared,
    check := crc32c fr.data, source := BitVec.ofNat 16 source, bytes := fr.data.length, instant := t, payload := framePayload fr, host := none }

/-- A frame received on an active channel: an Amdun frame, a frame of an RX entry, or unmatched (R353, R360, R557). -/
def State.takeFrame (s0 : State) (ch : Nat) (g : ChanCfg) (fr : CanFrame) (t : Nat) : State :=
  let c := s0.fbu.chan ch
  let s : State := if c.rxErr ≤ 127 then s0 else s0.fresh.2
  let f := s.fbu.setChan ch { c.goodFrame (Config.freeInt 356 s0.fresh.1) with rxFrames := c.rxFrames + 1 }
  let unmatched : State := { s with fbu := f.setChan ch { f.chan ch with rxUnmatched := (f.chan ch).rxUnmatched + 1 } }
  if fr.remote then unmatched
  else if f.isAmdun ch g fr then
    let i := s.frameItem (0x8000 + ch) g.shared 0 fr t
    { s with fbu := f, beat := { s.beat with collecting := s.beat.collecting ++ [i] } }
  else match f.matchRx ch fr with
    | none => unmatched
    | some (k, e) =>
      let a := { s with fbu := f }
      let b := if e.capture = 1 then a.offer (a.frameItem ch g.shared (k + 1) fr t) e.quotaEvery.toNat else a
      b.withFbu (b.fbu.deliver ch k e fr t (lowOf b.beat.n) b.pai.sideB)

/-- A frame on a channel in its mode (R99, R355, R356).  A frame at other rates than the channel's is not received. -/
def State.canFrame (s : State) (ch : Nat) (fr : CanFrame) (t : Nat) : State :=
  let c := s.fbu.chan ch
  match c.mode with
  | .off => s
  | .busOff => s
  | .listen =>
    if s.img.phase = .running then s
    else ({ s with fbu := s.fbu.setChan ch (c.listenFrame fr) }).takeReference ch fr t
  | .active =>
    match s.fbu.cfg ch with
    | none => s
    | some g =>
      if fr.nom = c.nom ∧ (fr.brs = true → fr.dat = c.dat) then (s.takeFrame ch g fr t).takeReference ch fr t else s

/-- CAN_FRAME_RECEIVE (R353, R360, R557): `t` is the end of the frame. -/
def execCanFrameReceive (channel : BitVec 4) (frame : CanFrame) (t : Nat) (s : State) : Host.Outcome State Fault Refusal :=
  .next (if s.fioOn then (s.reach t).canFrame channel.toNat frame t else s)

-- ## Transmission

/-- The kind of a channel's window in the active copy; on a channel of ROLE NONE the whole beat is ARBITRATING (R363). -/
def FbuSt.kindOf (f : FbuSt) (ch : Nat) (g : ChanCfg) (w : Nat) : Nat :=
  if g.role = 0 then 3 else winKind (f.window ch (f.activeCopy ch) w)

/-- A window is open: the frames of it that meet an abort condition are aborted and the next one starts (R363 to R366).  A
reference that starts after the edge is late (R368). -/
def FbuSt.openWindowAt (f : FbuSt) (ch : Nat) (g : ChanCfg) (w : Nat) (gate : Bool) (t edge : Nat) : FbuSt :=
  let c := f.chan ch
  let c1 := if g.role = 0 then { c with pending := c.pending.map (fun (x : TxFrame) => { x with window := w }) } else c
  let k := f.kindOf ch g w
  if k = 0 ∨ k = 4 then f.setChan ch { c1 with openWindow := some w }
  else
    let c2 := c1.start w gate t
    let late : Bool := match c1.current, c2.current with
      | none, some x => decide (x.kind = .reference) && decide (edge < t)
      | _, _ => false
    f.setChan ch (if late then { c2 with refLate := c2.refLate + 1 } else c2)

/-- The bus is idle again in an open ARBITRATING window: its next frame starts (Table 13.2). -/
def State.nextInWindow (s : State) (ch : Nat) (g : ChanCfg) : State :=
  match (s.fbu.chan ch).openWindow with
  | none => s
  | some w =>
    if s.fbu.kindOf ch g w = 3 then
      { s with fbu := s.fbu.openWindowAt ch g w (s.pai.gate s.tim.now) s.tim.now s.tim.now }
    else s

/-- `f` on an enabled channel and its configuration. -/
def State.busChan (s : State) (ch : Nat) (f : ChanCfg → State) : State :=
  if s.fioOn then (match s.fbu.cfg ch with | none => s | some g => f g) else s

/-- TRANSMIT_WINDOW_OPEN (R355, R356, R363 to R366, R368). -/
def execTransmitWindowOpen (channel : BitVec 4) (window : BitVec 5) (t : Nat) (s : State) : Host.Outcome State Fault Refusal :=
  .next (s.busChan channel.toNat (fun g =>
    let a := s.reach t
    { a with fbu := a.fbu.openWindowAt channel.toNat g window.toNat (a.pai.gate t) t (a.beat.n.toNat * 1000000) }))

/-- FRAME_SENT (R366). -/
def execFrameSent (channel : BitVec 4) (s : State) : Host.Outcome State Fault Refusal :=
  .next (s.busChan channel.toNat (fun g =>
    { s with fbu := s.fbu.setChan channel.toNat (s.fbu.chan channel.toNat).sent }.nextInWindow channel.toNat g))

/-- ARBITRATION_LOST (R364). -/
def execArbitrationLost (channel : BitVec 4) (s : State) : Host.Outcome State Fault Refusal :=
  .next (s.busChan channel.toNat (fun g =>
    let c := s.fbu.chan channel.toNat
    let kind := match c.openWindow with | some w => s.fbu.kindOf channel.toNat g w | none => 0
    { s with fbu := s.fbu.setChan channel.toNat (c.arbLost kind g.arbMax.toNat) }.nextInWindow channel.toNat g))

/-- WINDOW_ABORT (R364): the frame that can no longer complete is the one in progress or waiting for a retry, else the next of
the open window. -/
def ChanSt.abortWindow (c : ChanSt) : ChanSt :=
  match c.current, c.openWindow with
  | some _, _ => c.abortCurrent .window
  | none, some w =>
    match nextFrame c.pending w with
    | some x => { (c.settle (some .window)) with pending := dropFrame x c.pending }
    | none => c
  | none, none => c

/-- WINDOW_ABORT (R364). -/
def execWindowAbort (channel : BitVec 4) (s : State) : Host.Outcome State Fault Refusal :=
  .next (s.busChan channel.toNat (fun g =>
    { s with fbu := s.fbu.setChan channel.toNat (s.fbu.chan channel.toNat).abortWindow }.nextInWindow channel.toNat g))

/-- BUS_ERROR (R356): `tec` and `rxc` are the counts after the error as ISO 11898-1 gives them. -/
def execBusError (channel : BitVec 4) (tec rxc : Half) (s : State) : Host.Outcome State Fault Refusal :=
  .next (s.busChan channel.toNat (fun g =>
    let ch := channel.toNat
    let c := s.fbu.chan ch
    match c.mode with
    | .off => s
    | .busOff => s
    | .listen => { s with fbu := s.fbu.setChan ch { c with activity := true, rxErrors := c.rxErrors + 1 } }
    | .active =>
      let kind := match c.openWindow with | some w => s.fbu.kindOf ch g w | none => 0
      let r := c.busError ch tec.toNat rxc.toNat kind g.autoRecover
      let f := s.fbu.setChan ch r.1
      ({ s with fbu := { f with flags := f.flags ||| r.2.2 } }.raise r.2.1).nextInWindow ch g))

/-- BUS_OFF_RECOVERED (R356). -/
def execBusOffRecovered (channel : BitVec 4) (s : State) : Host.Outcome State Fault Refusal :=
  .next (s.busChan channel.toNat (fun _ =>
    let r := (s.fbu.chan channel.toNat).recovered channel.toNat
    s.withFbu (s.fbu.setChan channel.toNat r.1, r.2)))

/-- FORCE_ACTIVE (R355). -/
def execForceActive (who : Who) (channel : BitVec 4) (s : State) : Host.Outcome State Fault Refusal :=
  .next (if s.awake then (s.accessed who 0x0C 0x8008).forceActive who channel.toNat else s)

/-- RECOVER (R356). -/
def execRecover (who : Who) (channel : BitVec 4) (s : State) : Host.Outcome State Fault Refusal :=
  .next (if s.awake then (s.accessed who 0x0C 0x8008).recoverBus channel.toNat else s)

/-- RENEGOTIATE (R14, R376): the write is staged, and its union queues every node of the channel. -/
def execRenegotiate (who : Who) (channel : BitVec 4) (s : State) : Host.Outcome State Fault Refusal :=
  .next (if s.awake then (s.accessed who 0x0C 0x8008).stageWriteSel who 0x000C8008 4 (channel.setWidth 32) else s)

-- ## Receive buffers

/-- BUFFER_HEAD_READ (R361). -/
def execBufferHeadRead (who : Who) (channel : BitVec 4) (buffer : BitVec 9) (s : State) : Host.Outcome State Fault Refusal :=
  .next (if s.awake then
      { s with svc := s.svc.countAccess who 0x0C 0x9000 false true, fbu := s.fbu.lockBuffer who (channel.toNat * 512 + buffer.toNat) }
    else s)

/-- BUFFER_END_READ (R361). -/
def execBufferEndRead (who : Who) (channel : BitVec 4) (buffer : BitVec 9) (s : State) : Host.Outcome State Fault Refusal :=
  .next (if s.awake then
      { s with svc := s.svc.countAccess who 0x0C 0x904C false true, fbu := s.fbu.unlockBuffer who (channel.toNat * 512 + buffer.toNat) }
    else s)

/-- LOCK_EXPIRED (R361): the device releases the lock. -/
def execLockExpired (channel : BitVec 4) (buffer : BitVec 9) (s : State) : Host.Outcome State Fault Refusal :=
  .next (
    let k := channel.toNat * 512 + buffer.toNat
    let b := Tab.get RxBuf.zero s.fbu.buffers k
    match b.lock with
    | none => s
    | some _ =>
      let c := s.fbu.chan channel.toNat
      let f := { s.fbu with buffers := Tab.set RxBuf.zero s.fbu.buffers k b.release }
      s.withFbu (f.setChan channel.toNat { c with lockExpired := c.lockExpired + 1 }, [(0x0C0E, [channel.setWidth 32, buffer.setWidth 32])]))

-- ## Windows

/-- WINDOW_COPY_WRITE (R367): `copy` is copy 1. -/
def execWindowCopyWrite (who : Who) (channel : BitVec 4) (copy : Bool) (window : BitVec 5) (value : Word) (s : State) :
    Host.Outcome State Fault Refusal :=
  .next (if s.awake then
      (s.accessed who 0x0C ((if copy then 0x8180 else 0x8100) + 4 * window.toNat)).windowWrite channel.toNat (if copy then 1 else 0) window.toNat value
    else s)

/-- WIN_SWITCH (R367). -/
def execWinSwitch (who : Who) (mask : Half) (s : State) : Host.Outcome State Fault Refusal :=
  .next (if s.awake then (s.accessed who 0x0C 0x0028).winSwitch mask else s)

/-- WINDOW_SWITCH_APPLY (R27, R367): the switches that pass are runtime changes (R112). -/
def execWindowSwitchApply (s : State) : Host.Outcome State Fault Refusal :=
  .next (if s.atBoundary then
      let r := (List.range 16).foldl FbuSt.switchWindow (s.fbu, [])
      let done := (List.range 16).countP (fun k => s.fbu.winActive.getLsbD k != r.1.winActive.getLsbD k)
      (s.withFbu r).countRegion done
    else s)

/-- REF_SILENT (R370). -/
def execRefSilent (channel : BitVec 4) (s : State) : Host.Outcome State Fault Refusal :=
  .next (s.busChan channel.toNat (fun g =>
    let c := s.fbu.chan channel.toNat
    if g.role = 1 ∧ g.refSilent.toNat < c.refMissing ∧ ¬ c.refSilent ∧ ¬ s.pai.gate s.tim.now then
      let f := s.fbu.setChan channel.toNat { c with refSilent := true }
      s.withFbu ({ f with flags := f.flags ||| 32 }, [(0x0C0A, [channel.setWidth 32, wordN (c.refMissing - 1)])])
    else s))

/-- REPLY_TIMEOUT (R376, R377). -/
def execReplyTimeout (channel : BitVec 4) (address : BitVec 7) (s : State) : Host.Outcome State Fault Refusal :=
  .next (if s.sch.running && s.beat.live then s.withFbu (s.fbu.replyTimeout s.beat.n.toNat channel.toNat address.toNat) else s)

-- ## Sentences

/-- The time of day that a sentence's time field gives, in ns (R381): GGA, GNS, GST and ZDA carry one. -/
def timeOfDay (s : SentCfg) (text : List Byte) : Option Nat :=
  if s.decode ∈ ([1, 2, 3, 7] : List Byte) then
    match decimal ((commaFields text).getD 1 []) with
    | none => none
    | some (v, d) =>
      let n := v.toNat
      let hms := n / 10 ^ d
      some (((hms / 10000 * 60 + hms / 100 % 100) * 60 + hms % 100) * 1000000000 + n % 10 ^ d * 1000000000 / 10 ^ d)
  else none

/-- A time of day as an instant of a model's scale: that of the day nearest to the completion at `t`. -/
def TimSt.nearestDay (tm : TimSt) (stamp : Byte) (tod t : Nat) : Int :=
  let day := 86400 * 1000000000
  let base : Int := (t : Int) - tm.stampToTai stamp 0
  base + wrapDiff day tod (base % day).toNat

/-- The instant of a sentence (R138, R139, R381): by its source's model from the TAG time `tag` (UNIX s in ns) or its time
field; its completion where it carries none. -/
def State.sentenceInstant (s : State) (e : SentCfg) (source : Half) (text : List Byte) (tag : Option Nat) (t : Nat) : State × Option Int :=
  match s.tim.modelOf source with
  | none => (s, some (t : Int))
  | some m =>
    let byTag := if e.useTagTime then tag.map (fun (x : Nat) => (x : Int)) else none
    match byTag, timeOfDay e text with
    | some x, _ => s.modelSample source x t
    | none, some tod => s.modelSample source (s.tim.nearestDay m.stamp tod t) t
    | none, none => (s, some (t : Int))

/-- A matched sentence: to the capture set and to its ring (R381, R385). -/
def State.takeSentence (s : State) (port k : Nat) (e : SentCfg) (text : List Byte) (tag : Option Nat) (t : Nat) : State :=
  let src := 0x4001 + k
  let a :=
    if e.capture = 0 then s
    else
      let r := s.sentenceInstant e (BitVec.ofNat 16 src) text tag t
      match r.2 with
      | none => r.1
      | some x =>
        let payload := sentencePayload (decodeSentence e text) text
        r.1.offer { kind := if port < 16 then 6 else 7, channel := BitVec.ofNat 16 port, ident := wordN k, sideB := s.pai.sideB,
                    shared := decide (e.capture = 1), check := payloadCheck payload, source := BitVec.ofNat 16 src,
                    bytes := 28 + text.length, instant := x.toNat, payload := payload, host := none } e.quota.toNat
  if e.ring = 0 then a else a.withFbu (a.fbu.offerRing (e.ring.toNat - 1) (lowOf a.beat.n) 2 (wordN k) a.pai.sideB text)

/-- SENTENCE_COMPLETE (R99, R379 to R381): `text` runs from "$" or "!" to before <CR><LF>. -/
def execSentenceComplete (port : BitVec 4) (text : List Byte) (t : Nat) (s : State) : Host.Outcome State Fault Refusal :=
  .next (
    let p := port.toNat
    let v := Tab.get SerSt.zero s.fbu.serial p
    if s.fioOn && decide (p < 12) && decide (v.rate ≠ 0) then
      let a := s.reach t
      let put := fun (x : SerSt) => ({ a with fbu := { a.fbu with serial := Tab.set SerSt.zero a.fbu.serial p x } } : State)
      let bad := put { v with bad := v.bad + 1 }
      let good := { v with sentences := v.sentences + 1 }
      if !sentenceOk text then bad
      else if s.img.phase ≠ .running then put good
      else match s.fbu.matchSentence p text with
        | none => put { good with unmatched := good.unmatched + 1 }
        | some (k, e) => if e.checksumReq && !hasChecksum text then bad else (put good).takeSentence p k e text none t
    else s)

/-- SERIAL_RATE_DETECT (R99, R379): an AUTO port starts to detect again (rate 0), or has detected a rate. -/
def execSerialRateDetect (port : BitVec 4) (rate : BitVec 3) (s : State) : Host.Outcome State Fault Refusal :=
  .next (
    let p := port.toNat
    let v := Tab.get SerSt.zero s.fbu.serial p
    if s.fioOn && decide (p < 12) && v.auto && decide (rate.toNat ≤ 4) then
      s.withFbu ({ s.fbu with serial := Tab.set SerSt.zero s.fbu.serial p { v with rate := rate } },
        if rate = 0 then [] else [(0x0C0C, [port.setWidth 32, rate.setWidth 32])])
    else s)

/-- A line of an IEC 61162-450 datagram: its TAG block, where it has one, and its sentence (R382). -/
def splitTag (line : List Byte) : List Byte × List Byte :=
  match line with
  | 0x5C :: l =>
    let tag := l.takeWhile (fun (b : Byte) => decide (b ≠ 0x5C))
    (tag, l.drop (tag.length + 1))
  | l => ([], l)

/-- A parameter of a TAG block. -/
def tagParam (c : Byte) (tag : List Byte) : Option (List Byte) :=
  ((commaFields tag).find? (fun f => decide (f.take 2 = [c, 0x3A]))).map (fun f => f.drop 2)

/-- A text padded with zeros to the six bytes of TAG_SRC. -/
def padTag (l : List Byte) : List Byte := (l ++ List.replicate 6 0).take 6

/-- The first entry in table order for a sentence of a datagram (R380, R382). -/
def FbuSt.matchEth (f : FbuSt) (port : Nat) (group : Word) (udp : Half) (tag text : List Byte) : Option (Nat × SentCfg) :=
  match f.table with
  | none => none
  | some t =>
    (List.range t.sentences.length).findSome? (fun k => match t.sentences[k]? with
      | none => none
      | some e =>
        let src := decide (e.tagSrc = List.replicate 6 0) || decide (padTag ((tagParam 0x73 tag).getD []) = e.tagSrc)
        if decide (e.port.toNat = port) && decide (e.group = group) && decide (e.udpPort = udp) && src && addressMatch e.address text then some (k, e)
        else none)

/-- One sentence of a datagram; a broken or unmatched one goes nowhere. -/
def State.ethLine (port : Nat) (group : Word) (udp : Half) (t : Nat) (s : State) (line : List Byte) : State :=
  let p := splitTag line
  if !sentenceOk p.2 then s
  else match s.fbu.matchEth port group udp p.1 p.2 with
    | none => s
    | some (k, e) =>
      if e.checksumReq && !hasChecksum p.2 then s
      else
        let tag := match tagParam 0x63 p.1 with
          | some c => (decimal c).map (fun (x : Int × Nat) => x.1.toNat * 1000000000 / 10 ^ x.2)
          | none => none
        s.takeSentence port k e p.2 tag t

/-- ETH_SENSOR_DATAGRAM (R382): `port` is ES1, `lines` the lines after "UdPbC" and NUL (none where it begins otherwise); a
datagram to no entry's group and port, or of no such form, is counted ignored. -/
def execEthSensorDatagram (port : Bool) (group : Word) (udpPort : Half) (lines : List (List Byte)) (t : Nat) (s : State) :
    Host.Outcome State Fault Refusal :=
  .next (
    let p := if port then 0x11 else 0x10
    if s.fioOn && decide (s.img.phase = .running) && (Tab.get PortSt.zero s.hst.ports (if port then 3 else 2)).up then
      let a := s.reach t
      let known := match s.fbu.table with
        | none => false
        | some x => x.sentences.any (fun e => decide (e.port.toNat = p) && decide (e.group = group) && decide (e.udpPort = udpPort))
      if !known || lines.isEmpty then { a with fbu := { a.fbu with ethIgnored := a.fbu.ethIgnored + 1 } }
      else lines.foldl (State.ethLine p group udpPort t) a
    else s)

/-- RING_RESET (R386). -/
def execRingReset (who : Who) (ring : BitVec 6) (s : State) : Host.Outcome State Fault Refusal :=
  .next (if s.awake then (s.accessed who 0x0C 0xB00C).resetRing ring.toNat else s)

end Sys2Proof.Machine
end

