-- ==== Sys2Proof/Machine/CmdHost.lean ====
section
/-! DEFINITION. Meanings of the host-protocol commands (14_host_protocol.md). -/

namespace Sys2Proof.Machine

open Sys2Proof

-- ## Datagrams

/-- What admission depends on outside the host block; in NO_IMAGE PAIR_ID is 0 (R400). -/
def State.hostView (s : State) : HostView :=
  { otp := s.img.otp, phase := s.img.phase, beat := s.beat.n, pairId := if s.img.phase = .noImage then 0 else s.pairId, now := s.tim.now }

/-- Before the first beat the power controller counts a POWER_CMD as a refusal by IMG (R110, R499).  DESIGN CHOICE (log 25): its cause, for
which no rule gives a code, is a free value; no event is recorded. -/
def State.refuseStarting (s : State) : State :=
  let f := s.fresh
  let p := s.pwr
  { f.2 with pwr := { p with
      refBlock := 2, refCause := BitVec.ofInt 8 (Config.freeInt 499 f.1), flags := setBit p.flags 0, refusals := p.refusals + 1 } }

/-- XHP_REQUEST (R397 to R403): a datagram on EH0 or EH1. -/
def execXhpRequest (q : XhpRequest) (s : State) : Host.Outcome State Fault Refusal :=
  .next (if s.fioOn && decide (q.port.toNat < 2) && (Tab.get PortSt.zero s.hst.ports q.port.toNat).up then
      let a := { s with hst := s.hst.request s.hostView q }
      if frameOk q.bytes && decide (s.img.phase ≠ .running) && decide (s.img.phase ≠ .noImage) && decide ((xhpHeader q.bytes).opcode = 0x0052) then
        a.refuseStarting
      else a
    else s)

/-- May a response go out: an answer to a command waits until the publish phase of its beat is over (R407)? -/
def State.sendable (s : State) (r : Response) : Bool :=
  !r.waits || decide (s.img.phase = .noImage) || decide (r.beat ≠ s.beat.n) || s.hst.snapshots.getLast?.any (fun p => decide (p.beat = s.beat.n))

/-- Take out the first response that may go out. -/
def State.takeSendable (s : State) : List Response → Option (Response × List Response)
  | [] => none
  | r :: l => if s.sendable r then some (r, l) else (s.takeSendable l).map (fun (p : Response × List Response) => (p.1, r :: p.2))

/-- XHP_RESPONSE (R407). -/
def execXhpResponse (s : State) : Host.Outcome State Fault Refusal :=
  .next (if s.fioOn then
      match s.takeSendable s.hst.responses with
      | some (r, l) => { s with hst := { s.hst with responses := l, lastSent := some r } }
      | none => s
    else s)

-- ## Sessions

/-- OPEN (R399, R400): in the beat of its union, or at once in NO_IMAGE with the device time in place of BEAT. -/
def execOpenSession (h : HostRef) (slot : BitVec 3) (role : BitVec 2) (nonceH : BitVec 128) (s : State) : Host.Outcome State Fault Refusal :=
  .next (if h.session ≠ 0 then s
    else match s.hst.take h with
      | none => s
      | some g =>
        let v := s.hostView
        let beat : Long := if v.phase = .noImage then BitVec.ofNat 64 v.now else v.beat
        let r := g.open_ v.otp h slot role nonceH beat v.pairId
        { s with hst := r.1 }.raise r.2)

/-- A session closes: its bank load ends with it (R70, R401). -/
def State.closeSession (s : State) (k cause : Nat) : State :=
  if (s.hst.sess k).isOpen then
    let r := s.hst.closeSession k cause s.beat.n
    let b := s.sch.sessionClosed (BitVec.ofNat 8 k)
    { s with hst := r.1, sch := b.1, svc := s.svc.dropSession k }.raise (b.2 ++ r.2)
  else s

/-- CLOSE (R401): applied, answered, and the session is closed. -/
def execCloseSession (h : HostRef) (s : State) : Host.Outcome State Fault Refusal :=
  .next (
    let a := s.unionCmd h 0x0002 applied
    let x := s.hst.sess h.session.toNat
    let y := a.hst.sess h.session.toNat
    if (s.hst.take h).isSome && x.isOpen && decide (x.lastSeq < h.hostSeq) && decide (y.lastSeq = h.hostSeq) then a.closeSession h.session.toNat 1
    else a)

/-- KEEPALIVE (R401): a command with no effect of its own. -/
def execKeepalive (h : HostRef) (s : State) : Host.Outcome State Fault Refusal := .next (s.unionCmd h 0x0003 applied)

/-- SESSION_IDLE (R401): IDLE_S × 1,000 beats without a command applied or refused. -/
def execSessionIdle (session : BitVec 8) (s : State) : Host.Outcome State Fault Refusal :=
  .next (match s.hst.netCfg with
    | some n =>
      if 1 ≤ session.toNat ∧ session.toNat ≤ 16 ∧ n.idleS.toNat * 1000 ≤ (s.hst.sess session.toNat).idleBeats then s.closeSession session.toNat 2
      else s
    | none => s)

-- ## Reads

/-- READ_SNAPSHOT (R413). -/
def execReadSnapshot (h : HostRef) (beat : Long) (extents : List (Half × Half)) (s : State) : Host.Outcome State Fault Refusal :=
  .next (s.localCmd h 0 (fun a =>
    match a.hst.snapshotOf beat with
    | .error (st, d) => a.reply h 0x0010 st d []
    | .ok r =>
      if 16 < extents.length ∨ 1400 < (extents.map (fun e => e.2.toNat)).sum ∨
          extents.any (fun e => decide (4 * r.words.length < e.1.toNat + e.2.toNat)) then
        a.reply h 0x0010 stBadRequest 0 []
      else { a with hst := a.hst.respond (localResponse h 0x0010 r.beat stOk 0 (packBytes (extentBytes r extents))) }))

/-- The values of several registers, read in order. -/
def State.readRegs (s : State) (who : Who) : List Word → State × List Word
  | [] => (s, [])
  | x :: l =>
    let r := s.readReg who x
    let t := r.1.readRegs who l
    (t.1, r.2 :: t.2)

/-- READ_REG (R414): up to 64 registers, none of them RL or RU; BEAT is that of the latest record. -/
def execReadReg (h : HostRef) (addresses : List Word) (s : State) : Host.Outcome State Fault Refusal :=
  .next (s.localCmd h 0 (fun a =>
    if 64 < addresses.length ∨ addresses.any lockingReg then a.reply h 0x0011 stBadRequest 0 []
    else
      let r := a.readRegs (a.whoOf h) addresses
      let beat := match a.hst.snapshots.getLast? with | some p => p.beat | none => a.beat.n
      { r.1 with hst := r.1.hst.respond (localResponse h 0x0011 beat stOk 0 r.2) }))

/-- READ_RECORDER (R491). -/
def execReadRecorder (h : HostRef) (fromSeq : Word) (maxRecords : Byte) (s : State) : Host.Outcome State Fault Refusal :=
  .next (s.localCmd h 0 (fun a =>
    if maxRecords = 0 ∨ 40 < maxRecords.toNat then a.reply h 0x0012 stBadRequest 0 []
    else a.reply h 0x0012 stOk 0 (a.rcd.response fromSeq.toNat maxRecords.toNat)))

-- ## Rings and the stream

/-- The bytes of a ring entry (R385). -/
def RingEntry.bytes (e : RingEntry) : List Byte :=
  wordBytes [e.seq, e.beat] ++ leBytes 2 e.payload.length ++
    [BitVec.ofNat 8 ((if e.epoch then 1 else 0) + (if e.trunc then 2 else 0) + (if e.sideB then 4 else 0)), e.kind] ++ wordBytes [e.word] ++ e.payload

/-- RING_READ (R383, R384, R386): entries of a ring with a HOST consumer, as many as one response holds. -/
def execRingRead (h : HostRef) (ring maxEntries : Byte) (s : State) : Host.Outcome State Fault Refusal :=
  .next (s.localCmd h 0 (fun a =>
    match a.fbu.ringCfg ring.toNat with
    | some c =>
      if c.consumer = 3 then
        let x := a.fbu.takeRing ring.toNat (min maxEntries.toNat (1400 / c.entryBytes.toNat)) (lowOf a.beat.n)
        { a with fbu := x.1 }.reply h 0x0013 stOk 0 (packBytes (x.2.flatMap RingEntry.bytes))
      else a.reply h 0x0013 stBadRequest 0 []
    | none => a.reply h 0x0013 stBadRequest 0 []))

/-- RING_WRITE (R384, R385): an entry of a ring with a HOST producer, refused RING_FULL without a credit. -/
def execRingWrite (h : HostRef) (ring : Byte) (data : List Byte) (s : State) : Host.Outcome State Fault Refusal :=
  .next (s.localCmd h 1 (fun a =>
    match a.fbu.ringCfg ring.toNat with
    | some c =>
      if c.producer ≠ 3 then a.reply h 0x0014 stBadRequest 0 []
      else if c.depth.toNat ≤ (a.fbu.ring ring.toNat).entries.length then a.reply h 0x0014 stRingFull 0 []
      else (a.withFbu (a.fbu.offerRing ring.toNat (lowOf a.beat.n) 3 (h.session.setWidth 32) a.pai.sideB data)).reply h 0x0014 stApplied 0 []
    | none => a.reply h 0x0014 stBadRequest 0 []))

/-- STREAM_CTRL ADD (R416). -/
def execStreamAdd (h : HostRef) (dest : NetDest) (s : State) : Host.Outcome State Fault Refusal :=
  .next (s.localCmd h 0 (fun a =>
    let r := a.hst.streamAdd h.session dest
    { a with hst := r.1 }.reply h 0x0015 (if r.2 then stApplied else stBadRequest) 0 []))

/-- STREAM_CTRL REMOVE (R416). -/
def execStreamRemove (h : HostRef) (dest : NetDest) (s : State) : Host.Outcome State Fault Refusal :=
  .next (s.localCmd h 0 (fun a =>
    let r := a.hst.streamRemove h.session dest
    { a with hst := r.1 }.reply h 0x0015 (if r.2 then stApplied else stBadRequest) 0 []))

-- ## Regions

/-- The parts of a whole set, applied or refused alike (R404, R410). -/
def HstSt.endRegion (h : HstSt) (k : Nat) (ps : List RegionPart) (st : Half) (detail : Word) (beat : Long) : HstSt :=
  let f : CmdFate := if st = stApplied then .applied else .refused
  let t := ps.foldl (fun (a : SessionSt) (p : RegionPart) => a.settle p.req.hostSeq f beat) { h.sess k with region := none }
  ps.foldl (fun (a : HstSt) (p : RegionPart) => if p.own then a.respond (cmdResponse p.req 0x0020 beat st detail []) else a) (h.setSess k t)

/-- The last part has come: the set is applied or refused (R410); one of a RUNTIME region is one runtime change (R411). -/
def State.judgeRegion (s : State) (k : Nat) (region : Half) (ps : List RegionPart) : State :=
  let host := match s.sch.sched with | some x => x.host | none => none
  let r : Half × Word := match host, s.sch.sched with
    | some t, some x => regionStatus t x.ranges (s.hst.sess k).role.toNat region ps
    | _, _ => (stBadRequest, 0)
  let runtime := host.any (fun t => (t.regions.find? (fun e => decide (e.id = region))).any (fun e => e.runtime))
  if r.1 = stApplied then
    let h := ps.foldl (fun (a : HstSt) p => a.storeRegion region p) s.hst
    let a := { s with hst := h.endRegion k ps stApplied 0 s.beat.n }
    if runtime then a.countRegion 1 else a
  else { s with hst := s.hst.endRegion k ps r.1 r.2 s.beat.n }

/-- One part in the beat of its union (R410, R411): part 0 supersedes an unfinished set; a part of an older set is refused SEQ. -/
def State.regionPart (s : State) (ref : HostRef) (region : Half) (p : RegionPart) (lastPart : Bool) : State :=
  let k := ref.session.toNat
  let a := if p.part = 0 ∧ (s.hst.sess k).region.isSome then { s with hst := s.hst.dropRegion k .superseded stSuperseded s.beat.n } else s
  let take := fun (ps : List RegionPart) =>
    if lastPart then a.judgeRegion k region ps
    else { a with hst := a.hst.setSess k { a.hst.sess k with region := some (region, ps) } }
  match (a.hst.sess k).region with
  | none => take [p]
  | some (r, ps) =>
    let older := ps.head?.any (fun q => decide (ref.hostSeq < q.req.hostSeq))
    if r ≠ region ∨ older then { a with hst := a.hst.answerSeq ref 0x0020 a.beat.n } else take (ps ++ [p])

/-- REGION_WRITE (R404, R410, R411): a union command; its parts are settled with their set. -/
def execRegionWrite (h : HostRef) (region part : Half) (offset : Word) (data : List Word) (lastPart : Bool) (s : State) :
    Host.Outcome State Fault Refusal :=
  .next (match s.hst.take h with
    | none => s
    | some g =>
      let x := g.sess h.session.toNat
      if !x.isOpen then { s with hst := g }
      else if h.hostSeq ≤ x.lastSeq then { s with hst := g.answerSeq h 0x0020 s.beat.n }
      else { s with hst := g }.regionPart h region { part := part, offset := offset, data := data, req := h, own := g.heard.contains h } lastPart)

-- ## Register writes

/-- Is a write of a WRITE_REG one of the pair domain (R14): a pair-domain register, or RENEGOTIATE? -/
def pairWriteOf (p : Word × Word) : Bool := pairRegister p.1.toNat || (decide (p.1 = 0x000C8008) && bitOf p.2 2)

/-- Is an address a coefficient register or APPLY of the slot window (R307)? -/
def coefReg (a : Word) : Bool := decide (a.toNat / 65536 = 0x0A) && decide (0x8018 ≤ a.toNat % 65536) && decide (a.toNat % 65536 < 0x8040)

/-- One write of a WRITE_REG in its union: a pair-domain write on both devices, a selection too, and any other register on the
device that received the command (R409). -/
def State.unionWrite (s : State) (ref : HostRef) (own : Bool) (p : Word × Word) : CmdR :=
  let who := s.whoOf ref
  let b := p.1.toNat / 65536
  let sel := s.sel who b
  let here := own || decide (p.1.toNat % 65536 = 0x10)
  if pairWriteOf p then
    if coefReg p.1 && !s.slotIsPair (bits sel 10 0) then (if own then s.pairWrite sel (refWord ref) p.1 p.2 else applied s)
    else
      let r := s.pairWrite sel (refWord ref) p.1 p.2
      if b = 0x0C && own then (r.1.writeReg who p.1 (p.2 &&& 3), r.2) else r
  else applied (if here then s.writeReg who p.1 p.2 else s)

/-- The writes of a WRITE_REG in order, up to the first that is refused. -/
def State.unionWrites (s : State) (ref : HostRef) (own : Bool) : List (Word × Word) → State × Option ((Word × Word) × Half × Word)
  | [] => (s, none)
  | p :: l =>
    let r := s.unionWrite ref own p
    if r.2.1 = stApplied then r.1.unionWrites ref own l else (s, some (p, r.2))

/-- WRITE_REG as a union command is applied or refused as a whole (R36, R404): refused, it leaves what its refusing write alone
does. -/
def State.writePairs (s : State) (ref : HostRef) (own : Bool) (l : List (Word × Word)) : CmdR :=
  match s.unionWrites ref own l with
  | (t, none) => applied t
  | (_, some (p, st, d)) =>
    let r := s.unionWrite ref own p
    if r.2.1 = stApplied then (s, st, d) else (r.1, st, d)

/-- WRITE_REG (R14, R408): a union command where it names a pair-domain register, otherwise local. -/
def execWriteReg (h : HostRef) (pairs : List (Word × Word)) (s : State) : Host.Outcome State Fault Refusal :=
  .next (if pairs.any pairWriteOf then s.unionCmd h opWriteReg (fun a => a.writePairs h (a.hst.heard.contains h) pairs)
    else s.localCmd h 2 (fun a =>
      (pairs.foldl (fun (b : State) (p : Word × Word) => b.writeReg (b.whoOf h) p.1 p.2) a).reply h opWriteReg stApplied 0 []))

-- ## NVM and OTP

/-- Does an access lie within the NVM behind a chip select (R85)? -/
def ImgSt.nvmFits (g : ImgSt) (chip : Byte) (address : Word) (n : Nat) : Bool :=
  decide (chip.toNat ≤ (if g.nvmMap then 1 else 0)) && (decide (g.nvmSize = 0) || decide (address.toNat + n ≤ 2 ^ g.nvmSize.toNat))

/-- An access of the NVM begins; one at a time. -/
def State.startNvm (s : State) (h : HostRef) (op : Half) (ok : Bool) (chip : Byte) (address : Word) (n : Nat) : State :=
  if !ok then s.reply h op stBadRequest 0 []
  else if s.hst.nvmBusy then s.reply h op stBusy 0 []
  else { s with hst := { s.hst with nvmBusy := true, nvmLast := some (chip, address, n) } }.reply h op stApplied 0 []

/-- NVM_WRITE (R408): up to 1,024 bytes. -/
def execNvmWrite (h : HostRef) (chip : Byte) (address : Word) (data : List Byte) (s : State) : Host.Outcome State Fault Refusal :=
  .next (s.localCmd h 3 (fun a =>
    a.startNvm h 0x0061 (decide (data.length ≤ 1024) && decide (data ≠ []) && a.img.nvmFits chip address data.length) chip address data.length))

/-- NVM_ERASE (R408): address and length are multiples of the SFDP erase size. -/
def execNvmErase (h : HostRef) (chip : Byte) (address length eraseSize : Word) (s : State) : Host.Outcome State Fault Refusal :=
  .next (s.localCmd h 3 (fun a =>
    let e := eraseSize.toNat
    let ok := decide (e ≠ 0) && decide (address.toNat % e = 0) && decide (length.toNat % e = 0) && decide (length ≠ 0)
    a.startNvm h 0x0062 (ok && a.img.nvmFits chip address length.toNat) chip address length.toNat))

/-- The OTP changed by a host command. -/
def State.withOtp (s : State) (f : OtpSt → OtpSt) : State := { s with img := { s.img with otp := f s.img.otp } }

/-- OTP_REVOKE (R91, R398): a slot is revoked for good. -/
def execOtpRevoke (h : HostRef) (hostSlot : Bool) (slot : Byte) (s : State) : Host.Outcome State Fault Refusal :=
  .next (s.localCmd h 3 (fun a =>
    let k := slot.toNat
    if hostSlot then
      if k < 8 then
        (a.withOtp (fun o => { o with hostKeys := Tab.set HostKeySlot.none o.hostKeys k { Tab.get HostKeySlot.none o.hostKeys k with state := .revoked } })).reply
          h 0x0063 stApplied 0 []
      else a.reply h 0x0063 stBadRequest 0 []
    else if k < 4 then
      (a.withOtp (fun o => { o with imageKeys := Tab.set ImageKeySlot.none o.imageKeys k { Tab.get ImageKeySlot.none o.imageKeys k with state := .revoked } })).reply
        h 0x0063 stApplied 0 []
    else a.reply h 0x0063 stBadRequest 0 []))

/-- OTP_MIN_SECVER (R91): above the current minimum, for good. -/
def execOtpMinSecver (h : HostRef) (secver : Half) (s : State) : Host.Outcome State Fault Refusal :=
  .next (s.localCmd h 3 (fun a =>
    if a.img.otp.minSecver < secver then (a.withOtp (fun o => { o with minSecver := secver })).reply h 0x0064 stApplied 0 []
    else a.reply h 0x0064 stBadRequest 0 []))

-- ## Ports

/-- ETH_LINK_CHANGE (R393): a PTP slave port that goes down hears its parent no longer (R121). -/
def execEthLinkChange (port : BitVec 2) (up : Bool) (mbit : Half) (s : State) : Host.Outcome State Fault Refusal :=
  .next (
    let k := port.toNat
    let p := Tab.get PortSt.zero s.hst.ports k
    if s.fioOn && (p.up != up || decide (p.mbit ≠ mbit)) then
      let a : State := { s with hst := { s.hst with ports := Tab.set PortSt.zero s.hst.ports k { p with up := up, mbit := mbit } } }
      let b := a.raise [(0x0D05, [wordN k, if up then 1 else 0, mbit.setWidth 32])]
      if !up && b.ptpSlave k && !(List.range 4).any (fun j => b.ptpSlave j && (Tab.get PortSt.zero b.hst.ports j).up) then b.disqualify .ptp false
      else b
    else s)

end Sys2Proof.Machine
end

