-- ==== Sys2Proof/Machine/CmdPair.lean ====
section
/-! DEFINITION. Meanings of the pairing commands (15_swallowtail_pairing.md). -/

namespace Sys2Proof.Machine

open Sys2Proof

/-- The beat as a number, and the instant of its edge. -/
def State.beatNo (s : State) : Nat := s.beat.n.toNat
def State.edgeAt (s : State) : Nat := s.beat.n.toNat * 1000000

/-- Does the schedule run in a live beat, so that the exchange of Table 15.4 takes place? -/
def State.exchanging (s : State) : Bool := s.sch.running && s.beat.live

/-- The pair block with what one of its actions did: the gate may have closed (R365), and events are raised. -/
def State.withPai (s : State) (r : PaiR) : State :=
  ({ s with pai := r.1 }.closeGate (s.pai.gate s.tim.now)).raise r.2

/-- A partner lost sends a Joining device that has adopted nothing to DP mode STANDBY (Table 15.6). -/
def State.partnerLost (s : State) (r : PaiR) : State :=
  if s.pai.lossStandby && decide (r.1.claimNext = .solo) then
    let c := s.ctl.watchStandby
    ({ s with ctl := c.1 }.withPai r).raise c.2
  else s.withPai r

/-- A frame of the link (R428, R429): discarded, or accepted, acted on by `f`, and acknowledged by an IDLE frame where nothing else
was sent. -/
def State.linkFrame (s : State) (h : LinkHdr) (f : State → State) : State :=
  if s.awake then
    let r := s.pai.accept h
    if r.1 then
      let a := f { s with pai := r.2 }
      { a with pai := a.pai.idleIfDue s.pai.txSeq a.beatNo }
    else { s with pai := r.2 }
  else s

-- ## Claim lines

/-- PAIR_ACT_IN_EDGE (R422, R425). -/
def execPairActInEdge (t : Nat) (s : State) : Host.Outcome State Fault Refusal :=
  .next (if s.awake then let a := s.reach t; a.withPai (a.pai.actEdge t) else s)

/-- PAIR_ACT_IN_SILENT (R438): no edge for 20 µs. -/
def execPairActInSilent (t : Nat) (s : State) : Host.Outcome State Fault Refusal :=
  .next (
    let a := s.reach t
    let silent := match s.pai.lastIn with | some x => decide (x + 20000 ≤ t) | none => true
    if s.awake && silent then a.partnerLost (a.pai.lost 1 a.beatNo) else s)

/-- CLAIM_ARM_EXPIRE (R423): an arm not renewed by 995 µs. -/
def execClaimArmExpire (s : State) : Host.Outcome State Fault Refusal :=
  .next (if s.pai.toggling && !s.pai.armed then s.withPai (s.pai.stopToggle, []) else s)

-- ## The link

/-- LINK_TRAINED (R427): four or two lanes. -/
def execLinkTrained (lanes : BitVec 3) (s : State) : Host.Outcome State Fault Refusal :=
  .next (if s.awake then s.withPai (s.pai.trained lanes) else s)

/-- LINK_DOWN (R427): block lock is lost. -/
def execLinkDown (s : State) : Host.Outcome State Fault Refusal :=
  .next (if s.awake then s.withPai (s.pai.linkLost s.beatNo) else s)

/-- LINK_RETRY (R429): 4 µs without acknowledgement. -/
def execLinkRetry (s : State) : Host.Outcome State Fault Refusal :=
  .next (if s.awake then s.withPai (s.pai.goBack s.beatNo) else s)

/-- IDLE (R429): its ACK alone counts. -/
def execLinkIdle (hdr : LinkHdr) (s : State) : Host.Outcome State Fault Refusal :=
  .next (if s.awake then { s with pai := (s.pai.accept hdr).2 } else s)

-- ## The exchange of a beat

/-- CAPTURE (R430): items of the beat that the header names. -/
def execLinkCapture (hdr : LinkHdr) (items : List Item) (s : State) : Host.Outcome State Fault Refusal :=
  .next (s.linkFrame hdr (fun a =>
    { a with pai := { a.pai with rxItems := a.pai.rxItems ++ items.map (fun (i : Item) => (hdr.beat, i)) } }))

/-- TOKEN (R425, R433, R438, R446): the offset is measured, the partner's word is taken, the alignment of an adopted joiner is
judged. -/
def execLinkToken (hdr : LinkHdr) (token : Token) (t : Nat) (s : State) : Host.Outcome State Fault Refusal :=
  .next (s.linkFrame hdr (fun a =>
    let b := a.reach t
    let c := b.partnerLost (b.pai.token token b.beatNo t)
    let d := if token.echoTx ≠ 0 ∧ c.partnerOk then c.measure .partner c.pai.theta true else c
    if token.beat = d.beat.n then d.withPai (d.pai.alignBeat d.pairCfg) else d))

/-- TOKEN_DEADLINE (R432): at 60 µs the Active decides INCLUDE. -/
def execTokenDeadline (s : State) : Host.Outcome State Fault Refusal :=
  .next (if s.exchanging then s.withPai (s.pai.decide_ s.pairCfg s.beatNo s.edgeAt) else s)

/-- COMMIT (R432). -/
def execLinkCommit (hdr : LinkHdr) (beat : Long) (incl : Bool) (check : Word) (s : State) : Host.Outcome State Fault Refusal :=
  .next (s.linkFrame hdr (fun a => { a with pai := a.pai.commit beat incl check a.beatNo }))

/-- COMMIT_DEADLINE (R438): at 90 µs. -/
def execCommitDeadline (s : State) : Host.Outcome State Fault Refusal :=
  .next (if s.exchanging then s.partnerLost (s.pai.commitDeadline s.beatNo s.edgeAt) else s)

/-- SIGNATURE (R434). -/
def execLinkSignature (hdr : LinkHdr) (beat sig : Long) (s : State) : Host.Outcome State Fault Refusal :=
  .next (s.linkFrame hdr (fun a => if beat = a.beat.n then { a with pai := { a.pai with sigPartner := some sig } } else a))

/-- SIGNATURE_COMPARE (R434, R441, R447): at 920 µs. -/
def execSignatureCompare (s : State) : Host.Outcome State Fault Refusal :=
  .next (if s.exchanging then s.withPai (s.pai.compare s.pairCfg s.beatNo) else s)

-- ## Joining

/-- What the answer to JOIN_REQ depends on outside the block. -/
def State.joinView (s : State) : JoinView :=
  { imageId := s.imageId, layoutSig := s.layoutSig, compat := s.compat,
    accepts := match s.sch.sched with | some x => x.header.acceptCompat | none => [], jumpNs := s.tim.jumpNs,
    bankPending := decide (s.sch.inactive.phase = .pending), watch := s.sch.watch, deviceId := s.img.otp.deviceId }

/-- JOIN_REQ (R442). -/
def execJoinReq (hdr : LinkHdr) (req : JoinReq) (s : State) : Host.Outcome State Fault Refusal :=
  .next (s.linkFrame hdr (fun a => a.withPai (a.pai.joinReq a.joinView req a.beatNo)))

/-- JOIN_ACCEPT (R442). -/
def execJoinAccept (hdr : LinkHdr) (kind : Byte) (pairId : Long) (s : State) : Host.Outcome State Fault Refusal :=
  .next (s.linkFrame hdr (fun a => a.withPai (a.pai.joinAccept a.img.otp.deviceId kind pairId)))

/-- JOIN_REFUSE (R442). -/
def execJoinRefuse (hdr : LinkHdr) (_cause : Byte) (s : State) : Host.Outcome State Fault Refusal :=
  .next (s.linkFrame hdr (fun a => { a with pai := a.pai.joinRefused }))

/-- PAGE (R443). -/
def execLinkPage (hdr : LinkHdr) (number : Word) (data : List Byte) (s : State) : Host.Outcome State Fault Refusal :=
  .next (s.linkFrame hdr (fun a => { a with pai := a.pai.holdPage number data }))

/-- FAST (R443). -/
def execLinkFast (hdr : LinkHdr) (offset : Word) (data : List Byte) (s : State) : Host.Outcome State Fault Refusal :=
  .next (s.linkFrame hdr (fun a => { a with pai := a.pai.holdFast offset data }))

/-- ADOPT (R444). -/
def execLinkAdopt (hdr : LinkHdr) (beat : Long) (s : State) : Host.Outcome State Fault Refusal :=
  .next (s.linkFrame hdr (fun a => { a with pai := a.pai.adoptNamed beat }))

/-- ADOPT_END (R444). -/
def execAdoptEnd (hdr : LinkHdr) (beat : Long) (pages : Word) (s : State) : Host.Outcome State Fault Refusal :=
  .next (s.linkFrame hdr (fun a => { a with pai := a.pai.adoptEnded beat pages }))

/-- The pair-domain state that the held bytes give (R444): for SHADOW_TRANSLATED through the table from the Active's layout
(R447). -/
def State.heldState (s : State) : PairDom :=
  let slow := (List.range (pageCount s.pairCfg)).flatMap (fun k => Tab.get [] s.pai.heldPages k)
  let fast := s.pai.heldFast.flatMap (fun (p : Nat × List Byte) => p.2)
  let table : Option (Schedule × TransTable) :=
    match s.sch.sched, s.pai.tokenLast with
    | some x, some (t, _) => (translationFrom x t.layoutSig).map (fun y => (x, y))
    | _, _ => none
  match table with
  | some (x, y) =>
    if s.pai.kind = 3 then
      let all := s.pai.heldPages.flatMap (fun (p : Nat × List Byte) => p.2)
      translateInto x y (all ++ fast) s.pairDom
    else pairFrom s.layoutSig slow fast s.pairDom
  | none => pairFrom s.layoutSig slow fast s.pairDom

/-- ADOPTION_DEADLINE (R444): at 70 µs of beat a + 1 the joiner adopts, or abandons with cause LATE. -/
def execAdoptionDeadline (s : State) : Host.Outcome State Fault Refusal :=
  .next (if !s.exchanging then s
    else if s.pai.adoptsNow s.beatNo then
      let a := s.setPairDom s.heldState
      { a with est := { a.est with prevPose := a.est.shown.take 3 } }.withPai (a.pai.adoptDone s.beat.boundary)
    else if s.pai.adoptMissed s.beatNo then s.withPai (s.pai.abandon 2 true)
    else s)

/-- DEMOTE (R435, R446). -/
def execLinkDemote (hdr : LinkHdr) (_cause : Byte) (s : State) : Host.Outcome State Fault Refusal :=
  .next (s.linkFrame hdr (fun a => a.withPai a.pai.demoted))

/-- HEALTH (R437, R438). -/
def execLinkHealth (hdr : LinkHdr) (word : Word) (s : State) : Host.Outcome State Fault Refusal :=
  .next (s.linkFrame hdr (fun a => a.partnerLost (a.pai.healthFrame word a.beatNo)))

/-- PROVING_COMPLETE (R447). -/
def execProvingComplete (s : State) : Host.Outcome State Fault Refusal := .next (s.withPai (s.pai.proveEnd s.pairCfg))

-- ## Pair commands

/-- The opcode of PAIR_CMD (Table 14.3), and the detail of its refusal (R448). -/
def opPairCmd : Half := 0x0050
def pairRefused : Word := 0x00000E0B

/-- A refused pair command: event 0x0E0B with outcome 1 (Table 15.15). -/
def State.refusePair (s : State) : CmdR :=
  let r := wordN s.pai.role.code
  (s.raise [(0x0E0B, [r, r, 1])], stRefused, pairRefused)

/-- PAIR_SWAP (R448, R449): the swap edge is that of beat c + 2. -/
def execPairSwap (h : HostRef) (s : State) : Host.Outcome State Fault Refusal :=
  .next (s.unionCmd h opPairCmd (fun a =>
    if a.pai.swapOk then applied { a with pai := { a.pai with swap := some a.beat.n } } else a.refusePair))

/-- PAIR_DEMOTE (R448): the Active sends DEMOTE with cause 2. -/
def execPairDemote (h : HostRef) (s : State) : Host.Outcome State Fault Refusal :=
  .next (s.unionCmd h opPairCmd (fun a => if a.pai.demoteOk then applied (a.withPai (a.pai.sendDemote a.beatNo)) else a.refusePair))

/-- JOIN_BLOCK (R448): a runtime change (R112). -/
def execJoinBlock (h : HostRef) (s : State) : Host.Outcome State Fault Refusal :=
  .next (s.unionCmd h opPairCmd (fun a => applied ({ a with pai := { a.pai with joinBlock := true } }.countRegion 1)))

/-- JOIN_ALLOW (R448). -/
def execJoinAllow (h : HostRef) (s : State) : Host.Outcome State Fault Refusal :=
  .next (s.unionCmd h opPairCmd (fun a => applied { a with pai := { a.pai with joinBlock := false } }))

/-- ACTIVE_CLAIM_STOP (R437, R449): at 980 µs. -/
def execActiveClaimStop (s : State) : Host.Outcome State Fault Refusal :=
  .next (if s.exchanging then s.withPai (s.pai.activeStop s.beatNo) else s)

/-- SWAP_CLAIM (R449): at 990 µs. -/
def execSwapClaim (t : Nat) (s : State) : Host.Outcome State Fault Refusal :=
  .next (if s.exchanging then let a := s.reach t; a.withPai (a.pai.swapClaim a.beatNo t) else s)

end Sys2Proof.Machine
end

