-- ==== Sys2Proof/Machine/CmdSaf.lean ====
section
/-! DEFINITION. Meanings of the safety commands (16_safety_functions.md). -/

namespace Sys2Proof.Machine

open Sys2Proof

/-- The island of a device with power is powered in every state except Cocoon (Table 18.1). -/
def State.islandOn (s : State) : Bool := s.img.powered && decide (s.pwr.mode ≠ .cocoon)

/-- The value of a conditioning channel that USE selects (R155), none where the channel delivers none or reports USE NONE (R463). -/
def State.cndValue (s : State) (c : Nat) : Option Int :=
  if s.domainOn 9 && s.cnd.isOn c then
    match (s.cnd.ch c).use with
    | .fine => some (s.cnd.ch c).fine
    | .fast => some (s.cnd.ch c).fast
    | .none => none
  else none

/-- An action of the island while it is powered. -/
def State.onIsland (s : State) (f : SafSt → SafR) : State := if s.islandOn then s.applySaf (f s.saf) else s

/-- A diagnostic of the island while it supervises (R466). -/
def State.diagnose (s : State) (f : SafSt → SafR) : State := s.onIsland (fun q => if q.island = .run then f q else .of q [])

/-- ISLAND_CYCLE (R458, R461, R464, R469): at each beat edge, whether or not the schedule runs. -/
def execIslandCycle (inp : IslandIn) (s : State) : Host.Outcome State Fault Refusal :=
  .next (s.onIsland (fun q => q.cycle inp s.cndValue s.exchanging))

/-- SI_DISCREPANCY (R459). -/
def execSiDiscrepancy (pair : BitVec 3) (s : State) : Host.Outcome State Fault Refusal :=
  .next (s.diagnose (fun q => q.discrepancy pair.toNat))

/-- SO_TEST_PULSE (R459, R462): `seen` are the safe input pairs that saw the pulses they expect. -/
def execSoTestPulse (pair : BitVec 3) (seen : Byte) (s : State) : Host.Outcome State Fault Refusal :=
  .next (s.diagnose (fun q => q.testPulse pair.toNat seen))

/-- SO_READBACK_FAULT (R462). -/
def execSoReadbackFault (pair : BitVec 3) (s : State) : Host.Outcome State Fault Refusal :=
  .next (s.diagnose (fun q => q.readback pair.toNat))

/-- PLAUSIBILITY_TIMEOUT (R463). -/
def execPlausibilityTimeout (entry : BitVec 4) (s : State) : Host.Outcome State Fault Refusal :=
  .next (s.diagnose (fun q => q.plausibility entry.toNat))

/-- GLOBAL_FAULT (R466, R467): `diagnostic` is a row of Table 16.2. -/
def execGlobalFault (diagnostic : Byte) (detail : Word) (s : State) : Host.Outcome State Fault Refusal :=
  .next (s.onIsland (fun q => if 1 ≤ diagnostic.toNat ∧ diagnostic.toNat ≤ 7 then q.globalFault diagnostic.toNat detail else .of q []))

/-- The opcode of SAF_RESET_ARM (Table 14.3). -/
def opSafResetArm : Half := 0x0051

/-- SAF_RESET_ARM (R469): a local command of an Engineer or a Maintainer. -/
def execSafResetArm (h : HostRef) (mask : BitVec 9) (s : State) : Host.Outcome State Fault Refusal :=
  .next (s.localCmd h 2 (fun a =>
    if mask = 0 then a.reply h opSafResetArm stBadRequest 0 []
    else { a with saf := a.saf.armReset mask h.session }.reply h opSafResetArm stApplied 0 []))

/-- SAF_ARM_EXPIRED (R470): the 10 s have passed. -/
def execSafArmExpired (s : State) : Host.Outcome State Fault Refusal :=
  .next (s.onIsland (fun q => q.armExpired))

/-- ISLAND_SELF_TEST_DONE (R471): `us` is its duration. -/
def execIslandSelfTestDone (us : Word) (s : State) : Host.Outcome State Fault Refusal :=
  .next (s.onIsland (fun q => q.tested us))

end Sys2Proof.Machine
end

