-- ==== Sys2Proof/Machine/CmdRec.lean ====
section
/-! DEFINITION. Meanings of the recorder commands (17_event_recorder.md). -/

namespace Sys2Proof.Machine

open Sys2Proof

/-- EVENT_RAISE (R480, R487): a block raises an event with up to four parameters; event number 0 is never used. -/
def execEventRaise (code : Half) (params : List Word) (s : State) : Host.Outcome State Fault Refusal :=
  .next (if s.img.powered && decide (code.toNat % 256 ≠ 0) then s.raise [(code, params.take 4)] else s)

/-- RECORD_WRITE (R484 to R486): `secs` are the seconds counted since the scan (R481). -/
def execRecordWrite (secs : Word) (s : State) : Host.Outcome State Fault Refusal :=
  .next (if s.awake && s.rcd.ready then { s with rcd := s.rcd.write secs s.img.pwrcyc s.eventBeat } else s)

/-- BUCKET_REFILL (R488): a code's bucket, or the global one. -/
def execBucketRefill (code : Option Half) (s : State) : Host.Outcome State Fault Refusal :=
  .next (if s.awake then { s with rcd := s.rcd.refill code } else s)

/-- RECORDER_SCAN (R486, R490): NEWEST is set, and the rate table of bank 0 comes into force where an image is accepted. -/
def execRecorderScan (s : State) : Host.Outcome State Fault Refusal :=
  .next (if s.awake && !s.rcd.ready then
      let r := s.rcd.scan
      ({ s with rcd := r.1 }.raise r.2).startRates
    else s)

/-- DEFERRED_EVENT_RELEASE (R483): PD_SVC runs again. -/
def execDeferredEventRelease (s : State) : Host.Outcome State Fault Refusal :=
  .next (if s.awake then { s with rcd := s.rcd.release } else s)

/-- OPSEC_SAVE (R481): every 64 s, Chrysalis included. -/
def execOpsecSave (secs : Word) (s : State) : Host.Outcome State Fault Refusal :=
  .next (if s.img.powered && s.islandOn && s.rcd.ready then
      { s with rcd := { s.rcd with opsec := s.rcd.opsecBase + secs, opsecSaved := s.rcd.opsecBase + secs } }
    else s)

/-- RECORD_WINDOW_LOCK (R492): a read of REC_R_W0. -/
def execRecordWindowLock (who : Who) (s : State) : Host.Outcome State Fault Refusal :=
  .next (if s.awake then (s.readReg who 0x00109000).1 else s)

/-- RECORD_WINDOW_RELEASE (R492): a read of REC_R_W7. -/
def execRecordWindowRelease (who : Who) (s : State) : Host.Outcome State Fault Refusal :=
  .next (if s.awake then (s.readReg who 0x0010901C).1 else s)

end Sys2Proof.Machine
end

