-- ==== Sys2Proof/Machine/CmdPwr.lean ====
section
/-! DEFINITION. Meanings of the power commands (18_power_states.md). -/

namespace Sys2Proof.Machine

open Sys2Proof

-- ## Idle gating

/-- Gating discards the local contents of a domain; PD_LUN keeps its weights, and the counts stay (R497, R529). -/
def State.discardLocal (s : State) (d : Nat) : State :=
  match d with
  | 6 => { s with hwk := { s.hwk.discardProblems with praline := [], results := [], descs := [] } }
  | 7 => { s with lun := s.lun.restart false }
  | 8 => { s with gns := { s.gns with channels := [], queue := [], recording := none, recorded := [], searching := none } }
  | 9 => { s with cnd := { s.cnd with channels := [] } }
  | _ => s

/-- DOMAIN_IDLE_EXPIRE (R496, R497). -/
def execDomainIdleExpire (domain : BitVec 4) (s : State) : Host.Outcome State Fault Refusal :=
  .next (if s.edgesRun && s.pwr.due domain.toNat then
      let r := s.pwr.gate domain.toNat
      ({ s with pwr := r.1 }.discardLocal domain.toNat).raise r.2
    else s)

-- ## Orders

/-- What the entry checks of Table 18.4 read. -/
def State.pwrView (s : State) : PwrView :=
  { watchPresent := match s.sch.sched with | some x => x.header.flags.getLsbD 0 | none => false
    switchPending := decide (s.sch.inactive.phase = .pending)
    solo := decide (s.pai.role = .solo)
    joining := decide (s.pai.role = .joining) || decide (s.pai.role = .shadow) || decide (s.pai.join ≠ .none)
    atRest := decide (s.ctl.mode = .standby) && s.ctl.winches.all (fun (p : Nat × WinchSt) => decide (p.2.mode = .stop))
    timeBusy := s.tim.pending.isSome || s.tim.arm.isSome }

/-- The opcode of POWER_CMD (Table 14.3), and the detail of its refusal (R500). -/
def opPowerCmd : Half := 0x0052
def powerRefused : Word := 0x00001102

/-- POWER_CMD in its union (R499, R500): BAD_REQUEST, a refusal of Table 18.4, or what `f` does. -/
def State.powerOrder (s : State) (op : Nat) (flags address : Byte) (alarm : Long) (f : WakeCfg → PwrSt → PwrR) : CmdR :=
  if !orderOk op flags address alarm s.tim.now then (s, stBadRequest, 0)
  else match orderRefusal s.pwrView op (flags.getLsbD 0) with
    | some (block, cause) =>
      let r := s.pwr.refuse op block cause
      ({ s with pwr := r.1 }.raise r.2, stRefused, powerRefused)
    | none =>
      let r := f (wakeOf flags address alarm) s.pwr
      applied (({ s with pwr := r.1 }.raise r.2).powerUp)

/-- POWER_RUN (R501): a pending entry is cancelled; domains that RUN needs are powered (R497). -/
def execPowerRun (h : HostRef) (flags address : Byte) (alarm : Long) (s : State) : Host.Outcome State Fault Refusal :=
  .next (s.unionCmd h opPowerCmd (fun a => a.powerOrder 1 flags address alarm (fun w p => p.program false w 0)))

/-- POWER_WATCH (R500, R501). -/
def execPowerWatch (h : HostRef) (flags address : Byte) (alarm : Long) (s : State) : Host.Outcome State Fault Refusal :=
  .next (s.unionCmd h opPowerCmd (fun a => a.powerOrder 2 flags address alarm (fun w p => p.program true w 0)))

/-- POWER_CHRYSALIS (R500, R504). -/
def execPowerChrysalis (h : HostRef) (flags address : Byte) (alarm : Long) (s : State) : Host.Outcome State Fault Refusal :=
  .next (s.unionCmd h opPowerCmd (fun a =>
    a.powerOrder 3 flags address alarm (fun w p => p.order .chrysalis h.session w a.beat.n.toNat)))

/-- POWER_COCOON (R500, R504). -/
def execPowerCocoon (h : HostRef) (flags address : Byte) (alarm : Long) (s : State) : Host.Outcome State Fault Refusal :=
  .next (s.unionCmd h opPowerCmd (fun a =>
    a.powerOrder 4 flags address alarm (fun w p => p.order .cocoon h.session w a.beat.n.toNat)))

/-- Table 18.5: the answer of a block to the handshake.  `calWriting`: Luna is writing a calibration record. -/
def State.handshakeOf (s : State) (block : Nat) (calWriting : Bool) : HsAnswer :=
  match block with
  | 0x02 => if s.hst.nvmBusy || decide (s.sch.inactive.phase = .loading) || decide (s.sch.inactive.phase = .verify) then .refuse 8 else .ack
  | 0x08 => if calWriting then .delay else .ack
  | 0x10 => if s.rcd.queue = [] then .ack else .delay
  | 0x12 => if s.svc.grant.isSome then .delay else .ack
  | _ => .ack

/-- HANDSHAKE_ANSWER (R504): the block under question answers. -/
def execHandshakeAnswer (calWriting : Bool) (s : State) : Host.Outcome State Fault Refusal :=
  .next (match s.pwr.entry with
    | some e =>
      if s.awake then
        let r := s.pwr.answer (s.handshakeOf e.block calWriting)
        { s with pwr := r.1 }.raise r.2
      else s
    | none => s)

/-- HANDSHAKE_TIMEOUT (R504): the delays together reach 10 ms. -/
def execHandshakeTimeout (s : State) : Host.Outcome State Fault Refusal :=
  .next (if s.awake then let r := s.pwr.timeout; { s with pwr := r.1 }.raise r.2 else s)

-- ## Programs

/-- The change to WATCH (R501, R502, R192): DP mode STANDBY, no thrust, and no stream sampled until a burst. -/
def State.enterWatch (s : State) : State :=
  let c := s.ctl.watchStandby
  let devs := Tab.mapVals AlcDev.start s.alc.devices (fun (d : AlcDev) => { d with thrust := 0 })
  let chans := Tab.mapVals GnsCh.zero s.gns.channels (fun (ch : GnsCh) => { ch with wasTrack := decide (ch.state = .track) })
  { s with
    sch := { s.sch with watch := true }, ctl := c.1, alc := { s.alc with zero := true, flags := setBit s.alc.flags 10, devices := devs }
    gns := { s.gns with channels := chans, powered := false, burst := false } }.raise c.2

/-- The change to RUN (R501): the DP mode stays; the channels start again as at a burst. -/
def State.enterRun (s : State) : State :=
  { s with
    sch := { s.sch with watch := false }
    gns := { s.gns with powered := true, burst := false, queue := [], recording := none, recorded := [], searching := none } }.burstChannels

/-- PROGRAM_SWITCH (R27, R501): at the first round boundary at least 2 beats after the order. -/
def execProgramSwitch (s : State) : Host.Outcome State Fault Refusal :=
  .next (if s.atBoundary then
      match s.pwr.progDue with
      | some x =>
        let r := s.pwr.switch x s.beatNo
        let a := { s with pwr := r.1 }.raise r.2
        if x.toWatch then a.enterWatch else a.enterRun
      | none => s
    else s)

-- ## Entry

/-- The conservation snapshot of a round boundary at which no beat runs (R41, R505). -/
def State.roundSnapshot (s : State) : State :=
  { s with
    rcd := { s.rcd with ledgerSnap := s.rcd.ledger }, fbu := s.fbu.snapshot, hst := s.hst.snapshotLedgers
    beat := { s.beat with ledgerSnap := s.beat.ledgers } }

/-- The levels at which the PWM and GPIO pads are latched (R511). -/
def OutBlk.padLevels (o : OutBlk) (gate : Bool) : Tab PinVal :=
  ((List.range 112).filter (fun k => decide (16 ≤ k))).foldl (fun (t : Tab PinVal) k => Tab.set .hiz t k (o.pinOf k gate)) []

/-- The time keeper falls asleep (Table 4.2): its sources are lost with their interfaces, and it is in HOLDOVER on wake. -/
def TimSt.sleep (t : TimSt) : TimSt :=
  { t with state := .holdover, selected := none, arm := none, pending := none, sources := [], settled := false, ppsOut := none, holdBeats := 0
           flHoldover := true }

/-- A channel falls asleep: frames whose windows never come are aborted WINDOW, and the rates are detected anew on wake (Table 3.7). -/
def ChanSt.sleep (c : ChanSt) : ChanSt :=
  { (c.settleAll (c.pending ++ c.current.toList ++ c.staged) (some .window)) with
    pending := [], current := none, staged := [], openWindow := none, mode := .listen, runNom := (0, 0), runDat := (0, 0)
    detNom := none, detDat := none, seenNom := 0, seenDat := 0, activity := false, forceNext := false, recovering := none }

/-- In Cocoon the AOUT pins are high impedance (R511). -/
def OutBlk.floatAout (o : OutBlk) : OutBlk :=
  { o with outputs := Tab.modifyAll OutSt.zero o.outputs (List.range 16) (fun _ (x : OutSt) => { x with pin := .hiz }) }

/-- Every session closes on entry (R401, R505); what waits to enter a capture set goes with them. -/
def State.closeSessions (s : State) : State :=
  let a := (List.range 16).foldl (fun (x : State) k => x.closeSession (k + 1) 3) s
  { a with hst := { a.hst with openQueue := [], toApply := [] } }

/-- Step 6 of R505: clocks stop.  What completed for the edge that no capture takes is discarded RESTART (R43), and the claim and the
link end. -/
def State.stopClocks (s : State) : State :=
  { s with
    beat := { s.beat.dropCollected with live := false }, sch := { s.sch with running := false }, tim := s.tim.sleep
    fbu := { s.fbu with channels := Tab.modifyAll ChanSt.zero s.fbu.channels (Tab.keys s.fbu.channels) (fun _ c => c.sleep) }
    pai := { s.pai.restart with link := .down, lanes := 0, txSeq := 0, rxSeq := 0, unacked := [], passes := 0 } }

/-- LOW_POWER_ENTRY (R505, R511): at edge E, in place of a beat.  The order is R505's: snapshot, fail values and safe pairs off, the
claim stops, the pads are latched, the sessions close, clocks stop. -/
def State.enterLowPower (s : State) (e : PendEntry) : State :=
  let n := s.beatNo + 1
  let a := ({ s with beat := { s.beat with n := BitVec.ofNat 64 n } }.reach (n * 1000000)).roundSnapshot
  let o := a.out.withdraw.lowPower
  let b := ({ a with out := o.1 }.raise o.2).applySaf a.saf.lowPower
  let c := { b with pai := b.pai.stopToggle }.closeGate (s.pai.gate s.tim.now)
  let d := c.closeSessions
  let p := d.pwr.enter e n (c.out.padLevels (c.pai.gate c.tim.now)) c.tim.ppsOut.isSome
  let f := d.raise p.2
  let g := { f with pwr := p.1 }.stopClocks
  if e.mode = .cocoon then { g with out := g.out.floatAout } else g

def execLowPowerEntry (s : State) : Host.Outcome State Fault Refusal :=
  .next (if s.edgesRun && s.beat.live && s.beat.closes (s.beatNo + 1) then
      match s.pwr.entryDue with
      | some e => s.enterLowPower e
      | none => s
    else s)

-- ## Wake

/-- A wake source fires at `t` (R503, R507, R510): in Watch a Solo device returns to RUN, in Chrysalis or Cocoon the device wakes. -/
def State.wake (s : State) (source t : Nat) : State :=
  if s.img.powered && s.pwr.armedFor source then
    match s.pwr.mode with
    | .watch =>
      if s.pai.role = .solo && !(s.pwr.prog.any (fun p => !p.toWatch)) then
        let r := s.pwr.wakeWatch source
        ({ s with pwr := r.1 }.raise r.2).powerUp
      else s
    | .chrysalis =>
      let p := s.pai.startTraining
      ({ s.reach t with pwr := s.pwr.wakeSleep source t, pai := p.1 }).raise p.2
    | .cocoon => { s with pwr := s.pwr.wakeSleep source t }
    | .run => s
  else s

/-- WAKE_PORT_MATCH (R507, R508): an address on the wake port; another than WAKE_ADDR is not acknowledged. -/
def execWakePortMatch (address : BitVec 7) (t : Nat) (s : State) : Host.Outcome State Fault Refusal :=
  .next (if address = s.pwr.armed.addr then s.wake 1 t else s)

/-- WAKE_PIN (R507): WAKE_IN has held a level for 10 µs. -/
def execWakePin (low : Bool) (t : Nat) (s : State) : Host.Outcome State Fault Refusal :=
  .next (if low = s.pwr.armed.pinLow then s.wake 2 t else s)

/-- The first edge at least 2 ms after a wake event (R509). -/
def firstEdge (wake : Nat) : Nat := (wake + 2999999) / 1000000 * 1000000

/-- The blocks at the first beat after Chrysalis (R162, R196, R509): Solo, chains flushed, channels in SEARCH, buses and handshakes as at a
first beat. -/
def State.wakeBlocks (s : State) : State :=
  let a : State :=
    { s with
      sch := { s.sch with running := true }, cnd := s.cnd.wake, ctl := { s.ctl with prevSlack := none, joyMiss := none }
      gns := { s.gns with queue := [], recording := none, recorded := [], searching := none, burst := false, powered := !s.sch.watch } }
  let b := (List.range 384).foldl (fun (x : State) c => if (x.gns.ch c).state = .idle then x else x.research c) a
  b.leaveListen

/-- CHRYSALIS_FIRST_BEAT (R509): the schedule goes on with the edge at device time `t`, its BEAT_EDGE. -/
def execChrysalisFirstBeat (t : Nat) (s : State) : Host.Outcome State Fault Refusal :=
  .next (match s.pwr.mode, s.pwr.wakeAt with
    | .chrysalis, some w =>
      if s.img.powered && decide (t = firstEdge w) then
        let p := s.pwr.woken t s.sch.watch
        let a := s.reach t
        let b : State := { a with pwr := p.1, beat := { a.beat.prepare t with n := BitVec.ofNat 64 (t / 1000000) } }
        let c := (b.raise p.2).wakeBlocks
        { c with beat := { c.beat with n := c.beat.n - 1 } }
      else s
    | _, _ => s)

/-- PAD_RELEASE_DIRECT (R512): a write of 1 to PWR_PADREL.DIRECT. -/
def execPadReleaseDirect (who : Who) (s : State) : Host.Outcome State Fault Refusal :=
  .next (if s.awake then (s.accessed who 0x11 0x24).padRelease who 1 else s)

/-- PAD_RELEASE_ANN (R512): a write of 1 to PWR_PADREL.ANN. -/
def execPadReleaseAnn (who : Who) (s : State) : Host.Outcome State Fault Refusal :=
  .next (if s.awake then (s.accessed who 0x11 0x24).padRelease who 2 else s)

end Sys2Proof.Machine
end

