-- ==== Sys2Proof/Machine/CmdSolver.lean ====
section
/-! DEFINITION. Meanings of the solver's operations with what the estimator, the navigation solution and the allocator do inside
them, of the compensator operations and of Luna's (07_hawkmoth_solver.md R202 to R221; 08_estimation.md R234, R237;
10_thrust_allocation.md R294; 11_positioning_loop.md R301 to R324; 09_luna_grid_tracks.md R257 to R269). -/

namespace Sys2Proof.Config

/-- The candidate of a background job from what its first slice took (R220): six parameters of each of eight sensors. -/
opaque baCandidate : (snapshot : List Int) → (slices : Nat) → List Int

end Sys2Proof.Config

namespace Sys2Proof.Machine

open Sys2Proof

-- ## Roles of the solver's slots

/-- Is a slot the estimator's update or covariance problem (Table 8.8 gives slot plus 1), or the allocator's (Table 10.2)? -/
def State.isUpdSlot (s : State) (slot : Nat) : Bool := s.est.table.any (fun t => decide (t.slotUpd.toNat = slot + 1))
def State.isCovSlot (s : State) (slot : Nat) : Bool := s.est.table.any (fun t => decide (t.slotCov.toNat = slot + 1))
def State.isAlcSlot (s : State) (slot : Nat) : Bool := s.alc.table.any (fun t => decide (t.slot.toNat = slot + 1))

/-- The projection table from a structure to another (R212). -/
def State.projection (s : State) (from_ to_ : Word) : Option ProjTable :=
  s.sch.sched.bind (fun x => x.projections.find? (fun t => decide (t.fromSig = from_) && decide (t.toSig = to_)))

/-- Fraction bits of a quantity by the range table (R77); 31 where it does not list it. -/
def State.fracOf (s : State) (qid : Half) : Nat :=
  match s.sch.sched with
  | some x => match x.ranges.find? (fun r => decide (r.qid = qid)) with | some r => r.fracBits.toNat | none => 31
  | none => 31

/-- The variant in use. -/
def State.variantNow (s : State) : Option VariantEntry := s.variants.find? (fun v => decide (v.id = s.alc.variant))

-- ## LOAD

/-- Steps 4 and 5 of R294 where the slot is the allocator's: the demand of the beat and the problem's data. -/
def State.feedAllocator (s : State) (d : ProblemDesc) (data : ProblemData) : State × ProblemData :=
  let dm := (s.ctl.demand.getD 0 0, s.ctl.demand.getD 1 0, s.ctl.demand.getD 2 0)
  let a := s.alc.takeDemand dm (decide (s.ctl.mode = .standby))
  match s.variantNow with
  | none => ({ s with alc := a }, data)
  | some v => ({ s with alc := a }, a.problem v (s.fracOf d.qidX) (s.pub.est.shown.getD 3 0))

/-- The solver with what an operation on it did; a saturated accumulator is R78's for the problem's accumulator quantity (R197). -/
def State.withHwk (s : State) (qid : Half) (r : HwkSt × List Ev) : State :=
  { s with hwk := r.1, sch := if r.2.any (fun e => decide (e.1 = 0x0608)) then s.sch.saturate qid else s.sch }.raise r.2

/-- LOAD of a descriptor (R210): the estimator's tests stand before its update problem, the allocator's data before its own. -/
def State.loadStep (s : State) (op : OpRun) (d : ProblemDesc) (data : ProblemData) : State :=
  let slot := d.slot.toNat
  let s1 := if s.isUpdSlot slot then s.referenceTests else s
  let f := if s1.isAlcSlot slot then s1.feedAllocator d data else (s1, data)
  let old := Tab.get Praline.zero f.1.hwk.praline slot
  let p := loadProblem d f.2 old (f.1.projection old.keySig d.structSig) op.start.toNat
  f.1.withHwk d.qidAcc ({ f.1.hwk.putProblem slot p.1 with descs := Tab.set none f.1.hwk.descs slot (some d) }, p.2)

/-- LOAD (R210). -/
def execLoadOp (op : OpRun) (desc : Nat) (data : ProblemData) (s : State) : Host.Outcome State Fault Refusal :=
  .next (s.engineOp op (fun a =>
    match a.sch.sched.bind (fun x => x.problems[desc]?) with
    | none => a
    | some d => if d.kind = 5 ∨ (Tab.get none a.hwk.progress d.slot.toNat).isSome then a else a.loadStep op d data))

-- ## FACTOR and ITERATE

/-- The factor that FACTOR_SRC names (R209). -/
def HwkSt.reused (h : HwkSt) (d : ProblemDesc) : Option (List Int) :=
  if d.factorSrc = 0 then none else some (Tab.get [] h.factors (d.factorSrc.toNat - 1))

/-- QID_ACC of the problem in progress in a slot. -/
def HwkSt.qidAcc (h : HwkSt) (slot : Nat) : Half := match Tab.get none h.progress slot with | some p => p.desc.qidAcc | none => 0

/-- FACTOR (R204, R205) of a loaded problem. -/
def HwkSt.factor (h : HwkSt) (slot : Nat) : HwkSt × List Ev :=
  match Tab.get none h.progress slot with
  | some p => if p.phase = .loaded then let r := factorProblem p (h.reused p.desc); (h.putProblem slot r.1, r.2) else (h, [])
  | none => (h, [])

/-- ITERATE (R206 to R209); a problem without a FACTOR of its own takes the factor of FACTOR_SRC. -/
def HwkSt.iterate (h : HwkSt) (slot : Nat) : HwkSt × List Ev :=
  match Tab.get none h.progress slot with
  | some p =>
    if p.phase = .factored then let r := iterateProblem p; (h.putProblem slot r.1, r.2)
    else if p.phase = .loaded ∧ p.desc.factorCyc = 0 then
      let q := (factorProblem p (h.reused p.desc)).1
      let r := iterateProblem q
      (h.putProblem slot r.1, r.2)
    else (h, [])
  | none => (h, [])

/-- FACTOR (R204). -/
def execFactorOp (op : OpRun) (slot : Byte) (s : State) : Host.Outcome State Fault Refusal :=
  .next (s.engineOp op (fun a => a.withHwk (a.hwk.qidAcc slot.toNat) (a.hwk.factor slot.toNat)))

/-- ITERATE (R206). -/
def execIterateOp (op : OpRun) (slot : Byte) (s : State) : Host.Outcome State Fault Refusal :=
  .next (s.engineOp op (fun a => a.withHwk (a.hwk.qidAcc slot.toNat) (a.hwk.iterate slot.toNat)))

-- ## STORE

/-- ALLOCATION_POSTPROCESS (R294 steps 7 to 10) with the stored record and the problem's rows. -/
def State.allocPost (s : State) (d : ProblemDesc) (r : ProbResult) (z l u : List Int) : State :=
  let sameSig := match s.variantNow with | some v => decide (v.structSig = r.structSig) | none => false
  let a := s.alc.finish s.variants r.flags sameSig r.structSig (s.fracOf d.qidX) r.x z l u (s.pub.est.shown.getD 3 0)
  let b := a.1.selectNext s.variants
  { s with alc := b.1 }.raise (a.2 ++ b.2)

/-- What the consumers of a slot do with its record (R203): the estimator, the navigation solution, the allocator. -/
def State.consume (s : State) (slot : Nat) (d : ProblemDesc) (z l u : List Int) : State :=
  let r := Tab.get ProbResult.zero s.hwk.results slot
  let s1 := if s.isUpdSlot slot then s.estimateUpdate r.flags r.x else s
  let s2 := if s1.isCovSlot slot then s1.covarianceUpdate r.flags r.x else s1
  let s3 := if s2.isAlcSlot slot then s2.allocPost d r z l u else s2
  s3.navStore slot

/-- STORE (R213): the record, the Praline entry, the consumers and the completion event.  A slot stopped in LOAD gives its old
record with DL_LOAD. -/
def State.storeStep (s : State) (op : OpRun) (slot : Nat) : State :=
  let done := fun (a : State) => { a with sch := a.sch.signal (Config.completionEvent slot) }
  match Tab.get none s.hwk.progress slot with
  | some p =>
    let s1 := { s with hwk := s.hwk.store slot s.beat.n.toNat op.complete.toNat }
    done (s1.consume slot p.desc p.z p.data.l p.data.u)
  | none =>
    if (Tab.get ProbResult.zero s.hwk.results slot).flags.dlLoad then
      match Tab.get none s.hwk.descs slot with
      | some d => done (s.consume slot d [] [] [])
      | none => done s
    else s

/-- STORE (R213). -/
def execStoreOp (op : OpRun) (slot : Byte) (s : State) : Host.Outcome State Fault Refusal :=
  .next (s.engineOp op (fun a => a.storeStep op slot.toNat))

-- ## The background job and deadlines

/-- What slice 1 takes: the tracks as published, and the calibration (R220). -/
def State.baSnapshot (s : State) : List Int :=
  s.pub.lun.tracks.flatMap (fun (p : Nat × Track) => [(p.1 : Int), p.2.north, p.2.east, p.2.var]) ++
    (List.range 8).flatMap (fun k => Tab.get [] s.lun.cal.learned k)

/-- One slice of the round's job (R220): nothing more once it is discarded or whole. -/
def State.slice (s : State) (slot : Nat) (slices : Nat) : State :=
  let j := s.hwk.job
  if j.discarded then s
  else if j.done = 0 then
    let b : BaJob := { slot := slot, slices := slices, done := 1, discarded := false, snapshot := s.baSnapshot, candidate := none }
    { s with hwk := { s.hwk with job := if slices ≤ 1 then { b with candidate := some (Config.baCandidate b.snapshot slices) } else b
                                 jobs := if slices ≤ 1 then s.hwk.jobs + 1 else s.hwk.jobs } }
  else if j.slices ≤ j.done then s
  else
    let last := decide (j.done + 1 = j.slices)
    { s with hwk := { s.hwk with
        job := { j with done := j.done + 1, candidate := if last then some (Config.baCandidate j.snapshot j.slices) else none }
        jobs := if last then s.hwk.jobs + 1 else s.hwk.jobs } }

/-- BA_SLICE (R220). -/
def execBaSlice (op : OpRun) (slot : Byte) (slices : Nat) (s : State) : Host.Outcome State Fault Refusal :=
  .next (s.engineOp op (fun a => a.slice slot.toNat slices))

/-- A slice stopped at its deadline discards the job of the round (R221). -/
def HwkSt.stopSlice (h : HwkSt) (slot : Nat) : HwkSt × List Ev :=
  if h.job.discarded then (h, [])
  else
    ({ h with job := { h.job with slot := slot, discarded := true, candidate := none, snapshot := [] }, discards := h.discards + 1, flBa := true },
     [(0x0607, [wordN slot, wordN (h.job.done + 1), 1])])

/-- Does the active bank give a slot to a background job? -/
def State.isJobSlot (s : State) (slot : Nat) : Bool :=
  s.sch.sched.any (fun x => x.problems.any (fun d => decide (d.slot.toNat = slot) && decide (d.kind = 5)))

/-- WINDOW_BREACH with event 0x0103 (R63). -/
def State.breach (s : State) (op : OpRun) (opcode : Nat) : State :=
  { s with sch := { s.sch with flBreach := true } }.raise [(0x0103, [wordN op.engine.toNat, wordN opcode, wordN (s.sch.bip s.beat.n.toNat)])]

/-- The unfinished operation of a slot stops at its deadline (R214, R215, Table 7.5). -/
def State.stopAt (s : State) (op : OpRun) (slot deadline column done : Nat) : State :=
  if s.isJobSlot slot then
    let r := s.hwk.stopSlice slot
    { s.breach op 0x0205 with hwk := r.1 }.raise r.2
  else
    match Tab.get none s.hwk.progress slot with
    | none =>
      let r := s.hwk.stopInLoad slot deadline
      { s.breach op 0x0201 with hwk := r.1 }.raise r.2
    | some p =>
      let p1 := if p.phase = .loaded ∧ p.desc.factorCyc = 0 then (factorProblem p (s.hwk.reused p.desc)).1 else p
      let r := stopProblem p1 deadline column done
      let a := fun (code : Nat) => { s.breach op code with hwk := s.hwk.putProblem slot r.1 }.raise r.2
      match p1.phase with
      | .loaded => a 0x0202
      | .factored => a 0x0203
      | _ => s

/-- SOLVER_DEADLINE (R214, R63). -/
def execSolverDeadline (op : OpRun) (slot : Byte) (deadline : BitVec 20) (column done : Nat) (s : State) :
    Host.Outcome State Fault Refusal :=
  .next (s.engineOp op (fun a => a.stopAt op slot.toNat deadline.toNat column done))

-- ## Compensators

/-- The inputs of Table 11.1 from other blocks: capture fields, and conditioning channels with a value in use. -/
def State.slotExt (s : State) (kind idx : Nat) : Option Int :=
  if kind = 1 then (s.fbu.field s.beat.union (BitVec.ofNat 16 idx)).map Prod.fst
  else if kind = 6 then
    match (s.cnd.ch idx).use with
    | .fine => some (s.cnd.ch idx).fine
    | .fast => some (s.cnd.ch idx).fast
    | .none => none
  else none

/-- FORCE_REF and MOMENT_REF by degree of freedom. -/
def State.forceRefs (s : State) : List Nat :=
  match s.alc.table with | some t => [t.forceRef.toNat, t.forceRef.toNat, t.momentRef.toNat] | none => [0, 0, 0]

/-- A compensator slot of another input than a GNSS loop runs (R301 to R305). -/
def State.runPlain (s : State) (k : Nat) : State :=
  let r := s.ctl.runSlot s.pub.ctl s.beat.n.toNat s.pub.beat.toNat s.forceRefs s.slotExt k
  { s with ctl := r.1, sch := match r.2.2 with | some q => s.sch.saturate q | none => s.sch }.raise r.2.1

/-- A loop slot of a tracking channel (R174, R175): it reads the discriminator averaged since its last run, and its output
sets the oscillator's rate offset. -/
def State.runLoop (s : State) (k ch : Nat) (carrier : Bool) : State :=
  let d := (s.gns.ch ch).takeDisc carrier
  let r := s.ctl.runSlot s.pub.ctl s.beat.n.toNat s.pub.beat.toNat s.forceRefs (fun _ _ => some d.1) k
  let khz := match s.gns.table with
    | some t => match t.streams[(d.2.stream).toNat]? with | some x => streamKhz x.rate | none => 0
    | none => 0
  let c := match signalDef d.2.signal (d.2.sv.toNat / 256) with
    | some sd => d.2.setLoop sd khz carrier (r.1.slot k).out r.2.2.isSome
    | none => d.2
  { s with ctl := r.1, gns := s.gns.setCh ch c, sch := match r.2.2 with | some q => s.sch.saturate q | none => s.sch }.raise r.2.1

/-- One slot of a group: only one that is due runs (R303). -/
def State.runSlot (s : State) (k : Nat) : State :=
  match s.ctl.slotCfg k with
  | none => s
  | some c =>
    if !slotDue c s.beat.n.toNat then s
    else if bits c.input 31 28 = 5 then s.runLoop k (bits c.input 27 1) (bitOf c.input 0)
    else s.runPlain k

/-- Is the followed binding valid (R268)? -/
def State.tgtBound (s : State) : Bool := (Tab.get Binding.zero s.lun.bindings s.ctl.tgt.toNat).bound

/-- The start of the beat's CTL work (R324): joystick, permissives, automatic mode rows, then staged mode and setpoint
requests. -/
def State.ctlBegin (s : State) : State :=
  let usable := (s.alc.cfgs.filter (fun p => decide (s.alc.stateOf p.1 = .available) || decide (s.alc.stateOf p.1 = .locked))).length
  let field := fun (f : Half) => (s.fbu.fieldU s.beat.union f).map Prod.fst
  let r := s.ctl.begin_ s.estView field usable s.tgtBound s.sch.watch
  let w := r.1.waiting
  let s1 := { s with ctl := { r.1 with waiting := [] } }.raise r.2
  w.foldl (fun (a : State) (p : Word × Word) => a.commitStaged 0 p.1 p.2) s1

/-- COMPENSATOR_OP (R301, R324). -/
def execCompensatorOp (op : OpRun) (step : CmpStep) (s : State) : Host.Outcome State Fault Refusal :=
  .next (s.engineOp op (fun a =>
    match step with
    | .begin_ => a.ctlBegin
    | .advance => { a with ctl := a.ctl.advance a.estView }
    | .runSlots l => l.foldl State.runSlot a
    | .law => { a with ctl := a.ctl.law a.estView }
    | .loops => let r := a.ctl.loops a.estView; { a with ctl := r.1 }.raise r.2))

-- ## Luna

/-- The tile items of a network complete for the next edge (R262, R21). -/
def State.offerTile (s : State) (source : Nat) (t : Nat × List Word × Nat) : State :=
  let quota := match s.lun.table with | some x => (x.quota.getD source 0).toNat | none => 0
  let i := { s.sidedItem 4 source (BitVec.ofNat 16 (0x4300 + source)) 4112 t.2.2 t.2.1 with ident := wordN t.1 }
  s.offer i quota

/-- The next layers of a source's network, with LEARNED of the last published record (R13), and its tiles (R257, R260, R262). -/
def State.layers (s : State) (source count : Nat) : State :=
  let r := s.lun.runLayers s.pub.lun.cal.learned source count
  r.2.foldl (fun (a : State) t => a.offerTile source t) { s with lun := r.1 }

/-- TRACK and its target samples (R266, R269), which the estimator takes in the next beat. -/
def State.trackStep (s : State) : State :=
  let pose := (s.est.prevPose.getD 0 0, s.est.prevPose.getD 1 0, s.est.prevPose.getD 2 0)
  let r := s.lun.track pose (wordN s.beat.n.toNat)
  let offer := fun (e : EstSt) (x : Nat × Int × Int × Nat) =>
    e.queueOffer { source := BitVec.ofNat 16 (0x4600 + x.1), sideB := s.pai.sideB, shared := true, vals := [x.2.1, x.2.2.1], sigma := none,
                   reject := false, instant := (x.2.2.2 : Int), fromBeat := s.beat.n.toNat + 1,
                   slot := some (Tab.get Binding.zero r.1.bindings x.1).slot.toNat }
  { s with
    lun := { r.1 with assocNow := maskOf 8 (r.2.2.map (fun (x : Nat × Int × Int × Nat) => x.1)) }
    est := r.2.2.foldl offer s.est }.raise r.2.1

/-- LUNA_OP (R257, R263, R266). -/
def execLunaOp (op : OpRun) (work : LunWork) (s : State) : Host.Outcome State Fault Refusal :=
  .next (s.engineOp op (fun a =>
    match work with
    | .layers source count => a.layers source.toNat count
    | .fuse => { a with lun := a.lun.fuse a.beat.union }
    | .track => a.trackStep))

end Sys2Proof.Machine
end

