-- ==== Sys2Proof/Machine/CmdSvc.lean ====
section
/-! DEFINITION. Meanings of the service-fabric commands (19_service_fabric.md), of plain register writes (R4), and of the answers of the
MACs (R393) and the NVM (R504). -/

namespace Sys2Proof.Machine

open Sys2Proof

/-- The fabric with what one of its operations did. -/
def State.withSvc (s : State) (r : SvcR) : State := { s with svc := r.1 }.raise r.2

-- ## Arbitration

/-- REQUEST_RAISE (R516): `cycle` is a service cycle. -/
def execRequestRaise (input : BitVec 4) (cycle : Nat) (s : State) : Host.Outcome State Fault Refusal :=
  .next (if s.awake then { s with svc := s.svc.request input cycle } else s)

/-- ARBITER_DECISION (R517 to R519): `wordStart` is the cycle at which the last word of the grant in progress began, `words` what the
grant moved. -/
def execArbiterDecision (cycle wordStart words : Nat) (s : State) : Host.Outcome State Fault Refusal :=
  .next (if s.awake then { s with svc := s.svc.decision cycle wordStart words } else s)

/-- HOLD_LIMIT_CUT (R520): `address` is that of the last word. -/
def execHoldLimitCut (address : Word) (words cycle : Nat) (s : State) : Host.Outcome State Fault Refusal :=
  .next (if s.awake then s.withSvc (s.svc.cut address words cycle) else s)

-- ## Register access

/-- ARB_CFG_WRITE (R521): a write of SVC_ARB_CFG. -/
def execArbCfgWrite (who : Who) (value : Word) (s : State) : Host.Outcome State Fault Refusal :=
  .next (if s.awake then s.writeReg who 0x00120020 value else s)

/-- PAIR_LOW_READ (R524): a read of the low word of a pair. -/
def execPairLowRead (who : Who) (address : Word) (s : State) : Host.Outcome State Fault Refusal :=
  .next (if s.awake && isPairLow (address.toNat / 65536) (address.toNat % 65536) then (s.readReg who address).1 else s)

/-- REGISTER_WRITE (R4, R5, R522, R525). -/
def execRegisterWrite (who : Who) (address value : Word) (s : State) : Host.Outcome State Fault Refusal :=
  .next (if s.awake then s.writeReg who address value else s)

-- ## Debug port

/-- An instruction of the port and what its data register shifts out (Table 19.3). -/
def State.withJtag (s : State) (instr : BitVec 8) (dr : BitVec 136) : State :=
  { s with svc := { s.svc with jtag := { s.svc.jtag with instr := instr, dr := dr } } }

/-- IDCODE's data register: stepping number, part and manufacturer (Table 19.3). -/
def idcodeDr : BitVec 136 := 0x103C0947

/-- BYPASS (R526): the 1-bit register. -/
def execBypass (s : State) : Host.Outcome State Fault Refusal :=
  .next (if s.awake then s.withJtag 0xFF 0 else s)

/-- IDCODE (R526). -/
def execIdcode (s : State) : Host.Outcome State Fault Refusal :=
  .next (if s.awake then s.withJtag 0x02 idcodeDr else s)

/-- EXTEST (R526): accepted only while nRESET_IN is low, otherwise BYPASS. -/
def execExtest (bits : List Bool) (s : State) : Host.Outcome State Fault Refusal :=
  .next (if s.awake then
      if s.img.nresetIn then let a := s.withJtag 0x00 0; { a with svc := { a.svc with jtag := { a.svc.jtag with boundary := bits } } }
      else s.withJtag 0xFF 0
    else s)

/-- SAMPLE_PRELOAD (R526): the boundary-scan register is loaded. -/
def execSamplePreload (bits : List Bool) (s : State) : Host.Outcome State Fault Refusal :=
  .next (if s.awake then let a := s.withJtag 0x01 0; { a with svc := { a.svc with jtag := { a.svc.jtag with boundary := bits } } } else s)

/-- DBG_CHALLENGE (R526, R527): `nonce` is fresh. -/
def execDbgChallenge (nonce : BitVec 128) (s : State) : Host.Outcome State Fault Refusal :=
  .next (if s.awake then
      let a := s.withJtag 0x10 (nonce.setWidth 136)
      { a with svc := { a.svc with jtag := { a.svc.jtag with nonce := some nonce } } }
    else s)

/-- DBG_AUTH (R527). -/
def execDbgAuth (slot : Byte) (tag : BitVec 128) (s : State) : Host.Outcome State Fault Refusal :=
  .next (if s.awake then s.withSvc (s.svc.debugAuth s.img.otp slot tag) else s)

/-- The debug port as a requester: input 14 with the Maintainer role (R527, R530). -/
def Who.debug : Who := { input := 14, session := 0, role := 4 }

/-- What an access of the debug port answers on the next shift (Table 19.3). -/
def State.dbgResult (s : State) (read : Word) (status : BitVec 2) : State :=
  { s with svc := { s.svc with jtag := { s.svc.jtag with dbgRead := read, dbgStatus := status } } }

/-- DBG_ACCESS (R525 to R527): the result of the access before is shifted out, and the access is served or REFUSED. -/
def execDbgAccess (address data : Word) (write : Bool) (s : State) : Host.Outcome State Fault Refusal :=
  .next (if s.awake then
      let j := s.svc.jtag
      let a := s.withJtag 0x12 (j.dbgRead.setWidth 136 ||| j.dbgStatus.setWidth 136 <<< 32)
      if s.svc.debugServed s.img.otp then
        if write then (a.writeReg Who.debug address data).dbgResult 0 0
        else let r := a.readReg Who.debug address; r.1.dbgResult r.2 0
      else a.dbgResult 0 1
    else s)

/-- OTP_PROG (R528): one item, or REFUSED. -/
def execOtpProg (item : OtpItem) (s : State) : Host.Outcome State Fault Refusal :=
  .next (if s.awake then
      let a := s.withJtag 0x20 0
      let r := otpProg s.img.otp item
      match s.svc.debugServed s.img.otp, r.2 with
      | true, some p => ({ a with img := { a.img with otp := r.1 } }.dbgResult 0 0).raise [(0x1205, p)]
      | _, _ => a.dbgResult 0 1
    else s)

/-- JTAG_TRST (R526, R527). -/
def execJtagTrst (s : State) : Host.Outcome State Fault Refusal :=
  .next (if s.awake then (s.withSvc s.svc.debugEnd).withJtag 0x02 idcodeDr else s)

/-- DEBUG_AUTH_TIMEOUT (R527): 600 s without DBG_ACCESS. -/
def execDebugAuthTimeout (s : State) : Host.Outcome State Fault Refusal :=
  .next (if s.awake then s.withSvc s.svc.debugEnd else s)

-- ## Counters and tags

/-- COUNTER_COLLECTION (R532, R533): `t0` is the device time of the first read, `latNs` its delay from the edge. -/
def execCounterCollection (t0 : Nat) (latNs : Half) (s : State) : Host.Outcome State Fault Refusal :=
  .next (if s.edgesRun && decide (s.beatNo % s.svc.pcWindow.toNat = 0) then { s with svc := s.svc.collect t0 latNs } else s)

/-- The registers of counter configuration (R531, R532). -/
def counterReg (address : Word) : Bool := [0x00120030, 0x00128000, 0x00128004, 0x00128008].contains address.toNat

/-- COUNTER_CONFIG_WRITE (R531). -/
def execCounterConfigWrite (who : Who) (address value : Word) (s : State) : Host.Outcome State Fault Refusal :=
  .next (if s.awake && counterReg address then s.writeReg who address value else s)

/-- TAG_SEED_WRITE (R534): a write of SVC_TAG_SEED. -/
def execTagSeedWrite (who : Who) (value : Word) (s : State) : Host.Outcome State Fault Refusal :=
  .next (if s.awake then s.writeReg who 0x00120050 value else s)

/-- TAGGER_ENABLE (R534): a write of SVC_TAG_CFG. -/
def execTaggerEnable (who : Who) (value : Word) (s : State) : Host.Outcome State Fault Refusal :=
  .next (if s.awake then s.writeReg who 0x00120048 value else s)

/-- TAG_COMPLETE (R535). -/
def execTagComplete (cycle stall : BitVec 20) (stopped : Bool) (s : State) : Host.Outcome State Fault Refusal :=
  .next (if s.sch.running then s.withSvc (s.svc.tagComplete cycle stall stopped) else s)

/-- TAG_WINDOW_LOCK (R535): a read of SVC_T_W0. -/
def execTagWindowLock (who : Who) (s : State) : Host.Outcome State Fault Refusal :=
  .next (if s.awake then (s.readReg who 0x00129000).1 else s)

/-- TAG_WINDOW_RELEASE (R535): a read of SVC_T_W7. -/
def execTagWindowRelease (who : Who) (s : State) : Host.Outcome State Fault Refusal :=
  .next (if s.awake then (s.readReg who 0x0012901C).1 else s)

-- ## MACs and NVM

/-- ARP_ICMP_ECHO (R393): a port with its link up and its address answers. -/
def execArpIcmpEcho (port : BitVec 2) (s : State) : Host.Outcome State Fault Refusal :=
  .next (
    let p := Tab.get PortSt.zero s.hst.ports port.toNat
    if s.fioOn && p.up && s.hst.netCfg.isSome then
      { s with hst := { s.hst with ports := Tab.set PortSt.zero s.hst.ports port.toNat { p with echoed := p.echoed + 1 } } }
    else s)

/-- NVM_ACCESS_COMPLETE (R504): the NVM is free for the next access. -/
def execNvmAccessComplete (s : State) : Host.Outcome State Fault Refusal :=
  .next { s with hst := { s.hst with nvmBusy := false } }

end Sys2Proof.Machine
end

