-- ==== Sys2Proof/Machine/Dispatch.lean ====
section
/-! DEFINITION. The one dispatch: each command goes to its meaning. -/

namespace Sys2Proof.Machine

open Sys2Proof

/-- The effect of a command on everything but the queue. -/
def exec (i : Instr) (s : State) : Host.Outcome State Fault Refusal :=
  match i with
  | .beatEdge inp => Sys2Proof.Machine.execBeatEdge inp s
  | .endOp op => Sys2Proof.Machine.execEndOp op s
  | .waitCycle op until_ => Sys2Proof.Machine.execWaitCycle op until_ s
  | .signalOp op event => Sys2Proof.Machine.execSignalOp op event s
  | .waitEvent op event => Sys2Proof.Machine.execWaitEvent op event s
  | .waitRelease op => Sys2Proof.Machine.execWaitRelease op s
  | .captureOp op => Sys2Proof.Machine.execCaptureOp op s
  | .loadOp op desc data => Sys2Proof.Machine.execLoadOp op desc data s
  | .factorOp op slot => Sys2Proof.Machine.execFactorOp op slot s
  | .iterateOp op slot => Sys2Proof.Machine.execIterateOp op slot s
  | .storeOp op slot => Sys2Proof.Machine.execStoreOp op slot s
  | .baSlice op slot slices => Sys2Proof.Machine.execBaSlice op slot slices s
  | .solverDeadline op slot deadline column done => Sys2Proof.Machine.execSolverDeadline op slot deadline column done s
  | .compensatorOp op step => Sys2Proof.Machine.execCompensatorOp op step s
  | .publishOp op => Sys2Proof.Machine.execPublishOp op s
  | .lunaOp op work => Sys2Proof.Machine.execLunaOp op work s
  | .selfTestOp op sliceOk corrected readings => Sys2Proof.Machine.execSelfTestOp op sliceOk corrected readings s
  | .overrunCheck => Sys2Proof.Machine.execOverrunCheck s
  | .beatRestartResume => Sys2Proof.Machine.execBeatRestartResume s
  | .beatFault source address => Sys2Proof.Machine.execBeatFault source address s
  | .bankLoadBegin h offset nData => Sys2Proof.Machine.execBankLoadBegin h offset nData s
  | .bankLoadData h offset data => Sys2Proof.Machine.execBankLoadData h offset data s
  | .bankLoadEnd h offset nData => Sys2Proof.Machine.execBankLoadEnd h offset nData s
  | .bankLoadAbort h nData => Sys2Proof.Machine.execBankLoadAbort h nData s
  | .bankVerifyDone img => Sys2Proof.Machine.execBankVerifyDone img s
  | .bankLoadTimeout => Sys2Proof.Machine.execBankLoadTimeout s
  | .bankSwitch h imageId => Sys2Proof.Machine.execBankSwitch h imageId s
  | .bankSwitchApply => Sys2Proof.Machine.execBankSwitchApply s
  | .schOvrCfgWrite who value => Sys2Proof.Machine.execSchOvrCfgWrite who value s
  | .peakClear who => Sys2Proof.Machine.execPeakClear who s
  | .powerGood cocoon straps sideB lockBad => Sys2Proof.Machine.execPowerGood cocoon straps sideB lockBad s
  | .fusesRead => Sys2Proof.Machine.execFusesRead s
  | .nresetOutRelease => Sys2Proof.Machine.execNresetOutRelease s
  | .nvmDiscovery sfdp0 sfdp1 modes maxMhz sizeLog2 => Sys2Proof.Machine.execNvmDiscovery sfdp0 sfdp1 modes maxMhz sizeLog2 s
  | .provisionalApply net time => Sys2Proof.Machine.execProvisionalApply net time s
  | .imageReadDone img us => Sys2Proof.Machine.execImageReadDone img us s
  | .nvmReadStall => Sys2Proof.Machine.execNvmReadStall s
  | .sectionsDelivered => Sys2Proof.Machine.execSectionsDelivered s
  | .firstBeat t us => Sys2Proof.Machine.execFirstBeat t us s
  | .frontEndReadback port values => Sys2Proof.Machine.execFrontEndReadback port values s
  | .nresetInAssert widthNs => Sys2Proof.Machine.execNresetInAssert widthNs s
  | .nresetInRelease => Sys2Proof.Machine.execNresetInRelease s
  | .resetImage h => Sys2Proof.Machine.execResetImage h s
  | .supplyTrip => Sys2Proof.Machine.execSupplyTrip s
  | .ptpMessageReceive port parentClass offset portState utcOffset t => Sys2Proof.Machine.execPtpMessageReceive port parentClass offset portState utcOffset t s
  | .ptpMasterSend port => Sys2Proof.Machine.execPtpMasterSend port s
  | .ppsInEdge t label => Sys2Proof.Machine.execPpsInEdge t label s
  | .ppsInTimeout => Sys2Proof.Machine.execPpsInTimeout s
  | .ppsOutPulseEnd => Sys2Proof.Machine.execPpsOutPulseEnd s
  | .timeStepArm h => Sys2Proof.Machine.execTimeStepArm h s
  | .armExpired => Sys2Proof.Machine.execArmExpired s
  | .timeStepApply => Sys2Proof.Machine.execTimeStepApply s
  | .leapSecond diff atTime fromGnss => Sys2Proof.Machine.execLeapSecond diff atTime fromGnss s
  | .learnedRateSave => Sys2Proof.Machine.execLearnedRateSave s
  | .alarmReached alarm => Sys2Proof.Machine.execAlarmReached alarm s
  | .chainSample channel input otherBad => Sys2Proof.Machine.execChainSample channel input otherBad s
  | .sourceStuck channel => Sys2Proof.Machine.execSourceStuck channel s
  | .cndFreeze channel value => Sys2Proof.Machine.execCndFreeze channel value s
  | .srcReturn channel => Sys2Proof.Machine.execSrcReturn channel s
  | .cndCtrlApply channel => Sys2Proof.Machine.execCndCtrlApply channel s
  | .correlatorDump channel d => Sys2Proof.Machine.execCorrelatorDump channel d s
  | .acqRecordDone => Sys2Proof.Machine.execAcqRecordDone s
  | .acqSearchDone peak => Sys2Proof.Machine.execAcqSearchDone peak s
  | .acqHandoff channel => Sys2Proof.Machine.execAcqHandoff channel s
  | .pullInDone channel => Sys2Proof.Machine.execPullInDone channel s
  | .pullInTimeout channel => Sys2Proof.Machine.execPullInTimeout channel s
  | .trackLowCn0 channel => Sys2Proof.Machine.execTrackLowCn0 channel s
  | .coastExpired channel => Sys2Proof.Machine.execCoastExpired channel s
  | .notchRelease stream => Sys2Proof.Machine.execNotchRelease stream s
  | .spoofClear sideB => Sys2Proof.Machine.execSpoofClear sideB s
  | .gnssAid h north east sigma => Sys2Proof.Machine.execGnssAid h north east sigma s
  | .gnssEph h sv words => Sys2Proof.Machine.execGnssEph h sv words s
  | .gnssAmbRead h latchBeat => Sys2Proof.Machine.execGnssAmbRead h latchBeat s
  | .gnssAmbFix h latchBeat sats ints => Sys2Proof.Machine.execGnssAmbFix h latchBeat sats ints s
  | .watchBurstStart => Sys2Proof.Machine.execWatchBurstStart s
  | .watchBurstEnd => Sys2Proof.Machine.execWatchBurstEnd s
  | .referenceStale slot => Sys2Proof.Machine.execReferenceStale slot s
  | .initBeatsEnd => Sys2Proof.Machine.execInitBeatsEnd s
  | .deselectRef h slot => Sys2Proof.Machine.execDeselectRef h slot s
  | .selectRef h slot => Sys2Proof.Machine.execSelectRef h slot s
  | .resetOrigin h slot => Sys2Proof.Machine.execResetOrigin h slot s
  | .csiFrameStart port vc dataType t => Sys2Proof.Machine.execCsiFrameStart port vc dataType t s
  | .csiFrameEnd port vc dataType error stamp data t => Sys2Proof.Machine.execCsiFrameEnd port vc dataType error stamp data t s
  | .lidarDatagram source data t => Sys2Proof.Machine.execLidarDatagram source data t s
  | .targetBind h binding track gen slot => Sys2Proof.Machine.execTargetBind h binding track gen slot s
  | .targetClear h binding => Sys2Proof.Machine.execTargetClear h binding s
  | .calFreeze h sensors => Sys2Proof.Machine.execCalFreeze h sensors s
  | .calUnfreeze h sensors => Sys2Proof.Machine.execCalUnfreeze h sensors s
  | .calAccept h sensors => Sys2Proof.Machine.execCalAccept h sensors s
  | .calReset h sensors => Sys2Proof.Machine.execCalReset h sensors s
  | .calibrationApply => Sys2Proof.Machine.execCalibrationApply s
  | .deviceOut h device => Sys2Proof.Machine.execDeviceOut h device s
  | .deviceIn h device => Sys2Proof.Machine.execDeviceIn h device s
  | .deviceUnlock h device => Sys2Proof.Machine.execDeviceUnlock h device s
  | .sectorEnable h device mask => Sys2Proof.Machine.execSectorEnable h device mask s
  | .variantOverride h variant enable => Sys2Proof.Machine.execVariantOverride h variant enable s
  | .setMode h mode => Sys2Proof.Machine.execSetMode h mode s
  | .setPoint h north east heading goPos goPsi turn => Sys2Proof.Machine.execSetPoint h north east heading goPos goPsi turn s
  | .goPos h => Sys2Proof.Machine.execGoPos h s
  | .goPsi h turn withPos => Sys2Proof.Machine.execGoPsi h turn withPos s
  | .setTarget h binding => Sys2Proof.Machine.execSetTarget h binding s
  | .winchModeRequest h winch mode => Sys2Proof.Machine.execWinchModeRequest h winch mode s
  | .stabEnable h stab enable => Sys2Proof.Machine.execStabEnable h stab enable s
  | .coefApply who h slot => Sys2Proof.Machine.execCoefApply who h slot s
  | .joyTimeout => Sys2Proof.Machine.execJoyTimeout s
  | .targetLoss => Sys2Proof.Machine.execTargetLoss s
  | .holdTimeout t => Sys2Proof.Machine.execHoldTimeout t s
  | .holdLimitExpire output atEdge => Sys2Proof.Machine.execHoldLimitExpire output atEdge s
  | .outputRelease who output => Sys2Proof.Machine.execOutputRelease who output s
  | .hostValueWrite who output value => Sys2Proof.Machine.execHostValueWrite who output value s
  | .vlcdFault => Sys2Proof.Machine.execVlcdFault s
  | .canFrameReceive channel frame t => Sys2Proof.Machine.execCanFrameReceive channel frame t s
  | .transmitWindowOpen channel window t => Sys2Proof.Machine.execTransmitWindowOpen channel window t s
  | .frameSent channel => Sys2Proof.Machine.execFrameSent channel s
  | .arbitrationLost channel => Sys2Proof.Machine.execArbitrationLost channel s
  | .busError channel tec rxc => Sys2Proof.Machine.execBusError channel tec rxc s
  | .windowAbort channel => Sys2Proof.Machine.execWindowAbort channel s
  | .busOffRecovered channel => Sys2Proof.Machine.execBusOffRecovered channel s
  | .forceActive who channel => Sys2Proof.Machine.execForceActive who channel s
  | .recover who channel => Sys2Proof.Machine.execRecover who channel s
  | .renegotiate who channel => Sys2Proof.Machine.execRenegotiate who channel s
  | .bufferHeadRead who channel buffer => Sys2Proof.Machine.execBufferHeadRead who channel buffer s
  | .bufferEndRead who channel buffer => Sys2Proof.Machine.execBufferEndRead who channel buffer s
  | .lockExpired channel buffer => Sys2Proof.Machine.execLockExpired channel buffer s
  | .windowCopyWrite who channel copy window value => Sys2Proof.Machine.execWindowCopyWrite who channel copy window value s
  | .winSwitch who mask => Sys2Proof.Machine.execWinSwitch who mask s
  | .windowSwitchApply => Sys2Proof.Machine.execWindowSwitchApply s
  | .refSilent channel => Sys2Proof.Machine.execRefSilent channel s
  | .replyTimeout channel address => Sys2Proof.Machine.execReplyTimeout channel address s
  | .sentenceComplete port text t => Sys2Proof.Machine.execSentenceComplete port text t s
  | .serialRateDetect port rate => Sys2Proof.Machine.execSerialRateDetect port rate s
  | .ethSensorDatagram port group udpPort lines t => Sys2Proof.Machine.execEthSensorDatagram port group udpPort lines t s
  | .ringReset who ring => Sys2Proof.Machine.execRingReset who ring s
  | .xhpRequest q => Sys2Proof.Machine.execXhpRequest q s
  | .xhpResponse => Sys2Proof.Machine.execXhpResponse s
  | .openSession h slot role nonceH => Sys2Proof.Machine.execOpenSession h slot role nonceH s
  | .closeSession h => Sys2Proof.Machine.execCloseSession h s
  | .keepalive h => Sys2Proof.Machine.execKeepalive h s
  | .sessionIdle session => Sys2Proof.Machine.execSessionIdle session s
  | .readSnapshot h beat extents => Sys2Proof.Machine.execReadSnapshot h beat extents s
  | .readReg h addresses => Sys2Proof.Machine.execReadReg h addresses s
  | .readRecorder h fromSeq maxRecords => Sys2Proof.Machine.execReadRecorder h fromSeq maxRecords s
  | .ringRead h ring maxEntries => Sys2Proof.Machine.execRingRead h ring maxEntries s
  | .ringWrite h ring data => Sys2Proof.Machine.execRingWrite h ring data s
  | .streamAdd h dest => Sys2Proof.Machine.execStreamAdd h dest s
  | .streamRemove h dest => Sys2Proof.Machine.execStreamRemove h dest s
  | .regionWrite h region part offset data lastPart => Sys2Proof.Machine.execRegionWrite h region part offset data lastPart s
  | .writeReg h pairs => Sys2Proof.Machine.execWriteReg h pairs s
  | .nvmWrite h chip address data => Sys2Proof.Machine.execNvmWrite h chip address data s
  | .nvmErase h chip address length eraseSize => Sys2Proof.Machine.execNvmErase h chip address length eraseSize s
  | .otpRevoke h hostSlot slot => Sys2Proof.Machine.execOtpRevoke h hostSlot slot s
  | .otpMinSecver h secver => Sys2Proof.Machine.execOtpMinSecver h secver s
  | .ethLinkChange port up mbit => Sys2Proof.Machine.execEthLinkChange port up mbit s
  | .pairActInEdge t => Sys2Proof.Machine.execPairActInEdge t s
  | .pairActInSilent t => Sys2Proof.Machine.execPairActInSilent t s
  | .claimArmExpire => Sys2Proof.Machine.execClaimArmExpire s
  | .linkTrained lanes => Sys2Proof.Machine.execLinkTrained lanes s
  | .linkDown => Sys2Proof.Machine.execLinkDown s
  | .linkRetry => Sys2Proof.Machine.execLinkRetry s
  | .linkCapture hdr items => Sys2Proof.Machine.execLinkCapture hdr items s
  | .linkToken hdr token t => Sys2Proof.Machine.execLinkToken hdr token t s
  | .tokenDeadline => Sys2Proof.Machine.execTokenDeadline s
  | .linkCommit hdr beat incl check => Sys2Proof.Machine.execLinkCommit hdr beat incl check s
  | .commitDeadline => Sys2Proof.Machine.execCommitDeadline s
  | .linkSignature hdr beat sig => Sys2Proof.Machine.execLinkSignature hdr beat sig s
  | .signatureCompare => Sys2Proof.Machine.execSignatureCompare s
  | .joinReq hdr req => Sys2Proof.Machine.execJoinReq hdr req s
  | .joinAccept hdr kind pairId => Sys2Proof.Machine.execJoinAccept hdr kind pairId s
  | .joinRefuse hdr cause => Sys2Proof.Machine.execJoinRefuse hdr cause s
  | .linkPage hdr number data => Sys2Proof.Machine.execLinkPage hdr number data s
  | .linkFast hdr offset data => Sys2Proof.Machine.execLinkFast hdr offset data s
  | .linkAdopt hdr beat => Sys2Proof.Machine.execLinkAdopt hdr beat s
  | .adoptEnd hdr beat pages => Sys2Proof.Machine.execAdoptEnd hdr beat pages s
  | .adoptionDeadline => Sys2Proof.Machine.execAdoptionDeadline s
  | .linkDemote hdr cause => Sys2Proof.Machine.execLinkDemote hdr cause s
  | .linkHealth hdr word => Sys2Proof.Machine.execLinkHealth hdr word s
  | .provingComplete => Sys2Proof.Machine.execProvingComplete s
  | .pairSwap h => Sys2Proof.Machine.execPairSwap h s
  | .pairDemote h => Sys2Proof.Machine.execPairDemote h s
  | .joinBlock h => Sys2Proof.Machine.execJoinBlock h s
  | .joinAllow h => Sys2Proof.Machine.execJoinAllow h s
  | .activeClaimStop => Sys2Proof.Machine.execActiveClaimStop s
  | .swapClaim t => Sys2Proof.Machine.execSwapClaim t s
  | .islandCycle inp => Sys2Proof.Machine.execIslandCycle inp s
  | .siDiscrepancy pair => Sys2Proof.Machine.execSiDiscrepancy pair s
  | .soTestPulse pair seen => Sys2Proof.Machine.execSoTestPulse pair seen s
  | .soReadbackFault pair => Sys2Proof.Machine.execSoReadbackFault pair s
  | .plausibilityTimeout entry => Sys2Proof.Machine.execPlausibilityTimeout entry s
  | .globalFault diagnostic detail => Sys2Proof.Machine.execGlobalFault diagnostic detail s
  | .safResetArm h mask => Sys2Proof.Machine.execSafResetArm h mask s
  | .safArmExpired => Sys2Proof.Machine.execSafArmExpired s
  | .islandSelfTestDone us => Sys2Proof.Machine.execIslandSelfTestDone us s
  | .eventRaise code params => Sys2Proof.Machine.execEventRaise code params s
  | .recordWrite secs => Sys2Proof.Machine.execRecordWrite secs s
  | .bucketRefill code => Sys2Proof.Machine.execBucketRefill code s
  | .recorderScan => Sys2Proof.Machine.execRecorderScan s
  | .deferredEventRelease => Sys2Proof.Machine.execDeferredEventRelease s
  | .opsecSave secs => Sys2Proof.Machine.execOpsecSave secs s
  | .recordWindowLock who => Sys2Proof.Machine.execRecordWindowLock who s
  | .recordWindowRelease who => Sys2Proof.Machine.execRecordWindowRelease who s
  | .domainIdleExpire domain => Sys2Proof.Machine.execDomainIdleExpire domain s
  | .powerRun h flags address alarm => Sys2Proof.Machine.execPowerRun h flags address alarm s
  | .powerWatch h flags address alarm => Sys2Proof.Machine.execPowerWatch h flags address alarm s
  | .powerChrysalis h flags address alarm => Sys2Proof.Machine.execPowerChrysalis h flags address alarm s
  | .powerCocoon h flags address alarm => Sys2Proof.Machine.execPowerCocoon h flags address alarm s
  | .handshakeAnswer calWriting => Sys2Proof.Machine.execHandshakeAnswer calWriting s
  | .handshakeTimeout => Sys2Proof.Machine.execHandshakeTimeout s
  | .programSwitch => Sys2Proof.Machine.execProgramSwitch s
  | .lowPowerEntry => Sys2Proof.Machine.execLowPowerEntry s
  | .wakePortMatch address t => Sys2Proof.Machine.execWakePortMatch address t s
  | .wakePin low t => Sys2Proof.Machine.execWakePin low t s
  | .chrysalisFirstBeat t => Sys2Proof.Machine.execChrysalisFirstBeat t s
  | .padReleaseDirect who => Sys2Proof.Machine.execPadReleaseDirect who s
  | .padReleaseAnn who => Sys2Proof.Machine.execPadReleaseAnn who s
  | .requestRaise input cycle => Sys2Proof.Machine.execRequestRaise input cycle s
  | .arbiterDecision cycle wordStart words => Sys2Proof.Machine.execArbiterDecision cycle wordStart words s
  | .holdLimitCut address words cycle => Sys2Proof.Machine.execHoldLimitCut address words cycle s
  | .arbCfgWrite who value => Sys2Proof.Machine.execArbCfgWrite who value s
  | .pairLowRead who address => Sys2Proof.Machine.execPairLowRead who address s
  | .registerWrite who address value => Sys2Proof.Machine.execRegisterWrite who address value s
  | .extest bits => Sys2Proof.Machine.execExtest bits s
  | .samplePreload bits => Sys2Proof.Machine.execSamplePreload bits s
  | .idcode => Sys2Proof.Machine.execIdcode s
  | .bypass => Sys2Proof.Machine.execBypass s
  | .dbgChallenge nonce => Sys2Proof.Machine.execDbgChallenge nonce s
  | .dbgAuth slot tag => Sys2Proof.Machine.execDbgAuth slot tag s
  | .dbgAccess address data write => Sys2Proof.Machine.execDbgAccess address data write s
  | .otpProg item => Sys2Proof.Machine.execOtpProg item s
  | .jtagTrst => Sys2Proof.Machine.execJtagTrst s
  | .debugAuthTimeout => Sys2Proof.Machine.execDebugAuthTimeout s
  | .counterCollection t0 latNs => Sys2Proof.Machine.execCounterCollection t0 latNs s
  | .counterConfigWrite who address value => Sys2Proof.Machine.execCounterConfigWrite who address value s
  | .tagSeedWrite who value => Sys2Proof.Machine.execTagSeedWrite who value s
  | .taggerEnable who value => Sys2Proof.Machine.execTaggerEnable who value s
  | .tagComplete cycle stall stopped => Sys2Proof.Machine.execTagComplete cycle stall stopped s
  | .tagWindowLock who => Sys2Proof.Machine.execTagWindowLock who s
  | .tagWindowRelease who => Sys2Proof.Machine.execTagWindowRelease who s
  | .linkIdle hdr => Sys2Proof.Machine.execLinkIdle hdr s
  | .arpIcmpEcho port => Sys2Proof.Machine.execArpIcmpEcho port s
  | .nvmAccessComplete => Sys2Proof.Machine.execNvmAccessComplete s

end Sys2Proof.Machine
end

