-- ==== Sys2Proof/Safety.lean ====
section
/-! DEFINITION. What counts as a safe state of the device, and the conditions under which a command has its own effect, in the
terms that claims use. -/

namespace Sys2Proof.Machine

open Sys2Proof

/-- The safe outputs stay off while the island does not run, and until the three conditions of R102 have held after a start
(16_safety_functions.md R461; 03_image_start_resets.md R102). -/
abbrev State.outputsHeldOff (s : State) : Prop :=
  s.saf.island ≠ .run ∨ s.saf.released = false → s.saf.soOn = 0

/-- The recorder's ledger and its snapshot of the last round boundary balance, modulo 2^48 (01_device_and_beat.md R40;
17_event_recorder.md R489). -/
abbrev State.recorderBalanced (s : State) : Prop :=
  s.rcd.ledger.raised = s.rcd.ledger.written + s.rcd.ledger.suppressed ∧
    s.rcd.ledgerSnap.raised = s.rcd.ledgerSnap.written + s.rcd.ledgerSnap.suppressed

/-- A step completes: it answers a next state. -/
abbrev Completes (s : State) : Prop := ∃ t, step s = Host.Outcome.next t

/-- The recorder admits an event of this code (17_event_recorder.md R487). -/
abbrev State.admitsEvent (s : State) (code : Half) : Prop :=
  s.rcd.final = false ∧ s.rcd.tokens code ≠ 0 ∧ ((s.rcd.rate code).2.2 = true ∨ s.rcd.globalTokens ≠ 0) ∧ s.rcd.queue.length < 128

/-- An engine may execute its next operation: the schedule runs, the engine has not reached END and does not wait (R59, R64). -/
abbrev State.engineReady (s : State) (op : OpRun) : Prop :=
  s.sch.running = true ∧ (s.sch.eng op.engine.toNat).ended = none ∧ (s.sch.eng op.engine.toNat).wait = .none

/-- The session of a command is open with a role at or above `least`, 0 Observer to 3 Maintainer (R402). -/
abbrev State.sessionMay (s : State) (h : HostRef) (least : Nat) : Prop :=
  (s.hst.sess h.session.toNat).isOpen = true ∧ least ≤ (s.hst.sess h.session.toNat).role.toNat

/-- A union command is next of its session to be applied, the session is open, and its HOST_SEQ lies above LAST_SEQ (R404, R407). -/
abbrev State.unionTurn (s : State) (h : HostRef) : Prop :=
  (s.hst.toApply.filter (fun r => decide (r.session = h.session))).head? = some h ∧
    (s.hst.sess h.session.toNat).isOpen = true ∧ (s.hst.sess h.session.toNat).lastSeq < h.hostSeq

/-- A response with a status and a detail stands last in the host block's queue of responses. -/
abbrev State.lastAnswer (s : State) (st : Half) (detail : Word) : Prop :=
  ∃ r ∈ s.hst.responses.getLast?, r.status = st ∧ r.detail = detail

/-- The baseband is powered and channel `c` is assigned to a signal of Table 6.2 under the table in force. -/
abbrev State.baseband (s : State) (c : Nat) (t : GnsTable) : Prop :=
  s.domainOn 8 = true ∧ s.gns.powered = true ∧ c < 384 ∧ s.gns.table = some t ∧
    (signalDef (s.gns.ch c).signal ((s.gns.ch c).sv.toNat / 256)).isSome = true

/-- `q` is x / d rounded to nearest, with halves away from zero. -/
abbrev IsRounded (x : Int) (d : Nat) (q : Int) : Prop :=
  2 * (x - q * d).natAbs < d ∨ (2 * (x - q * d).natAbs = d ∧ x.natAbs < (q * d).natAbs)

end Sys2Proof.Machine
end

