-- ==== Sys2Proof/WellFormed.lean ====
section
/-! DEFINITION. Well-formed commands: the bounds that the spec sets on what a command's operands stand for.  A meaning judges every other
rule of a payload itself, since the device answers it. -/

namespace Sys2Proof

namespace Wf

/-- A number of the spec within its bounds. -/
def within (lo hi n : Nat) : Bool := decide (lo ≤ n) && decide (n ≤ hi)

/-- An operation runs on one of the 14 engines of Table 2.1, and its cycles lie in order (Table 19.5). -/
def opRun (op : OpRun) : Bool :=
  decide (op.engine.toNat < 14) && decide (op.issue.toNat ≤ op.start.toNat) && decide (op.start.toNat ≤ op.complete.toNat)

/-- A request of an XHP session, 1 to 16 (R399). -/
def sessionRef (h : HostRef) : Bool := within 1 16 h.session.toNat

/-- Registers are words at word addresses (R7). -/
def aligned (a : Word) : Bool := decide (a.toNat % 4 = 0)

/-- A CAN frame carries at most 8 bytes, or 64 with FD (R353), and BRS only with FD. -/
def canFrame (f : CanFrame) : Bool :=
  decide (f.data.length ≤ (if f.fd then 64 else 8)) && (f.fd || !f.brs) && !(f.fd && f.remote) && decide (f.ident.toNat < 2 ^ 30)

/-- An item of Table 1.2. -/
def itemForm (i : Item) : Bool := within 1 8 i.kind.toNat

/-- The 16 channels of the safe inputs and the 8 pairs an encoder can stand on (R459, R460). -/
def islandIn (i : IslandIn) : Bool := decide (i.samples.length ≤ 16) && decide (i.encoder.length ≤ 8)

/-- One entry for each of the GNSS streams (R167). -/
def edgeIn (i : EdgeIn) : Bool := decide (i.streams.length ≤ 12)

end Wf

/-- A requester of a register access: an XHP session with its role, or the debug port (R522, R530, Table 19.1). -/
def Who.wf (w : Who) : Bool :=
  (decide (w.input = 9) && Wf.within 1 16 w.session.toNat && Wf.within 1 4 w.role.toNat) ||
  (decide (w.input = 14) && decide (w.session = 0) && decide (w.role = 4))

open Wf in
/-- A command whose operands keep their bounds. -/
def Instr.wf (i : Instr) : Bool :=
  match i with
  | .beatEdge inp => edgeIn inp
  | .endOp op => opRun op
  | .waitCycle op _ => opRun op
  | .signalOp op _ => opRun op
  | .waitEvent op _ => opRun op
  | .waitRelease op => opRun op
  | .captureOp op => opRun op
  | .loadOp op _ _ => opRun op
  | .factorOp op _ => opRun op
  | .iterateOp op _ => opRun op
  | .storeOp op _ => opRun op
  | .baSlice op _ _ => opRun op
  | .solverDeadline op _ _ _ _ => opRun op
  | .compensatorOp op _ => opRun op
  | .publishOp op => opRun op
  | .lunaOp op _ => opRun op
  | .selfTestOp op _ _ readings => opRun op && readings.all (fun x => decide (x.1.toNat < 112))
  | .bankLoadBegin h _ _ => sessionRef h
  | .bankLoadData h _ _ => sessionRef h
  | .bankLoadEnd h _ _ => sessionRef h
  | .bankLoadAbort h _ => sessionRef h
  | .bankSwitch h _ => sessionRef h
  | .schOvrCfgWrite who _ => who.wf
  | .peakClear who => who.wf
  | .firstBeat t _ => decide (t % 1000000 = 0)
  | .resetImage h => sessionRef h
  | .timeStepArm h => sessionRef h
  | .correlatorDump channel _ => decide (channel.toNat < 384)
  | .acqHandoff channel => decide (channel.toNat < 384)
  | .pullInDone channel => decide (channel.toNat < 384)
  | .pullInTimeout channel => decide (channel.toNat < 384)
  | .trackLowCn0 channel => decide (channel.toNat < 384)
  | .coastExpired channel => decide (channel.toNat < 384)
  | .gnssAid h _ _ _ => sessionRef h
  | .gnssEph h _ _ => sessionRef h
  | .gnssAmbRead h _ => sessionRef h
  | .gnssAmbFix h _ sats ints => sessionRef h && decide (sats.length = ints.length)
  | .deselectRef h _ => sessionRef h
  | .selectRef h _ => sessionRef h
  | .resetOrigin h _ => sessionRef h
  | .csiFrameEnd _ _ _ error _ _ _ => decide (error.toNat < 4)
  | .targetBind h _ _ _ _ => sessionRef h
  | .targetClear h _ => sessionRef h
  | .calFreeze h _ => sessionRef h
  | .calUnfreeze h _ => sessionRef h
  | .calAccept h _ => sessionRef h
  | .calReset h _ => sessionRef h
  | .deviceOut h _ => sessionRef h
  | .deviceIn h _ => sessionRef h
  | .deviceUnlock h _ => sessionRef h
  | .sectorEnable h _ _ => sessionRef h
  | .variantOverride h _ _ => sessionRef h
  | .setMode h _ => sessionRef h
  | .setPoint h _ _ _ _ _ turn => sessionRef h && decide (turn.toNat < 3)
  | .goPos h => sessionRef h
  | .goPsi h turn _ => sessionRef h && decide (turn.toNat < 3)
  | .setTarget h _ => sessionRef h
  | .winchModeRequest h _ _ => sessionRef h
  | .stabEnable h _ _ => sessionRef h
  | .coefApply who h _ => who.wf && sessionRef h
  | .holdLimitExpire output _ => decide (output.toNat < 112)
  | .outputRelease who output => who.wf && decide (output.toNat < 112)
  | .hostValueWrite who output _ => who.wf && decide (output.toNat < 112)
  | .canFrameReceive _ frame _ => canFrame frame
  | .forceActive who _ => who.wf
  | .recover who _ => who.wf
  | .renegotiate who _ => who.wf
  | .bufferHeadRead who _ _ => who.wf
  | .bufferEndRead who _ _ => who.wf
  | .windowCopyWrite who _ _ _ _ => who.wf
  | .winSwitch who _ => who.wf
  | .sentenceComplete port _ _ => decide (port.toNat < 12)
  | .serialRateDetect port rate => decide (port.toNat < 12) && decide (rate.toNat < 5)
  | .ringReset who ring => who.wf && decide (ring.toNat < 64)
  | .xhpRequest q => decide (q.port.toNat < 2)
  | .openSession h _ _ _ => decide (h.session = 0)
  | .closeSession h => sessionRef h
  | .keepalive h => sessionRef h
  | .readSnapshot h _ _ => sessionRef h
  | .readReg h addresses => sessionRef h && decide (addresses.length ≤ 64) && addresses.all aligned
  | .readRecorder h _ _ => sessionRef h
  | .ringRead h _ _ => sessionRef h
  | .ringWrite h _ _ => sessionRef h
  | .streamAdd h _ => sessionRef h
  | .streamRemove h _ => sessionRef h
  | .regionWrite h _ _ _ data _ => sessionRef h && decide (data.length ≤ 256)
  | .writeReg h pairs => sessionRef h && decide (pairs.length ≤ 64) && pairs.all (fun p => aligned p.1)
  | .nvmWrite h _ _ data => sessionRef h && decide (data.length ≤ 1024)
  | .nvmErase h _ _ _ _ => sessionRef h
  | .otpRevoke h _ _ => sessionRef h
  | .otpMinSecver h _ => sessionRef h
  | .linkTrained lanes => (decide (lanes.toNat = 2) || decide (lanes.toNat = 4))
  | .linkCapture _ items => items.all itemForm
  | .joinAccept _ kind _ => within 1 3 kind.toNat
  | .joinRefuse _ cause => within 1 8 cause.toNat
  | .linkPage _ _ data => decide (data.length = 4096)
  | .linkDemote _ cause => within 1 2 cause.toNat
  | .pairSwap h => sessionRef h
  | .pairDemote h => sessionRef h
  | .joinBlock h => sessionRef h
  | .joinAllow h => sessionRef h
  | .islandCycle inp => islandIn inp
  | .globalFault diagnostic _ => within 1 7 diagnostic.toNat
  | .safResetArm h _ => sessionRef h
  | .eventRaise code params => decide (code.toNat % 256 ≠ 0) && decide (params.length ≤ 4)
  | .bucketRefill code => (match code with | some c => decide (c.toNat % 256 ≠ 0) | none => true)
  | .recordWindowLock who => who.wf
  | .recordWindowRelease who => who.wf
  | .domainIdleExpire domain => decide (domain.toNat < 12)
  | .powerRun h _ _ _ => sessionRef h
  | .powerWatch h _ _ _ => sessionRef h
  | .powerChrysalis h _ _ _ => sessionRef h
  | .powerCocoon h _ _ _ => sessionRef h
  | .wakePortMatch address _ => within 0x08 0x77 address.toNat
  | .chrysalisFirstBeat t => decide (t % 1000000 = 0)
  | .padReleaseDirect who => who.wf
  | .padReleaseAnn who => who.wf
  | .requestRaise input _ => decide (input ≠ 0)
  | .holdLimitCut address _ _ => aligned address
  | .arbCfgWrite who _ => who.wf
  | .pairLowRead who address => who.wf && aligned address
  | .registerWrite who address _ => who.wf && aligned address
  | .dbgAuth slot _ => decide (slot.toNat < 8)
  | .dbgAccess address _ _ => aligned address
  | .otpProg item => (match item with | .debugState st => decide (st.toNat < 3) | _ => true)
  | .counterConfigWrite who address _ => who.wf && aligned address
  | .tagSeedWrite who _ => who.wf
  | .taggerEnable who _ => who.wf
  | .tagWindowLock who => who.wf
  | .tagWindowRelease who => who.wf
  | .overrunCheck | .beatRestartResume | .beatFault _ _ | .bankVerifyDone _ | .bankLoadTimeout | .bankSwitchApply
  | .powerGood _ _ _ _ | .fusesRead | .nresetOutRelease | .nvmDiscovery _ _ _ _ _ | .provisionalApply _ _
  | .imageReadDone _ _ | .nvmReadStall | .sectionsDelivered | .frontEndReadback _ _ | .nresetInAssert _ | .nresetInRelease
  | .supplyTrip | .ptpMessageReceive _ _ _ _ _ _ | .ptpMasterSend _ | .ppsInEdge _ _ | .ppsInTimeout | .ppsOutPulseEnd
  | .armExpired | .timeStepApply | .leapSecond _ _ _ | .learnedRateSave | .alarmReached _ | .chainSample _ _ _
  | .sourceStuck _ | .cndFreeze _ _ | .srcReturn _ | .cndCtrlApply _ | .acqRecordDone | .acqSearchDone _ | .notchRelease _
  | .spoofClear _ | .watchBurstStart | .watchBurstEnd | .referenceStale _ | .initBeatsEnd | .csiFrameStart _ _ _ _
  | .lidarDatagram _ _ _ | .calibrationApply | .joyTimeout | .targetLoss | .holdTimeout _ | .vlcdFault
  | .transmitWindowOpen _ _ _ | .frameSent _ | .arbitrationLost _ | .busError _ _ _ | .windowAbort _ | .busOffRecovered _
  | .lockExpired _ _ | .windowSwitchApply | .refSilent _ | .replyTimeout _ _ | .ethSensorDatagram _ _ _ _ _ | .xhpResponse
  | .sessionIdle _ | .ethLinkChange _ _ _ | .pairActInEdge _ | .pairActInSilent _ | .claimArmExpire | .linkDown | .linkRetry
  | .linkToken _ _ _ | .tokenDeadline | .linkCommit _ _ _ _ | .commitDeadline | .linkSignature _ _ _ | .signatureCompare
  | .joinReq _ _ | .linkFast _ _ _ | .linkAdopt _ _ | .adoptEnd _ _ _ | .adoptionDeadline | .linkHealth _ _
  | .provingComplete | .activeClaimStop | .swapClaim _ | .siDiscrepancy _ | .soTestPulse _ _ | .soReadbackFault _
  | .plausibilityTimeout _ | .safArmExpired | .islandSelfTestDone _ | .recordWrite _ | .recorderScan | .deferredEventRelease
  | .opsecSave _ | .handshakeAnswer _ | .handshakeTimeout | .programSwitch | .lowPowerEntry | .wakePin _ _
  | .arbiterDecision _ _ _ | .extest _ | .samplePreload _ | .idcode | .bypass | .dbgChallenge _ | .jtagTrst
  | .debugAuthTimeout | .counterCollection _ _ | .tagComplete _ _ _ | .linkIdle _ | .arpIcmpEcho _ | .nvmAccessComplete => true

end Sys2Proof
end

