-- ==== Sys2Proof/Certificates/Slice0/Obligations.lean ====
section
/-! DEFINITION. The statements for the provers: what the rules of the spec say of each family of commands and of the machine. -/

open Sys2Proof Sys2Proof.Machine

/-- The model's queue (log 1): with `c` in front, a step is `exec c` on the state with the rest; on an empty queue the block idles. -/
def Obligations.StepRunsFront : Prop :=
  (∀ (s : State) (c : Instr) (rest : List Instr), s.pending = c :: rest → step s = exec c (s.withPending rest)) ∧
    ∀ s : State, s.pending = [] → step s = .next s

/-- The spec gives every row an effect: `exec` always answers a next state, and it leaves the queue alone. -/
def Obligations.EveryCommandCompletes : Prop :=
  ∀ (c : Instr) (s : State), ∃ t, exec c s = .next t ∧ t.pending = s.pending

/-- R18: the order of the union's key, and how many copies of an item it holds. -/
def Obligations.UnionSortedAndMerged : Prop :=
  ∀ a b : List Item,
    (unionForm a b).Pairwise (fun x y => Item.sortKey x ≤ Item.sortKey y) ∧
    (∀ i : Item, i.shared = false → (unionForm a b).count i = a.count i + b.count i) ∧
    (∀ i : Item, (unionForm a b).countP (fun x => x.shared && sameShared x i) =
      max (a.countP (fun x => x.shared && sameShared x i)) (b.countP (fun x => x.shared && sameShared x i)))

/-- R19: the union of a Solo device. -/
def Obligations.SoloUnion : Prop :=
  ∀ (s : State) (op : OpRun), s.engineReady op → s.beat.captured = true → s.pai.role = .solo →
    ∃ t, exec (.captureOp op) s = .next t ∧ t.beat.partner = [] ∧ t.beat.union.Perm s.beat.own ∧
      t.beat.union.Pairwise (fun x y => Item.sortKey x ≤ Item.sortKey y) ∧
      ∀ key, t.beat.union.filter (fun i => decide (Item.sortKey i = key)) = s.beat.own.filter (fun i => decide (Item.sortKey i = key))

/-- R23, R24, R41: the edge of beat n + 1 follows beat n, and a round boundary takes the snapshot of the ledgers. -/
def Obligations.BeatEdgeAdvances : Prop :=
  ∀ (s : State) (inp : EdgeIn), s.edgesRun = true → s.sch.restarting = false → s.beat.live = true →
    ∃ t, exec (.beatEdge inp) s = .next t ∧ t.beat.n = s.beat.n + 1 ∧ t.tim.now = (s.beat.n.toNat + 1) * 1000000 ∧
      t.beat.captured = true ∧ t.beat.union = [] ∧ t.beat.partner = [] ∧
      t.beat.boundary = (decide ((s.beat.n.toNat + 1) % 1000 = 0) || s.beat.stepEdge) ∧
      (t.beat.boundary = true → t.beat.ledgerSnap = s.beat.ledgers ∧ t.rcd.ledgerSnap = s.rcd.ledger)

/-- R15, R18, R35, R38, R415, R437, R461. -/
def Obligations.BeatPhases : Prop :=
  ∀ (s : State) (op : OpRun), s.engineReady op →
    (∃ t, exec (.captureOp op) s = .next t ∧ t.beat.captured = false ∧ t.beat.own = s.beat.own ∧
      (s.beat.captured = false → t.beat = s.beat ∧ t.sch = s.sch.advance op) ∧
      (s.beat.captured = true →
        let sets := s.pai.unionSets s.beat.n.toNat s.beat.own
        t.beat.partner = sets.2 ∧ t.beat.union = (if s.pai.sideB then unionForm sets.2 sets.1 else unionForm sets.1 sets.2))) ∧
    (∃ t r, exec (.publishOp op) s = .next t ∧ t.hst.snapshots.getLast? = some r ∧ r.beat = s.beat.n ∧
      r.words[2]? = some (lowOf s.beat.n) ∧ r.words[3]? = some (highOf s.beat.n) ∧ r.words[11]? = some (fld t.saf.onReq.toNat 0) ∧
      t.tim.recStep = false ∧ t.sch.recSwitch = false ∧ t.sch.recRestart = false ∧ t.pub.beat = s.beat.n ∧ t.pub.est = t.est ∧ t.pub.ctl = t.ctl) ∧
    (∀ (ok : Bool) (corrected : Half) (readings : List (BitVec 7 × Int)),
      ∃ t, exec (.selfTestOp op ok corrected readings) s = .next t ∧ t.sch = s.sch.advance op ∧
        t.pai.slice.toNat = s.beat.n.toNat % 1000 ∧ t.pai.logicBad = (s.pai.logicBad || !ok) ∧ t.pai.corrected = s.pai.corrected + corrected.toNat)

/-- R59, R62: END, WAIT_CYCLE, SIGNAL and WAIT_EVENT on an engine that may execute, and the end of a wait. -/
def Obligations.SequencerOps : Prop :=
  ∀ (s : State) (op : OpRun),
    (s.engineReady op →
      (∃ t, exec (.endOp op) s = .next t ∧ (t.sch.eng op.engine.toNat).ended = some op.complete ∧
        (s.sch.budget op.engine.toNat s.beat.n.toNat < op.complete.toNat → op.complete.toNat ≤ 768000 →
          t.sch.flBudget = true ∧ (t.sch.eng op.engine.toNat).late = (s.sch.eng op.engine.toNat).late + 1) ∧
        (op.complete.toNat ≤ s.sch.budget op.engine.toNat s.beat.n.toNat →
          t.sch.flBudget = s.sch.flBudget ∧ (t.sch.eng op.engine.toNat).late = (s.sch.eng op.engine.toNat).late)) ∧
      (∀ c : BitVec 20, ∃ t, exec (.waitCycle op c) s = .next t ∧ (t.sch.eng op.engine.toNat).wait = .cycle c.toNat) ∧
      (∀ k : BitVec 8, ∃ t, exec (.signalOp op k) s = .next t ∧ k.toNat ∈ t.sch.events ∧ ∀ j ∈ s.sch.events, j ∈ t.sch.events) ∧
      (∀ k : BitVec 8, ∃ t, exec (.waitEvent op k) s = .next t ∧ t.sch.events = s.sch.events ∧
        (t.sch.eng op.engine.toNat).wait = if k.toNat ∈ s.sch.events then .none else .event k)) ∧
    (s.sch.running = true → s.sch.released op = true →
      ∃ t, exec (.waitRelease op) s = .next t ∧ (t.sch.eng op.engine.toNat).wait = .none)

/-- R61, R64, R65, R107: what the overrun check, a beat fault and the resumption do. -/
def Obligations.OverrunAndRestart : Prop :=
  (∀ s : State, s.sch.running = true → s.sch.lateEngines ≠ [] → s.sch.escalates = false →
    ∃ t, exec .overrunCheck s = .next t ∧ t.sch.flOverrun = true ∧ t.sch.ovrBeat = BitVec.ofNat 64 s.beat.n.toNat ∧ t.sch.running = false ∧
      t.sch.restarting = true ∧ t.sch.restartLeft = 10 ∧ t.sch.ovrLog = s.sch.roundNo :: s.sch.ovrLog ∧ t.beat.live = false) ∧
  (∀ s : State, s.sch.running = true → s.sch.lateEngines ≠ [] → s.sch.escalates = true →
    ∃ t, exec .overrunCheck s = .next t ∧ t.sch.running = false ∧ t.img.phase = .discover ∧ t.img.cause = .escalationOverrun ∧ t.img.faultOut = true) ∧
  (∀ s : State, s.sch.lateEngines = [] → exec .overrunCheck s = .next s) ∧
  (∀ (s : State) (source address : Word), s.img.phase = .running → s.sch.restarting = false → s.img.faultRound ≠ some s.sch.roundNo →
    ∃ t, exec (.beatFault source address) s = .next t ∧ t.sch.running = false ∧ t.sch.restarting = true ∧ t.sch.restartLeft = 10 ∧
      t.sch.ovrLog = s.sch.ovrLog ∧ t.img.faultRst = s.img.faultRst + 1 ∧ t.img.faultRound = some s.sch.roundNo) ∧
  (∀ (s : State) (source address : Word), s.img.phase = .running → s.sch.restarting = true ∨ s.img.faultRound = some s.sch.roundNo →
    ∃ t, exec (.beatFault source address) s = .next t ∧ t.img.phase = .discover ∧ t.img.cause = .escalationFault) ∧
  (∀ s : State, s.sch.restarting = true → s.sch.restartLeft ≤ 1 →
    ∃ t, exec .beatRestartResume s = .next t ∧ t.sch.running = true ∧ t.sch.restarting = false ∧ t.beat.live = true ∧ t.beat.n = s.beat.n)

/-- R68, R70: the operations of BANK_LOAD on the inactive bank, for the session that may. -/
def Obligations.BankLoading : Prop :=
  (∀ (s : State) (h : HostRef), s.sessionMay h 2 →
    (s.sch.inactive.phase = .empty ∨ s.sch.inactive.phase = .ready →
      ∃ t, exec (.bankLoadBegin h 0 0) s = .next t ∧ t.sch.inactive = { Bank.empty with phase := .loading, session := h.session } ∧
        t.sch.active = s.sch.active) ∧
    (s.sch.inactive.phase = .loading → s.sch.inactive.session = h.session →
      (∀ (ofs : Word) (data : List Byte), ofs.toNat % 4 = 0 → ofs.toNat + data.length ≤ 50331648 → data.length ≤ 1024 → data ≠ [] →
        ∃ t, exec (.bankLoadData h ofs data) s = .next t ∧ t.sch.inactive.phase = .loading ∧ t.sch.active = s.sch.active ∧
          t.sch.inactive.highEnd = max s.sch.inactive.highEnd (ofs.toNat + data.length) ∧
          ∀ k < data.length, Tab.get 0 t.sch.inactive.bytes (ofs.toNat + k) = data.getD k 0) ∧
      (∀ ofs : Word, 4096 ≤ ofs.toNat → ofs.toNat ≤ 50331648 →
        ∃ t, exec (.bankLoadEnd h ofs 0) s = .next t ∧ t.sch.inactive.phase = .verify ∧ t.sch.inactive.declared = ofs.toNat ∧
          t.sch.active = s.sch.active) ∧
      (∃ t, exec (.bankLoadAbort h 0) s = .next t ∧ t.sch.inactive = Bank.empty ∧ t.sch.active = s.sch.active) ∧
      (∃ t, exec .bankLoadTimeout s = .next t ∧ t.sch.inactive = Bank.empty ∧ t.sch.active = s.sch.active)) ∧
    (s.sch.inactive.phase = .verify →
      ∀ img : ImageDesc, ∃ t, exec (.bankVerifyDone img) s = .next t ∧ t.sch.active = s.sch.active ∧
        (if (s.sch.verifyErr img s.img.otp).1 = 0 then t.sch.inactive.phase = .ready ∧ t.sch.inactive.image = img.sched
         else t.sch.inactive = Bank.empty))) ∧
  (∀ (s : State) (h : HostRef) (ofs : Word) (nData : Nat) (data : List Byte), s.sessionMay h 2 → s.sch.inactive.phase = .pending →
    ∀ c ∈ [Instr.bankLoadBegin h ofs nData, .bankLoadData h ofs data, .bankLoadEnd h ofs nData, .bankLoadAbort h nData],
      ∃ t, exec c s = .next t ∧ t.lastAnswer 0x0021 0 ∧ t.sch.refused = s.sch.refused + 1 ∧ t.sch.flWriteRefused = true ∧
        t.sch.bank0 = s.sch.bank0 ∧ t.sch.bank1 = s.sch.bank1)

/-- R71, Table 2.7: judging BANK_SWITCH, and the boundary at which it takes effect. -/
def Obligations.BankSwitchOrdered : Prop :=
  (∀ (s : State) (h : HostRef) (id : Long), s.unionTurn h →
    ∃ t, exec (.bankSwitch h id) s = .next t ∧
      (s.sch.switch.isSome = true → t.sch = s.sch) ∧
      (s.sch.switch = none → s.sch.inactive.phase ≠ .ready → t.sch = s.sch) ∧
      (∀ x a : Schedule, s.sch.switch = none → s.sch.inactive.phase = .ready → s.sch.inactive.image = some x → s.sch.sched = some a →
        if x.header.imageId ≠ id ∨ (x.header.layoutSig ≠ a.header.layoutSig ∧ (translationFrom x a.header.layoutSig).isNone) ∨
          (s.paired = true ∧ x.header.compat ≠ a.header.compat)
        then t.sch = s.sch
        else t.sch.inactive.phase = .pending ∧ t.sch.switch = some { imageId := id, age := 0 } ∧ t.sch.active = s.sch.active)) ∧
  (∀ (s : State) (x : Schedule), s.sch.inactive.image = some x → s.atBoundary = true → s.sch.switchDue = true →
    ∃ t, exec .bankSwitchApply s = .next t ∧ t.sch.active1 = !s.sch.active1 ∧ t.sch.active.phase = .active ∧ t.sch.inactive.phase = .ready ∧
      t.sch.active.image = some x ∧ t.sch.switch = none ∧ t.ctl.table = x.ctl ∧ t.est.table = x.est ∧ t.alc.table = x.alc) ∧
  (∀ s : State, s.sch.switchDue = false → exec .bankSwitchApply s = .next s)

/-- R82: SCH_OVR_CFG; Table 2.10: CLEAR of the selected engine. -/
def Obligations.OverrunConfigWrite : Prop :=
  ∀ (s : State) (who : Who),
    (∀ w : Word, ∃ t, exec (.schOvrCfgWrite who w) s = .next t ∧
      if 3 ≤ who.role.toNat ∧ w &&& 0xF ≠ 0 ∧ w &&& 0xFF00 ≠ 0
      then t.sch.ovrLimit = w.setWidth 4 ∧ t.sch.ovrRounds = (w >>> 8).setWidth 8 ∧ t.sch.flCfgRefused = s.sch.flCfgRefused
      else t.sch.ovrLimit = s.sch.ovrLimit ∧ t.sch.ovrRounds = s.sch.ovrRounds ∧ t.sch.flCfgRefused = true) ∧
    (∃ t, exec (.peakClear who) s = .next t ∧ (t.sch.eng (bits (s.sel who 1) 3 0)).peak = 0 ∧ (t.sch.eng (bits (s.sel who 1) 3 0)).peakBeat = 0 ∧
      (t.sch.eng (bits (s.sel who 1) 3 0)).last = (s.sch.eng (bits (s.sel who 1) 3 0)).last)

/-- What the spec states of reset: Tables 0.5, 2.10, 3.4, 12.8, 16.6 and 19.7, and R42. -/
def Obligations.ResetState : Prop :=
  let s := State.reset
  s.img.powered = false ∧ s.img.paramsValid = false ∧ s.img.faultOut = true ∧ s.img.nresetOut = true ∧ s.img.phase = .discover ∧
    s.sch.running = false ∧ s.sch.bank0.phase = .empty ∧ s.sch.bank1.phase = .empty ∧ s.sch.ovrLimit = 3 ∧ s.sch.ovrRounds = 0x3C ∧
    s.saf.island = .selftest ∧ s.saf.soOn = 0 ∧ s.saf.released = false ∧
    (∀ k, (s.out.out k).state = .fail ∧ (s.out.out k).pin = .hiz) ∧
    (∀ k, s.beat.ledger k = SrcLedger.zero ∧ (s.hst.sess k).ledger = HostLedger.zero ∧ (s.hst.sess k).isOpen = false) ∧
    s.rcd.ledger = RecLedger.zero ∧ s.pai.role = .solo ∧ s.ctl.mode = .standby ∧ s.tim.state = .unset ∧ s.svc.holdLimit = 256 ∧ s.outputsHeldOff ∧ s.recorderBalanced ∧ s.pending = []

/-- R84 to R86, R95, R97 to R99: the rows between power good and the reading of an image. -/
def Obligations.StartSequence : Prop :=
  ∀ s : State,
    (∀ (straps : BitVec 4) (sideB : Bool) (bad : BitVec 2), s.img.powered = false →
      ∃ t, exec (.powerGood false straps sideB bad) s = .next t ∧ t.img.powered = true ∧ t.img.phase = .discover ∧ t.img.faultOut = true ∧
        t.img.nresetOut = true ∧ t.img.kind = .cold ∧ t.img.forceB = straps.getLsbD 0 ∧ t.img.nvmMap = straps.getLsbD 1 ∧
        t.img.order = (if straps.getLsbD 0 then [true] else [false, true]) ∧ t.pai.sideB = sideB ∧
        (s.img.pwrcyc ≠ BitVec.allOnes 22 → t.img.pwrcyc = s.img.pwrcyc + 1) ∧ t.saf.island = .selftest ∧ t.saf.soOn = 0) ∧
    (s.img.powered = true → ∃ t, exec .fusesRead s = .next t ∧ t.img.paramsValid = true ∧ idRead t.img.paramsValid 4 = some 1) ∧
    (s.img.powered = true → s.img.nresetIn = false → s.fbu.enabled = false →
      ∃ t, exec .nresetOutRelease s = .next t ∧ t.img.nresetOut = false ∧ t.fbu.enabled = true ∧ ∀ c < 16, (t.fbu.chan c).mode = .listen) ∧
    (∀ (b : Bool) (modes : BitVec 3) (mhz size : BitVec 8), s.img.powered = true → s.img.nresetIn = false → s.img.phase = .discover →
      s.img.order = [false, true] → s.img.nvmMap = false →
      ∃ t, exec (.nvmDiscovery true b modes mhz size) s = .next t ∧ t.img.phase = .loadA ∧ t.img.imageB = false ∧ t.img.nvmSize = size ∧
        t.img.nvmMhz = (if mhz.toNat < 200 then mhz else 200) ∧
        (modes.getLsbD 0 = true → t.img.nvmMode = 0) ∧ (modes.getLsbD 0 = false → modes.getLsbD 1 = true → t.img.nvmMode = 1) ∧
        (modes.getLsbD 0 = false → modes.getLsbD 1 = false → modes.getLsbD 2 = true → t.img.nvmMode = 2)) ∧
    (∀ (b : Bool) (modes : BitVec 3) (mhz size : BitVec 8), s.img.powered = true → s.img.nresetIn = false → s.img.phase = .discover →
      s.img.order = [false, true] → s.img.nvmMap = false →
      ∃ t, exec (.nvmDiscovery false b modes mhz size) s = .next t ∧ t.img.phase = .noImage ∧ t.img.errA = 1 ∧ t.img.errB = 1) ∧
    (∀ (net : NetCfg) (time : Option TimeCfg), s.loading = true → netOk net.streamInterval.toNat net = true →
      ∃ t, exec (.provisionalApply (some net) time) s = .next t ∧ t.img.provisional = true ∧ t.hst.netCfg = some net)

/-- R92, R94 to R97: the end of a load, the delivery of the sections, and the first beat. -/
def Obligations.ImageOutcome : Prop :=
  (∀ (s : State) (img : ImageDesc) (us : Word), s.loading = true → (imageErr img s.img.otp false).1 = 0 →
    ∃ t, exec (.imageReadDone img us) s = .next t ∧ t.img.accepted = some img ∧ t.img.phase = .init ∧ t.img.imageId = img.header.imageId ∧
      t.img.secver = img.header.secver ∧ t.img.loadUs = us ∧ t.hst.netCfg = img.net ∧ t.img.provisional = false) ∧
  (∀ (s : State) (img : ImageDesc) (us : Word), s.loading = true → s.img.imageB = false → s.img.order = [false, true] →
    (imageErr img s.img.otp false).1 ≠ 0 →
    ∃ t, exec (.imageReadDone img us) s = .next t ∧ t.img.accepted = none ∧ t.img.phase = .loadB ∧ t.img.imageB = true ∧
      t.img.errA = BitVec.ofNat 8 (imageErr img s.img.otp false).1 ∧ t.hst.netCfg = none ∧ t.tim.cfg = none ∧ t.tim.now = s.tim.now) ∧
  (∀ s : State, s.loading = true → s.img.imageB = true → s.img.order = [true] →
    ∃ t, exec .nvmReadStall s = .next t ∧ t.img.phase = .noImage ∧ t.img.errB = 2 ∧ t.hst.netCfg = s.img.otp.recovery ∧ t.tim.cfg = none) ∧
  (∀ (s : State) (img : ImageDesc) (x : Schedule), s.img.powered = true → s.img.nresetIn = false → s.img.phase = .init →
    s.img.accepted = some img → img.sched = some x →
    ∃ t, exec .sectionsDelivered s = .next t ∧ t.img.phase = .waitTime ∧ t.sch.bank0.phase = .active ∧ t.sch.bank0.image = some x ∧
      t.sch.bank1.phase = .empty ∧ t.sch.active1 = false ∧ t.img.changeCount = 0 ∧ t.ctl.mode = .standby) ∧
  (∀ (s : State) (k : Nat) (us : Word), s.img.powered = true → s.img.nresetIn = false → s.img.phase = .waitTime → 0 < k →
    s.tim.now ≤ k * 1000000 → s.img.kind = .image ∨ s.tim.state ≠ .unset ∨ 300000 ≤ us.toNat →
    ∃ t, exec (.firstBeat (k * 1000000) us) s = .next t ∧ t.img.phase = .running ∧ t.img.faultOut = false ∧ t.img.startUs = us ∧
      t.sch.running = true ∧ t.beat.live = true ∧ t.beat.n + 1 = BitVec.ofNat 64 k ∧ t.tim.now = k * 1000000)

/-- R106, R108, R109, R111: the two ordered Image resets, and what they keep. -/
def Obligations.ImageResetPersistence : Prop :=
  (∀ (s : State) (c : Instr) (h : HostRef),
    (c = .resetImage h ∧ s.sessionMay h 3) ∨ (∃ w, c = .nresetInAssert w ∧ 1000 ≤ w ∧ s.awake = true ∧ s.img.nresetIn = false) →
    ∃ t, exec c s = .next t ∧
      (t.tim.now = s.tim.now ∧ t.tim.stepUsed = s.tim.stepUsed ∧ t.tim.learned = s.tim.learned ∧ t.tim.learnedSaved = s.tim.learnedSaved ∧
        t.img.otp = s.img.otp ∧ t.img.pwrcyc = s.img.pwrcyc ∧ t.rcd.opsec = s.rcd.opsec ∧ t.rcd.slots = s.rcd.slots ∧
        t.saf.lockA = s.saf.lockA ∧ t.saf.lockB = s.saf.lockB ∧ t.saf.island = s.saf.island ∧ t.lun.cal = s.lun.cal) ∧
      (t.tim.arm = none ∧ t.tim.pending = none ∧ t.ctl.mode = .standby ∧ t.pai.role = .solo ∧ t.sch.running = false ∧ t.sch.watch = false ∧
        t.sch.bank0.phase = .empty ∧ t.sch.bank1.phase = .empty ∧ t.beat.ledgers = [] ∧ t.img.faultOut = true ∧ t.img.phase = .discover ∧
        t.img.kind = .image ∧ t.img.accepted = none ∧ (∀ k, (t.hst.sess k).isOpen = false) ∧ t.lun.grid = [] ∧ t.lun.tracks = [] ∧ t.gns.orbits = [])) ∧
  (∀ (s : State) (w : Nat), w < 1000 → exec (.nresetInAssert w) s = .next s) ∧
  (∀ s : State, s.img.nresetIn = true → ∃ t, exec .nresetInRelease s = .next t ∧ t.img.nresetIn = false ∧ t.img.nresetOut = false)

/-- R106, R111, R543: the supply monitor trips. -/
def Obligations.ColdStart : Prop :=
  ∀ s : State, s.img.powered = true →
    ∃ t, exec .supplyTrip s = .next t ∧
      (t.img.otp = s.img.otp ∧ t.img.pwrcyc = s.img.pwrcyc ∧ t.img.changes = s.img.changes ∧ t.tim.learned = s.tim.learnedSaved ∧
        t.saf.lockA = s.saf.lockA ∧ t.saf.lockB = s.saf.lockB ∧ t.lun.cal = s.lun.cal ∧ t.rcd.slots = s.rcd.slots ∧ t.rcd.opsec = s.rcd.opsec) ∧
      (t.img.powered = false ∧ t.img.paramsValid = false ∧ t.tim.now = 0 ∧ t.tim.state = .unset ∧ t.tim.stepUsed = false ∧
        t.sch.bank0 = Bank.empty ∧ t.sch.bank1 = Bank.empty ∧ t.saf.island = .selftest ∧ t.saf.soOn = 0 ∧ t.ctl.mode = .standby ∧
        t.pai.role = .solo ∧ (∀ k, (t.hst.sess k).isOpen = false) ∧ t.out.outputs = [] ∧ t.beat.ledgers = [])

/-- R119, R121, R134, R135: the messages and edges of the time sources on a powered device that is awake. -/
def Obligations.TimeSourceMessages : Prop :=
  ∀ s : State, s.awake = true →
    (∀ (port : BitVec 2) (c : Byte) (theta : Int) (st : Byte) (u : Option Half) (i : Nat), (Tab.get PortSt.zero s.hst.ports port.toNat).up = true →
      s.ptpSlave port.toNat = true →
      ∃ t, exec (.ptpMessageReceive port c (some theta) st u i) s = .next t ∧ t.tim.parentClass = c ∧
        (Tab.get PortSt.zero t.hst.ports port.toNat).ptpState = st ∧
        (parentOk c = false → (t.tim.src .ptp).state = .qualifying ∧ (t.tim.src .ptp).good = 0) ∧
        (parentOk c = true → s.tim.state ≠ .unset → (t.tim.src .ptp).offset = some theta ∧ (t.tim.src .ptp).beat = s.beat.n.toNat)) ∧
    (∀ port : BitVec 2, (Tab.get PortSt.zero s.hst.ports port.toNat).up = true → s.ptpMaster port.toNat = true →
      (Tab.get PortSt.zero s.hst.ports port.toNat).ptpState ≠ 7 → s.tim.state ≠ .unset →
      ∃ t, exec (.ptpMasterSend port) s = .next t ∧ (Tab.get PortSt.zero t.hst.ports port.toNat).ptpState = 6 ∧ t.tim = s.tim) ∧
    (∀ (i : Nat) (label : Option Nat) (c : TimeCfg), s.tim.cfg = some c → s.tim.external = false →
      ∃ t, exec (.ppsInEdge i label) s = .next t ∧ t.tim.ppsIn = ((i : Int) - c.ppsInDelay).toNat ∧ t.tim.sources = s.tim.sources) ∧
    (∀ (i : Nat) (label : Option Nat), s.tim.external = true → s.tim.cfg.any (fun c => decide (c.ppsInDelay = 0)) = true → s.tim.ppsIn ≠ 0 →
      s.tim.ppsIn + 1000010000 < i →
      ∃ t, exec (.ppsInEdge i label) s = .next t ∧ t.tim.ppsIn = i ∧ t.tim.flPpsIn = true ∧ (t.tim.src .gnss).state = .qualifying ∧
        (t.tim.src .gnss).good = 0) ∧
    (s.tim.external = true → ∃ t, exec .ppsInTimeout s = .next t ∧ t.tim.flPpsIn = true ∧ (t.tim.src .gnss).state = .absent) ∧
    (∃ t, exec .ppsOutPulseEnd s = .next t ∧ t.tim.ppsOut = none) ∧
    (∀ (d : Half) (i : Nat) (g : Bool), s.tim.utcFrom.toNat ≤ 2 → ∃ t, exec (.leapSecond d i g) s = .next t ∧ t.tim.utc = d)

/-- R124, R125: the first setting of device time, by PTP. -/
def Obligations.FirstSetting : Prop :=
  ∀ (s : State) (port : BitVec 2) (c st : Byte) (theta : Int) (i : Nat), s.awake = true → (Tab.get PortSt.zero s.hst.ports port.toNat).up = true →
    s.ptpSlave port.toNat = true → parentOk c = true → s.tim.state = .unset → s.img.phase ≠ .running → s.tim.qualCount = 1 →
    (s.img.accepted.isSome = true → (s.reach i).partnerOk = false → (s.tim.src .gnss).state ≠ .qualified →
      (s.tim.src .ptp).state ≠ .refused →
      ∃ t, exec (.ptpMessageReceive port c (some theta) st none i) s = .next t ∧ t.tim.now = ((max s.tim.now i : Nat) + theta).toNat ∧
        t.tim.stepUsed = true ∧ t.tim.state = .locked ∧ t.tim.selected = some .ptp) ∧
    (s.img.accepted = none →
      ∃ t, exec (.ptpMessageReceive port c (some theta) st none i) s = .next t ∧ t.tim.now = max s.tim.now i ∧ t.tim.stepUsed = s.tim.stepUsed ∧
        t.tim.state = .unset ∧ (t.tim.src .ptp).offset = some theta)

/-- R128 to R131: arms and steps; R123: the saved rate. -/
def Obligations.TimeStep : Prop :=
  (∀ (s : State) (h : HostRef) (c : TimeCfg), s.unionTurn h → s.tim.cfg = some c →
    ∃ t, exec (.timeStepArm h) s = .next t ∧ t.tim.arm = some { session := h.session, left := c.armWindow.toNat * 1000 } ∧
      t.tim.now = s.tim.now ∧ t.tim.stepUsed = s.tim.stepUsed) ∧
  (∀ (s : State) (x : ArmSt), s.tim.arm = some x →
    ∃ t, exec .armExpired s = .next t ∧
      (x.left = 0 → t.tim.arm = none ∧ t.tim.flArmExpired = true ∧ (∀ p, s.tim.pending = some p → p.byArm = true → t.tim.pending = none)) ∧
      (x.left ≠ 0 → t = s)) ∧
  (∀ (s : State) (p : PendStep) (theta k : Int) (b : Nat), s.sch.running = true → s.beat.live = true → s.beat.stepEdge = false → s.pai.role = .solo →
    s.pub.ctl.mode = .standby → s.tim.pending = some p → p.byArm = true → s.tim.arm.isSome = true → 1 ≤ p.age →
    (s.tim.src p.source).atEdge = some (theta, b) → (s.beat.n.toNat + 1) % 1000 = 0 → b ≤ s.beat.n.toNat →
    s.beat.n.toNat + 1 ≤ b + 1000 → s.tim.stepBeat.toNat ≤ b → IsRounded theta 1000000 k →
    0 ≤ (s.beat.n.toNat : Int) + k → (s.beat.n.toNat : Int) + k < 2 ^ 64 →
    ∃ t, exec .timeStepApply s = .next t ∧ (t.beat.n.toNat : Int) = s.beat.n.toNat + k ∧ t.beat.stepEdge = true ∧
      t.tim.now = ((s.tim.now : Int) + k * 1000000).toNat ∧ t.tim.state = .locked ∧ t.tim.selected = some p.source ∧
      t.tim.stepUsed = true ∧ t.tim.flStepApplied = true ∧ t.tim.stepK = k ∧ t.tim.theta = theta - k * 1000000 ∧ t.tim.arm = none ∧
      t.tim.pending = none ∧ t.tim.recStep = true) ∧
  (∀ s : State, s.pai.role = .solo → s.tim.pending = none ∨ s.pub.ctl.mode ≠ .standby → exec .timeStepApply s = .next s) ∧
  (∀ s : State, 1000 ≤ s.tim.roundsSinceSave →
    ∃ t, exec .learnedRateSave s = .next t ∧ t.tim.learnedSaved = s.tim.learned ∧ t.tim.roundsSinceSave = 0) ∧
  (∀ (s : State) (a : Nat), s.pwr.armedFor 3 = false → ∃ t, exec (.alarmReached a) s = .next t ∧ t.tim.now = max s.tim.now a ∧ t.pwr = s.pwr)

/-- R122, R123, R559: the steering of one edge, and the bounds it keeps. -/
def Obligations.Steering : Prop :=
  ∀ (t : TimSt) (src : TimeSource) (c : TimeCfg) (theta q i : Int), t.selected = some src → t.cfg = some c →
    (t.src src).offset = some theta →
    IsRounded (theta * 1000000) (2 ^ c.kpLog2.toNat) q → IsRounded (theta * 1000000) (2 ^ c.kiLog2.toNat) i →
    ((t.src src).fresh = true →
      t.steer.theta = theta ∧ (t.steer.settled = true ↔ theta.natAbs < c.lockBandNs.toNat) ∧
      (q.natAbs ≤ c.slewPpm.toNat * 1000000 →
        t.steer.applied = t.steer.learned + q ∧
        (-100000000 ≤ t.learned + i → t.learned + i ≤ 100000000 → t.steer.learned = t.learned + i) ∧
        (100000000 < t.learned + i → t.steer.learned = 100000000) ∧ (t.learned + i < -100000000 → t.steer.learned = -100000000)) ∧
      ((c.slewPpm.toNat : Int) * 1000000 < q → t.steer.learned = t.learned ∧ t.steer.applied = t.learned + c.slewPpm.toNat * 1000000) ∧
      (q < -((c.slewPpm.toNat : Int) * 1000000) → t.steer.learned = t.learned ∧ t.steer.applied = t.learned - c.slewPpm.toNat * 1000000)) ∧
    ((t.src src).fresh = false → t.steer = t) ∧
    (∀ u : TimSt, u.selected = none → u.steer = { u with applied := u.learned })

/-- R147, R154, R157, R158, Table 5.4: a SAR sample of a channel on its primary source with no alternate. -/
def Obligations.ChainSampleUse : Prop :=
  ∀ (s : State) (ch : BitVec 6) (code : Half) (bad : Bool),
    let c := ch.toNat
    let e := s.cnd.entry c
    let v : Int := ((code.toNat : Int) - 32768) * 65536
    s.domainOn 9 = true → isAin e.source = true → e.altSource = 0xFF → (s.cnd.ch c).alt = false →
    ∃ t, exec (.chainSample ch (.code code) bad) s = .next t ∧ (t.cnd.ch c).fast = v ∧ t.cnd.table = s.cnd.table ∧
      (∀ k, k ≠ c → t.cnd.ch k = s.cnd.ch k) ∧
      (code = 0 ∨ code = 0xFFFF → (t.cnd.ch c).use = .none ∧ (t.cnd.ch c).overload = true ∧
        ((s.cnd.ch c).overload = false → (t.cnd.ch c).flOverload = true ∧ (t.cnd.ch c).ovls = (s.cnd.ch c).ovls + 1) ∧
        ((s.cnd.ch c).overload = true → (t.cnd.ch c).ovls = (s.cnd.ch c).ovls)) ∧
      (code ≠ 0 → code ≠ 0xFFFF →
        ((s.cnd.ch c).flush = true → (t.cnd.ch c).use = .fast ∧ (t.cnd.ch c).fine = v ∧ (t.cnd.ch c).settle = 0 ∧ (t.cnd.ch c).flush = false) ∧
        ((s.cnd.ch c).flush = false →
          (e.stepThr ≠ 0 → e.stepThr.toNat < (v - (t.cnd.ch c).fine).natAbs →
            (t.cnd.ch c).use = .fast ∧ (t.cnd.ch c).settle = 0 ∧ (t.cnd.ch c).steps = (s.cnd.ch c).steps + 1 ∧ (t.cnd.ch c).flStep = true) ∧
          (e.stepThr = 0 ∨ (v - (t.cnd.ch c).fine).natAbs ≤ e.stepThr.toNat →
            (t.cnd.ch c).settle = (s.cnd.ch c).settle + 1 ∧ (t.cnd.ch c).steps = (s.cnd.ch c).steps ∧
            ((t.cnd.ch c).use = .fine ↔ settleLen e ≤ (s.cnd.ch c).settle + 1) ∧ (t.cnd.ch c).use ≠ .none) ∧
          (e.dcbMhz = 0 → e.firKind = 0 → e.maLen = 1 → (t.cnd.ch c).fine = v)))

/-- R158 to R160: SOURCE_STUCK, CND_FREEZE, SRC_RETURN and CND_CTRL_APPLY. -/
def Obligations.ConditioningControl : Prop :=
  ∀ (s : State) (ch : BitVec 6),
    let c := ch.toNat
    (s.domainOn 9 = true → s.cnd.isOn c = true → isBitstream (s.cnd.sourceInUse c) = true → (s.cnd.ch c).stuck = false →
      ∃ t, exec (.sourceStuck ch) s = .next t ∧ (t.cnd.ch c).use = .none ∧ (t.cnd.ch c).stuck = true ∧ (t.cnd.ch c).flStuck = true ∧
        (t.cnd.ch c).ovls = (s.cnd.ch c).ovls + 1 ∧ ∀ k, k ≠ c → t.cnd.ch k = s.cnd.ch k) ∧
    (∀ v : Bool, s.awake = true →
      ∃ t, exec (.cndFreeze ch v) s = .next t ∧ (t.cnd.ch c).pendFreeze = some v ∧ (t.cnd.ch c).freeze = (s.cnd.ch c).freeze) ∧
    (s.awake = true → ∃ t, exec (.srcReturn ch) s = .next t ∧ (t.cnd.ch c).pendReturn = true ∧ (t.cnd.ch c).alt = (s.cnd.ch c).alt) ∧
    (s.domainOn 9 = true →
      (∀ v : Bool, (s.cnd.ch c).pendFreeze = some v →
        ∃ t, exec (.cndCtrlApply ch) s = .next t ∧ (t.cnd.ch c).freeze = v ∧ (t.cnd.ch c).pendFreeze = none ∧ (t.cnd.ch c).offset = (s.cnd.ch c).offset) ∧
      ((s.cnd.ch c).pendReturn = true → (s.cnd.ch c).alt = true →
        ∃ t, exec (.cndCtrlApply ch) s = .next t ∧ (t.cnd.ch c).pendReturn = false ∧
          ((s.cnd.ch c).otherBad = false → (t.cnd.ch c).alt = false ∧ (t.cnd.ch c).flush = true) ∧
          ((s.cnd.ch c).otherBad = true → (t.cnd.ch c).alt = true ∧ (t.cnd.ch c).flReturnRefused = true)))

/-- R173, R175, R176, R178, Table 6.4. -/
def Obligations.TrackingChannelStates : Prop :=
  ∀ (s : State) (c : BitVec 9) (tab : GnsTable), s.baseband c.toNat tab →
    let ch := s.gns.ch c.toNat
    (∀ x : Int × Int, ch.state = .search → ch.handoff = some x →
      ∃ t, exec (.acqHandoff c) s = .next t ∧ (t.gns.ch c.toNat).state = .pullIn ∧ (t.gns.ch c.toNat).acqs = ch.acqs + 1 ∧
        (t.gns.ch c.toNat).codePhase = x.1 ∧ (t.gns.ch c.toNat).doppler = x.2 ∧ ∀ k, k ≠ c.toNat → t.gns.ch k = s.gns.ch k) ∧
    (∃ t, exec (.pullInDone c) s = .next t ∧
      if ch.state = .pullIn ∧ tab.pullBeats.toNat ≤ ch.beats ∧ tab.cn0Min ≤ ch.cn0 ∧ 1717986918 ≤ ch.lockInd
      then (t.gns.ch c.toNat).state = .track ∧ ∀ k, k ≠ c.toNat → t.gns.ch k = s.gns.ch k
      else t = s) ∧
    (∃ t, exec (.pullInTimeout c) s = .next t ∧
      if ch.state = .pullIn ∧ 200 ≤ ch.beats
      then (t.gns.ch c.toNat).state = .search ∧ t.gns.queue.length = s.gns.queue.length + 1 ∧ ∀ k, k ≠ c.toNat → t.gns.ch k = s.gns.ch k
      else t = s) ∧
    (∃ t, exec (.trackLowCn0 c) s = .next t ∧
      if ch.state = .track ∧ (20 ≤ ch.lowBeats ∨ 8 ≤ ch.satLatches)
      then (t.gns.ch c.toNat).state = .hold ∧ (t.gns.ch c.toNat).carrRate = ch.carrRate ∧ (t.gns.ch c.toNat).codeRate = ch.codeRate ∧
        ∀ k, k ≠ c.toNat → t.gns.ch k = s.gns.ch k
      else t = s) ∧
    (∃ t, exec (.coastExpired c) s = .next t ∧
      if ch.state = .hold ∧ tab.coastBeats.toNat ≤ ch.beats
      then (t.gns.ch c.toNat).state = .search ∧ (t.gns.ch c.toNat).flLost = true ∧ ∀ k, k ≠ c.toNat → t.gns.ch k = s.gns.ch k
      else t = s) ∧
    (∀ d : Dump, ch.state = .track →
      ∃ t, exec (.correlatorDump c d) s = .next t ∧ (t.gns.ch c.toNat).state = .track ∧ (t.gns.ch c.toNat).discND = ch.discND + 1 ∧
        (t.gns.ch c.toNat).discNC = ch.discNC + 1 ∧ (t.gns.ch c.toNat).dumps.head? = some (d.promptI, d.promptQ) ∧
        (t.gns.ch c.toNat).dumps.length ≤ 100 ∧ ∀ k, k ≠ c.toNat → t.gns.ch k = s.gns.ch k)

/-- R176, R180, R181. -/
def Obligations.AcquisitionEngine : Prop :=
  (∀ (s : State) (r : AcqReq), s.gns.powered = true → s.gns.recording = some (r, 0) → s.gns.searching = none → s.gns.queue = [] →
    ∃ t, exec .acqRecordDone s = .next t ∧ t.gns.searching = some (r, r.beats) ∧ t.gns.recording = none ∧ t.gns.channels = s.gns.channels) ∧
  (∀ (s : State) (r : AcqReq) (tab : GnsTable) (peak : Option AcqPeak), s.gns.searching = some (r, 1) → s.baseband r.channel tab →
    (s.gns.ch r.channel).state = .search →
    let hit := peak.any (fun p => decide (tab.acqThr.toNat < p.ratio) && !(p.outer && (s.gns.ch r.channel).aided))
    ∃ t, exec (.acqSearchDone peak) s = .next t ∧ t.gns.searching = none ∧ (∀ k, k ≠ r.channel → t.gns.ch k = s.gns.ch k) ∧
      (hit = true → (t.gns.ch r.channel).state = .search ∧ (t.gns.ch r.channel).handoff.isSome = true ∧ t.gns.queue = s.gns.queue) ∧
      (hit = false → (s.gns.ch r.channel).aided = false → (t.gns.ch r.channel).state = .idle ∧ (t.gns.ch r.channel).signal = 0) ∧
      (hit = false → (s.gns.ch r.channel).aided = true → (t.gns.ch r.channel).state = .search ∧
        (t.gns.ch r.channel).failures = (s.gns.ch r.channel).failures + 1 ∧ t.gns.queue.length = s.gns.queue.length + 1 ∧
        (t.gns.ch r.channel).aided = decide ((s.gns.ch r.channel).failures = 0)))

/-- R170, R171, R179, R189, R191, R192. -/
def Obligations.BasebandService : Prop :=
  (∀ (s : State) (k : BitVec 4), ∃ t, exec (.notchRelease k) s = .next t ∧
    (t.gns.strm k.toNat).notches = (s.gns.strm k.toNat).notches.filter (fun n => decide (n.2 < 100)) ∧ t.gns.channels = s.gns.channels) ∧
  (∀ (s : State) (b : Bool) (tab : GnsTable), s.gns.table = some tab → (s.gns.spoof b).suspected = true →
    ∃ t, exec (.spoofClear b) s = .next t ∧
      ((t.gns.spoof b).suspected = false ↔ tab.spoofClear.toNat ≤ (s.gns.spoof b).clean) ∧ t.gns.spoof (!b) = s.gns.spoof (!b)) ∧
  (∀ (s : State) (h : HostRef), s.unionTurn h →
    (∀ (n e : Int) (g : Word), ∃ t, exec (.gnssAid h n e g) s = .next t ∧ t.gns = { s.gns with aid := some (n, e, g) }) ∧
    (∀ (sv : BitVec 12) (w : List Word), ∃ t, exec (.gnssEph h sv w) s = .next t ∧ Tab.get [] t.gns.orbits sv.toNat = w ∧
      ∀ k, k ≠ sv.toNat → Tab.get [] t.gns.orbits k = Tab.get [] s.gns.orbits k) ∧
    (∀ (l : Long) (sats : List Nat) (ints : List Int) (x : Nat), x ∈ sats → l.toNat < Tab.get 0 s.gns.att.slips x →
      ∃ t, exec (.gnssAmbFix h l sats ints) s = .next t ∧ t.gns = s.gns ∧ (h ∈ s.hst.heard → t.lastAnswer stStale 0))) ∧
  (∀ (s : State) (h : HostRef), s.sessionMay h 0 →
    ∃ t, exec (.gnssAmbRead h s.pub.gns.att.latchBeat) s = .next t ∧ t.lastAnswer stOk 0 ∧ t.gns = s.gns) ∧
  (∀ (s : State) (p : BitVec 2) (tab : GnsTable) (a : Half) (x v : Word), s.gns.table = some tab →
    tab.spi = [{ port := p.setWidth 8, verify := true, address := a, value := x }] → s.gns.spiPending = tab.spi →
    ∃ t, exec (.frontEndReadback p [v]) s = .next t ∧ t.gns.spiPending = [] ∧
      (v ≠ x → ∀ k < 4, (t.gns.strm (4 * p.toNat + k)).feCfg = true ∧ (t.gns.strm (4 * p.toNat + k)).disabled = true) ∧
      (v = x → t.gns.streams = s.gns.streams)) ∧
  (∀ (s : State) (tab : GnsTable), s.gns.table = some tab → s.sch.running = true → s.beat.live = true →
    (s.sch.watch = true → s.gns.burst = false → tab.burstBeats ≠ 0 → s.beat.n.toNat % 1000 = tab.burstBeat.toNat →
      ∃ t, exec .watchBurstStart s = .next t ∧ t.gns.burst = true ∧ t.gns.powered = true) ∧
    (s.gns.burst = true →
      ∃ t, exec .watchBurstEnd s = .next t ∧ t.gns.burst = false ∧ t.gns.powered = false ∧
        ∀ c, (t.gns.ch c).wasTrack = decide ((t.gns.ch c).state = .track)))

/-- R202, R204, R205, R208, R210, R213, R218: the four operations of a problem on a ready engine. -/
def Obligations.SolverOperations : Prop :=
  ∀ (s : State) (op : OpRun), s.engineReady op →
    (∀ (k : Nat) (x : Schedule) (d : ProblemDesc) (data : ProblemData), s.sch.sched = some x → x.problems[k]? = some d → d.kind ≠ 5 →
      Tab.get none s.hwk.progress d.slot.toNat = none →
      ∃ t p, exec (.loadOp op k data) s = .next t ∧ Tab.get none t.hwk.progress d.slot.toNat = some p ∧ p.desc = d ∧ p.phase = .loaded ∧
        (p.flags.warm = true ↔ (Tab.get Praline.zero s.hwk.praline d.slot.toNat).keySig = d.structSig) ∧
        (if p.flags.warm then 1 else 0) + (if p.flags.mapped then 1 else 0) + (if p.flags.cold then 1 else 0) = 1 ∧
        p.resX = clampVec p.x p.data.lx p.data.ux ∧ t.hwk.praline = s.hwk.praline ∧ t.hwk.results = s.hwk.results) ∧
    (∀ (slot : Byte) (p : Problem), Tab.get none s.hwk.progress slot.toNat = some p →
      (p.phase = .loaded → p.desc.factorSrc = 0 → 0 < p.desc.pivotThr.toInt → p.desc.pivotThr.toNat ≤ p.desc.delta.toNat →
        ∃ t q, exec (.factorOp op slot) s = .next t ∧ Tab.get none t.hwk.progress slot.toNat = some q ∧ q.phase = .factored ∧
          q.factor.length = pivotCount p.desc ∧ (∀ d ∈ q.factor, p.desc.pivotThr.toNat ≤ d.natAbs) ∧
          (q.flags.pivotReg = true ↔ q.pivots ≠ 0) ∧ q.resX = p.resX) ∧
      (p.phase = .factored →
        ∃ t q, exec (.iterateOp op slot) s = .next t ∧ Tab.get none t.hwk.progress slot.toNat = some q ∧ q.phase = .iterated ∧
          (p.desc.iter ≠ 0 → q.iterDone = p.desc.iter.toNat ∧ q.resX = clampVec q.x p.data.lx p.data.ux) ∧
          (p.desc.iter = 0 → q.resX = p.resX) ∧ (p.desc.resThr = 0 → q.flags.notConv = false)) ∧
      (∃ t, exec (.storeOp op slot) s = .next t ∧ Tab.get none t.hwk.progress slot.toNat = none ∧
        Tab.get ProbResult.zero t.hwk.results slot.toNat = resultOf p s.beat.n.toNat op.complete.toNat ∧
        (Tab.get Praline.zero t.hwk.praline slot.toNat).keySig = p.desc.structSig ∧
        (Tab.get Praline.zero t.hwk.praline slot.toNat).x = p.resX ∧ (Config.completionEvent slot.toNat).toNat ∈ t.sch.events))

/-- R63, R214, R216, R221, Table 7.5. -/
def Obligations.SolverDeadlines : Prop :=
  ∀ (s : State) (op : OpRun) (slot : Byte) (dl : BitVec 20) (col done : Nat), s.engineReady op →
    ∃ t, exec (.solverDeadline op slot dl col done) s = .next t ∧ t.hwk.praline = s.hwk.praline ∧
      (s.isJobSlot slot.toNat = true → s.hwk.job.discarded = false →
        t.hwk.job.discarded = true ∧ t.hwk.job.candidate = none ∧ t.hwk.flBa = true ∧ t.hwk.discards = s.hwk.discards + 1 ∧ t.sch.flBreach = true) ∧
      (s.isJobSlot slot.toNat = false → Tab.get none s.hwk.progress slot.toNat = none →
        Tab.get ProbResult.zero t.hwk.results slot.toNat =
            { Tab.get ProbResult.zero s.hwk.results slot.toNat with
              flags := { (Tab.get ProbResult.zero s.hwk.results slot.toNat).flags with dlLoad := true, notConv := false } } ∧
          t.hwk.flDeadline = true ∧ t.sch.flBreach = true) ∧
      (∀ p : Problem, s.isJobSlot slot.toNat = false → Tab.get none s.hwk.progress slot.toNat = some p →
        (p.phase = .loaded → p.desc.factorCyc ≠ 0 →
          ∃ q, Tab.get none t.hwk.progress slot.toNat = some q ∧ q.phase = .stopped ∧ q.flags.dlFactor = true ∧ q.flags.notConv = false ∧
            q.flags.pivotReg = p.flags.pivotReg ∧ q.resX = p.resX ∧ t.hwk.flDeadline = true ∧ t.sch.flBreach = true) ∧
        (p.phase = .factored →
          ∃ q, Tab.get none t.hwk.progress slot.toNat = some q ∧ q.phase = .stopped ∧ q.flags.dlIter = true ∧ q.flags.notConv = false ∧
            q.flags.pivotReg = p.flags.pivotReg ∧ (done ≠ 0 → p.desc.iter ≠ 0 → q.iterDone = min done p.desc.iter.toNat) ∧
            (done = 0 → q.resX = p.resX) ∧ t.hwk.flDeadline = true ∧ t.sch.flBreach = true))

/-- R220, R221. -/
def Obligations.BackgroundJob : Prop :=
  ∀ (s : State) (op : OpRun) (slot : Byte) (n : Nat), s.engineReady op →
    ∃ t, exec (.baSlice op slot n) s = .next t ∧
      (s.hwk.job.discarded = true → t.hwk = s.hwk) ∧
      (s.hwk.job.discarded = false → s.hwk.job.done = 0 → t.hwk.job.done = 1 ∧ t.hwk.job.slices = n ∧ t.hwk.job.slot = slot.toNat ∧
        (t.hwk.job.candidate.isSome = true ↔ n ≤ 1)) ∧
      (s.hwk.job.discarded = false → s.hwk.job.done ≠ 0 → s.hwk.job.done < s.hwk.job.slices →
        t.hwk.job.done = s.hwk.job.done + 1 ∧
        (s.hwk.job.done + 1 = s.hwk.job.slices → t.hwk.job.candidate.isSome = true ∧ t.hwk.jobs = s.hwk.jobs + 1) ∧
        (s.hwk.job.done + 1 ≠ s.hwk.job.slices → t.hwk.job.candidate = none ∧ t.hwk.jobs = s.hwk.jobs))

/-- R236, R240, R241, Table 8.2. -/
def Obligations.ReferenceRows : Prop :=
  ∀ (s : State) (slot : BitVec 6),
    let k := slot.toNat
    let kept := fun (t : State) => t.est.xHat = s.est.xHat ∧ t.est.history = s.est.history ∧ (∀ j, j ≠ k → t.est.ref j = s.est.ref j) ∧
      (t.est.ref k).origin = (s.est.ref k).origin
    (∀ h : HostRef, s.unionTurn h →
      ((s.est.ref k).state ≠ .disabled →
        ∃ t, exec (.deselectRef h slot) s = .next t ∧ (t.est.ref k).state = .deselected ∧ kept t) ∧
      ((s.est.ref k).state = .deselected →
        ∃ t, exec (.selectRef h slot) s = .next t ∧ (t.est.ref k).state = .acquire ∧ (t.est.ref k).good = 0 ∧ kept t) ∧
      ((s.est.entry k).kind = 2 → (s.est.ref k).state ≠ .disabled →
        ∃ t, exec (.resetOrigin h slot) s = .next t ∧ (t.est.ref k).state = .acquire ∧ (t.est.ref k).good = 0 ∧ kept t)) ∧
    ((s.est.ref k).state = .acquire ∨ (s.est.ref k).state = .admitted ∨ (s.est.ref k).state = .rejected →
      (s.est.entry k).staleBeats ≠ 0 → (s.est.entry k).staleBeats.toNat ≤ (s.est.ref k).stale →
        ∃ t, exec (.referenceStale slot) s = .next t ∧ (t.est.ref k).state = .stale ∧ kept t) ∧
    (s.est.initialised = true → s.est.initFlag = true → s.est.initLeft = 0 →
      ∃ t, exec .initBeatsEnd s = .next t ∧ t.est = { s.est with initFlag := false, flags := s.est.flags &&& 0xFDFF })

/-- R231, R232, R236, R237: `EstSt.offer` is what LOAD of the update problem does with each sample. -/
def Obligations.ReferenceSamples : Prop :=
  ∀ (e : EstSt) (par : List Int) (k n : Nat) (sm : RefSample), (e.entry k).kind ≠ 0 →
    let d := delayOf n sm.instant
    let late := (e.entry k).maxD.toNat < d ∨ (0 < d ∧ e.history.length < d)
    (late → ∀ b, (e.offer par k n sm b).2.1 = true ∧ (e.offer par k n sm b).1.ref k = { e.ref k with late := (e.ref k).late + 1 } ∧
      (e.offer par k n sm b).1.flLate = true ∧ (e.offer par k n sm b).2.2 = []) ∧
    (¬ late →
      ((e.offer par k n sm true).1.ref k).superseded = (e.ref k).superseded + 1 ∧ ((e.offer par k n sm true).1.ref k).samples = (e.ref k).samples ∧
      (let r := (e.offer par k n sm false).1.ref k
       let reason := (singleTest (refClass k) (e.entry k) (e.ref k) sm (e.innovation par k n d sm)
         (if (refClass k = .position ∨ refClass k = .heading) ∧ e.peOn = true then e.table.map (fun t => t.peThr.toNat) else none)).1
       r.samples = (e.ref k).samples + 1 ∧ r.applied = true ∧ r.stale = 0 ∧ r.lastD = BitVec.ofNat 4 d ∧
       (sm.reject = true → reason = 8) ∧
       (reason = 0 → r.passed = true ∧ (e.offer par k n sm false).2.2 = []) ∧
       (reason ≠ 0 → r.passed = false ∧ r.good = 0 ∧
         ((e.ref k).state = .admitted → r.state = .rejected ∧ r.reason = BitVec.ofNat 4 reason ∧ r.rejects = (e.ref k).rejects + 1 ∧
           (e.offer par k n sm false).1.flRejected = true ∧ ∃ v, (e.offer par k n sm false).2.2 = [(0x0701, v)]) ∧
         ((e.ref k).state ≠ .admitted → (e.ref k).deselNow = false → (e.offer par k n sm false).2.2 = [] ∧ r.reason = (e.ref k).reason))))

/-- R231, R234, R245, R246, Table 8.5. -/
def Obligations.EstimatorResult : Prop :=
  ∀ (e : EstSt) (par : List Int) (f : ProbFlags) (w : List Int),
    let u := (e.update par f w).1
    let lost := f.dlLoad = true ∨ f.dlFactor = true
    (lost → u.xHat = e.prior ∧ u.jAcc = e.jAcc ∧ u.flags.getLsbD 0 = true ∧ u.flags.getLsbD 4 = true ∧ u.flNoUpdate = true ∧
      (e.update par f w).2 = [(0x0707, [0, BitVec.ofNat 32 f.code])]) ∧
    (¬ lost → e.updates = true → u.xHat = Config.estCombine par e.prior e.factor w ∧ (e.update par f w).2 = []) ∧
    u.history = (u.xHat :: e.history).take 8 ∧ u.history.length ≤ 8 ∧ u.factor = e.factor ∧
    (let c := (e.covariance par f w).1
     (lost ∨ f.dlIter = true → c = { e with covLost := e.covLost + 1 }) ∧
     (¬ (lost ∨ f.dlIter = true) → c.factor = e.factor ∧ c.jAcc = [] ∧ c.beginBeat.factor = Config.covStep par e.factor e.jAcc w)) ∧
    (∀ (t : EstTable) (watch : Bool), e.table = some t →
      let h := (e.healthStep watch).1
      let limit := if watch then t.drLimitWatch.toNat else t.drLimit.toNat
      (h.health = 0 ↔ e.initialised = false ∨ e.initFlag = true ∨ e.admittedCount .heading = 0 ∨ (limit ≠ 0 ∧ limit < h.drBeats)) ∧
      (h.health = 1 ↔ h.health ≠ 0 ∧ e.admittedCount .position = 0) ∧
      (h.health = 2 ↔ h.health ≠ 0 ∧ e.admittedCount .position ≠ 0 ∧ e.flags &&& 0x003F ≠ 0) ∧
      (h.drBeats = 0 ∨ h.drBeats = min 0xFFFF (e.drBeats + 1)))

/-- R253 to R256, R260: CSI_FRAME_START, CSI_FRAME_END and LIDAR_DATAGRAM. -/
def Obligations.LunaIntake : Prop :=
  (∀ (s : State) (port : BitVec 2) (vc dt err : Byte) (stamp : Option Nat) (data : List Int) (t : Nat) (c : CameraCfg),
    let k := port.toNat
    s.domainOn 7 = true → s.lun.camera k = some c →
    (c.vc = vc → c.dataType = dt →
      (∃ u, exec (.csiFrameStart port vc dt t) s = .next u ∧ (u.lun.src k).open_ = some t ∧ (u.lun.src k).waiting = (s.lun.src k).waiting ∧
        (u.lun.src k).drops = (s.lun.src k).drops + (if (s.lun.src k).open_.isSome then 1 else 0) ∧ u.lun.grid = s.lun.grid) ∧
      (∀ fs, (s.lun.src k).open_ = some fs →
        ∃ u, exec (.csiFrameEnd port vc dt err stamp data t) s = .next u ∧ (u.lun.src k).open_ = none ∧
          (err ≠ 0 → (u.lun.src k).waiting = (s.lun.src k).waiting ∧ (u.lun.src k).drops = (s.lun.src k).drops + 1 ∧
            (u.lun.src k).lastDrop = 3 ∧ (u.lun.src k).frames = (s.lun.src k).frames) ∧
          (err = 0 → c.embTsLine = 0 →
            (u.lun.src k).waiting = some { instant := fs - c.fsOffset.toNat, data := data } ∧ (u.lun.src k).frames = (s.lun.src k).frames + 1 ∧
            ((s.lun.src k).waiting = none → (u.lun.src k).drops = (s.lun.src k).drops) ∧
            ((s.lun.src k).waiting ≠ none → (u.lun.src k).drops = (s.lun.src k).drops + 1 ∧ (u.lun.src k).lastDrop = 1)))) ∧
    (c.vc ≠ vc ∨ c.dataType ≠ dt →
      ∃ u, exec (.csiFrameStart port vc dt t) s = .next u ∧
        u.lun = s.lun.setSrc k { s.lun.src k with ignored := (s.lun.src k).ignored + 1 } ∧
        exec (.csiFrameEnd port vc dt err stamp data t) s = .next u)) ∧
  (∀ (s : State) (source : BitVec 2) (data : List Byte) (t : Nat) (c : LidarCfg),
    let k := source.toNat + 4
    s.domainOn 7 = true → s.lun.lidar k = some c → s.tim.portModel (28 + c.port.toNat) = none → c.stride ≠ 0 → 2 ≤ c.sweepMax.toNat →
      ∃ u, exec (.lidarDatagram source data t) s = .next u ∧
        (data.length < c.hdrBytes.toNat + c.stride.toNat → u.lun = s.lun) ∧
        (data.length = c.hdrBytes.toNat + c.stride.toNat →
          let p := lidarPoint c data c.hdrBytes.toNat
          (u.lun.src k).lastAz = some p.2.1 ∧
          ((∃ a, (s.lun.src k).lastAz = some a ∧ p.2.1 < a) → (s.lun.src k).points ≠ [] →
            (u.lun.src k).points = [(p.1, t + p.2.2)] ∧ (u.lun.src k).frames = (s.lun.src k).frames + 1) ∧
          ((s.lun.src k).lastAz = none → (s.lun.src k).points.length + 1 < c.sweepMax.toNat →
            (u.lun.src k).points = (s.lun.src k).points ++ [(p.1, t + p.2.2)] ∧ (u.lun.src k).frames = (s.lun.src k).frames)))

/-- R261, R263, R265: LUNA_OP. -/
def Obligations.LunaOperations : Prop :=
  ∀ (s : State) (op : OpRun) (x : LunaTable), s.engineReady op → s.lun.table = some x →
    (∃ t, exec (.lunaOp op .fuse) s = .next t ∧ t.lun.cal = s.lun.cal ∧ t.lun.tracks = s.lun.tracks ∧
      (∀ k, (∀ i ∈ s.beat.union, i.kind = 4 → bits (i.payload.getD 0 0) 15 0 ≠ k) →
        (Tab.get GridTile.zero t.lun.grid k).age = min ((Tab.get GridTile.zero s.lun.grid k).age + 1) 65535 ∧
        (x.ageMax.toNat < min ((Tab.get GridTile.zero s.lun.grid k).age + 1) 65535 → (Tab.get GridTile.zero t.lun.grid k).cells = []) ∧
        (min ((Tab.get GridTile.zero s.lun.grid k).age + 1) 65535 ≤ x.ageMax.toNat →
          (Tab.get GridTile.zero t.lun.grid k).cells = (Tab.get GridTile.zero s.lun.grid k).cells)) ∧
      (∀ i, s.beat.union.filter (fun j => decide (j.kind = 4)) = [i] → bits (i.payload.getD 0 0) 15 0 < 256 →
        let g := (x.gain.getD (bits (i.payload.getD 0 0) 23 16) 0).toNat
        let k := bits (i.payload.getD 0 0) 15 0
        (Tab.get GridTile.zero t.lun.grid k).age = 0 ∧
        (Tab.get GridTile.zero t.lun.grid k).cells =
          List.zipWith (fuseValue g) (Tab.get GridTile.zero s.lun.grid k).values (tileItemCells i.payload))) ∧
    (∃ t, exec (.lunaOp op .track) s = .next t ∧ t.lun.cal = s.lun.cal ∧ t.lun.grid = s.lun.grid ∧
      ∀ n, (Tab.get Track.zero s.lun.tracks n).state ≠ .free →
        trackCell x (s.est.prevPose.getD 0 0, s.est.prevPose.getD 1 0, s.est.prevPose.getD 2 0) (Tab.get Track.zero s.lun.tracks n) = none →
        (Tab.get Track.zero t.lun.tracks n).state = .free) ∧
    (∀ (g : Nat) (f u : Int), -128 ≤ fuseValue g f u ∧ fuseValue g f u ≤ 127) ∧
    (∀ source : BitVec 3, ∃ t, exec (.lunaOp op (.layers source 0)) s = .next t ∧ t.lun = s.lun)

/-- R268, R270, R272, R273. -/
def Obligations.TargetsAndCalibration : Prop :=
  (∀ (s : State) (h : HostRef), s.unionTurn h →
    (∀ (b : BitVec 3) (track : BitVec 12) (gen : Half) (slot : BitVec 4),
      ∃ t, exec (.targetBind h b track gen slot) s = .next t ∧
        (s.lun.bindOk b.toNat track gen slot (s.est.takesTarget slot.toNat) = true →
          let x := Tab.get Binding.zero t.lun.bindings b.toNat
          x.bound = true ∧ x.track = track ∧ x.gen = gen ∧ x.slot = slot ∧ t.lun.flBindRefused = s.lun.flBindRefused) ∧
        (s.lun.bindOk b.toNat track gen slot (s.est.takesTarget slot.toNat) = false → t.lun = { s.lun with flBindRefused := true })) ∧
    (∀ b : BitVec 3, ∃ t, exec (.targetClear h b) s = .next t ∧ (Tab.get Binding.zero t.lun.bindings b.toNat).bound = false) ∧
    (∀ m : Byte,
      let queued := fun (t : State) (c : CalCmd) => t.lun.cal = s.lun.cal ∧
        ∀ k, k < 8 → Tab.get CalCmd.none t.lun.pending k = if m.getLsbD k then c else Tab.get CalCmd.none s.lun.pending k
      (∃ t, exec (.calFreeze h m) s = .next t ∧ queued t .freeze) ∧ (∃ t, exec (.calUnfreeze h m) s = .next t ∧ queued t .unfreeze) ∧
      (∃ t, exec (.calAccept h m) s = .next t ∧ queued t .accept) ∧ (∃ t, exec (.calReset h m) s = .next t ∧ queued t .reset))) ∧
  (∀ (s : State) (b : CalBaseline), s.atBoundary = true → s.lun.baseline = some b →
    ∃ t, exec .calibrationApply s = .next t ∧ t.lun.cal.baseline = s.lun.cal.baseline ∧
      ∀ k, k < 8 → Tab.get CalCmd.none t.lun.pending k = .none ∧
        (Tab.get CalCmd.none s.lun.pending k = .reset →
          Tab.get [] t.lun.cal.learned k = Tab.get [] s.lun.cal.baseline k ∧ Tab.get [] t.lun.cal.accepted k = Tab.get [] s.lun.cal.baseline k) ∧
        (Tab.get CalCmd.none s.lun.pending k = .freeze → t.lun.cal.frozen.getLsbD k = true ∧
          Tab.get [] t.lun.cal.learned k = Tab.get [] s.lun.cal.learned k) ∧
        (Tab.get CalCmd.none s.lun.pending k = .unfreeze → t.lun.cal.frozen.getLsbD k = false) ∧
        (Tab.get CalCmd.none s.lun.pending k = .accept → Tab.get [] t.lun.cal.accepted k = Tab.get [] t.lun.cal.learned k) ∧
        (Tab.get CalCmd.none s.lun.pending k = .none → Tab.get [] t.lun.cal.accepted k = Tab.get [] s.lun.cal.accepted k)) ∧
  (∀ (step dev : Nat) (learned accepted delta : Int),
    (calStep step dev false learned accepted delta).1 - accepted ≤ dev ∧ accepted - (calStep step dev false learned accepted delta).1 ≤ dev ∧
    ((learned - accepted).natAbs ≤ dev → ((calStep step dev false learned accepted delta).1 - learned).natAbs ≤ step))

/-- R284, R286, R290, R293, Table 10.4. -/
def Obligations.DeviceCommands : Prop :=
  ∀ (s : State) (h : HostRef) (device : BitVec 6), s.unionTurn h →
    let k := device.toNat
    let d := s.alc.dev k
    let others := fun (t : State) => ∀ j, j ≠ k → t.alc.dev j = s.alc.dev j
    (∃ t, exec (.deviceOut h device) s = .next t ∧ others t ∧
      (s.alc.stateOf k = .unused → t.alc.dev k = d ∧ t.alc.sticky = s.alc.sticky ||| 512) ∧
      (s.alc.stateOf k ≠ .unused → (t.alc.dev k).state = .lost ∧ (t.alc.dev k).reason = 3 ∧
        (s.alc.stateOf k ≠ .lost → (t.alc.dev k).losses = d.losses + 1 ∧ t.alc.sticky.getLsbD 0 = true))) ∧
    (∃ t, exec (.deviceIn h device) s = .next t ∧ others t ∧
      (s.alc.stateOf k = .lost ∧ d.reason ≠ 4 ∧ d.healthy = true ∧ d.fbNow = true ∧ d.eventNow = false →
        (t.alc.dev k).state = .available ∧ (t.alc.dev k).thrust = 0 ∧ t.alc.sticky = s.alc.sticky) ∧
      (¬ (s.alc.stateOf k = .lost ∧ d.reason ≠ 4 ∧ d.healthy = true ∧ d.fbNow = true ∧ d.eventNow = false) →
        t.alc.dev k = d ∧ t.alc.sticky = s.alc.sticky ||| 512)) ∧
    (∀ c, s.alc.devCfg k = some c →
      ∃ t, exec (.deviceUnlock h device) s = .next t ∧ others t ∧
        (s.alc.stateOf k = .locked ∧ d.healthy = true ∧ d.fbNow = true ∧ d.eventNow = false ∧ angleDist d.fbAngle d.dLock ≤ c.lockTol.toNat →
          (t.alc.dev k).state = .available ∧ (t.alc.dev k).thrust = d.thrust) ∧
        (s.alc.stateOf k ≠ .locked ∨ c.lockTol.toNat < angleDist d.fbAngle d.dLock → t.alc.dev k = d ∧ t.alc.sticky = s.alc.sticky ||| 512)) ∧
    (∀ m : BitVec 4, s.alc.stateOf k ≠ .unused →
      ∃ t, exec (.sectorEnable h device m) s = .next t ∧ others t ∧ t.alc.dev k = { d with enabled := m }) ∧
    (∀ (v : BitVec 12),
      (∀ x, s.variants.find? (fun e => decide (e.id = v.setWidth 16)) = some x → s.alc.usable x = true →
        ∃ t, exec (.variantOverride h v true) s = .next t ∧ t.alc.override = some x.id ∧ t.alc.devices = s.alc.devices) ∧
      ((∀ x, s.variants.find? (fun e => decide (e.id = v.setWidth 16)) = some x → s.alc.usable x = false) →
        ∃ t, exec (.variantOverride h v true) s = .next t ∧ t.alc = { s.alc with sticky := s.alc.sticky ||| 256 }) ∧
      (∃ t, exec (.variantOverride h v false) s = .next t ∧ t.alc.override = none))

/-- R284, R285, R291, R292, R295: the functions that the union and STORE of the allocator's slot apply to each device. -/
def Obligations.AllocationRules : Prop :=
  (∀ (d : AlcDev) (k : Nat) (c : AlcDevCfg) (read : FieldReader),
    (∀ v, c.statusField ≠ 0 → read c.statusField c.fbSide = some v → v.1.testBit 1 = true →
      (d.state = .available ∨ d.state = .locked → (d.update k c read).1.state = .lost ∧ (d.update k c read).1.reason = 1 ∧
        (d.update k c read).2 = [(0x0901, [wordN k, 1, wordN d.state.code])]) ∧
      (d.state = .lost → (d.update k c read).1.state = .lost)) ∧
    (d.state = .lost → d.reason ≠ 4 → (d.update k c read).1.state = .lost) ∧
    (d.state = .lost → d.reason = 4 → c.statusField ≠ 0 → c.fbField = 0 →
      ((d.update k c read).1.state = .available ↔ ∃ v, read c.statusField c.fbSide = some v ∧ v.1.testBit 0 = true ∧ v.1.testBit 1 = false))) ∧
  (∀ (d : AlcDev) (c : AlcDevCfg) (inV : DevState) (x : List Int) (pin : Bool),
    (d.state = .lost → (postDevice d c inV x pin).thrust = 0 ∧ (postDevice d c inV x pin).angle = d.angle ∧ (holdDevice d c pin).thrust = 0) ∧
    (d.state ≠ .lost → -(devRev c) ≤ d.thrust → d.thrust ≤ one31 → 0 ≤ devDt c →
      (-(devRev c) ≤ (postDevice d c inV x pin).thrust ∧ (postDevice d c inV x pin).thrust ≤ one31 ∧
        ((postDevice d c inV x pin).thrust - d.thrust).natAbs ≤ (devDt c).natAbs) ∧
      ((holdDevice d c pin).thrust - d.thrust).natAbs ≤ (devDt c).natAbs)) ∧
  (∀ (a : AlcSt) (vs : List VariantEntry), (∃ v ∈ vs, v.id = 0 ∧ v.lossMask = 0 ∧ v.lockMask = 0) →
    ∃ v ∈ vs, v.id = (a.select vs).1 ∧ a.usable v = true)

/-- R301, R305, R309, R311, R315, R319, R321 to R324: COMPENSATOR_OP. -/
def Obligations.CompensatorWork : Prop :=
  (∀ (s : State) (op : OpRun), s.engineReady op →
    (∀ (k : Nat) (c : SlotCfg), s.ctl.slotCfg k = some c → slotDue c s.beat.n.toNat = true → bits c.input 31 28 ≠ 5 →
      ∃ t, exec (.compensatorOp op (.runSlots [k])) s = .next t ∧ (∀ j, j ≠ k → t.ctl.slot j = s.ctl.slot j) ∧ t.ctl.demand = s.ctl.demand ∧
        let input := if c.tag = 2 then s.ctl.localInput s.pub.ctl c.input s.pub.beat.toNat s.slotExt else s.ctl.input c.input s.beat.n.toNat s.slotExt
        let x := (t.ctl.slot k).x
        let o := s.ctl.slot k
        (input = none → x = o.x ∧ (t.ctl.slot k).flags.getLsbD 4 = true) ∧ (∀ v, input = some v → x = satS 32 v) ∧
        (t.ctl.slot k).runs = o.runs + 1 ∧
        let y := clampI c.stateMin c.stateMax (satS 48 (slotAcc c.order.toNat o.coefs x o.xh o.yh))
        (t.ctl.slot k).out = clampI c.outMin c.outMax y ∧
        (c.flags.getLsbD 1 = false → (t.ctl.slot k).ys = y ∧ (t.ctl.slot k).xh = (x :: o.xh).take 3 ∧ (t.ctl.slot k).yh = (y :: o.yh).take 3)) ∧
    (∃ t, exec (.compensatorOp op .law) s = .next t ∧ t.ctl.mode = s.ctl.mode ∧ t.ctl.slots = s.ctl.slots ∧
      ∀ d, d < 3 → s.ctl.table ≠ none →
        (autoIn s.ctl.mode d = false → joyIn s.ctl.mode d = false → t.ctl.demand.getD d 0 = 0) ∧
        (∀ x, s.ctl.table = some x → joyIn s.ctl.mode d = true →
          let p := s.ctl.joy.getD d 0 * ((x.joyScale.getD d 0).toNat : Int)
          p.natAbs < 2 ^ 45 → (t.ctl.demand.getD d 0 * 32768 - p).natAbs < 32768)) ∧
    (∃ t, exec (.compensatorOp op .loops) s = .next t ∧ t.ctl.demand = s.ctl.demand ∧
      ∀ x, s.ctl.table = some x →
        (∀ w f, x.winches[w]? = some f →
          let v := Tab.get WinchSt.zero t.ctl.winches w
          v.demand.natAbs ≤ f.speedMax.toNat ∧ (v.mode = .stop → v.demand = 0) ∧
          (s.estView.motionLost = true → v.mode ≠ .ahc ∧ v.mode ≠ .ahcTension)) ∧
        (∀ k f, x.stabs[k]? = some f →
          let v := Tab.get StabSt.zero t.ctl.stabs k
          (v.enabled = false → v.demand = 0) ∧ (f.kind = 1 → s.estView.velU.natAbs < f.minSpeed.toNat → v.gated = true ∧ v.demand = 0))) ∧
    (∃ t, exec (.compensatorOp op .begin_) s = .next t ∧ (s.sch.watch = true → s.ctl.waiting = [] → t.ctl.mode = .standby)) ∧
    (∃ t, exec (.compensatorOp op .advance) s = .next t ∧ t.ctl.mode = s.ctl.mode ∧ t.ctl.slots = s.ctl.slots)) ∧
  (∀ len s sd vmax amax edone : Int, 0 ≤ amax →
    let r := rampStep len s sd vmax amax edone
    (r.2.1 - sd).natAbs ≤ (rndDiv (amax * 65536) 1000).natAbs ∧ (sd.natAbs ≤ vmax.toNat → r.2.1.natAbs ≤ vmax.toNat))

/-- R307, R314 to R317, R321, R323, Table 11.7. -/
def Obligations.ControlRequests : Prop :=
  ∀ (s : State) (h : HostRef), s.unionTurn h →
    (∃ t, exec (.setMode h 0) s = .next t ∧ t.ctl.mode = .standby ∧ t.ctl.refused = s.ctl.refused) ∧
    (∀ (code : Byte) (m : DpMode), DpMode.ofCode code.toNat = some m → m ≠ .standby → m ≠ s.ctl.mode →
      ∃ t, exec (.setMode h code) s = .next t ∧ t.ctl.winches = s.ctl.winches ∧ t.est = s.est ∧
        (s.sch.watch = false → s.ctl.unmet.getD m.code 0 = 0 →
          t.ctl.mode = m ∧
          (posAuto m = true → s.ctl.mode ≠ .followTarget →
            t.ctl.refN = s.estView.posN * 65536 ∧ t.ctl.refE = s.estView.posE * 65536 ∧ t.ctl.spN = s.estView.posN ∧ t.ctl.posRamp = none) ∧
          (m = .autoPosition → s.ctl.mode = .followTarget → t.ctl.refN = s.ctl.refN ∧ t.ctl.vrefN = s.ctl.vrefN) ∧
          (psiAuto m = true → psiAuto s.ctl.mode = false → t.ctl.refPsi = (s.estView.heading.toNat : Int) * 65536 ∧ t.ctl.spPsi = s.estView.heading)) ∧
        (s.sch.watch = true ∨ s.ctl.unmet.getD m.code 0 ≠ 0 →
          t.ctl.mode = s.ctl.mode ∧ t.ctl.refN = s.ctl.refN ∧ t.ctl.refPsi = s.ctl.refPsi ∧ t.ctl.slots = s.ctl.slots ∧
            t.ctl.refused = s.ctl.refused + 1 ∧ t.ctl.sticky.getLsbD 0 = true)) ∧
    (∀ b : BitVec 3, ∃ t, exec (.setTarget h b) s = .next t ∧ t.ctl = { s.ctl with tgt := b }) ∧
    (∀ (w : BitVec 5) (x : CtlTable) (f : WinchCfg), s.ctl.table = some x → x.winches[w.toNat]? = some f →
      (∃ t, exec (.winchModeRequest h w 0) s = .next t ∧ (Tab.get WinchSt.zero t.ctl.winches w.toNat).mode = .stop) ∧
      (s.estView.motionLost = true →
        ∃ t, exec (.winchModeRequest h w 2) s = .next t ∧ t.ctl = { s.ctl with refused := s.ctl.refused + 1 })) ∧
    (∀ (k : BitVec 3) (on : Bool) (x : CtlTable) (f : StabCfg), s.ctl.table = some x → x.stabs[k.toNat]? = some f →
      ∃ t, exec (.stabEnable h k on) s = .next t ∧
        Tab.get StabSt.zero t.ctl.stabs k.toNat = { Tab.get StabSt.zero s.ctl.stabs k.toNat with enabled := on }) ∧
    (∀ (who : Who) (k : BitVec 11) (c : SlotCfg), s.ctl.slotCfg k.toNat = some c →
      let bad := c.order = 2 ∧ ((s.ctl.slot k.toNat).shadow.b.getD 3 0 ≠ 0 ∨ (s.ctl.slot k.toNat).shadow.a.getD 2 0 ≠ 0)
      (c.tag = 1 →
        ∃ t, exec (.coefApply who h k) s = .next t ∧
          (bad → t.ctl.slots = s.ctl.slots ∧ t.ctl.sticky.getLsbD 7 = true) ∧
          (¬ bad → t.ctl.slot k.toNat = { s.ctl.slot k.toNat with coefs := (s.ctl.slot k.toNat).shadow })) ∧
      (c.tag ≠ 1 →
        ∃ t, exec (.coefApply who h k) s = .next t ∧ (t.ctl.slot k.toNat).coefs = (s.ctl.slot k.toNat).coefs ∧
          (t.ctl.slot k.toNat).pendApply = some (Sys2Proof.Machine.Who.sessionWord who)))

/-- R310, R315, R318 to R320, Table 11.7. -/
def Obligations.SetpointsAndLosses : Prop :=
  (∀ (s : State) (h : HostRef), s.unionTurn h →
    (∀ (n e : Int) (psi : Word) (p q : Bool), ∃ t, exec (.setPoint h n e psi p q 3) s = .next t ∧ t.ctl = s.ctl) ∧
    (∀ (n e : Int) (psi : Word),
      ∃ t, exec (.setPoint h n e psi true false 0) s = .next t ∧ t.ctl.mode = s.ctl.mode ∧ t.ctl.refN = s.ctl.refN ∧ t.ctl.refE = s.ctl.refE ∧
        t.ctl.spPsi = s.ctl.spPsi ∧
        (s.ctl.mode = .autoPosition →
          t.ctl.spN = n ∧ t.ctl.spE = e ∧
          (∃ r, t.ctl.posRamp = some r ∧ r.startN = s.ctl.refN ∧ r.startE = s.ctl.refE ∧ r.goalN = n * 65536 ∧ r.goalE = e * 65536 ∧ r.s = 0) ∧
          t.ctl.superseded = s.ctl.superseded + (if s.ctl.posRamp.isSome then 1 else 0)) ∧
        (posAuto s.ctl.mode = false → t.ctl.spN = n ∧ t.ctl.spE = e ∧ t.ctl.posRamp = s.ctl.posRamp ∧ t.ctl.superseded = s.ctl.superseded) ∧
        (s.ctl.mode = .followTarget → t.ctl.offsetN = n ∧ t.ctl.offsetE = e ∧ t.ctl.spN = s.ctl.spN)) ∧
    (posAuto s.ctl.mode = false →
      ∃ t, exec (.goPos h) s = .next t ∧ t.ctl = { s.ctl with spN := s.ctl.regN, spE := s.ctl.regE }) ∧
    (∀ turn : BitVec 2, turn ≠ 3 →
      ∃ t, exec (.goPsi h turn false) s = .next t ∧ t.ctl.spPsi = s.ctl.regPsi ∧ t.ctl.posRamp = s.ctl.posRamp ∧
        (psiAuto s.ctl.mode = true → ∃ r, t.ctl.psiRamp = some r ∧ r.start = s.ctl.refPsi % 2 ^ 48 ∧ 0 ≤ r.len ∧
          (r.start + r.dir * r.len - (s.ctl.regPsi.toNat : Int) * 65536) % 2 ^ 48 = 0 ∧
          (turn = 0 → 2 * r.len ≤ 2 ^ 48) ∧ (turn = 1 → r.dir = 1) ∧ (turn = 2 → r.dir = -1)))) ∧
  (∀ (s : State) (x : CtlTable), s.ctl.table = some x →
    (x.joyField ≠ 0 → (∀ m, s.ctl.joyMiss = some m → x.joyTimeout.toNat ≤ m) →
      ∃ t, exec .joyTimeout s = .next t ∧ t.ctl.joy = [0, 0, 0] ∧ t.ctl.flags.getLsbD 2 = true ∧ t.ctl.sticky.getLsbD 5 = true ∧
        t.ctl.mode = s.ctl.mode) ∧
    (s.ctl.mode = .followTarget → x.tgtLossBeats.toNat ≤ s.ctl.lostBeats →
      ∃ t, exec .targetLoss s = .next t ∧ t.ctl.mode = .autoPosition ∧ t.ctl.refN = s.estView.posN * 65536 ∧
        t.ctl.refE = s.estView.posE * 65536 ∧ t.ctl.vrefN = 0 ∧ t.ctl.vrefE = 0 ∧ t.ctl.posRamp = none ∧
        t.ctl.degrades = s.ctl.degrades + 1))

/-- R334, R338 to R341, R349, Table 12.3: what the edge, the safe pairs and the publish phase do to the outputs. -/
def Obligations.OutputStates : Prop :=
  (∀ (o : OutBlk) (beat : Long) (now : Nat) (gpio : Long), o.cfg ≠ none →
    let r := (o.edge beat now gpio).1
    (o.token = false → o.domain = .run →
      r.domain = .hold ∧ r.fallback = true ∧ r.holdBeat = beat ∧ r.holds = o.holds + 1 ∧
      ∀ k c, k < 112 → o.entry k = some c → managedKind c = true →
        (r.out k).pin = (o.out k).pin ∧ ((o.out k).state = .normal → (r.out k).state = .hold ∧ (r.out k).flags.getLsbD 2 = true) ∧
        ((o.out k).state ≠ .normal → r.out k = o.out k)) ∧
    (o.token = true →
      r.domain = .run ∧ r.fallback = false ∧ r.token = false ∧
      ∀ k c v, k < 112 → o.entry k = some c → managedKind c = true → (o.out k).staged = some v →
        ((o.out k).state = .normal ∨ (o.out k).state = .hold → (r.out k).state = .normal ∧ (r.out k).pin = v) ∧
        ((o.out k).state = .trip → (r.out k).state = .trip ∧ (r.out k).pin = (o.out k).pin) ∧
        ((o.out k).state = .fail →
          ((o.out k).skip = true → (r.out k).state = .fail ∧ (r.out k).pin = (o.out k).pin ∧ (r.out k).skip = false) ∧
          ((o.out k).skip = false → c.latchFail = false → (r.out k).state = .normal ∧ (r.out k).pin = v) ∧
          ((o.out k).skip = false → c.latchFail = true → (o.out k).release = none ∨ (o.out k).latched = false →
            (r.out k).state = .fail ∧ (r.out k).latched = true ∧ (r.out k).pin = (o.out k).pin) ∧
          ((o.out k).skip = false → c.latchFail = true → (o.out k).release ≠ none → (o.out k).latched = true →
            (r.out k).state = .normal ∧ (r.out k).latched = false ∧ (r.out k).pin = v)))) ∧
  (∀ (o : OutBlk) (pairs : Byte) (k : Nat) (c : OutCfg), k < 112 → o.entry k = some c → managedKind c = true →
    let r := (o.trip pairs).1
    (c.safeLink &&& pairs ≠ 0 → (o.out k).state ≠ .trip → (r.out k).state = .trip ∧ (r.out k).pin = failPin c false ∧ (r.out k).fails = (o.out k).fails + 1) ∧
    (c.safeLink &&& pairs = 0 → r.out k = o.out k) ∧
    ((o.out k).state = .trip → c.safeLink &&& (o.tripped &&& ~~~pairs) = 0 →
      ((o.tripClear pairs).out k).state = .fail ∧ ((o.tripClear pairs).out k).latched = c.latchFail ∧ ((o.tripClear pairs).out k).pin = (o.out k).pin)) ∧
  (∀ (c : OutCfg) (prev : Option Int) (v : Int), c.minCode.toNat ≤ c.maxCode.toNat →
    let r := (scaleCode c prev v).1
    (c.minCode.toNat : Int) ≤ r ∧ r ≤ c.maxCode.toNat ∧
    (∀ p, prev = some p → c.slew ≠ 0 → (c.minCode.toNat : Int) ≤ p → p ≤ c.maxCode.toNat → (r - p).natAbs ≤ c.slew.toNat))

/-- R336, R338, R340, R347, Table 12.3: HOLD_TIMEOUT, HOLD_LIMIT_EXPIRE, OUTPUT_RELEASE, HOST_VALUE_WRITE and VLCD_FAULT. -/
def Obligations.OutputCommands : Prop :=
  ∀ (s : State),
    (∀ t : Nat, s.awake = true → s.out.domain = .run → s.beat.n.toNat * 1000000 + 1100000 ≤ t →
      ∃ u, exec (.holdTimeout t) s = .next u ∧ u.out.domain = .hold ∧ u.out.holds = s.out.holds + 1 ∧ u.out.flags.getLsbD 0 = true ∧
        ∀ k, (u.out.out k).pin = (s.out.out k).pin) ∧
    (∀ (k : BitVec 7) (atEdge : Bool),
      (∀ c, s.out.entry k.toNat = some c → managedKind c = true → (s.out.out k.toNat).state = .hold →
        ∃ u, exec (.holdLimitExpire k atEdge) s = .next u ∧ (u.out.out k.toNat).state = .fail ∧ (u.out.out k.toNat).pin = failPin c false ∧
          (u.out.out k.toNat).skip = atEdge ∧ (u.out.out k.toNat).fails = (s.out.out k.toNat).fails + 1 ∧
          ∀ j, j ≠ k.toNat → u.out.out j = s.out.out j) ∧
      ((s.out.out k.toNat).state ≠ .hold → ∃ u, exec (.holdLimitExpire k atEdge) s = .next u ∧ u.out = s.out)) ∧
    (∀ (who : Who) (k : BitVec 7), s.awake = true →
      ∃ u, exec (.outputRelease who k) s = .next u ∧ (u.out.out k.toNat).pin = (s.out.out k.toNat).pin ∧
        (u.out.out k.toNat).state = (s.out.out k.toNat).state ∧
        ((s.out.out k.toNat).state = .fail ∧ (s.out.out k.toNat).latched = true ∧ s.out.domain = .run →
          (u.out.out k.toNat).release = some (Sys2Proof.Machine.Who.sessionWord who)) ∧
        (¬ ((s.out.out k.toNat).state = .fail ∧ (s.out.out k.toNat).latched = true ∧ s.out.domain = .run) →
          u.out.out k.toNat = { s.out.out k.toNat with flags := (s.out.out k.toNat).flags ||| 64 })) ∧
    (∀ (who : Who) (k : BitVec 7) (v : Word), s.awake = true →
      ∃ u, exec (.hostValueWrite who k v) s = .next u ∧ u.out.out k.toNat = { s.out.out k.toNat with host := v } ∧
        ∀ j, j ≠ k.toNat → u.out.out j = s.out.out j) ∧
    (∀ c, s.awake = true → s.out.cfg = some c → c.annBias = 2 →
      ∃ u, exec .vlcdFault s = .next u ∧ u.out = { s.out with flags := s.out.flags ||| 16 })

/-- R353, R356, R360, R379, R380, R382, R557: CAN_FRAME_RECEIVE, SENTENCE_COMPLETE, ETH_SENSOR_DATAGRAM, SERIAL_RATE_DETECT. -/
def Obligations.BusReception : Prop :=
  (∀ (s : State) (channel : BitVec 4) (fr : CanFrame) (time : Nat) (g : ChanCfg),
    let ch := channel.toNat
    let c := s.fbu.chan ch
    s.fioOn = true → s.fbu.cfg ch = some g →
    (c.mode = .busOff → ∃ t, exec (.canFrameReceive channel fr time) s = .next t ∧ t.fbu = s.fbu ∧ t.beat = s.beat) ∧
    (c.mode = .active → fr.nom = c.nom → (fr.brs = true → fr.dat = c.dat) →
      ∃ t, exec (.canFrameReceive channel fr time) s = .next t ∧ (t.fbu.chan ch).rxFrames = c.rxFrames + 1 ∧
        (∀ j, j ≠ ch → t.fbu.chan j = s.fbu.chan j) ∧
        (fr.remote = true ∨ (s.fbu.isAmdun ch g fr = false ∧ s.fbu.matchRx ch fr = none) →
          (t.fbu.chan ch).rxUnmatched = c.rxUnmatched + 1 ∧ t.beat.collecting = s.beat.collecting ∧ t.fbu.rings = s.fbu.rings ∧
            t.fbu.buffers = s.fbu.buffers) ∧
        (fr.remote = false → s.fbu.isAmdun ch g fr = true →
          (t.fbu.chan ch).rxUnmatched = c.rxUnmatched ∧
          ∃ i, t.beat.collecting = s.beat.collecting ++ [i] ∧ i.kind = 5 ∧ i.channel = BitVec.ofNat 16 (0x8000 + ch) ∧
            i.ident = fr.ident &&& 0x3FFFFFFF ∧ i.shared = g.shared) ∧
        (∀ k e, fr.remote = false → s.fbu.isAmdun ch g fr = false → s.fbu.matchRx ch fr = some (k, e) → e.capture = 0 →
          t.beat.collecting = s.beat.collecting ∧ (t.fbu.chan ch).rxUnmatched = c.rxUnmatched))) ∧
  (∀ (s : State) (port : BitVec 4) (text : List Byte) (time : Nat),
    let v := Tab.get SerSt.zero s.fbu.serial port.toNat
    s.fioOn = true → port.toNat < 12 → v.rate ≠ 0 →
      ∃ t, exec (.sentenceComplete port text time) s = .next t ∧
        (sentenceOk text = false → t.beat = s.beat ∧ Tab.get SerSt.zero t.fbu.serial port.toNat = { v with bad := v.bad + 1 }) ∧
        (sentenceOk text = true → s.img.phase = .running → s.fbu.matchSentence port.toNat text = none →
          t.beat = s.beat ∧
          Tab.get SerSt.zero t.fbu.serial port.toNat = { v with sentences := v.sentences + 1, unmatched := v.unmatched + 1 })) ∧
  (∀ (s : State) (port : BitVec 4) (rate : BitVec 3),
    let v := Tab.get SerSt.zero s.fbu.serial port.toNat
    s.fioOn = true → port.toNat < 12 → v.auto = true → rate.toNat ≤ 4 →
      ∃ t, exec (.serialRateDetect port rate) s = .next t ∧ Tab.get SerSt.zero t.fbu.serial port.toNat = { v with rate := rate } ∧ t.beat = s.beat) ∧
  (∀ (s : State) (port : Bool) (group : Word) (udp : Half) (lines : List (List Byte)) (time : Nat),
    s.fioOn = true → s.img.phase = .running → (Tab.get PortSt.zero s.hst.ports (if port then 3 else 2)).up = true →
    (∀ x, s.fbu.table = some x → ∀ e ∈ x.sentences, ¬ (e.port.toNat = (if port then 0x11 else 0x10) ∧ e.group = group ∧ e.udpPort = udp)) →
      ∃ t, exec (.ethSensorDatagram port group udp lines time) s = .next t ∧ t.fbu = { s.fbu with ethIgnored := s.fbu.ethIgnored + 1 } ∧ t.beat = s.beat)

/-- R356, R363 to R366, Tables 13.2 and 13.3: TRANSMIT_WINDOW_OPEN, FRAME_SENT, ARBITRATION_LOST, WINDOW_ABORT, BUS_ERROR, BUS_OFF_RECOVERED. -/
def Obligations.BusTransmission : Prop :=
  ∀ (s : State) (channel : BitVec 4) (g : ChanCfg),
    let ch := channel.toNat
    let c := s.fbu.chan ch
    s.fioOn = true → s.fbu.cfg ch = some g → g.role ≠ 0 →
    (∀ (w : BitVec 5) (time : Nat), c.mode = .active → 1 ≤ s.fbu.kindOf ch g w.toNat → s.fbu.kindOf ch g w.toNat ≤ 3 →
      let mine := c.pending.filter (fun x => decide (x.window = w.toNat))
      ∃ t, exec (.transmitWindowOpen channel w time) s = .next t ∧ (t.fbu.chan ch).openWindow = some w.toNat ∧
        (s.pai.gate time = false →
          (t.fbu.chan ch).pending = c.pending.filter (fun x => decide (x.window ≠ w.toNat)) ∧
          (t.fbu.chan ch).ledger = { c.ledger with requested := c.ledger.requested + BitVec.ofNat 48 mine.length, gated := c.ledger.gated + BitVec.ofNat 48 mine.length }) ∧
        (s.pai.gate time = true → c.passive = false → c.current = none →
          (mine = [] → (t.fbu.chan ch).current = none) ∧
          (∀ x ∈ mine, ∃ y, (t.fbu.chan ch).current = some y ∧ y.window = w.toNat ∧
            (y.frame.ident &&& 0x1FFFFFFF).toNat ≤ (x.frame.ident &&& 0x1FFFFFFF).toNat ∧ (t.fbu.chan ch).ledger = c.ledger))) ∧
    (∀ x, c.current = some x →
      (∃ t, exec (.frameSent channel) s = .next t ∧ (t.fbu.chan ch).ledger.sent = c.ledger.sent + 1 ∧
        (c.openWindow = none → (t.fbu.chan ch).current = none ∧ (t.fbu.chan ch).ledger = { c.ledger with requested := c.ledger.requested + 1, sent := c.ledger.sent + 1 })) ∧
      (∀ w, c.openWindow = some w →
        (singleShot (s.fbu.kindOf ch g w) = true →
          ∃ t, exec (.arbitrationLost channel) s = .next t ∧ (t.fbu.chan ch).current = none ∧
            (t.fbu.chan ch).ledger = { c.ledger with requested := c.ledger.requested + 1, arbLimit := c.ledger.arbLimit + 1 }) ∧
        (s.fbu.kindOf ch g w = 3 → c.mode = .active → s.pai.gate s.tim.now = true → c.passive = false → x.arb + 1 ≤ g.arbMax.toNat →
          ∃ t, exec (.arbitrationLost channel) s = .next t ∧ (t.fbu.chan ch).current = some { x with arb := x.arb + 1 } ∧
            (t.fbu.chan ch).ledger = c.ledger)) ∧
      (c.openWindow = none →
        ∃ t, exec (.windowAbort channel) s = .next t ∧ (t.fbu.chan ch).current = none ∧
          (t.fbu.chan ch).ledger = { c.ledger with requested := c.ledger.requested + 1, window := c.ledger.window + 1 })) ∧
    (∀ tec rxc : Half, c.mode = .active →
      ∃ t, exec (.busError channel tec rxc) s = .next t ∧ (t.fbu.chan ch).txErr = tec.toNat ∧ (t.fbu.chan ch).rxErr = rxc.toNat ∧
        ((t.fbu.chan ch).passive = true ↔ 128 ≤ tec.toNat ∨ 128 ≤ rxc.toNat) ∧ (t.fbu.chan ch).rxErrors = c.rxErrors + 1 ∧
        (256 ≤ tec.toNat → (t.fbu.chan ch).mode = .busOff ∧ (t.fbu.chan ch).staged = [] ∧ (t.fbu.chan ch).pending = [] ∧
          (t.fbu.chan ch).current = none ∧ (t.fbu.chan ch).busOffs = c.busOffs + 1 ∧ t.fbu.flags.getLsbD 1 = true ∧
          ((t.fbu.chan ch).recovering = some false ↔ g.autoRecover = true ∧ c.recoveries < 3)) ∧
        (tec.toNat < 256 → (t.fbu.chan ch).mode = .active)) ∧
    (∀ b, c.mode = .busOff → c.recovering = some b →
      ∃ t, exec (.busOffRecovered channel) s = .next t ∧ (t.fbu.chan ch).mode = .active ∧ (t.fbu.chan ch).txErr = 0 ∧
        (t.fbu.chan ch).rxErr = 0 ∧ (t.fbu.chan ch).ledger = c.ledger)

/-- R46, R355, R356, R361, R367, R370, R376, R377, R386, Table 13.5. -/
def Obligations.BusService : Prop :=
  ∀ (s : State), s.awake = true →
    (∀ (who : Who) (channel : BitVec 4),
      let ch := channel.toNat
      let c := s.fbu.chan ch
      (∃ t, exec (.forceActive who channel) s = .next t ∧
        (3 ≤ who.role.toNat → c.mode = .listen → c.mismatch = true → t.fbu.chan ch = { c with forceNext := true }) ∧
        (who.role.toNat < 3 → t.fbu = s.fbu)) ∧
      (∃ t, exec (.recover who channel) s = .next t ∧
        (c.mode = .busOff → c.recovering = none → t.fbu.chan ch = { c with recovering := some true }) ∧ (c.mode ≠ .busOff → t.fbu = s.fbu)) ∧
      (∃ t, exec (.renegotiate who channel) s = .next t ∧ t.fbu = s.fbu ∧
        ∃ i, t.beat.collecting = s.beat.collecting ++ [i] ∧ i.kind = 8 ∧ i.payload = [0x000C8008, 4, channel.setWidth 32]) ∧
      (∀ buffer : BitVec 9,
        let k := ch * 512 + buffer.toNat
        let b := Tab.get RxBuf.zero s.fbu.buffers k
        (∃ t, exec (.bufferHeadRead who channel buffer) s = .next t ∧
          (b.lock = none → Tab.get RxBuf.zero t.fbu.buffers k = { b with lock := some (who.input, who.session) }) ∧
          (b.lock ≠ none → t.fbu = s.fbu)) ∧
        (∃ t, exec (.bufferEndRead who channel buffer) s = .next t ∧
          (b.lock = some (who.input, who.session) →
            let d := Tab.get RxBuf.zero t.fbu.buffers k
            d.lock = none ∧ d.lost = 0 ∧ d.shadow = none ∧ d.frame = (if b.shadow.isSome then b.shadow else b.frame)) ∧
          (b.lock ≠ some (who.input, who.session) → t.fbu = s.fbu)) ∧
        (b.lock ≠ none →
          ∃ t, exec (.lockExpired channel buffer) s = .next t ∧ (Tab.get RxBuf.zero t.fbu.buffers k).lock = none ∧
            (t.fbu.chan ch).lockExpired = c.lockExpired + 1)) ∧
      (∀ (copy : Bool) (w : BitVec 5) (v : Word),
        ∃ t, exec (.windowCopyWrite who channel copy w v) s = .next t ∧
          (s.fbu.activeCopy ch = (if copy then 1 else 0) ∨ s.fbu.winPend.getLsbD ch = true → t.fbu = { s.fbu with flags := s.fbu.flags ||| 64 }) ∧
          (s.fbu.activeCopy ch ≠ (if copy then 1 else 0) → s.fbu.winPend.getLsbD ch = false →
            t.fbu.window ch (if copy then 1 else 0) w.toNat = v &&& 0x7FFFFF ∧
              ∀ x, x < 32 → t.fbu.window ch (s.fbu.activeCopy ch) x = s.fbu.window ch (s.fbu.activeCopy ch) x)) ∧
      (s.fbu.enabled = true → ∀ g, s.fbu.cfg ch = some g → g.role = 1 → g.refSilent.toNat < c.refMissing → c.refSilent = false → s.pai.gate s.tim.now = false →
        ∃ t, exec (.refSilent channel) s = .next t ∧ (t.fbu.chan ch).refSilent = true ∧ t.fbu.flags.getLsbD 5 = true)) ∧
    (∀ (who : Who) (mask : Half), ∃ t, exec (.winSwitch who mask) s = .next t ∧ t.fbu = { s.fbu with winPend := s.fbu.winPend ||| mask }) ∧
    (s.atBoundary = true →
      ∃ t, exec .windowSwitchApply s = .next t ∧ t.fbu.winPend = 0 ∧ t.fbu.windows = s.fbu.windows ∧
        ∀ k, k < 16 → s.fbu.winPend.getLsbD k = false → t.fbu.activeCopy k = s.fbu.activeCopy k) ∧
    (∀ (channel : BitVec 4) (a : BitVec 7) (g : ChanCfg) (q : Nat) (kind : QueryKind) (nonce : Byte),
      let k := channel.toNat * 128 + a.toNat
      s.sch.running = true → s.beat.live = true → s.fbu.cfg channel.toNat = some g → (s.fbu.node k).state = .queried →
      (s.fbu.node k).query = some (q, kind, nonce) → q + g.replyBeats.toNat ≤ s.beat.n.toNat →
        ∃ t, exec (.replyTimeout channel a) s = .next t ∧ (∀ j, j ≠ k → t.fbu.node j = s.fbu.node j) ∧
          (kind = .first ∨ kind = .hello → (t.fbu.node k).state = .retry ∧ (t.fbu.chan channel.toNat).retry = (s.fbu.chan channel.toNat).retry ++ [a.toNat]) ∧
          (kind = .retry ∨ kind = .round → (t.fbu.node k).state = .absent)) ∧
    (∀ (who : Who) (ring : BitVec 6) (r : RingCfg), s.fbu.ringCfg ring.toNat = some r →
      ∃ t, exec (.ringReset who ring) s = .next t ∧ (t.fbu.ring ring.toNat).entries = [] ∧ (t.fbu.ring ring.toNat).seq = (s.fbu.ring ring.toNat).seq ∧
        (t.fbu.ring ring.toNat).epoch = true ∧
        (t.fbu.ring ring.toNat).ledger.reset = (s.fbu.ring ring.toNat).ledger.reset + BitVec.ofNat 48 (s.fbu.ring ring.toNat).entries.length)

/-- R393, R397, R400, R402, R403, R407: XHP_REQUEST, XHP_RESPONSE, ETH_LINK_CHANGE, ARP_ICMP_ECHO. -/
def Obligations.HostAdmission : Prop :=
  ∀ (s : State), s.fioOn = true →
    (∀ (q : XhpRequest),
      let x := xhpHeader q.bytes
      let p := payloadPart q.bytes
      let S := s.hst.sess x.session
      q.port.toNat < 2 → (Tab.get PortSt.zero s.hst.ports q.port.toNat).up = true →
      (frameOk q.bytes = false → exec (.xhpRequest q) s = .next { s with hst := { s.hst with badFrame := s.hst.badFrame + 1 } }) ∧
      (frameOk q.bytes = true → s.img.phase ≠ .running → s.img.phase ≠ .noImage →
        ∃ t r, exec (.xhpRequest q) s = .next t ∧ t.hst = { s.hst with responses := s.hst.responses ++ [r] } ∧
          r.status = 2 ∧ r.session = 0 ∧ r.tagged = false ∧ r.reqId = x.reqId) ∧
      (frameOk q.bytes = true → s.img.phase = .running → ¬(x.session = 0 ∧ x.opcode = 1) →
        (¬(1 ≤ x.session ∧ x.session ≤ 16) ∨ S.isOpen = false ∨ tagOk S.key q.bytes = false →
          exec (.xhpRequest q) s =
            .next { s with hst := { s.hst with badTag := s.hst.badTag + 1, badTagRound := s.hst.badTagRound + 1, badTagAddr := q.address } }) ∧
        (1 ≤ x.session → x.session ≤ 16 → S.isOpen = true → tagOk S.key q.bytes = true →
          (S.accepted.contains (x.reqId, tagPart q.bytes) = true →
            exec (.xhpRequest q) s = .next { s with hst := { s.hst with redundant := s.hst.redundant + 1 } }) ∧
          (S.accepted.contains (x.reqId, tagPart q.bytes) = false →
            ∃ t, exec (.xhpRequest q) s = .next t ∧ t = { s with hst := t.hst } ∧
              let refused (st : Half) (d : Word) : Prop :=
                t.hst.refusedAdm = s.hst.refusedAdm + 1 ∧ t.hst.sessions = s.hst.sessions ∧
                  ∃ r, t.hst.responses = s.hst.responses ++ [r] ∧ r.status = st ∧ r.detail = d ∧ r.reqId = x.reqId ∧ r.tagged = true
              (x.reqId ≤ S.reqMax → refused 0x000B 0) ∧
              (S.reqMax < x.reqId →
                (leastRole x.opcode = none → refused 0x0008 0) ∧
                (∀ least, leastRole x.opcode = some least → x.opcode ≠ 1 →
                  (S.role.toNat < least → refused 0x0005 (wordN least)) ∧
                  (least ≤ S.role.toNat → formatOk x.opcode x.hostSeq p = false → refused stBadRequest 0) ∧
                  (least ≤ S.role.toNat → formatOk x.opcode x.hostSeq p = true →
                    (isUnion x.opcode p = true → s.hst.cmdQueue ≤ S.queue.length → refused 0x0004 0) ∧
                    (isUnion x.opcode p = true → S.queue.length < s.hst.cmdQueue →
                      t.hst.refusedAdm = s.hst.refusedAdm ∧ t.hst.responses = s.hst.responses ∧ (t.hst.sess x.session).reqMax = x.reqId ∧
                        ∃ c, (t.hst.sess x.session).queue = S.queue ++ [c] ∧ c.ref.hostSeq = x.hostSeq ∧ c.ref.reqId = x.reqId) ∧
                    (isUnion x.opcode p = false →
                      t.hst.refusedAdm = s.hst.refusedAdm ∧ t.hst.responses = s.hst.responses ∧ (t.hst.sess x.session).reqMax = x.reqId ∧
                        (t.hst.sess x.session).queue = S.queue)))))))) ∧
    (∀ (r : Response) (l : List Response), s.hst.responses = r :: l →
      (r.waits = false → exec .xhpResponse s = .next { s with hst := { s.hst with responses := l, lastSent := some r } }) ∧
      (l = [] → r.waits = true → r.beat = s.beat.n → s.img.phase ≠ .noImage → s.hst.snapshots = [] → exec .xhpResponse s = .next s)) ∧
    (∀ (port : BitVec 2) (up : Bool) (mbit : Half),
      let p := Tab.get PortSt.zero s.hst.ports port.toNat
      ∃ t, exec (.ethLinkChange port up mbit) s = .next t ∧
        Tab.get PortSt.zero t.hst.ports port.toNat = { p with up := up, mbit := mbit } ∧
        (∀ j, j ≠ port.toNat → Tab.get PortSt.zero t.hst.ports j = Tab.get PortSt.zero s.hst.ports j) ∧
        (p.up = up → p.mbit = mbit → t = s) ∧ t.hst.sessions = s.hst.sessions) ∧
    (∀ port : BitVec 2,
      let p := Tab.get PortSt.zero s.hst.ports port.toNat
      p.up = true → s.hst.netCfg.isSome = true →
        ∃ t, exec (.arpIcmpEcho port) s = .next t ∧ t = { s with hst := { s.hst with ports := t.hst.ports } } ∧
          Tab.get PortSt.zero t.hst.ports port.toNat = { p with echoed := p.echoed + 1 } ∧
          ∀ j, j ≠ port.toNat → Tab.get PortSt.zero t.hst.ports j = Tab.get PortSt.zero s.hst.ports j)

/-- R40, R399, R401, R404, R407, R416: OPEN, KEEPALIVE, CLOSE, SESSION_IDLE. -/
def Obligations.HostSessions : Prop :=
  ∀ (s : State) (h : HostRef),
    let S := s.hst.sess h.session.toNat
    let first : Prop := (s.hst.toApply.filter (fun r => decide (r.session = h.session))).head? = some h
    (∀ (slot : BitVec 3) (role : BitVec 2) (nonce : BitVec 128), h.session = 0 → first →
      ∃ t, exec (.openSession h slot role nonce) s = .next t ∧
        (∀ k, 1 ≤ k → k ≤ 16 → (s.hst.sess k).isOpen = false → (∀ j, 1 ≤ j → j < k → (s.hst.sess j).isOpen = true) →
          let K := t.hst.sess k
          K.isOpen = true ∧ K.role = role ∧ K.slot = slot ∧ K.queue = [] ∧ K.lastSeq = 0 ∧ K.lastHandled = 0 ∧ K.reqMax = 0 ∧
            K.ledger = (s.hst.sess k).ledger ∧ (∀ j, j ≠ 0 → j ≠ k → t.hst.sess j = s.hst.sess j) ∧
            (t.hst.sess 0).ledger = { S.ledger with received := S.ledger.received + 1, applied := S.ledger.applied + 1 } ∧
            (h ∈ s.hst.heard → ∃ r ∈ t.hst.responses.getLast?, r.status = stApplied ∧ r.session.toNat = k ∧ r.payload.length = 4)) ∧
        ((∀ k, 1 ≤ k → k ≤ 16 → (s.hst.sess k).isOpen = true) →
          (∀ j, j ≠ 0 → t.hst.sess j = s.hst.sess j) ∧
            (t.hst.sess 0).ledger = { S.ledger with received := S.ledger.received + 1, refused := S.ledger.refused + 1 } ∧
            (h ∈ s.hst.heard → t.lastAnswer 0x0009 0))) ∧
    (s.unionTurn h →
      (∃ t, exec (.keepalive h) s = .next t ∧ t = { s with hst := t.hst } ∧ (t.hst.sess h.session.toNat).isOpen = true ∧
        (t.hst.sess h.session.toNat).lastSeq = h.hostSeq ∧ (t.hst.sess h.session.toNat).idleBeats = 0 ∧
        (t.hst.sess h.session.toNat).ledger = { S.ledger with received := S.ledger.received + 1, applied := S.ledger.applied + 1 } ∧
        (∀ j, j ≠ h.session.toNat → t.hst.sess j = s.hst.sess j) ∧ (h ∈ s.hst.heard → t.lastAnswer stApplied 0)) ∧
      (∃ t, exec (.closeSession h) s = .next t ∧ (t.hst.sess h.session.toNat).isOpen = false ∧ (t.hst.sess h.session.toNat).queue = [] ∧
        (∀ j, j ≠ h.session.toNat → t.hst.sess j = s.hst.sess j) ∧
        (∀ d ∈ t.hst.dests, d ∈ s.hst.dests ∧ d.session ≠ h.session) ∧
        (S.region = none → (t.hst.sess h.session.toNat).ledger = { S.ledger with received := S.ledger.received + 1, applied := S.ledger.applied + 1 }))) ∧
    (first → S.isOpen = true → h.hostSeq ≤ S.lastSeq →
      ∃ t, exec (.keepalive h) s = .next t ∧ (t.hst.sess h.session.toNat).lastSeq = S.lastSeq ∧
        (t.hst.sess h.session.toNat).ledger = { S.ledger with received := S.ledger.received + 1, refused := S.ledger.refused + 1 } ∧
        (h ∈ s.hst.heard → t.lastAnswer 0x0006 S.lastSeq)) ∧
    (∀ (k : BitVec 8) (n : NetCfg), s.hst.netCfg = some n → 1 ≤ k.toNat → k.toNat ≤ 16 → (s.hst.sess k.toNat).isOpen = true →
      (n.idleS.toNat * 1000 ≤ (s.hst.sess k.toNat).idleBeats →
        ∃ t, exec (.sessionIdle k) s = .next t ∧ (t.hst.sess k.toNat).isOpen = false ∧ (t.hst.sess k.toNat).lastSeq = 0 ∧
          (∀ j, j ≠ k.toNat → t.hst.sess j = s.hst.sess j)) ∧
      ((s.hst.sess k.toNat).idleBeats < n.idleS.toNat * 1000 → exec (.sessionIdle k) s = .next s))

/-- R383, R384, R386, R413, R414, R416, R491: READ_SNAPSHOT, READ_REG, READ_RECORDER, RING_READ, RING_WRITE, STREAM_CTRL. -/
def Obligations.HostReads : Prop :=
  ∀ (s : State) (h : HostRef), s.sessionMay h 0 →
    (∀ (beat : Long) (ext : List (Half × Half)) (new old : PubRec), s.hst.snapshots.getLast? = some new → s.hst.snapshots.head? = some old →
      ∃ t, exec (.readSnapshot h beat ext) s = .next t ∧ t = { s with hst := t.hst } ∧ t.hst.snapshots = s.hst.snapshots ∧
        (∀ r, ext.length ≤ 16 → (ext.map (fun e => e.2.toNat)).sum ≤ 1400 → (∀ e ∈ ext, e.1.toNat + e.2.toNat ≤ 4 * r.words.length) →
          (beat = 0 ∧ r = new) ∨ (beat ≠ 0 ∧ s.hst.snapshots.find? (fun q => decide (q.beat = beat)) = some r) →
          ∃ a ∈ t.hst.responses.getLast?, a.status = stOk ∧ a.beat = r.beat ∧ a.payload = packBytes (extentBytes r ext)) ∧
        (beat ≠ 0 → s.hst.snapshots.find? (fun q => decide (q.beat = beat)) = none →
          (new.beat.toNat < beat.toNat → t.lastAnswer 0x000D (lowOf new.beat)) ∧
          (beat.toNat < old.beat.toNat → old.beat.toNat ≤ new.beat.toNat → t.lastAnswer 0x000C (lowOf old.beat)))) ∧
    (∀ (l : List Word),
      ∃ t, exec (.readReg h l) s = .next t ∧
        (l.length ≤ 64 → l.any lockingReg = false → ∃ a ∈ t.hst.responses.getLast?, a.status = stOk ∧ a.payload.length = l.length) ∧
        (l.any lockingReg = true → t.lastAnswer stBadRequest 0 ∧ t = { s with hst := t.hst })) ∧
    (∀ (seq : Word) (n : Byte),
      ∃ t, exec (.readRecorder h seq n) s = .next t ∧ t = { s with hst := t.hst } ∧
        (1 ≤ n.toNat → n.toNat ≤ 40 → ∃ a ∈ t.hst.responses.getLast?, a.status = stOk ∧ a.payload = s.rcd.response seq.toNat n.toNat) ∧
        (n = 0 ∨ 40 < n.toNat → t.lastAnswer stBadRequest 0)) ∧
    (∀ (ring n : Byte) (c : RingCfg), s.fbu.ringCfg ring.toNat = some c →
      let R := s.fbu.ring ring.toNat
      (c.consumer = 3 → c.stale = 0 →
        let k := min n.toNat (1400 / c.entryBytes.toNat)
        ∃ t, exec (.ringRead h ring n) s = .next t ∧ (t.fbu.ring ring.toNat).entries = R.entries.drop k ∧
          (t.fbu.ring ring.toNat).ledger = { R.ledger with consumed := R.ledger.consumed + BitVec.ofNat 48 (min k R.entries.length) } ∧
          (∀ j, j ≠ ring.toNat → t.fbu.ring j = s.fbu.ring j) ∧ t.lastAnswer stOk 0) ∧
      (c.consumer ≠ 3 → ∃ t, exec (.ringRead h ring n) s = .next t ∧ t.fbu = s.fbu ∧ t.lastAnswer stBadRequest 0)) ∧
    (∀ (ring : Byte) (data : List Byte) (c : RingCfg), s.sessionMay h 1 → s.fbu.ringCfg ring.toNat = some c → c.producer = 3 →
      let R := s.fbu.ring ring.toNat
      (c.consumer ≠ 4 → R.entries.length < c.depth.toNat →
        ∃ t e, exec (.ringWrite h ring data) s = .next t ∧ (t.fbu.ring ring.toNat).entries = R.entries ++ [e] ∧ e.seq = R.seq ∧
          e.payload = data.take (c.entryBytes.toNat - 16) ∧ (t.fbu.ring ring.toNat).seq = R.seq + 1 ∧ t.lastAnswer stApplied 0) ∧
      (c.depth.toNat ≤ R.entries.length → ∃ t, exec (.ringWrite h ring data) s = .next t ∧ t.fbu = s.fbu ∧ t.lastAnswer 0x0025 0)) ∧
    (∀ (d : NetDest),
      let port := destPort d.port
      (∃ t, exec (.streamAdd h d) s = .next t ∧ t = { s with hst := t.hst } ∧
        (d.ports.toNat % 4 ≠ 0 → ttlOk d = true → s.hst.dests.length < 4 → (∀ x ∈ s.hst.dests, ¬(x.address = d.address ∧ x.port = port)) →
          (∃ x, t.hst.dests = s.hst.dests ++ [x] ∧ x.session = h.session ∧ x.address = d.address ∧ x.port = port) ∧ t.lastAnswer stApplied 0) ∧
        (d.ports.toNat % 4 = 0 ∨ 4 ≤ s.hst.dests.length ∨ (∃ x ∈ s.hst.dests, x.address = d.address ∧ x.port = port) →
          t.hst.dests = s.hst.dests ∧ t.lastAnswer stBadRequest 0)) ∧
      (∃ t, exec (.streamRemove h d) s = .next t ∧ t = { s with hst := t.hst } ∧
        (∀ x, x ∈ t.hst.dests ↔ x ∈ s.hst.dests ∧ ¬(x.session = h.session ∧ x.address = d.address ∧ x.port = port)) ∧
        ((∃ x ∈ s.hst.dests, x.session = h.session ∧ x.address = d.address ∧ x.port = port) → t.lastAnswer stApplied 0) ∧
        ((∀ x ∈ s.hst.dests, ¬(x.session = h.session ∧ x.address = d.address ∧ x.port = port)) → t.lastAnswer stBadRequest 0)))

/-- R91, R408 to R411, R420, R504: REGION_WRITE, WRITE_REG, NVM_WRITE, NVM_ERASE, NVM_ACCESS_COMPLETE, OTP_REVOKE, OTP_MIN_SECVER. -/
def Obligations.HostWrites : Prop :=
  ∀ (s : State) (h : HostRef),
    let k := h.session.toNat
    let S := s.hst.sess k
    (∀ (region : Half) (offset : Word) (data : List Word), s.unionTurn h →
      (∃ t p, exec (.regionWrite h region 0 offset data false) s = .next t ∧ t.hst.regionMem = s.hst.regionMem ∧
        (t.hst.sess k).region = some (region, [p]) ∧ p.part = 0 ∧ p.data = data ∧ p.offset = offset ∧ (t.hst.sess k).isOpen = true ∧
        (S.region = none → t.hst.responses = s.hst.responses ∧ (t.hst.sess k).lastSeq = S.lastSeq ∧ (t.hst.sess k).ledger = S.ledger) ∧
        (∀ r, S.region = some r → (t.hst.sess k).ledger.superseded = S.ledger.superseded + BitVec.ofNat 48 r.2.length)) ∧
      (∀ (x : Schedule) (tb : HostTable) (e : RegionEntry), s.sch.sched = some x → x.host = some tb →
        tb.regions.find? (fun r => decide (r.id = region)) = some e → e.qid = 0 → S.region = none →
        e.role.toNat ≤ S.role.toNat → offset.toNat + 4 * data.length ≤ e.length.toNat → data.length ≤ 256 →
        ∃ t, exec (.regionWrite h region 0 offset data true) s = .next t ∧ (t.hst.sess k).region = none ∧
          (∀ j, j < data.length → Tab.get 0 t.hst.regionMem (region.toNat * 65536 + offset.toNat / 4 + j) = data.getD j 0) ∧
          (t.hst.sess k).ledger = { S.ledger with received := S.ledger.received + 1, applied := S.ledger.applied + 1 } ∧
          (t.hst.sess k).lastSeq = h.hostSeq ∧ (h ∈ s.hst.heard → t.lastAnswer stApplied 0) ∧
          t.img.changes.regions = s.img.changes.regions + (if e.runtime then 1 else 0))) ∧
    (s.sessionMay h 2 →
      (∀ l : List (Word × Word), l.any pairWriteOf = false → ∃ t, exec (.writeReg h l) s = .next t ∧ t.lastAnswer stApplied 0) ∧
      (∀ w : Word, bits w 4 0 ≤ 16 →
        ∃ t, exec (.writeReg h [(0x000D0010, w)]) s = .next t ∧ t.sel (s.whoOf h) 0x0D = w &&& 0x8000001F ∧ t.hst.sessions = s.hst.sessions)) ∧
    (s.sessionMay h 3 →
      (∀ (chip : Byte) (a : Word) (data : List Byte), data ≠ [] → data.length ≤ 1024 → s.img.nvmFits chip a data.length = true →
        ∃ t, exec (.nvmWrite h chip a data) s = .next t ∧ t = { s with hst := t.hst } ∧ t.hst.nvmBusy = true ∧
          (s.hst.nvmBusy = false → t.hst.nvmLast = some (chip, a, data.length) ∧ t.lastAnswer stApplied 0) ∧
          (s.hst.nvmBusy = true → t.hst.nvmLast = s.hst.nvmLast ∧ t.lastAnswer 0x0004 0)) ∧
      (∀ (chip : Byte) (a n e : Word), e ≠ 0 → n ≠ 0 → s.img.nvmFits chip a n.toNat = true →
        ∃ t, exec (.nvmErase h chip a n e) s = .next t ∧ t = { s with hst := t.hst } ∧
          (a.toNat % e.toNat = 0 → n.toNat % e.toNat = 0 → s.hst.nvmBusy = false →
            t.hst.nvmBusy = true ∧ t.hst.nvmLast = some (chip, a, n.toNat) ∧ t.lastAnswer stApplied 0) ∧
          (a.toNat % e.toNat ≠ 0 ∨ n.toNat % e.toNat ≠ 0 → t.hst.nvmBusy = s.hst.nvmBusy ∧ t.lastAnswer stBadRequest 0)) ∧
      (∀ slot : Byte,
        (slot.toNat < 8 →
          ∃ t, exec (.otpRevoke h true slot) s = .next t ∧ (Tab.get HostKeySlot.none t.img.otp.hostKeys slot.toNat).state = .revoked ∧
            (∀ j, j ≠ slot.toNat → Tab.get HostKeySlot.none t.img.otp.hostKeys j = Tab.get HostKeySlot.none s.img.otp.hostKeys j) ∧
            t.img.otp.imageKeys = s.img.otp.imageKeys ∧ t.lastAnswer stApplied 0) ∧
        (slot.toNat < 4 →
          ∃ t, exec (.otpRevoke h false slot) s = .next t ∧ (Tab.get ImageKeySlot.none t.img.otp.imageKeys slot.toNat).state = .revoked ∧
            (∀ j, j ≠ slot.toNat → Tab.get ImageKeySlot.none t.img.otp.imageKeys j = Tab.get ImageKeySlot.none s.img.otp.imageKeys j) ∧
            t.img.otp.hostKeys = s.img.otp.hostKeys ∧ t.lastAnswer stApplied 0)) ∧
      (∀ v : Half, ∃ t, exec (.otpMinSecver h v) s = .next t ∧
        (s.img.otp.minSecver < v → t.img.otp = { s.img.otp with minSecver := v } ∧ t.lastAnswer stApplied 0) ∧
        (v ≤ s.img.otp.minSecver → t.img = s.img ∧ t.lastAnswer stBadRequest 0))) ∧
    exec .nvmAccessComplete s = .next { s with hst := { s.hst with nvmBusy := false } }

/-- R422 to R425, R427, R429, R438, R439, R446: PAIR_ACT_IN_EDGE, PAIR_ACT_IN_SILENT, CLAIM_ARM_EXPIRE, LINK_TRAINED, LINK_DOWN, LINK_RETRY. -/
def Obligations.PairClaims : Prop :=
  ∀ (s : State), s.awake = true →
    (∀ τ : Nat,
      (∃ t, exec (.pairActInEdge τ) s = .next t ∧ t.pai.lastIn = some τ ∧
        (s.pai.toggling = true → s.pai.sideB = true → s.pai.sameSide = false →
          t.pai.toggling = false ∧ t.pai.flags.getLsbD 1 = true ∧
            ((s.pai.role = .solo ∨ s.pai.role = .active) → t.pai.role = .joining ∧ t.pai.adopted = false) ∧
            (s.pai.role ≠ .solo → s.pai.role ≠ .active → t.pai.role = s.pai.role)) ∧
        (s.pai.toggling = false ∨ (s.pai.sideB = false ∧ s.pai.sameSide = false) → t.pai = { s.pai with lastIn := some τ } ∧ t.pai.gate τ = false)) ∧
      ((∀ x, s.pai.lastIn = some x → x + 20000 ≤ τ) →
        ∃ t, exec (.pairActInSilent τ) s = .next t ∧
          (s.pai.follows = true →
            t.pai.role = .active ∧ t.pai.partner = none ∧ t.pai.claimNext = .takeover ∧ t.pai.takeovers = s.pai.takeovers + 1 ∧
              t.pai.pairId = s.pai.pairId ∧ t.pai.lastLoss = 1 ∧ t.pai.flags.getLsbD 0 = true ∧ t.hst = s.hst) ∧
          (s.pai.role = .joining → s.pai.adopted = false → t.pai.claimNext = .solo ∧ t.pai.role = .joining ∧ t.ctl.mode = .standby) ∧
          ((s.pai.role = .solo ∨ s.pai.role = .active) → t.pai = s.pai ∧ t.ctl = s.ctl)) ∧
      (∀ x, s.pai.lastIn = some x → τ < x + 20000 → exec (.pairActInSilent τ) s = .next s)) ∧
    (∃ t, exec .claimArmExpire s = .next t ∧
      (s.pai.armed = false → t.pai = { s.pai with toggling := false }) ∧ (s.pai.armed = true → t = s)) ∧
    (∀ lanes : BitVec 3, lanes = 2 ∨ lanes = 4 → s.pai.link ≠ .up →
      ∃ t, exec (.linkTrained lanes) s = .next t ∧ t.pai.link = .up ∧ t.pai.lanes = lanes ∧ t.pai.txSeq = 0 ∧ t.pai.rxSeq = 0 ∧
        t.pai.unacked = [] ∧ t.pai.role = s.pai.role) ∧
    (∃ t, exec .linkDown s = .next t ∧
      (s.pai.link ≠ .up → t.pai = s.pai) ∧
      (s.pai.link = .up →
        t.pai.link = .training ∧ t.pai.lanes = 0 ∧ t.pai.unacked = [] ∧ t.pai.flags.getLsbD 6 = true ∧ t.pai.role = s.pai.role ∧
          (s.pai.role = .active → t.pai.partner = none ∧ t.pai.pairState = 0) ∧
          (s.pai.role = .joining → t.pai.join = .none ∧ (s.pai.join ≠ .none → t.pai.adopted = false ∧ t.pai.flags.getLsbD 5 = true)))) ∧
    (s.pai.link = .up → s.pai.unacked ≠ [] →
      ∃ t, exec .linkRetry s = .next t ∧ t.pai.linkRetry = s.pai.linkRetry + 1 ∧
        (s.pai.passes < 2 → t.pai.link = .up ∧ t.pai.passes = s.pai.passes + 1 ∧
          t.pai.unacked.map (fun r => r.seq) = s.pai.unacked.map (fun r => r.seq) ∧ (∀ r ∈ t.pai.unacked, r.retry = true)) ∧
        (2 ≤ s.pai.passes → t.pai.link = .training ∧ t.pai.unacked = []))

/-- R429, R430, R432 to R434, R438, R439, R441, R447: CAPTURE, TOKEN, TOKEN_DEADLINE, COMMIT, COMMIT_DEADLINE, SIGNATURE,
SIGNATURE_COMPARE, IDLE. -/
def Obligations.PairExchange : Prop :=
  ∀ (s : State), s.awake = true →
    (∀ hdr : LinkHdr,
      (∃ t, exec (.linkIdle hdr) s = .next t ∧ t = { s with pai := t.pai } ∧ t.pai.role = s.pai.role ∧
        (s.pai.link ≠ .up → t.pai = s.pai) ∧
        (s.pai.link = .up → hdr.ok = false → t.pai = { s.pai with linkCrc := s.pai.linkCrc + 1 }) ∧
        (s.pai.link = .up → hdr.ok = true → hdr.seq ≠ s.pai.rxSeq + 1 → t.pai = s.pai) ∧
        (s.pai.link = .up → hdr.ok = true → hdr.seq = s.pai.rxSeq + 1 → t.pai.rxSeq = hdr.seq ∧ ∀ r ∈ t.pai.unacked, r ∈ s.pai.unacked)) ∧
      (s.pai.link = .up → hdr.ok = true → hdr.seq = s.pai.rxSeq + 1 →
        (∀ items : List Item,
          ∃ t, exec (.linkCapture hdr items) s = .next t ∧ t.pai.rxSeq = hdr.seq ∧
            t.pai.rxItems = s.pai.rxItems ++ items.map (fun i => (hdr.beat, i)) ∧ t.pai.role = s.pai.role) ∧
        (∀ (token : Token) (τ : Nat),
          ∃ t, exec (.linkToken hdr token τ) s = .next t ∧ t.pai.rxSeq = hdr.seq ∧ t.pai.partnerRole = token.role ∧
            t.pai.partnerHealth = token.health ∧
            (token.echoTx ≠ 0 →
              (2 * t.pai.theta - ((token.echoRx.toNat - token.echoTx.toNat : Int) + (token.txTime.toNat - τ : Int))).natAbs ≤ 1) ∧
            (s.pai.follows = true → bitOf token.health 0 = true → t.pai.role = .active ∧ t.pai.lastLoss = 3 ∧ t.pai.claimNext = .takeover)) ∧
        (∀ (incl : Bool) (check : Word),
          ∃ t, exec (.linkCommit hdr s.beat.n incl check) s = .next t ∧ t.pai.commitNow = some (incl, check) ∧ t.pai.role = s.pai.role) ∧
        (∀ sig : Long, ∃ t, exec (.linkSignature hdr s.beat.n sig) s = .next t ∧ t.pai.sigPartner = some sig ∧ t.pai.role = s.pai.role))) ∧
    (s.exchanging = true →
      (s.pai.role = .active → s.pai.inPair = true →
        ∃ t, exec .tokenDeadline s = .next t ∧ t.pai.role = .active ∧
          (∀ token τ, s.pai.tokenNow = some (token, τ) → τ ≤ s.edgeAt + 60000 → s.pai.tokenAgrees token = true →
            t.pai.included = true ∧ t.pai.exclRun = 0 ∧ t.pai.excluded = s.pai.excluded ∧ t.pai.partner = s.pai.partner) ∧
          (s.pai.tokenNow = none →
            t.pai.included = false ∧ t.pai.excluded = s.pai.excluded + 1 ∧ t.pai.flags.getLsbD 2 = true ∧
              ((s.pai.exclRun + 1).toNat < s.pairCfg.exclLimit.toNat → t.pai.exclRun = s.pai.exclRun + 1 ∧ t.pai.partner = s.pai.partner) ∧
              (s.pairCfg.exclLimit.toNat ≤ (s.pai.exclRun + 1).toNat → t.pai.partner = some .joining ∧ t.pai.partnerAdopted = false ∧ t.pai.join = .copy))) ∧
      (s.pai.follows = true →
        ∃ t, exec .commitDeadline s = .next t ∧
          (s.pai.commitNow = none → t.pai.role = .active ∧ t.pai.lastLoss = 2 ∧ t.pai.setsUsed = (true, false)) ∧
          (∀ token τ c, s.pai.tokenNow = some (token, τ) → τ ≤ s.edgeAt + 90000 → s.pai.commitNow = some c → t.pai = s.pai)) ∧
      (∀ a b, s.pai.sigOwn = some a → s.pai.sigPartner = some b →
        ∃ t, exec .signatureCompare s = .next t ∧ t.pai.role = s.pai.role ∧
          (a = b → t.pai.mismatches = s.pai.mismatches ∧ t.pai.shadowDiff = s.pai.shadowDiff ∧ t.pai.toJoining = s.pai.toJoining) ∧
          (a ≠ b → s.pai.role = .shadow → t.pai = { s.pai with shadowDiff := s.pai.shadowDiff + 1 }) ∧
          (a ≠ b → s.pai.role = .standby → s.pai.toJoining = false →
            t.pai.mismatches = s.pai.mismatches + 1 ∧ t.pai.flags.getLsbD 3 = true ∧
              (t.pai.toJoining = true ↔ ¬(healthBad s.pai.partnerHealth = true ∧ healthBad s.pai.health = false))) ∧
          (a ≠ b → s.pai.role = .active → s.pai.partner = some .standby → s.pai.toJoining = false →
            t.pai.mismatches = s.pai.mismatches + 1 ∧
              (healthBad s.pai.health = true → healthBad s.pai.partnerHealth = false → t.pai.takeoverReq = true ∧ t.pai.partner = some .standby) ∧
              (healthBad s.pai.health = false → t.pai.partner = some .joining ∧ t.pai.join = .copy))))

/-- R437, R438, R442 to R445, R447 to R449: JOIN_REQ to PROVING_COMPLETE, PAIR_SWAP to SWAP_CLAIM. -/
def Obligations.PairJoins : Prop :=
  ∀ (s : State), s.awake = true →
    (∀ hdr : LinkHdr, s.pai.link = .up → hdr.ok = true → hdr.seq = s.pai.rxSeq + 1 →
      (∀ r : JoinReq, s.pai.role = .solo →
        ∃ t, exec (.joinReq hdr r) s = .next t ∧
          (r.sideB = s.pai.sideB → t.pai.role = .solo ∧ t.pai.partner = s.pai.partner ∧ t.pai.flags.getLsbD 4 = true) ∧
          (r.sideB ≠ s.pai.sideB → r.imageId = s.imageId → r.layoutSig = s.layoutSig → r.compat = s.compat → r.stepUsed = false →
            healthBad r.health = false → s.pai.lanes = 4 →
            (s.pai.joinBlock = true → t.pai.role = .solo ∧ t.pai.flags.getLsbD 4 = true) ∧
            (s.pai.joinBlock = false → s.sch.inactive.phase ≠ .pending → s.sch.watch = false →
              t.pai.role = .active ∧ t.pai.partner = some .joining ∧ t.pai.join = .copy ∧ t.pai.kind = 1 ∧ t.pai.partnerId = r.deviceId ∧
                t.pai.pairId = some s.pairId))) ∧
      (s.pai.role = .joining → s.pai.adopted = false →
        (∀ (kind : Byte) (id : Long), s.pai.join = .requested →
          (∃ t, exec (.joinAccept hdr kind id) s = .next t ∧ t.pai.join = .copy ∧ t.pai.kind = kind.toNat ∧ t.pai.pairId = some id) ∧
          ∃ t, exec (.joinRefuse hdr kind) s = .next t ∧ t.pai.join = .none ∧ t.pai.role = .joining ∧ t.pai.flags.getLsbD 4 = true) ∧
        (∀ (k : Word) (d : List Byte),
          (∃ t, exec (.linkPage hdr k d) s = .next t ∧ Tab.get [] t.pai.heldPages k.toNat = d ∧
            ∀ j, j ≠ k.toNat → Tab.get [] t.pai.heldPages j = Tab.get [] s.pai.heldPages j) ∧
          ∃ t, exec (.linkFast hdr k d) s = .next t ∧ Tab.get [] t.pai.heldFast k.toNat = d) ∧
        (∀ a : Long, s.pai.join = .copy → ∃ t, exec (.linkAdopt hdr a) s = .next t ∧ t.pai.join = .adopting ∧ t.pai.adoptBeat = some a) ∧
        (∀ (a : Long) (n : Word), s.pai.join = .adopting → s.pai.adoptBeat = some a →
          ∃ t, exec (.adoptEnd hdr a n) s = .next t ∧ t.pai.adoptEnd = some (a, n))) ∧
      (s.pai.follows = true →
        (∀ c : Byte, ∃ t, exec (.linkDemote hdr c) s = .next t ∧ t.pai.role = .joining ∧ t.pai.adopted = false ∧ t.pai.join = .copy ∧ t.pai.heldPages = []) ∧
        (∀ w : Word, ∃ t, exec (.linkHealth hdr w) s = .next t ∧ t.pai.partnerHealth = w ∧
          (bitOf w 0 = true → t.pai.role = .active ∧ t.pai.lastLoss = 3) ∧ (bitOf w 0 = false → t.pai.role = s.pai.role)))) ∧
    (∀ a : Long, s.exchanging = true → s.pai.role = .joining → s.pai.join = .adopting → s.pai.adoptBeat = some a → s.beat.n.toNat = a.toNat + 1 →
      ∃ t, exec .adoptionDeadline s = .next t ∧
        (∀ n, s.pai.adoptEnd = some (a, n) →
          t.pai.joins = s.pai.joins + 1 ∧ t.pai.partner = some .active ∧
            (s.pai.kind = 1 → t.pai.role = .joining ∧ t.pai.adopted = true ∧ t.pai.join = .checking) ∧
            (s.pai.kind ≠ 1 → t.pai.role = .shadow ∧ t.pai.join = .proving)) ∧
        (s.pai.adoptEnd = none → t.pai.role = .joining ∧ t.pai.adopted = false ∧ t.pai.join = .copy ∧ t.est = s.est)) ∧
    (s.pai.role = .shadow → s.pai.proved = false →
      ∃ t, exec .provingComplete s = .next t ∧
        (1 ≤ s.pairCfg.proveRounds.toNat → s.pairCfg.proveRounds.toNat ≤ s.pai.proveDone → t.pai.proved = true ∧ t.pai.join = .none) ∧
        (s.pai.proveDone < s.pairCfg.proveRounds.toNat → t.pai = s.pai)) ∧
    (∀ h : HostRef, s.unionTurn h →
      (s.pai.role = .solo →
        (∃ t, exec (.pairSwap h) s = .next t ∧ t.pai = s.pai ∧ (h ∈ s.hst.heard → t.lastAnswer stRefused 0x00000E0B)) ∧
        ∃ t, exec (.pairDemote h) s = .next t ∧ t.pai = s.pai ∧ (h ∈ s.hst.heard → t.lastAnswer stRefused 0x00000E0B)) ∧
      (s.pai.role = .active → s.pai.partner = some .standby →
        (∃ t, exec (.pairSwap h) s = .next t ∧ t.pai = { s.pai with swap := some s.beat.n } ∧ (h ∈ s.hst.heard → t.lastAnswer stApplied 0)) ∧
        ∃ t, exec (.pairDemote h) s = .next t ∧ t.pai.role = .active ∧ t.pai.partner = some .joining ∧ t.pai.join = .copy ∧ t.pai.partnerAdopted = false) ∧
      (∃ t, exec (.joinBlock h) s = .next t ∧ t.pai = { s.pai with joinBlock := true } ∧ t.img.changes.regions = s.img.changes.regions + 1) ∧
      ∃ t, exec (.joinAllow h) s = .next t ∧ t.pai = { s.pai with joinBlock := false } ∧ t.img = s.img) ∧
    (∀ c : Long, s.exchanging = true → s.beat.n.toNat = c.toNat + 1 →
      (s.pai.role = .active → s.pai.toggling = true → s.pai.swap = some c ∨ (s.pai.swap = none ∧ s.pai.takeoverReq = true) →
        ∃ t, exec .activeClaimStop s = .next t ∧ t.pai.toggling = false ∧ t.pai.flags.getLsbD 1 = true ∧
          t.pai.role = (if s.pai.swap = some c then .active else .joining)) ∧
      (∀ τ : Nat, s.pai.follows = true → s.pai.swap = some c →
        ∃ t, exec (.swapClaim τ) s = .next t ∧ t.pai.role = s.pai.role ∧
          (s.pai.claimed τ = false → t.pai.toggling = true ∧ t.pai.swap = some c) ∧
          (s.pai.claimed τ = true → t.pai.toggling = s.pai.toggling ∧ t.pai.swap = none)))

/-- R458, R459, R461, R464, R467: one edge of the island. -/
def Obligations.IslandEdge : Prop :=
  ∀ (s : State) (inp : IslandIn), s.islandOn = true →
    (∀ c, s.saf.cfg = some c → s.saf.island = .run → s.saf.released = true → (inp.rephase = false ∨ (s.saf.rephased = false ∧ s.saf.started = false)) →
      ∃ t, exec (.islandCycle inp) s = .next t ∧ t.saf.island = .run ∧
        (∀ k, k < 8 → (maskBit t.saf.soOn k = true ↔
          ∃ e, s.saf.so k = some e ∧ s.saf.globalLock = false ∧ maskBit s.saf.latched k = false ∧
            (∀ i f, i < 16 → s.saf.func i = some f → maskBit s.saf.violated i = true → maskBit f.soMask k = false) ∧
            (∀ j, j < 8 → maskBit e.siStop j = true → maskBit s.saf.siOn j = true) ∧ (e.reqKind = 0 ∨ maskBit s.saf.onReq k = true))) ∧
        (∀ k e, k < 8 → s.saf.si k = some e → e.mode ≠ 3 → (maskBit t.saf.siOn k = true ↔
          (Tab.get SiChan.zero t.saf.channels (2 * k)).level = true ∧
            (Tab.get SiChan.zero t.saf.channels (2 * k + 1)).level = decide (e.mode ≠ 2))) ∧
        (∀ i f, i < 16 → s.saf.func i = some f → maskBit t.saf.violated i = true →
          t.saf.fnEnabled f = true ∧ (∀ k, k < 8 → maskBit f.soMask k = true → (s.saf.so k).isSome = true → maskBit t.saf.latched k = true)) ∧
        (∀ j e k x, j < 8 → k < 8 → s.saf.si j = some e → e.mode ≠ 3 → maskBit s.saf.siOn j = true → maskBit t.saf.siOn j = false →
          s.saf.so k = some x → maskBit x.siStop j = true → maskBit t.saf.latched k = true)) ∧
    (inp.rephase = true → s.saf.rephased = true ∨ s.saf.started = true →
      ∃ t, exec (.islandCycle inp) s = .next t ∧ t.saf.island = .fault ∧ t.saf.globalLock = true ∧ t.saf.soOn = 0)

/-- R459, R462, R463, R466, R467, R469 to R471. -/
def Obligations.SafetyCommands : Prop :=
  (∀ (s : State), s.islandOn = true → s.saf.island = .run →
    (∀ (p : BitVec 3) (e : SiCfg), s.saf.si p.toNat = some e → e.mode ≠ 3 → e.discMs.toNat < Tab.get 0 s.saf.disRun p.toNat →
      maskBit s.saf.siDisc p.toNat = false →
      ∃ t, exec (.siDiscrepancy p) s = .next t ∧ maskBit t.saf.siDisc p.toNat = true ∧ t.saf.soOn = s.saf.soOn ∧
        ∀ k x, k < 8 → s.saf.so k = some x →
          (maskBit x.siStop p.toNat = true ∨ ∃ i f, i < 16 ∧ s.saf.func i = some f ∧ f.enableSi.toNat = p.toNat ∧ maskBit f.soMask k = true) →
          maskBit t.saf.latched k = true) ∧
    (∀ (n : BitVec 4) (e : SenseCfg), s.saf.sense n.toNat = some e → e.plausMs.toNat < Tab.get 0 s.saf.senseRun n.toNat →
      maskBit s.saf.senseLate n.toNat = false →
      ∃ t, exec (.plausibilityTimeout n) s = .next t ∧ maskBit t.saf.senseLate n.toNat = true ∧ t.saf.soOn = s.saf.soOn ∧
        ∀ k i f, (s.saf.so k).isSome = true → i < 16 → s.saf.func i = some f → (f.sense.toNat = n.toNat ∨ f.sense2.toNat = n.toNat) →
          maskBit f.soMask k = true → k < 8 → maskBit t.saf.latched k = true) ∧
    (∀ (p : BitVec 3), (s.saf.so p.toNat).isSome = true → maskBit s.saf.soFault p.toNat = false →
      ∃ t, exec (.soReadbackFault p) s = .next t ∧ t.saf.soFault = setBit s.saf.soFault p.toNat ∧ t.saf.soOn = s.saf.soOn ∧
        t.saf.latched = setBit s.saf.latched p.toNat) ∧
    (∀ (p : BitVec 3) (seen : Byte), maskBit s.saf.soOn p.toNat = true →
      ∃ t, exec (.soTestPulse p seen) s = .next t ∧ t.saf.soOn = s.saf.soOn ∧ t.saf.siOn = s.saf.siOn ∧
        ∀ i, i < 8 →
          let expects := (s.saf.si i).any (fun e => decide (e.tpSo.toNat = p.toNat) && decide (e.mode ≠ 3)) && maskBit s.saf.siOn i
          maskBit t.saf.siPulse i = (if expects then !maskBit seen i else maskBit s.saf.siPulse i))) ∧
  (∀ (s : State) (d : Byte) (detail : Word), s.islandOn = true → 1 ≤ d.toNat → d.toNat ≤ 7 →
    ∃ t, exec (.globalFault d detail) s = .next t ∧ t.saf.island = .fault ∧ t.saf.soOn = 0 ∧ t.saf.latched = 0xFF ∧ t.saf.globalLock = true ∧
      t.saf.testedSince = false ∧ t.saf.lastCode = 0x0F04) ∧
  (∀ (s : State) (h : HostRef) (mask : BitVec 9), s.sessionMay h 2 →
    ∃ t, exec (.safResetArm h mask) s = .next t ∧
      (mask = 0 → t.saf = s.saf ∧ t.lastAnswer stBadRequest 0) ∧
      (mask ≠ 0 → t.saf = { s.saf with arm := some { mask := mask, session := h.session, left := 10001 }, sackGood := false } ∧ t.lastAnswer stApplied 0)) ∧
  (∀ (s : State) (a : SafArm), s.islandOn = true → s.saf.arm = some a → a.left ≤ 1 →
    ∃ t, exec .safArmExpired s = .next t ∧ t.saf = { s.saf with arm := none, flags := setBit s.saf.flags 3, lastCode := 0x0F06 }) ∧
  (∀ (s : State) (us : Word), s.islandOn = true → s.saf.island ≠ .run →
    ∃ t, exec (.islandSelfTestDone us) s = .next t ∧ t.saf.island = .run ∧ t.saf.testedSince = true ∧ t.saf.siOn = 0 ∧ t.saf.lastCode = 0x0F07 ∧
      t.saf.lockA = s.saf.lockA ∧ t.saf.lockB = s.saf.lockB)

/-- R102, R461: an invariant of every step. -/
def Obligations.SafeOutputsHeldOff : Prop :=
  ∀ s t : State, s.outputsHeldOff → step s = .next t → t.outputsHeldOff

/-- R467 to R470, R472: nothing else clears a latch. -/
def Obligations.LockoutCleared : Prop :=
  ∀ (c : Instr) (s t : State) (k : Nat), k < 8 → exec c s = .next t → maskBit s.saf.latched k = true → maskBit t.saf.latched k = false →
    (∃ (inp : IslandIn) (a : SafArm), c = .islandCycle inp ∧ s.saf.island = .run ∧ s.saf.arm = some a ∧ maskBit a.mask k = true ∧ 1 < a.left ∧
      s.saf.sack = true ∧ s.saf.sackGood = true ∧ 100 ≤ s.saf.sackBeats + 1 ∧ s.saf.sackBeats + 1 ≤ 2000 ∧ t.saf.sack = false ∧
      maskBit t.saf.violPairs k = false ∧ maskBit t.saf.soFault k = false ∧
      ∀ e j, s.saf.so k = some e → j < 8 → maskBit e.siStop j = true → maskBit t.saf.siOn j = true) ∨
    (c = .sectionsDelivered ∧ s.img.kind = .image ∧ t.saf.so k = none)

/-- R481, R483 to R489, R492. -/
def Obligations.RecorderCommands : Prop :=
  (∀ (s : State) (code : Half) (params : List Word), s.img.powered = true → code.toNat % 256 ≠ 0 →
    ∃ t, exec (.eventRaise code params) s = .next t ∧ t.rcd.slots = s.rcd.slots ∧ t.rcd.newest = s.rcd.newest ∧
      (s.svcDown = false → s.admitsEvent code →
        t.rcd.queue = s.rcd.queue ++ [QEvent.mk code (params.take 4) s.eventBeat false (BitVec.ofNat 6 (min 63 (s.rcd.codeOf code).pending.toNat))] ∧
        (t.rcd.codeOf code).pending = 0 ∧ t.rcd.tokens code = s.rcd.tokens code - 1 ∧ t.rcd.ledger = s.rcd.ledger ∧
        t.rcd.globalTokens = if (s.rcd.rate code).2.2 then s.rcd.globalTokens else s.rcd.globalTokens - 1) ∧
      (s.svcDown = false → ¬ s.admitsEvent code →
        t.rcd.queue = s.rcd.queue ∧ t.rcd.tokens code = s.rcd.tokens code ∧ t.rcd.globalTokens = s.rcd.globalTokens ∧ t.rcd.flSuppressed = true ∧
        t.rcd.ledger.raised = s.rcd.ledger.raised + 1 ∧ t.rcd.ledger.suppressed = s.rcd.ledger.suppressed + 1 ∧
        t.rcd.suppOther = (if s.rcd.final then s.rcd.suppOther + 1 else s.rcd.suppOther) ∧
        t.rcd.suppGlobal = (if s.rcd.final = false ∧ s.rcd.tokens code ≠ 0 ∧ (s.rcd.rate code).2.2 = false ∧ s.rcd.globalTokens = 0
          then s.rcd.suppGlobal + 1 else s.rcd.suppGlobal) ∧
        t.rcd.suppQueue = (if s.rcd.final = false ∧ s.rcd.tokens code ≠ 0 ∧ ((s.rcd.rate code).2.2 = true ∨ s.rcd.globalTokens ≠ 0)
          then s.rcd.suppQueue + 1 else s.rcd.suppQueue)) ∧
      (s.svcDown = true →
        let mine := s.rcd.held.filter (fun e => decide (e.code.toNat / 256 = code.toNat / 256))
        t.rcd.queue = s.rcd.queue ∧
        (mine.length < 8 → t.rcd.held = s.rcd.held ++ [{ code := code, params := params.take 4, beat := s.eventBeat, instant := s.tim.now }]) ∧
        (8 ≤ mine.length → t.rcd.held = s.rcd.held ∧ t.rcd.suppOther = s.rcd.suppOther + 1))) ∧
  (∀ (s : State) (secs : Word) (e : QEvent) (rest : List QEvent), s.awake = true → s.rcd.ready = true → s.rcd.final = false → s.rcd.queue = e :: rest →
    let seq := s.rcd.newest + 1
    ∃ t, exec (.recordWrite secs) s = .next t ∧ t.rcd.newest = seq ∧
      (∀ k, k ≠ slotOfSeq seq.toNat → Tab.get none t.rcd.slots k = Tab.get none s.rcd.slots k) ∧
      (seq ≠ 0xFFFFFFFE → t.rcd.queue = rest ∧ t.rcd.ledger.written = s.rcd.ledger.written + 1 ∧
        t.rcd.record seq.toNat = some (Record.mk seq e.code e.supp e.deferred false (BitVec.ofNat 8 e.params.length) (s.rcd.opsecBase + secs) s.img.pwrcyc e.beat e.params)) ∧
      (seq = 0xFFFFFFFE → t.rcd.final = true ∧ t.rcd.queue = [] ∧
        t.rcd.record seq.toNat = some (Record.mk seq 0x1002 0 false true 0 (s.rcd.opsecBase + secs) s.img.pwrcyc s.eventBeat []))) ∧
  (∀ s : State, s.awake = true →
    (∃ t, exec (.bucketRefill none) s = .next t ∧ t.rcd = { s.rcd with globalTokens := min 256 (s.rcd.globalTokens + 1) }) ∧
    (∀ code : Half, (s.rcd.codeOf code).spent ≤ (s.rcd.rate code).1 →
      ∃ t, exec (.bucketRefill (some code)) s = .next t ∧ t.rcd.tokens code = min (s.rcd.rate code).1 (s.rcd.tokens code + 1) ∧
        t.rcd.queue = s.rcd.queue ∧ t.rcd.globalTokens = s.rcd.globalTokens) ∧
    (s.rcd.ready = false →
      ∃ t, exec .recorderScan s = .next t ∧ t.rcd.ready = true ∧ t.rcd.slots = s.rcd.slots ∧
        (∀ p ∈ s.rcd.slots, ∀ x, p.2 = some x → x.seq.toNat ≤ t.rcd.newest.toNat) ∧
        ∀ x, s.rcd.record t.rcd.newest.toNat = some x → t.rcd.opsecBase.toNat = max s.rcd.opsecSaved.toNat x.opsec.toNat) ∧
    (s.rcd.codes = [] → s.rcd.table = [] → s.rcd.final = false → s.rcd.globalTokens = 256 → s.rcd.held.length ≤ 16 →
      s.rcd.queue.length + s.rcd.held.length ≤ 128 → (∀ e ∈ s.rcd.held, e.code ≠ 0x0D07) →
      ∃ (t : State) (l : List HeldEvent), exec .deferredEventRelease s = .next t ∧ t.rcd.held = [] ∧ l.Perm s.rcd.held ∧
        l.Pairwise (fun a b => a.instant < b.instant ∨ (a.instant = b.instant ∧ a.code.toNat ≤ b.code.toNat)) ∧
        t.rcd.queue = s.rcd.queue ++ l.map (fun e => QEvent.mk e.code (e.params.take 4) e.beat true 0)) ∧
    (∀ who : Who, s.rcd.window = none →
      ∃ t, exec (.recordWindowLock who) s = .next t ∧ t.rcd = { s.rcd with window := some (who.input, s.rcd.record s.rcd.seqSel.toNat) }) ∧
    (∀ (who : Who) (x : Option Record), s.rcd.window = some (who.input, x) →
      ∃ t, exec (.recordWindowRelease who) s = .next t ∧ t.rcd = { s.rcd with window := none })) ∧
  (∀ (s : State) (secs : Word), s.img.powered = true → s.pwr.mode ≠ .cocoon → s.rcd.ready = true →
    ∃ t, exec (.opsecSave secs) s = .next t ∧ t.rcd = { s.rcd with opsec := s.rcd.opsecBase + secs, opsecSaved := s.rcd.opsecBase + secs })

/-- R40, R484, R489: invariants of every step. -/
def Obligations.RecorderConserves : Prop :=
  ∀ s t : State, step s = .next t →
    (s.recorderBalanced → t.recorderBalanced) ∧
    (s.rcd.newest.toNat < 0xFFFFFFFE → ∀ (k : Nat) (x : Record), k < 1024 → k ≤ s.rcd.newest.toNat → Tab.get none s.rcd.slots k = some x →
      Tab.get none t.rcd.slots k = some x)

/-- R496, R499 to R505, R507, R509, R511, R512. -/
def Obligations.PowerStates : Prop :=
  (∀ (s : State) (h : HostRef) (flags addr : Byte) (alarm : Long), s.unionTurn h →
    (∀ cocoon : Bool, orderOk (if cocoon then 4 else 3) flags addr alarm s.tim.now = true →
      ∃ t, exec (if cocoon then .powerCocoon h flags addr alarm else .powerChrysalis h flags addr alarm) s = .next t ∧
        t.pwr.mode = s.pwr.mode ∧ t.pwr.prog = s.pwr.prog ∧
        let busy := s.tim.pending.isSome ∨ s.tim.arm.isSome
        let moving := s.ctl.mode ≠ .standby ∨ ∃ p ∈ s.ctl.winches, p.2.mode ≠ .stop
        (s.sch.inactive.phase ≠ .pending → s.pai.role = .solo → s.pai.join = .none → ¬ moving → ¬ busy →
          t.pwr.entry = some (PendEntry.mk (if cocoon then .cocoon else .chrysalis) h.session (wakeOf flags addr alarm) 0 0 false false) ∧ t.pwr.refusals = s.pwr.refusals) ∧
        (s.sch.inactive.phase = .pending ∨ (s.pai.role ≠ .solo ∧ flags.getLsbD 0 = false) ∨ s.pai.join ≠ .none ∨ moving ∨ busy →
          t.pwr.entry = s.pwr.entry ∧ t.pwr.refusals = s.pwr.refusals + 1 ∧ t.pwr.flags = setBit s.pwr.flags 0 ∧
          (s.sch.inactive.phase = .pending → t.pwr.refBlock = 1 ∧ t.pwr.refCause = 2))) ∧
    (orderOk 2 flags addr alarm s.tim.now = true → s.sch.inactive.phase ≠ .pending → s.pai.role = .solo → s.pai.join = .none →
      ∃ t, exec (.powerWatch h flags addr alarm) s = .next t ∧ t.pwr.mode = s.pwr.mode ∧
        ∀ x, s.sch.sched = some x →
          (x.header.flags.getLsbD 0 = true → s.pwr.mode ≠ .watch →
            t.pwr.prog = some { toWatch := true, age := 0, wake := 0, cfg := wakeOf flags addr alarm }) ∧
          (x.header.flags.getLsbD 0 = false → t.pwr.prog = s.pwr.prog ∧ t.pwr.refBlock = 1 ∧ t.pwr.refCause = 1)) ∧
    (orderOk 1 flags addr alarm s.tim.now = true →
      ∃ t, exec (.powerRun h flags addr alarm) s = .next t ∧ t.pwr.mode = s.pwr.mode ∧ t.pwr.entry = none ∧
        (s.pwr.mode = .watch → t.pwr.prog = some { toWatch := false, age := 0, wake := 0, cfg := wakeOf flags addr alarm }))) ∧
  (∀ (s : State) (d : BitVec 4),
    (s.edgesRun = true → s.pwr.due d.toNat = true →
      ∃ t, exec (.domainIdleExpire d) s = .next t ∧ (t.pwr.dom d.toNat).state = .gated ∧
        (t.pwr.dom d.toNat).gates = (s.pwr.dom d.toNat).gates + 1 ∧ ∀ k, k ≠ d.toNat → t.pwr.dom k = s.pwr.dom k) ∧
    (s.pwr.due d.toNat = false → exec (.domainIdleExpire d) s = .next s)) ∧
  (∀ (s : State) (e : PendEntry), s.awake = true → s.pwr.entry = some e → e.started = true →
    (∀ cal : Bool, e.block < 19 →
      ∃ t, exec (.handshakeAnswer cal) s = .next t ∧
        (e.block ∉ [0x02, 0x08, 0x10, 0x12] → t.pwr.entry = some { e with block := e.block + 1, delaying := false }) ∧
        (e.block = 0x02 → s.hst.nvmBusy = true → t.pwr.entry = none ∧ t.pwr.refBlock = 2 ∧ t.pwr.refCause = 8) ∧
        (e.block = 0x08 → cal = true → t.pwr.entry = some { e with delaying := true }) ∧
        (e.block = 0x10 → s.rcd.queue ≠ [] → t.pwr.entry = some { e with delaying := true })) ∧
    (∃ t, exec .handshakeTimeout s = .next t ∧ (e.delaying = false → t.pwr = s.pwr) ∧
      (e.delaying = true → t.pwr.entry = none ∧ t.pwr.refBlock.toNat = e.block % 256 ∧ t.pwr.refCause = 7))) ∧
  (∀ (s : State) (x : PendProg), s.atBoundary = true → s.pwr.prog = some x → 2 ≤ x.age →
    ∃ t, exec .programSwitch s = .next t ∧ t.sch.watch = x.toWatch ∧ t.pwr.prog = none ∧
      (x.toWatch = true → t.pwr.mode = .watch ∧ t.ctl.mode = .standby ∧ t.pwr.entries = s.pwr.entries + 1 ∧ t.pwr.armed = x.cfg ∧ t.alc.zero = true) ∧
      (x.toWatch = false → t.pwr.mode = .run ∧ t.ctl.mode = s.ctl.mode ∧ t.pwr.lastState = 2)) ∧
  (∀ (s : State) (e : PendEntry), s.edgesRun = true → s.beat.live = true → s.beat.closes (s.beatNo + 1) = true → s.pwr.entry = some e →
    11 ≤ e.age → 19 ≤ e.block →
    ∃ t, exec .lowPowerEntry s = .next t ∧ t.pwr.mode = e.mode ∧ t.pwr.entry = none ∧ t.pwr.armed = e.wake ∧ t.pwr.latched = 3 ∧
      t.pwr.entries = s.pwr.entries + 1 ∧ t.sch.running = false ∧ t.beat.live = false ∧ t.saf.soOn = 0 ∧ t.saf.arm = none ∧
      t.saf.latched = s.saf.latched ∧ t.rcd.ledgerSnap = s.rcd.ledger ∧ ∀ k, 1 ≤ k → k ≤ 16 → (t.hst.sess k).isOpen = false) ∧
  (∀ (s : State) (t0 : Nat), s.img.powered = true →
    (∀ low : Bool,
      (s.pwr.mode = .chrysalis ∨ s.pwr.mode = .cocoon → s.pwr.armed.pin = true → low = s.pwr.armed.pinLow → s.pwr.wakeAt = none →
        ∃ t, exec (.wakePin low t0) s = .next t ∧ t.pwr.wakeAt = some t0 ∧ t.pwr.lastSource = 2 ∧ t.pwr.lastState.toNat = s.pwr.mode.last) ∧
      (s.pwr.mode = .watch → s.pai.role = .solo → s.pwr.prog = none → s.pwr.armed.pin = true → low = s.pwr.armed.pinLow →
        ∃ t p, exec (.wakePin low t0) s = .next t ∧ t.pwr.prog = some p ∧ p.toWatch = false ∧ p.wake = 2 ∧ t.pwr.entry = none) ∧
      (s.pwr.mode = .run ∨ s.pwr.armed.pin = false ∨ low ≠ s.pwr.armed.pinLow → exec (.wakePin low t0) s = .next s)) ∧
    (∀ addr : BitVec 7,
      (s.pwr.mode = .chrysalis ∨ s.pwr.mode = .cocoon → s.pwr.armed.port = true → addr = s.pwr.armed.addr → s.pwr.wakeAt = none →
        ∃ t, exec (.wakePortMatch addr t0) s = .next t ∧ t.pwr.wakeAt = some t0 ∧ t.pwr.lastSource = 1 ∧ t.pwr.lastState.toNat = s.pwr.mode.last) ∧
      (s.pwr.mode = .run ∨ s.pwr.armed.port = false ∨ addr ≠ s.pwr.armed.addr → exec (.wakePortMatch addr t0) s = .next s)) ∧
    (∀ w, s.pwr.mode = .chrysalis → s.pwr.wakeAt = some w →
      (t0 % 1000000 = 0 → w + 2000000 ≤ t0 → t0 < w + 3000000 →
        ∃ t, exec (.chrysalisFirstBeat t0) s = .next t ∧ t.pwr.mode = (if s.sch.watch then .watch else .run) ∧ t.sch.running = true ∧
          t.beat.n + 1 = BitVec.ofNat 64 (t0 / 1000000) ∧ t.pwr.flags.getLsbD 1 = true ∧ t.pwr.latched = s.pwr.latched ∧ t.pwr.wakeAt = none ∧
          ((t0 - w) / 1000 < 2 ^ 32 → t.pwr.wakeUs.toNat = (t0 - w) / 1000)) ∧
      (t0 < w + 2000000 ∨ w + 3000000 ≤ t0 → exec (.chrysalisFirstBeat t0) s = .next s))) ∧
  (∀ (s : State) (who : Who), s.awake = true →
    (∃ t, exec (.padReleaseDirect who) s = .next t ∧ t.pwr.latched = s.pwr.latched ∧
      (s.img.phase = .running → t.pwr.release = setBit s.pwr.release 0 ∧ t.pwr.flags = s.pwr.flags) ∧
      (s.img.phase ≠ .running → t.pwr.release = s.pwr.release ∧ t.pwr.flags = setBit s.pwr.flags 2)) ∧
    (∃ t, exec (.padReleaseAnn who) s = .next t ∧ t.pwr.latched = s.pwr.latched ∧
      (s.img.phase = .running → t.pwr.release = setBit s.pwr.release 1 ∧ t.pwr.flags = s.pwr.flags) ∧
      (s.img.phase ≠ .running → t.pwr.release = s.pwr.release ∧ t.pwr.flags = setBit s.pwr.flags 2)))

/-- R517: an arbiter decision outside a reserved grant. -/
def Obligations.ArbiterGrants : Prop :=
  ∀ (s : State) (cycle wordStart words k c : Nat), s.awake = true →
    let upTo := if s.svc.grant = none then cycle else wordStart
    (s.svc.grantNo + 1) % s.svc.arbN.toNat ≠ 0 → (k, some c) ∈ s.svc.raised → c ≤ upTo →
    (∀ j d, (j, some d) ∈ s.svc.raised → d ≤ upTo → j ≤ k) →
    ∃ t, exec (.arbiterDecision cycle wordStart words) s = .next t ∧
      t.svc.grant = some { holder := BitVec.ofNat 4 k, start := cycle + 1, limit := s.svc.holdLimit.toNat } ∧
      Tab.get none t.svc.raised k = none ∧ (∀ j, j ≠ k → Tab.get none t.svc.raised j = Tab.get none s.svc.raised j) ∧
      t = { s with svc := { s.svc with grant := t.svc.grant, grantNo := s.svc.grantNo + 1, raised := t.svc.raised, counters := t.svc.counters } } ∧
      ∀ key, (∀ g, s.svc.grant = some g → key ≠ counterKey 0x12 g.holder.toNat) →
        Tab.get Counter.zero t.svc.counters key = Tab.get Counter.zero s.svc.counters key

/-- R4, R516, R518, R520 to R522, R524, R526 to R528, R531, R532, R534, R535. -/
def Obligations.FabricCommands : Prop :=
  (∀ s : State, s.awake = true →
    (∀ (i : BitVec 4) (c : Nat), i ≠ 0 →
      ∃ t, exec (.requestRaise i c) s = .next t ∧ t.svc.grant = s.svc.grant ∧
        Tab.get none t.svc.raised i.toNat = some ((Tab.get none s.svc.raised i.toNat).getD c)) ∧
    (∀ k c cycle words : Nat, s.svc.grant = none → (s.svc.grantNo + 1) % s.svc.arbN.toNat = 0 → s.svc.arbN ≠ 0 → (k, some c) ∈ s.svc.raised → c ≤ cycle →
      (∀ j d, (j, some d) ∈ s.svc.raised → d ≤ cycle → c < d ∨ (c = d ∧ j ≤ k)) →
      ∃ t g, exec (.arbiterDecision cycle cycle words) s = .next t ∧ t.svc.grant = some g ∧ g.holder = BitVec.ofNat 4 k ∧ g.start = cycle + 1) ∧
    (∀ (g : Grant) (a : Word) (words cycle : Nat), s.svc.grant = some g →
      (g.start + g.limit ≤ cycle + 1 →
        ∃ t, exec (.holdLimitCut a words cycle) s = .next t ∧ t.svc.flCutoff = true ∧
          Tab.get 0 t.svc.cuts g.holder.toNat = Tab.get 0 s.svc.cuts g.holder.toNat + 1 ∧
          Tab.get none t.svc.raised g.holder.toNat = Tab.get none s.svc.raised g.holder.toNat) ∧
      (cycle + 1 < g.start + g.limit → exec (.holdLimitCut a words cycle) s = .next s)) ∧
    (∀ (who : Who) (v : Word),
      let may := if who.input = 14 then s.svc.jtag.authSlot.isSome = true else 3 ≤ who.role.toNat
      let n := bits v 6 0
      let h := bits v 28 16
      ∃ t, exec (.arbCfgWrite who v) s = .next t ∧ t.svc.grant = s.svc.grant ∧ t.svc.grantNo = s.svc.grantNo ∧
        (may → 2 ≤ n → n ≤ 64 → 256 ≤ h → h ≤ 4096 → t.svc.arbN.toNat = n ∧ t.svc.holdLimit.toNat = h) ∧
        (¬ (may ∧ 2 ≤ n ∧ n ≤ 64 ∧ 256 ≤ h ∧ h ≤ 4096) →
          t.svc.arbN = s.svc.arbN ∧ t.svc.holdLimit = s.svc.holdLimit ∧ t.svc.flCfgRefused = true)) ∧
    (∀ (who : Who) (a v : Word), s.peek who a = none →
      ∃ t, exec (.registerWrite who a v) s = .next t ∧ t.svc.unmapped = s.svc.unmapped + 1 ∧ t.svc.flUnmapped = true ∧
        t.svc.unmapAddr = (if s.svc.flUnmapped then s.svc.unmapAddr else a) ∧ t.saf = s.saf ∧ t.est = s.est ∧ t.beat = s.beat) ∧
    (∀ (who : Who) (v : Word),
      (∃ t, exec (.registerWrite who 0x000F0038 v) s = .next t ∧ t.saf = s.saf ∧ t.rcd = s.rcd) ∧
      (∃ t, exec (.registerWrite who 0x000F0034 v) s = .next t ∧ t.saf = { s.saf with flags := s.saf.flags &&& ~~~(BitVec.ofNat 6 v.toNat) }) ∧
      (∃ t, exec (.registerWrite who 0x00100014 v) s = .next t ∧ t.rcd = { s.rcd with seqSel := v })) ∧
    (∀ (who : Who) (a v w : Word), isPairLow (a.toNat / 65536) (a.toNat % 65536) = true → s.peek who a = some v → s.peek who (a + 4) = some w →
      ∃ t, exec (.pairLowRead who a) s = .next t ∧ Tab.get 0 t.svc.pairHold (State.holdKey who a) = w ∧
        Tab.get 0 t.svc.pairLast (State.holdKey who a) = a.toNat)) ∧
  (∀ s : State, s.awake = true →
    (∃ t, exec .bypass s = .next t ∧ t.svc.jtag.instr = 0xFF ∧ t.img = s.img) ∧
    (∃ t, exec .idcode s = .next t ∧ t.svc.jtag.instr = 0x02 ∧ t.svc.jtag.dr = 0x103C0947) ∧
    (∀ l : List Bool,
      (∃ t, exec (.extest l) s = .next t ∧ (s.img.nresetIn = true → t.svc.jtag.instr = 0x00 ∧ t.svc.jtag.boundary = l) ∧
        (s.img.nresetIn = false → t.svc.jtag.instr = 0xFF ∧ t.svc.jtag.boundary = s.svc.jtag.boundary)) ∧
      (∃ t, exec (.samplePreload l) s = .next t ∧ t.svc.jtag.instr = 0x01 ∧ t.svc.jtag.boundary = l)) ∧
    (∀ n : BitVec 128, ∃ t, exec (.dbgChallenge n) s = .next t ∧ t.svc.jtag.nonce = some n ∧ t.svc.jtag.authSlot = s.svc.jtag.authSlot) ∧
    (∀ (slot : Byte) (tag : BitVec 128),
      let k := Tab.get HostKeySlot.none s.img.otp.hostKeys slot.toNat
      ∃ t, exec (.dbgAuth slot tag) s = .next t ∧ t.svc.jtag.nonce = none ∧
        (∀ n, s.svc.jtag.nonce = some n → slot.toNat < 8 → k.state = .valid → k.role = 3 → s.img.otp.debugState.toNat ≤ 1 →
          tag = mac16 k.key (lblDbg ++ bytes16 n ++ leBytes 8 s.img.otp.deviceId.toNat) → t.svc.jtag.authSlot = some slot) ∧
        (s.svc.jtag.nonce = none ∨ k.state ≠ .valid ∨ k.role ≠ 3 ∨ s.img.otp.debugState.toNat = 2 →
          t.svc.jtag.authSlot = s.svc.jtag.authSlot ∧ t.svc.flDebugRefused = true)) ∧
    (∀ (a d : Word) (w : Bool),
      let served := s.img.otp.debugState.toNat = 0 ∨ (s.img.otp.debugState.toNat = 1 ∧ s.svc.jtag.authSlot.isSome = true)
      ∃ t, exec (.dbgAccess a d w) s = .next t ∧ t.svc.jtag.instr = 0x12 ∧
        (served → t.svc.jtag.dbgStatus = 0 ∧ (a = 0x00100014 → w = true → t.rcd.seqSel = d) ∧
          (a = 0x00100020 → w = false → t.svc.jtag.dbgRead = s.rcd.newest)) ∧
        (¬ served → t.svc.jtag.dbgStatus = 1 ∧ t.rcd = s.rcd ∧ t.beat = s.beat ∧ t.hst = s.hst)) ∧
    (∀ (slot : BitVec 3) (key : BitVec 256) (role : BitVec 2),
      ∃ t, exec (.otpProg (.hostKey slot key role)) s = .next t ∧
        (s.svc.debugServed s.img.otp = true → (Tab.get HostKeySlot.none s.img.otp.hostKeys slot.toNat).state = .empty →
          Tab.get HostKeySlot.none t.img.otp.hostKeys slot.toNat = { state := .valid, key := key, role := role } ∧ t.svc.jtag.dbgStatus = 0) ∧
        (s.svc.debugServed s.img.otp = false ∨ (Tab.get HostKeySlot.none s.img.otp.hostKeys slot.toNat).state ≠ .empty →
          t.img.otp = s.img.otp ∧ t.svc.jtag.dbgStatus = 1)) ∧
    (∃ t, exec .jtagTrst s = .next t ∧ t.svc.jtag.instr = 0x02 ∧ t.svc.jtag.authSlot = none) ∧
    (∃ t, exec .debugAuthTimeout s = .next t ∧ t.svc.jtag.authSlot = none ∧ t.svc.jtag.instr = s.svc.jtag.instr)) ∧
  (∀ (s : State) (t0 : Nat) (lat : Half), s.edgesRun = true →
    (s.beatNo % s.svc.pcWindow.toNat = 0 →
      ∃ t, exec (.counterCollection t0 lat) s = .next t ∧ t.svc.pcSeq = s.svc.pcSeq + 1 ∧ t.svc.pcT0 = BitVec.ofNat 64 t0 ∧ t.svc.pcLat = lat ∧
        ∀ b k, b < 19 → k < counterCount b →
          let o := s.svc.counter (counterKey b k)
          let n := t.svc.counter (counterKey b k)
          n.value = o.value ∧ n.snap = o.value ∧ n.delta = o.value - o.snap ∧ n.cfg = o.next.getD o.cfg ∧ n.reconfig = o.next.isSome) ∧
    (s.beatNo % s.svc.pcWindow.toNat ≠ 0 → exec (.counterCollection t0 lat) s = .next s)) ∧
  (∀ (s : State) (who : Who) (v : Word), s.awake = true →
    (∃ t, exec (.counterConfigWrite who 0x00120030 v) s = .next t ∧
      (3 ≤ who.role.toNat → bits v 9 0 ≠ 0 → 1000 % bits v 9 0 = 0 → t.svc.pcWindow.toNat = bits v 9 0) ∧
      (who.role.toNat < 3 ∨ 1000 % bits v 9 0 ≠ 0 → t.svc.pcWindow = s.svc.pcWindow ∧ t.svc.flCfgRefused = true)) ∧
    (∃ t, exec (.tagSeedWrite who v) s = .next t ∧
      (3 ≤ who.role.toNat → v ≠ 0 → t.svc.tagger.lfsr = v) ∧
      (v = 0 → t.svc.tagger = s.svc.tagger ∧ t.svc.flCfgRefused = true)) ∧
    (∃ t, exec (.taggerEnable who v) s = .next t ∧
      (3 ≤ who.role.toNat → s.svc.tagger.enable = false → bitOf v 31 = true → s.svc.tagger.count ≠ 256 →
        t.svc.tagger.running = true ∧ s.svc.tagger.base.toNat ≤ t.svc.tagger.countdown ∧
        t.svc.tagger.countdown ≤ s.svc.tagger.base.toNat + s.svc.tagger.spread.toNat) ∧
      (3 ≤ who.role.toNat → bitOf v 31 = false → t.svc.tagger.running = false)) ∧
    (∃ t, exec (.tagWindowLock who) s = .next t ∧
      t.svc.tagger = { s.svc.tagger with window := some (Tab.get none s.svc.tagger.buffer (bits (s.sel who 0x12) 23 16)) }) ∧
    (∃ t, exec (.tagWindowRelease who) s = .next t ∧ t.svc.tagger = { s.svc.tagger with window := none })) ∧
  (∀ (s : State) (e : TagEntry) (cycle stall : BitVec 20) (stopped : Bool), s.sch.running = true → s.svc.tagger.inFlight = some e →
    ∃ t, exec (.tagComplete cycle stall stopped) s = .next t ∧ t.svc.tagger.inFlight = none ∧ t.svc.tagger.next = s.svc.tagger.next + 1 ∧
      Tab.get none t.svc.tagger.buffer s.svc.tagger.next.toNat =
        some { e with stall := stall.setWidth 32, complete := cycle.setWidth 32, stopped := stopped })
end

