-- ==== Sys2Proof/Laws/Tab.lean ====
section
/-! SUPPORT. Laws of the sparse tables: reading after a write, and the canonical form that every write keeps. -/

namespace Sys2Proof

variable {α : Type}

@[simp] theorem Tab.get_nil (d : α) (k : Nat) : Tab.get d [] k = d := rfl

theorem Tab.get_cons (d : α) (j : Nat) (v : α) (t : Tab α) (m : Nat) :
    Tab.get d ((j, v) :: t) m = if j = m then v else Tab.get d t m := rfl

theorem Tab.get_erase_same (d : α) (t : Tab α) (k : Nat) : Tab.get d (Tab.erase t k) k = d := by
  induction t with
  | nil => rfl
  | cons p t ih =>
    obtain ⟨j, w⟩ := p
    by_cases h : j = k
    · simpa [Tab.erase, h] using ih
    · simpa [Tab.erase, Tab.get, h] using ih

theorem Tab.get_erase_other (d : α) (t : Tab α) {k m : Nat} (h : m ≠ k) : Tab.get d (Tab.erase t k) m = Tab.get d t m := by
  induction t with
  | nil => rfl
  | cons p t ih =>
    obtain ⟨j, w⟩ := p
    by_cases hj : j = k
    · have hm : ¬ j = m := fun e => h (e ▸ hj)
      simpa [Tab.erase, Tab.get, hj, Ne.symm h] using ih
    · by_cases hm : j = m
      · simp [Tab.erase, Tab.get, hm, h]
      · simpa [Tab.erase, Tab.get, hj, hm] using ih

theorem Tab.get_insert_same (d : α) (t : Tab α) (k : Nat) (v : α) : Tab.get d (Tab.insert t k v) k = v := by
  induction t with
  | nil => simp [Tab.insert, Tab.get]
  | cons p t ih =>
    obtain ⟨j, w⟩ := p
    by_cases h : j = k
    · simp [Tab.insert, Tab.get, h]
    · by_cases hk : k < j
      · simp [Tab.insert, Tab.get, h, hk]
      · simpa [Tab.insert, Tab.get, h, hk] using ih

theorem Tab.get_insert_other (d : α) (t : Tab α) {k m : Nat} (v : α) (h : m ≠ k) : Tab.get d (Tab.insert t k v) m = Tab.get d t m := by
  induction t with
  | nil => simp [Tab.insert, Tab.get, Ne.symm h]
  | cons p t ih =>
    obtain ⟨j, w⟩ := p
    by_cases hj : j = k
    · subst hj
      simp [Tab.insert, Tab.get, Ne.symm h]
    · by_cases hk : k < j
      · simp [Tab.insert, Tab.get, hj, hk, Ne.symm h]
      · by_cases hm : j = m
        · subst hm
          simp [Tab.insert, Tab.get, hj, hk]
        · simpa [Tab.insert, Tab.get, hj, hk, hm] using ih

variable [DecidableEq α]

/-- A key reads as what was last written to it. -/
@[simp] theorem Tab.get_set_same (d : α) (t : Tab α) (k : Nat) (v : α) : Tab.get d (Tab.set d t k v) k = v := by
  unfold Tab.set
  split
  · next h => rw [Tab.get_erase_same, h]
  · exact Tab.get_insert_same d t k v

/-- A write leaves every other key alone. -/
theorem Tab.get_set_other (d : α) (t : Tab α) {k m : Nat} (v : α) (h : m ≠ k) : Tab.get d (Tab.set d t k v) m = Tab.get d t m := by
  unfold Tab.set
  split
  · exact Tab.get_erase_other d t h
  · exact Tab.get_insert_other d t v h

theorem Tab.get_set (d : α) (t : Tab α) (k m : Nat) (v : α) :
    Tab.get d (Tab.set d t k v) m = if m = k then v else Tab.get d t m := by
  by_cases h : m = k
  · simp [h]
  · simp [h, Tab.get_set_other d t v h]

theorem Tab.canonFrom_lower (d : α) {t : Tab α} {a b : Nat} (hab : a ≤ b) (h : Tab.canonFrom d (some b) t = true) :
    Tab.canonFrom d (some a) t = true := by
  cases t with
  | nil => rfl
  | cons p t =>
    obtain ⟨j, w⟩ := p
    simp only [Tab.canonFrom, Bool.and_eq_true, decide_eq_true_eq] at h ⊢
    exact ⟨⟨by omega, h.1.2⟩, h.2⟩

theorem Tab.canonFrom_none (d : α) {t : Tab α} {a : Nat} (h : Tab.canonFrom d (some a) t = true) : Tab.canonFrom d none t = true := by
  cases t with
  | nil => rfl
  | cons p t =>
    obtain ⟨j, w⟩ := p
    simp only [Tab.canonFrom, Bool.and_eq_true, decide_eq_true_eq] at h ⊢
    exact ⟨h.1.2, h.2⟩

theorem Tab.canonFrom_erase (d : α) {t : Tab α} {lo : Option Nat} {k : Nat} (h : Tab.canonFrom d lo t = true) :
    Tab.canonFrom d lo (Tab.erase t k) = true := by
  induction t generalizing lo with
  | nil => cases lo <;> rfl
  | cons p t ih =>
    obtain ⟨j, w⟩ := p
    unfold Tab.erase
    split
    · cases lo with
      | none =>
        simp only [Tab.canonFrom, Bool.and_eq_true] at h
        exact ih (Tab.canonFrom_none d h.2)
      | some a =>
        simp only [Tab.canonFrom, Bool.and_eq_true, decide_eq_true_eq] at h
        exact ih (Tab.canonFrom_lower d (Nat.le_of_lt h.1.1) h.2)
    · cases lo <;>
      · simp only [Tab.canonFrom, Bool.and_eq_true, decide_eq_true_eq] at h ⊢
        exact ⟨h.1, ih h.2⟩

theorem Tab.canonFrom_insert (d : α) {t : Tab α} {lo : Option Nat} {k : Nat} {v : α} (hv : v ≠ d) (hlo : ∀ a, lo = some a → a < k)
    (h : Tab.canonFrom d lo t = true) : Tab.canonFrom d lo (Tab.insert t k v) = true := by
  induction t generalizing lo with
  | nil => cases lo with
    | none => simp [Tab.insert, Tab.canonFrom, hv]
    | some a => simp [Tab.insert, Tab.canonFrom, hv, hlo a rfl]
  | cons p t ih =>
    obtain ⟨j, w⟩ := p
    unfold Tab.insert
    split
    · next hj =>
      subst hj
      cases lo <;>
      · simp only [Tab.canonFrom, Bool.and_eq_true, decide_eq_true_eq] at h ⊢
        simp_all
    · split
      · next hk =>
        cases lo with
        | none =>
          simp only [Tab.canonFrom, Bool.and_eq_true, decide_eq_true_eq] at h ⊢
          exact ⟨hv, ⟨hk, h.1⟩, h.2⟩
        | some a =>
          simp only [Tab.canonFrom, Bool.and_eq_true, decide_eq_true_eq] at h ⊢
          exact ⟨⟨hlo a rfl, hv⟩, ⟨hk, h.1.2⟩, h.2⟩
      · next hj hk =>
        have hjk : ∀ a, some j = some a → a < k := fun a e => by injection e with e; omega
        cases lo <;>
        · simp only [Tab.canonFrom, Bool.and_eq_true, decide_eq_true_eq] at h ⊢
          exact ⟨h.1, ih hjk h.2⟩

/-- A write keeps the canonical form. -/
theorem Tab.canon_set (d : α) {t : Tab α} (k : Nat) (v : α) (h : Tab.canon d t = true) : Tab.canon d (Tab.set d t k v) = true := by
  unfold Tab.canon Tab.set at *
  split
  · exact Tab.canonFrom_erase d h
  · next hv => exact Tab.canonFrom_insert d hv (fun a e => by cases e) h

theorem Tab.canon_modify (d : α) {t : Tab α} (k : Nat) (f : α → α) (h : Tab.canon d t = true) : Tab.canon d (Tab.modify d t k f) = true :=
  Tab.canon_set d k _ h

theorem Tab.canon_modifyAll (d : α) {t : Tab α} (ks : List Nat) (f : Nat → α → α) (h : Tab.canon d t = true) :
    Tab.canon d (Tab.modifyAll d t ks f) = true := by
  unfold Tab.modifyAll
  induction ks generalizing t with
  | nil => exact h
  | cons k ks ih => exact ih (Tab.canon_modify d k (f k) h)

theorem Tab.get_modify (d : α) (t : Tab α) (k m : Nat) (f : α → α) :
    Tab.get d (Tab.modify d t k f) m = if m = k then f (Tab.get d t k) else Tab.get d t m := by
  simp [Tab.modify, Tab.get_set]

theorem Tab.get_modifyAll_other (d : α) (t : Tab α) (ks : List Nat) (f : Nat → α → α) {m : Nat} (h : m ∉ ks) :
    Tab.get d (Tab.modifyAll d t ks f) m = Tab.get d t m := by
  unfold Tab.modifyAll
  induction ks generalizing t with
  | nil => rfl
  | cons k ks ih =>
    simp only [List.mem_cons, not_or] at h
    rw [List.foldl_cons, ih _ h.2, Tab.get_modify, if_neg h.1]

theorem Tab.get_modifyAll (d : α) (t : Tab α) (ks : List Nat) (f : Nat → α → α) {m : Nat} (h : m ∈ ks) (hn : ks.Nodup) :
    Tab.get d (Tab.modifyAll d t ks f) m = f m (Tab.get d t m) := by
  unfold Tab.modifyAll
  induction ks generalizing t with
  | nil => cases h
  | cons k ks ih =>
    rw [List.nodup_cons] at hn
    rw [List.foldl_cons]
    rcases List.mem_cons.mp h with rfl | hm
    · have := Tab.get_modifyAll_other d (Tab.modify d t m (f m)) ks f hn.1
      unfold Tab.modifyAll at this
      rw [this, Tab.get_modify, if_pos rfl]
    · rw [ih _ hm hn.2, Tab.get_modify, if_neg (fun e => hn.1 (by rw [← e]; exact hm))]

end Sys2Proof
end

