-- ==== Sys2Proof/Laws/State.lean ====
section
/-! SUPPORT. Small laws of the state: what the shared operations change and what they keep. -/

namespace Sys2Proof.Machine

open Sys2Proof

/-! The queue. -/

@[simp] theorem State.withPending_pending (s : State) (l : List Instr) : (s.withPending l).pending = l := rfl

@[simp] theorem State.withPending_beat (s : State) (l : List Instr) : (s.withPending l).beat = s.beat := rfl
@[simp] theorem State.withPending_sch (s : State) (l : List Instr) : (s.withPending l).sch = s.sch := rfl
@[simp] theorem State.withPending_img (s : State) (l : List Instr) : (s.withPending l).img = s.img := rfl
@[simp] theorem State.withPending_tim (s : State) (l : List Instr) : (s.withPending l).tim = s.tim := rfl
@[simp] theorem State.withPending_cnd (s : State) (l : List Instr) : (s.withPending l).cnd = s.cnd := rfl
@[simp] theorem State.withPending_gns (s : State) (l : List Instr) : (s.withPending l).gns = s.gns := rfl
@[simp] theorem State.withPending_hwk (s : State) (l : List Instr) : (s.withPending l).hwk = s.hwk := rfl
@[simp] theorem State.withPending_est (s : State) (l : List Instr) : (s.withPending l).est = s.est := rfl
@[simp] theorem State.withPending_lun (s : State) (l : List Instr) : (s.withPending l).lun = s.lun := rfl
@[simp] theorem State.withPending_alc (s : State) (l : List Instr) : (s.withPending l).alc = s.alc := rfl
@[simp] theorem State.withPending_ctl (s : State) (l : List Instr) : (s.withPending l).ctl = s.ctl := rfl
@[simp] theorem State.withPending_out (s : State) (l : List Instr) : (s.withPending l).out = s.out := rfl
@[simp] theorem State.withPending_fbu (s : State) (l : List Instr) : (s.withPending l).fbu = s.fbu := rfl
@[simp] theorem State.withPending_hst (s : State) (l : List Instr) : (s.withPending l).hst = s.hst := rfl
@[simp] theorem State.withPending_pai (s : State) (l : List Instr) : (s.withPending l).pai = s.pai := rfl
@[simp] theorem State.withPending_saf (s : State) (l : List Instr) : (s.withPending l).saf = s.saf := rfl
@[simp] theorem State.withPending_rcd (s : State) (l : List Instr) : (s.withPending l).rcd = s.rcd := rfl
@[simp] theorem State.withPending_pwr (s : State) (l : List Instr) : (s.withPending l).pwr = s.pwr := rfl
@[simp] theorem State.withPending_svc (s : State) (l : List Instr) : (s.withPending l).svc = s.svc := rfl
@[simp] theorem State.withPending_pub (s : State) (l : List Instr) : (s.withPending l).pub = s.pub := rfl
@[simp] theorem State.withPending_freeCtr (s : State) (l : List Instr) : (s.withPending l).freeCtr = s.freeCtr := rfl

/-! Raising events changes the recorder and the event counters alone. -/

@[simp] theorem State.raiseOne_beat (s : State) (e : Ev) : (s.raiseOne e).beat = s.beat := rfl
@[simp] theorem State.raiseOne_sch (s : State) (e : Ev) : (s.raiseOne e).sch = s.sch := rfl
@[simp] theorem State.raiseOne_img (s : State) (e : Ev) : (s.raiseOne e).img = s.img := rfl
@[simp] theorem State.raiseOne_tim (s : State) (e : Ev) : (s.raiseOne e).tim = s.tim := rfl
@[simp] theorem State.raiseOne_cnd (s : State) (e : Ev) : (s.raiseOne e).cnd = s.cnd := rfl
@[simp] theorem State.raiseOne_gns (s : State) (e : Ev) : (s.raiseOne e).gns = s.gns := rfl
@[simp] theorem State.raiseOne_hwk (s : State) (e : Ev) : (s.raiseOne e).hwk = s.hwk := rfl
@[simp] theorem State.raiseOne_est (s : State) (e : Ev) : (s.raiseOne e).est = s.est := rfl
@[simp] theorem State.raiseOne_lun (s : State) (e : Ev) : (s.raiseOne e).lun = s.lun := rfl
@[simp] theorem State.raiseOne_alc (s : State) (e : Ev) : (s.raiseOne e).alc = s.alc := rfl
@[simp] theorem State.raiseOne_ctl (s : State) (e : Ev) : (s.raiseOne e).ctl = s.ctl := rfl
@[simp] theorem State.raiseOne_out (s : State) (e : Ev) : (s.raiseOne e).out = s.out := rfl
@[simp] theorem State.raiseOne_fbu (s : State) (e : Ev) : (s.raiseOne e).fbu = s.fbu := rfl
@[simp] theorem State.raiseOne_hst (s : State) (e : Ev) : (s.raiseOne e).hst = s.hst := rfl
@[simp] theorem State.raiseOne_pai (s : State) (e : Ev) : (s.raiseOne e).pai = s.pai := rfl
@[simp] theorem State.raiseOne_saf (s : State) (e : Ev) : (s.raiseOne e).saf = s.saf := rfl
@[simp] theorem State.raiseOne_pwr (s : State) (e : Ev) : (s.raiseOne e).pwr = s.pwr := rfl
@[simp] theorem State.raiseOne_pub (s : State) (e : Ev) : (s.raiseOne e).pub = s.pub := rfl
@[simp] theorem State.raiseOne_freeCtr (s : State) (e : Ev) : (s.raiseOne e).freeCtr = s.freeCtr := rfl
@[simp] theorem State.raiseOne_pending (s : State) (e : Ev) : (s.raiseOne e).pending = s.pending := rfl

@[simp] theorem State.raise_nil (s : State) : s.raise [] = s := rfl
@[simp] theorem State.raise_cons (s : State) (e : Ev) (l : List Ev) : s.raise (e :: l) = (s.raiseOne e).raise l := rfl
theorem State.raise_append (s : State) (a b : List Ev) : s.raise (a ++ b) = (s.raise a).raise b := by simp [State.raise, List.foldl_append]

/-- Raising events is a change of the recorder and of the fabric's counters. -/
theorem State.raise_frame (s : State) (l : List Ev) : ∃ r v, s.raise l = { s with rcd := r, svc := v } := by
  induction l generalizing s with
  | nil => exact ⟨s.rcd, s.svc, rfl⟩
  | cons e l ih =>
    obtain ⟨r, v, h⟩ := ih (s.raiseOne e)
    exact ⟨r, v, h⟩

@[simp] theorem State.raise_beat (s : State) (l : List Ev) : (s.raise l).beat = s.beat := by obtain ⟨r, v, h⟩ := s.raise_frame l; rw [h]
@[simp] theorem State.raise_sch (s : State) (l : List Ev) : (s.raise l).sch = s.sch := by obtain ⟨r, v, h⟩ := s.raise_frame l; rw [h]
@[simp] theorem State.raise_img (s : State) (l : List Ev) : (s.raise l).img = s.img := by obtain ⟨r, v, h⟩ := s.raise_frame l; rw [h]
@[simp] theorem State.raise_tim (s : State) (l : List Ev) : (s.raise l).tim = s.tim := by obtain ⟨r, v, h⟩ := s.raise_frame l; rw [h]
@[simp] theorem State.raise_cnd (s : State) (l : List Ev) : (s.raise l).cnd = s.cnd := by obtain ⟨r, v, h⟩ := s.raise_frame l; rw [h]
@[simp] theorem State.raise_gns (s : State) (l : List Ev) : (s.raise l).gns = s.gns := by obtain ⟨r, v, h⟩ := s.raise_frame l; rw [h]
@[simp] theorem State.raise_hwk (s : State) (l : List Ev) : (s.raise l).hwk = s.hwk := by obtain ⟨r, v, h⟩ := s.raise_frame l; rw [h]
@[simp] theorem State.raise_est (s : State) (l : List Ev) : (s.raise l).est = s.est := by obtain ⟨r, v, h⟩ := s.raise_frame l; rw [h]
@[simp] theorem State.raise_lun (s : State) (l : List Ev) : (s.raise l).lun = s.lun := by obtain ⟨r, v, h⟩ := s.raise_frame l; rw [h]
@[simp] theorem State.raise_alc (s : State) (l : List Ev) : (s.raise l).alc = s.alc := by obtain ⟨r, v, h⟩ := s.raise_frame l; rw [h]
@[simp] theorem State.raise_ctl (s : State) (l : List Ev) : (s.raise l).ctl = s.ctl := by obtain ⟨r, v, h⟩ := s.raise_frame l; rw [h]
@[simp] theorem State.raise_out (s : State) (l : List Ev) : (s.raise l).out = s.out := by obtain ⟨r, v, h⟩ := s.raise_frame l; rw [h]
@[simp] theorem State.raise_fbu (s : State) (l : List Ev) : (s.raise l).fbu = s.fbu := by obtain ⟨r, v, h⟩ := s.raise_frame l; rw [h]
@[simp] theorem State.raise_hst (s : State) (l : List Ev) : (s.raise l).hst = s.hst := by obtain ⟨r, v, h⟩ := s.raise_frame l; rw [h]
@[simp] theorem State.raise_pai (s : State) (l : List Ev) : (s.raise l).pai = s.pai := by obtain ⟨r, v, h⟩ := s.raise_frame l; rw [h]
@[simp] theorem State.raise_saf (s : State) (l : List Ev) : (s.raise l).saf = s.saf := by obtain ⟨r, v, h⟩ := s.raise_frame l; rw [h]
@[simp] theorem State.raise_pwr (s : State) (l : List Ev) : (s.raise l).pwr = s.pwr := by obtain ⟨r, v, h⟩ := s.raise_frame l; rw [h]
@[simp] theorem State.raise_pub (s : State) (l : List Ev) : (s.raise l).pub = s.pub := by obtain ⟨r, v, h⟩ := s.raise_frame l; rw [h]
@[simp] theorem State.raise_freeCtr (s : State) (l : List Ev) : (s.raise l).freeCtr = s.freeCtr := by obtain ⟨r, v, h⟩ := s.raise_frame l; rw [h]
@[simp] theorem State.raise_pending (s : State) (l : List Ev) : (s.raise l).pending = s.pending := by obtain ⟨r, v, h⟩ := s.raise_frame l; rw [h]

/-! Items of the next capture set. -/

@[simp] theorem State.offer_sch (s : State) (i : Item) (q : Nat) : (s.offer i q).sch = s.sch := rfl
@[simp] theorem State.offer_img (s : State) (i : Item) (q : Nat) : (s.offer i q).img = s.img := rfl
@[simp] theorem State.offer_tim (s : State) (i : Item) (q : Nat) : (s.offer i q).tim = s.tim := rfl
@[simp] theorem State.offer_cnd (s : State) (i : Item) (q : Nat) : (s.offer i q).cnd = s.cnd := rfl
@[simp] theorem State.offer_gns (s : State) (i : Item) (q : Nat) : (s.offer i q).gns = s.gns := rfl
@[simp] theorem State.offer_hwk (s : State) (i : Item) (q : Nat) : (s.offer i q).hwk = s.hwk := rfl
@[simp] theorem State.offer_est (s : State) (i : Item) (q : Nat) : (s.offer i q).est = s.est := rfl
@[simp] theorem State.offer_lun (s : State) (i : Item) (q : Nat) : (s.offer i q).lun = s.lun := rfl
@[simp] theorem State.offer_alc (s : State) (i : Item) (q : Nat) : (s.offer i q).alc = s.alc := rfl
@[simp] theorem State.offer_ctl (s : State) (i : Item) (q : Nat) : (s.offer i q).ctl = s.ctl := rfl
@[simp] theorem State.offer_out (s : State) (i : Item) (q : Nat) : (s.offer i q).out = s.out := rfl
@[simp] theorem State.offer_fbu (s : State) (i : Item) (q : Nat) : (s.offer i q).fbu = s.fbu := rfl
@[simp] theorem State.offer_hst (s : State) (i : Item) (q : Nat) : (s.offer i q).hst = s.hst := rfl
@[simp] theorem State.offer_pai (s : State) (i : Item) (q : Nat) : (s.offer i q).pai = s.pai := rfl
@[simp] theorem State.offer_saf (s : State) (i : Item) (q : Nat) : (s.offer i q).saf = s.saf := rfl
@[simp] theorem State.offer_rcd (s : State) (i : Item) (q : Nat) : (s.offer i q).rcd = s.rcd := rfl
@[simp] theorem State.offer_pwr (s : State) (i : Item) (q : Nat) : (s.offer i q).pwr = s.pwr := rfl
@[simp] theorem State.offer_svc (s : State) (i : Item) (q : Nat) : (s.offer i q).svc = s.svc := rfl
@[simp] theorem State.offer_pub (s : State) (i : Item) (q : Nat) : (s.offer i q).pub = s.pub := rfl
@[simp] theorem State.offer_freeCtr (s : State) (i : Item) (q : Nat) : (s.offer i q).freeCtr = s.freeCtr := rfl
@[simp] theorem State.offer_pending (s : State) (i : Item) (q : Nat) : (s.offer i q).pending = s.pending := rfl

/-! Answers. -/

@[simp] theorem State.reply_beat (s : State) (h : HostRef) (op st : Half) (d : Word) (p : List Word) : (s.reply h op st d p).beat = s.beat := rfl
@[simp] theorem State.reply_sch (s : State) (h : HostRef) (op st : Half) (d : Word) (p : List Word) : (s.reply h op st d p).sch = s.sch := rfl
@[simp] theorem State.reply_img (s : State) (h : HostRef) (op st : Half) (d : Word) (p : List Word) : (s.reply h op st d p).img = s.img := rfl
@[simp] theorem State.reply_tim (s : State) (h : HostRef) (op st : Half) (d : Word) (p : List Word) : (s.reply h op st d p).tim = s.tim := rfl
@[simp] theorem State.reply_cnd (s : State) (h : HostRef) (op st : Half) (d : Word) (p : List Word) : (s.reply h op st d p).cnd = s.cnd := rfl
@[simp] theorem State.reply_gns (s : State) (h : HostRef) (op st : Half) (d : Word) (p : List Word) : (s.reply h op st d p).gns = s.gns := rfl
@[simp] theorem State.reply_hwk (s : State) (h : HostRef) (op st : Half) (d : Word) (p : List Word) : (s.reply h op st d p).hwk = s.hwk := rfl
@[simp] theorem State.reply_est (s : State) (h : HostRef) (op st : Half) (d : Word) (p : List Word) : (s.reply h op st d p).est = s.est := rfl
@[simp] theorem State.reply_lun (s : State) (h : HostRef) (op st : Half) (d : Word) (p : List Word) : (s.reply h op st d p).lun = s.lun := rfl
@[simp] theorem State.reply_alc (s : State) (h : HostRef) (op st : Half) (d : Word) (p : List Word) : (s.reply h op st d p).alc = s.alc := rfl
@[simp] theorem State.reply_ctl (s : State) (h : HostRef) (op st : Half) (d : Word) (p : List Word) : (s.reply h op st d p).ctl = s.ctl := rfl
@[simp] theorem State.reply_out (s : State) (h : HostRef) (op st : Half) (d : Word) (p : List Word) : (s.reply h op st d p).out = s.out := rfl
@[simp] theorem State.reply_fbu (s : State) (h : HostRef) (op st : Half) (d : Word) (p : List Word) : (s.reply h op st d p).fbu = s.fbu := rfl
@[simp] theorem State.reply_pai (s : State) (h : HostRef) (op st : Half) (d : Word) (p : List Word) : (s.reply h op st d p).pai = s.pai := rfl
@[simp] theorem State.reply_saf (s : State) (h : HostRef) (op st : Half) (d : Word) (p : List Word) : (s.reply h op st d p).saf = s.saf := rfl
@[simp] theorem State.reply_rcd (s : State) (h : HostRef) (op st : Half) (d : Word) (p : List Word) : (s.reply h op st d p).rcd = s.rcd := rfl
@[simp] theorem State.reply_pwr (s : State) (h : HostRef) (op st : Half) (d : Word) (p : List Word) : (s.reply h op st d p).pwr = s.pwr := rfl
@[simp] theorem State.reply_svc (s : State) (h : HostRef) (op st : Half) (d : Word) (p : List Word) : (s.reply h op st d p).svc = s.svc := rfl
@[simp] theorem State.reply_pub (s : State) (h : HostRef) (op st : Half) (d : Word) (p : List Word) : (s.reply h op st d p).pub = s.pub := rfl
@[simp] theorem State.reply_freeCtr (s : State) (h : HostRef) (op st : Half) (d : Word) (p : List Word) : (s.reply h op st d p).freeCtr = s.freeCtr := rfl
@[simp] theorem State.reply_pending (s : State) (h : HostRef) (op st : Half) (d : Word) (p : List Word) : (s.reply h op st d p).pending = s.pending := rfl

end Sys2Proof.Machine
end

