-- ==== Sys2Proof/Laws/Access.lean ====
section
/-! SUPPORT. Reading back what the blocks' accessors write: one law for the entry written and one for every other entry. -/

namespace Sys2Proof.Machine

open Sys2Proof

@[simp] theorem AlcSt.dev_setDev (a : AlcSt) (k : Nat) (x : AlcDev) : (a.setDev k x).dev k = x := by simp [AlcSt.dev, AlcSt.setDev]
theorem AlcSt.dev_setDev_other (a : AlcSt) {j k : Nat} (x : AlcDev) (h : j ≠ k) : (a.setDev k x).dev j = a.dev j := by
  simp [AlcSt.dev, AlcSt.setDev, Tab.get_set_other _ _ _ h]

@[simp] theorem CtlSt.slot_setSlot (c : CtlSt) (k : Nat) (x : SlotSt) : (c.setSlot k x).slot k = x := by simp [CtlSt.slot, CtlSt.setSlot]
theorem CtlSt.slot_setSlot_other (c : CtlSt) {j k : Nat} (x : SlotSt) (h : j ≠ k) : (c.setSlot k x).slot j = c.slot j := by
  simp [CtlSt.slot, CtlSt.setSlot, Tab.get_set_other _ _ _ h]

@[simp] theorem EstSt.ref_setRef (e : EstSt) (k : Nat) (x : RefSt) : (e.setRef k x).ref k = x := by simp [EstSt.ref, EstSt.setRef]
theorem EstSt.ref_setRef_other (e : EstSt) {j k : Nat} (x : RefSt) (h : j ≠ k) : (e.setRef k x).ref j = e.ref j := by
  simp [EstSt.ref, EstSt.setRef, Tab.get_set_other _ _ _ h]

@[simp] theorem SvcSt.counter_setCounter (v : SvcSt) (k : Nat) (x : Counter) : (v.setCounter k x).counter k = x := by simp [SvcSt.counter, SvcSt.setCounter]
theorem SvcSt.counter_setCounter_other (v : SvcSt) {j k : Nat} (x : Counter) (h : j ≠ k) : (v.setCounter k x).counter j = v.counter j := by
  simp [SvcSt.counter, SvcSt.setCounter, Tab.get_set_other _ _ _ h]

@[simp] theorem FbuSt.chan_setChan (f : FbuSt) (k : Nat) (x : ChanSt) : (f.setChan k x).chan k = x := by simp [FbuSt.chan, FbuSt.setChan]
theorem FbuSt.chan_setChan_other (f : FbuSt) {j k : Nat} (x : ChanSt) (h : j ≠ k) : (f.setChan k x).chan j = f.chan j := by
  simp [FbuSt.chan, FbuSt.setChan, Tab.get_set_other _ _ _ h]

@[simp] theorem FbuSt.node_setNode (f : FbuSt) (k : Nat) (x : NodeSt) : (f.setNode k x).node k = x := by simp [FbuSt.node, FbuSt.setNode]
theorem FbuSt.node_setNode_other (f : FbuSt) {j k : Nat} (x : NodeSt) (h : j ≠ k) : (f.setNode k x).node j = f.node j := by
  simp [FbuSt.node, FbuSt.setNode, Tab.get_set_other _ _ _ h]

@[simp] theorem FbuSt.ring_setRing (f : FbuSt) (k : Nat) (x : RingSt) : (f.setRing k x).ring k = x := by simp [FbuSt.ring, FbuSt.setRing]
theorem FbuSt.ring_setRing_other (f : FbuSt) {j k : Nat} (x : RingSt) (h : j ≠ k) : (f.setRing k x).ring j = f.ring j := by
  simp [FbuSt.ring, FbuSt.setRing, Tab.get_set_other _ _ _ h]

@[simp] theorem GnsSt.ch_setCh (g : GnsSt) (k : Nat) (x : GnsCh) : (g.setCh k x).ch k = x := by simp [GnsSt.ch, GnsSt.setCh]
theorem GnsSt.ch_setCh_other (g : GnsSt) {j k : Nat} (x : GnsCh) (h : j ≠ k) : (g.setCh k x).ch j = g.ch j := by
  simp [GnsSt.ch, GnsSt.setCh, Tab.get_set_other _ _ _ h]

@[simp] theorem GnsSt.strm_setStrm (g : GnsSt) (k : Nat) (x : GnsStream) : (g.setStrm k x).strm k = x := by simp [GnsSt.strm, GnsSt.setStrm]
theorem GnsSt.strm_setStrm_other (g : GnsSt) {j k : Nat} (x : GnsStream) (h : j ≠ k) : (g.setStrm k x).strm j = g.strm j := by
  simp [GnsSt.strm, GnsSt.setStrm, Tab.get_set_other _ _ _ h]

@[simp] theorem CndSt.ch_setCh (d : CndSt) (k : Nat) (x : CndCh) : (d.setCh k x).ch k = x := by simp [CndSt.ch, CndSt.setCh]
theorem CndSt.ch_setCh_other (d : CndSt) {j k : Nat} (x : CndCh) (h : j ≠ k) : (d.setCh k x).ch j = d.ch j := by
  simp [CndSt.ch, CndSt.setCh, Tab.get_set_other _ _ _ h]

@[simp] theorem HstSt.sess_setSess (h : HstSt) (k : Nat) (x : SessionSt) : (h.setSess k x).sess k = x := by simp [HstSt.sess, HstSt.setSess]
theorem HstSt.sess_setSess_other (g : HstSt) {j k : Nat} (x : SessionSt) (h : j ≠ k) : (g.setSess k x).sess j = g.sess j := by
  simp [HstSt.sess, HstSt.setSess, Tab.get_set_other _ _ _ h]

@[simp] theorem LunSt.src_setSrc (l : LunSt) (k : Nat) (x : LunSrc) : (l.setSrc k x).src k = x := by simp [LunSt.src, LunSt.setSrc]
theorem LunSt.src_setSrc_other (l : LunSt) {j k : Nat} (x : LunSrc) (h : j ≠ k) : (l.setSrc k x).src j = l.src j := by
  simp [LunSt.src, LunSt.setSrc, Tab.get_set_other _ _ _ h]

@[simp] theorem OutBlk.out_setOut (o : OutBlk) (k : Nat) (x : OutSt) : (o.setOut k x).out k = x := by simp [OutBlk.out, OutBlk.setOut]
theorem OutBlk.out_setOut_other (o : OutBlk) {j k : Nat} (x : OutSt) (h : j ≠ k) : (o.setOut k x).out j = o.out j := by
  simp [OutBlk.out, OutBlk.setOut, Tab.get_set_other _ _ _ h]

@[simp] theorem PwrSt.dom_setDom (p : PwrSt) (k : Nat) (x : DomSt) : (p.setDom k x).dom k = x := by simp [PwrSt.dom, PwrSt.setDom]
theorem PwrSt.dom_setDom_other (p : PwrSt) {j k : Nat} (x : DomSt) (h : j ≠ k) : (p.setDom k x).dom j = p.dom j := by
  simp [PwrSt.dom, PwrSt.setDom, Tab.get_set_other _ _ _ h]

@[simp] theorem SchSt.eng_setEng (v : SchSt) (k : Nat) (x : EngineSt) : (v.setEng k x).eng k = x := by simp [SchSt.eng, SchSt.setEng]
theorem SchSt.eng_setEng_other (v : SchSt) {j k : Nat} (x : EngineSt) (h : j ≠ k) : (v.setEng k x).eng j = v.eng j := by
  simp [SchSt.eng, SchSt.setEng, Tab.get_set_other _ _ _ h]

@[simp] theorem SchSt.active_setInactive (v : SchSt) (b : Bank) : (v.setInactive b).active = v.active := by
  unfold SchSt.setInactive SchSt.active SchSt.setBank SchSt.bank
  cases v.active1 <;> rfl
@[simp] theorem SchSt.inactive_setInactive (v : SchSt) (b : Bank) : (v.setInactive b).inactive = b := by
  unfold SchSt.setInactive SchSt.inactive SchSt.setBank SchSt.bank
  cases v.active1 <;> simp

/-- Engines other than the operation's are as they were (R59). -/
theorem SchSt.advance_other (v : SchSt) (op : OpRun) {e : Nat} (h : e ≠ op.engine.toNat) : (v.advance op).eng e = v.eng e :=
  SchSt.eng_setEng_other v _ h

end Sys2Proof.Machine
end

