-- ==== Sys2Proof/Laws/Island.lean ====
section
/-! SUPPORT. The safety island: what the rest of the machine leaves alone (16_safety_functions.md R457). -/

namespace Sys2Proof.Machine

open Sys2Proof

/-- A fold of steps that each keep the field keeps it. -/
theorem foldl_keep_saf {β : Type} (l : List β) (f : State → β → State) (s : State) (h : ∀ a x, (f a x).saf = a.saf) :
    (l.foldl f s).saf = s.saf := by
  induction l generalizing s with
  | nil => rfl
  | cons x l ih => rw [List.foldl_cons, ih, h]

theorem foldl_keep1_saf {β γ : Type} (l : List β) (f : State × γ → β → State × γ) (s : State × γ) (h : ∀ a x, (f a x).1.saf = a.1.saf) :
    (l.foldl f s).1.saf = s.1.saf := by
  induction l generalizing s with
  | nil => rfl
  | cons x l ih => rw [List.foldl_cons, ih, h]

@[simp] theorem State.fresh_saf (s : State) : (State.fresh s).2.saf = s.saf := rfl

@[simp] theorem State.localCmd_saf (s : State) (ref : HostRef) (least : Nat) (f : State → State) (h_f : ∀ x0, (f x0).saf = x0.saf) : (State.localCmd s ref least f).saf = s.saf := by
  unfold State.localCmd
  repeat' (first | with_reducible rfl | (simp; done) | (simp_all; done) | (apply foldl_keep_saf; intros) | split | dsimp only)

@[simp] theorem State.unionCmd_saf (s : State) (ref : HostRef) (op : Half) (f : State → State × Half × Word) (h_f : ∀ x0, (f x0).1.saf = x0.saf) : (State.unionCmd s ref op f).saf = s.saf := by
  unfold State.unionCmd
  repeat' (first | with_reducible rfl | (simp; done) | (simp_all; done) | (apply foldl_keep_saf; intros) | split | dsimp only)

@[simp] theorem State.measure_saf (s : State) (src : TimeSource) (theta : Int) (atOnce : Bool) : (State.measure s src theta atOnce).saf = s.saf := by
  unfold State.measure
  repeat' (first | with_reducible rfl | (simp; done) | (simp_all; done) | (apply foldl_keep_saf; intros) | split | dsimp only)

@[simp] theorem State.disqualify_saf (s : State) (src : TimeSource) (present : Bool) : (State.disqualify s src present).saf = s.saf := by
  unfold State.disqualify
  repeat' (first | with_reducible rfl | (simp; done) | (simp_all; done) | (apply foldl_keep_saf; intros) | split | dsimp only)

@[simp] theorem State.engineOp_saf (s : State) (op : OpRun) (f : State → State) (h_f : ∀ x0, (f x0).saf = x0.saf) : (State.engineOp s op f).saf = s.saf := by
  unfold State.engineOp
  repeat' (first | with_reducible rfl | (simp; done) | (simp_all; done) | (apply foldl_keep_saf; intros) | split | dsimp only)

@[simp] theorem State.setPairDom_saf (s : State) (d : PairDom) : (State.setPairDom s d).saf = s.saf := rfl

@[simp] theorem State.setSel_saf (s : State) (who : Who) (block : Nat) (w : Word) : (State.setSel s who block w).saf = s.saf := rfl

@[simp] theorem State.unmapped_saf (s : State) (who : Who) (addr : Word) (write : Bool) : (State.unmapped s who addr write).saf = s.saf := rfl

@[simp] theorem State.holdPair_saf (s : State) (who : Who) (addr : Word) : (State.holdPair s who addr).saf = s.saf := rfl

@[simp] theorem State.dropPair_saf (s : State) (who : Who) (addr : Word) : (State.dropPair s who addr).saf = s.saf := rfl

@[simp] theorem State.lockRead_saf (s : State) (who : Who) (addr : Word) : (State.lockRead s who addr).1.saf = s.saf := by
  unfold State.lockRead
  repeat' (first | with_reducible rfl | (simp; done) | (simp_all; done) | (apply foldl_keep_saf; intros) | split | dsimp only)

@[simp] theorem State.readReg_saf (s0 : State) (who : Who) (addr : Word) : (State.readReg s0 who addr).1.saf = s0.saf := by
  unfold State.readReg
  repeat' (first | with_reducible rfl | (simp; done) | (simp_all; done) | (apply foldl_keep_saf; intros) | split | dsimp only)

@[simp] theorem State.navStore_saf (s : State) (slot : Nat) : (State.navStore s slot).saf = s.saf := by
  unfold State.navStore
  split
  · rfl
  · extract_lets code sideB ant all n own r first vis w r2 had offers _ e s1
    have h1 : s1.saf = s.saf := by simp only [s1, State.raise_saf]
    clear_value s1
    repeat' (first | rfl | exact h1 | (simp [h1]; done) | split | extract_lets)

@[simp] theorem State.classSamples_saf (s : State) (cls : RefClass) : (State.classSamples s cls).saf = s.saf := by
  unfold State.classSamples
  repeat' (first | with_reducible rfl | (simp; done) | (simp_all; done) | (apply foldl_keep_saf; intros) | split | dsimp only)

@[simp] theorem State.classGroup_saf (s : State) (cls : RefClass) : (State.classGroup s cls).saf = s.saf := by
  unfold State.classGroup
  repeat' (first | with_reducible rfl | (simp; done) | (simp_all; done) | (apply foldl_keep_saf; intros) | split | dsimp only)

@[simp] theorem State.followTarget_saf (s : State) : (State.followTarget s).saf = s.saf := by
  unfold State.followTarget
  repeat' (first | with_reducible rfl | (simp; done) | (simp_all; done) | (apply foldl_keep_saf; intros) | split | dsimp only)

@[simp] theorem State.referenceTests_saf (s : State) : (State.referenceTests s).saf = s.saf := by
  unfold State.referenceTests
  repeat' (first | with_reducible rfl | (simp; done) | (simp_all; done) | (apply foldl_keep_saf; intros) | split | dsimp only)

@[simp] theorem State.estimateUpdate_saf (s : State) (f : ProbFlags) (w : List Int) : (State.estimateUpdate s f w).saf = s.saf := by
  unfold State.estimateUpdate
  repeat' (first | with_reducible rfl | (simp; done) | (simp_all; done) | (apply foldl_keep_saf; intros) | split | dsimp only)

@[simp] theorem State.covarianceUpdate_saf (s : State) (f : ProbFlags) (res : List Int) : (State.covarianceUpdate s f res).saf = s.saf := by
  unfold State.covarianceUpdate
  repeat' (first | with_reducible rfl | (simp; done) | (simp_all; done) | (apply foldl_keep_saf; intros) | split | dsimp only)

@[simp] theorem State.stageOutputs_saf (s : State) : (State.stageOutputs s).saf = s.saf := rfl

@[simp] theorem State.sendSignature_saf (s : State) (r : PubRec) : (State.sendSignature s r).saf = s.saf := rfl

@[simp] theorem applied_saf (s : State) : (applied s).1.saf = s.saf := rfl

@[simp] theorem refusedCmd_saf (s : State) : (refusedCmd s).1.saf = s.saf := rfl

@[simp] theorem State.countRegion_saf (s : State) (n : Nat) : (State.countRegion s n).saf = s.saf := rfl

@[simp] theorem State.countSetpoint_saf (s : State) : (State.countSetpoint s).saf = s.saf := rfl

@[simp] theorem State.countGain_saf (s : State) (n : Nat) : (State.countGain s n).saf = s.saf := rfl

@[simp] theorem State.estCtrl_saf (s : State) (k : Nat) (w : Word) : (State.estCtrl s k w).saf = s.saf := rfl

@[simp] theorem State.bind_saf (s : State) (k : Nat) (track : BitVec 12) (gen : Half) (slot : BitVec 4) : (State.bind s k track gen slot).1.saf = s.saf := by
  unfold State.bind
  repeat' (first | with_reducible rfl | (simp; done) | (simp_all; done) | (apply foldl_keep_saf; intros) | split | dsimp only)

@[simp] theorem State.unbind_saf (s : State) (k : Nat) : (State.unbind s k).1.saf = s.saf := rfl

@[simp] theorem State.setTargetSlot_saf (s : State) (k : Nat) (slot : BitVec 4) : (State.setTargetSlot s k slot).saf = s.saf := rfl

@[simp] theorem State.calCommand_saf (s : State) (sensors : Byte) (c : CalCmd) : (State.calCommand s sensors c).1.saf = s.saf := by
  unfold State.calCommand
  repeat' (first | with_reducible rfl | (simp; done) | (simp_all; done) | (apply foldl_keep_saf; intros) | split | dsimp only)

@[simp] theorem State.refuseDevice_saf (s : State) : (State.refuseDevice s).1.saf = s.saf := rfl

@[simp] theorem State.deviceOut_saf (s : State) (k : Nat) : (State.deviceOut s k).1.saf = s.saf := by
  unfold State.deviceOut
  repeat' (first | with_reducible rfl | (simp; done) | (simp_all; done) | (apply foldl_keep_saf; intros) | split | dsimp only)

@[simp] theorem State.deviceIn_saf (s : State) (k : Nat) : (State.deviceIn s k).1.saf = s.saf := by
  unfold State.deviceIn
  repeat' (first | with_reducible rfl | (simp; done) | (simp_all; done) | (apply foldl_keep_saf; intros) | split | dsimp only)

@[simp] theorem State.deviceUnlock_saf (s : State) (k : Nat) : (State.deviceUnlock s k).1.saf = s.saf := by
  unfold State.deviceUnlock
  repeat' (first | with_reducible rfl | (simp; done) | (simp_all; done) | (apply foldl_keep_saf; intros) | split | dsimp only)

@[simp] theorem State.deviceCtrl_saf (s : State) (k : Nat) (w : Word) : (State.deviceCtrl s k w).1.saf = s.saf := by
  unfold State.deviceCtrl
  repeat' (first | with_reducible rfl | (simp; done) | (simp_all; done) | (apply foldl_keep_saf; intros) | split | dsimp only)

@[simp] theorem State.sectorWrite_saf (s : State) (k : Nat) (mask : BitVec 4) : (State.sectorWrite s k mask).1.saf = s.saf := by
  unfold State.sectorWrite
  repeat' (first | with_reducible rfl | (simp; done) | (simp_all; done) | (apply foldl_keep_saf; intros) | split | dsimp only)

@[simp] theorem State.overrideWrite_saf (s : State) (variant : BitVec 12) (enable : Bool) : (State.overrideWrite s variant enable).1.saf = s.saf := by
  unfold State.overrideWrite
  repeat' (first | with_reducible rfl | (simp; done) | (simp_all; done) | (apply foldl_keep_saf; intros) | split | dsimp only)

@[simp] theorem State.modeRequest_saf (s : State) (mode : Nat) (session : Word) : (State.modeRequest s mode session).1.saf = s.saf := by
  unfold State.modeRequest
  repeat' (first | with_reducible rfl | (simp; done) | (simp_all; done) | (apply foldl_keep_saf; intros) | split | dsimp only)

@[simp] theorem State.setpointGo_saf (s : State) (goPos goPsi : Bool) (turn : Nat) : (State.setpointGo s goPos goPsi turn).1.saf = s.saf := by
  unfold State.setpointGo
  repeat' (first | with_reducible rfl | (simp; done) | (simp_all; done) | (apply foldl_keep_saf; intros) | split | dsimp only)

@[simp] theorem State.setPoint_saf (s : State) (north east : Int) (heading : Word) (goPos goPsi : Bool) (turn : Nat) : (State.setPoint s north east heading goPos goPsi turn).1.saf = s.saf := by
  unfold State.setPoint
  repeat' (first | with_reducible rfl | (simp; done) | (simp_all; done) | (apply foldl_keep_saf; intros) | split | dsimp only)

@[simp] theorem State.setTarget_saf (s : State) (k : BitVec 3) : (State.setTarget s k).1.saf = s.saf := rfl

@[simp] theorem State.winchWrite_saf (s : State) (w mode : Nat) (session : Word) : (State.winchWrite s w mode session).1.saf = s.saf := by
  unfold State.winchWrite
  repeat' (first | with_reducible rfl | (simp; done) | (simp_all; done) | (apply foldl_keep_saf; intros) | split | dsimp only)

@[simp] theorem State.stabWrite_saf (s : State) (k : Nat) (enable : Bool) : (State.stabWrite s k enable).1.saf = s.saf := by
  unfold State.stabWrite
  repeat' (first | with_reducible rfl | (simp; done) | (simp_all; done) | (apply foldl_keep_saf; intros) | split | dsimp only)

@[simp] theorem State.coefsNow_saf (s : State) (k : Nat) (session : Word) : (State.coefsNow s k session).1.saf = s.saf := by
  unfold State.coefsNow
  repeat' (first | with_reducible rfl | (simp; done) | (simp_all; done) | (apply foldl_keep_saf; intros) | split | dsimp only)

@[simp] theorem State.coefWrite_saf (s : State) (k ofs : Nat) (w session : Word) : (State.coefWrite s k ofs w session).1.saf = s.saf := by
  unfold State.coefWrite
  repeat' (first | with_reducible rfl | (simp; done) | (simp_all; done) | (apply foldl_keep_saf; intros) | split | dsimp only)

@[simp] theorem State.pairWrite_saf (s : State) (sel session addr w : Word) : (State.pairWrite s sel session addr w).1.saf = s.saf := by
  unfold State.pairWrite
  generalize addr.toNat / 65536 = b
  generalize addr.toNat % 65536 = ofs
  dsimp only
  split
  all_goals (repeat' (first | rfl | (simp [applied]; done) | split))

@[simp] theorem State.ignoredIf_saf (s : State) (refused : Bool) (block : Nat) : (State.ignoredIf s refused block).saf = s.saf := by
  unfold State.ignoredIf
  repeat' (first | with_reducible rfl | (simp; done) | (simp_all; done) | (apply foldl_keep_saf; intros) | split | dsimp only)

@[simp] theorem State.writeSel_saf (s : State) (who : Who) (block : Nat) (w : Word) : (State.writeSel s who block w).saf = s.saf := by
  unfold State.writeSel
  repeat' (first | with_reducible rfl | (simp; done) | (simp_all; done) | (apply foldl_keep_saf; intros) | split | dsimp only)

@[simp] theorem State.forceActive_saf (s : State) (who : Who) (c : Nat) : (State.forceActive s who c).saf = s.saf := by
  unfold State.forceActive
  repeat' (first | with_reducible rfl | (simp; done) | (simp_all; done) | (apply foldl_keep_saf; intros) | split | dsimp only)

@[simp] theorem State.recoverBus_saf (s : State) (c : Nat) : (State.recoverBus s c).saf = s.saf := by
  unfold State.recoverBus
  repeat' (first | with_reducible rfl | (simp; done) | (simp_all; done) | (apply foldl_keep_saf; intros) | split | dsimp only)

@[simp] theorem State.windowWrite_saf (s : State) (c copy w : Nat) (v : Word) : (State.windowWrite s c copy w v).saf = s.saf := by
  unfold State.windowWrite
  repeat' (first | with_reducible rfl | (simp; done) | (simp_all; done) | (apply foldl_keep_saf; intros) | split | dsimp only)

@[simp] theorem State.winSwitch_saf (s : State) (mask : Half) : (State.winSwitch s mask).saf = s.saf := rfl

@[simp] theorem State.resetRing_saf (s : State) (r : Nat) : (State.resetRing s r).saf = s.saf := by
  unfold State.resetRing
  repeat' (first | with_reducible rfl | (simp; done) | (simp_all; done) | (apply foldl_keep_saf; intros) | split | dsimp only)

@[simp] theorem State.padRelease_saf (s : State) (who : Who) (mask : Nat) : (State.padRelease s who mask).saf = s.saf := by
  unfold State.padRelease
  repeat' (first | with_reducible rfl | (simp; done) | (simp_all; done) | (apply foldl_keep_saf; intros) | split | dsimp only)

@[simp] theorem State.stageWriteSel_saf (s : State) (who : Who) (addr w sel : Word) : (State.stageWriteSel s who addr w sel).saf = s.saf := rfl

@[simp] theorem State.stageWrite_saf (s : State) (who : Who) (addr w : Word) : (State.stageWrite s who addr w).saf = s.saf := rfl

@[simp] theorem State.closeGate_saf (s : State) (was : Bool) : (State.closeGate s was).saf = s.saf := by
  unfold State.closeGate
  repeat' (first | with_reducible rfl | (simp; done) | (simp_all; done) | (apply foldl_keep_saf; intros) | split | dsimp only)

@[simp] theorem State.revertChanges_saf (s : State) (kind : ResetKind) : (State.revertChanges s kind).saf = s.saf := rfl

@[simp] theorem State.takeRings_saf (s : State) (edge : Nat) (beat : Word) : (State.takeRings s edge beat).1.saf = s.saf := by
  unfold State.takeRings
  refine (foldl_keep1_saf _ _ (s, []) ?_).trans rfl
  intro a r
  repeat' (first | rfl | split)

@[simp] theorem State.serialTx_saf (s : State) (beat : Word) : (State.serialTx s beat).saf = s.saf := by
  unfold State.serialTx
  apply foldl_keep_saf
  intros
  all_goals (repeat (first | with_reducible rfl | (simp; done) | split | dsimp only))

@[simp] theorem State.latchGnss_saf (s : State) (edge : Nat) (trackOnly : Bool) : (State.latchGnss s edge trackOnly).saf = s.saf := by
  unfold State.latchGnss
  apply foldl_keep_saf
  intros
  all_goals (repeat (first | with_reducible rfl | (simp; done) | split | dsimp only))

@[simp] theorem State.streamEdge_saf (s : State) (boundary : Bool) (i : StreamIn) : (State.streamEdge s boundary i).saf = s.saf := by
  unfold State.streamEdge
  repeat' (first | with_reducible rfl | (simp; done) | (simp_all; done) | (apply foldl_keep_saf; intros) | split | dsimp only)

@[simp] theorem State.gnsEdge_saf (s : State) (inp : EdgeIn) (n : Nat) : (State.gnsEdge s inp n).saf = s.saf := by
  unfold State.gnsEdge
  repeat' (first | with_reducible rfl | (simp; done) | (simp_all; done) | (apply foldl_keep_saf; intros) | split | dsimp only)

@[simp] theorem State.sendToken_saf (s : State) : (State.sendToken s).saf = s.saf := by
  unfold State.sendToken
  repeat' (first | with_reducible rfl | (simp; done) | (simp_all; done) | (apply foldl_keep_saf; intros) | split | dsimp only)

@[simp] theorem State.commonEdge_saf (s : State) (inp : EdgeIn) (n : Nat) : (State.commonEdge s inp n).saf = s.saf := by
  unfold State.commonEdge
  repeat' (first | with_reducible rfl | (simp; done) | (simp_all; done) | (apply foldl_keep_saf; intros) | split | dsimp only)

@[simp] theorem State.restartEdge_saf (s : State) (inp : EdgeIn) : (State.restartEdge s inp).saf = s.saf := by
  unfold State.restartEdge
  repeat' (first | with_reducible rfl | (simp; done) | (simp_all; done) | (apply foldl_keep_saf; intros) | split | dsimp only)

@[simp] theorem State.liveEdge_saf (s : State) (inp : EdgeIn) : (State.liveEdge s inp).saf = s.saf := by
  unfold State.liveEdge
  repeat' (first | with_reducible rfl | (simp; done) | (simp_all; done) | (apply foldl_keep_saf; intros) | split | dsimp only)

@[simp] theorem State.takeCommand_saf (s : State) (c : HostCmd) (dropped : Bool) : (State.takeCommand s c dropped).saf = s.saf := by
  unfold State.takeCommand
  repeat' (first | with_reducible rfl | (simp; done) | (simp_all; done) | (apply foldl_keep_saf; intros) | split | dsimp only)

@[simp] theorem State.commitStaged_saf (s : State) (sel addr w : Word) : (State.commitStaged s sel addr w).saf = s.saf := by
  show ((s.pairWrite sel 0 addr w).1).saf = s.saf
  simp

@[simp] theorem State.takeStaged_saf (s : State) (i : Item) (dropped : Bool) : (State.takeStaged s i dropped).saf = s.saf := by
  unfold State.takeStaged
  repeat' (first | with_reducible rfl | (simp; done) | (simp_all; done) | (apply foldl_keep_saf; intros) | split | dsimp only)

@[simp] theorem State.takeRingFrame_saf (s : State) (i : Item) : (State.takeRingFrame s i).saf = s.saf := by
  unfold State.takeRingFrame
  repeat' (first | with_reducible rfl | (simp; done) | (simp_all; done) | (apply foldl_keep_saf; intros) | split | dsimp only)

@[simp] theorem State.takeItem_saf (dropped : List Item) (s : State) (i : Item) : (State.takeItem dropped s i).saf = s.saf := by
  unfold State.takeItem
  repeat' (first | with_reducible rfl | (simp; done) | (simp_all; done) | (apply foldl_keep_saf; intros) | split | dsimp only)

@[simp] theorem State.formUnion_saf (s : State) : (State.formUnion s).saf = s.saf := by
  unfold State.formUnion
  split
  · rfl
  · extract_lets
    rw [foldl_keep_saf _ _ _ (fun a x => by simp)]
    simp +zetaDelta only [State.raise_saf]

@[simp] theorem State.loopback_saf (s : State) (readings : List (BitVec 7 × Int)) : (State.loopback s readings).saf = s.saf := by
  unfold State.loopback
  repeat' (first | with_reducible rfl | (simp; done) | (simp_all; done) | (apply foldl_keep_saf; intros) | split | dsimp only)

@[simp] theorem State.powerUp_saf (s : State) : (State.powerUp s).saf = s.saf := by
  unfold State.powerUp
  repeat' (first | with_reducible rfl | (simp; done) | (simp_all; done) | (apply foldl_keep_saf; intros) | split | dsimp only)

@[simp] theorem State.answerEnd_saf (s : State) (a : Option (BitVec 8 × Word × Half × Word)) : (State.answerEnd s a).saf = s.saf := by
  unfold State.answerEnd
  repeat' (first | with_reducible rfl | (simp; done) | (simp_all; done) | (apply foldl_keep_saf; intros) | split | dsimp only)

@[simp] theorem State.installTables_saf (s : State) (x : Schedule) : (State.installTables s x).saf = s.saf := by
  unfold State.installTables
  extract_lets entries _ _ _ _ _ _ s1
  split
  · rfl
  · simp only [State.raise_saf]
    rfl

@[simp] theorem State.keepOwn_saf (t s : State) : (State.keepOwn t s).saf = t.saf := rfl

@[simp] theorem State.applySwitch_saf (s : State) : (State.applySwitch s).saf = s.saf := by
  unfold State.applySwitch
  split
  · rfl
  · extract_lets sig a b j p
    have ha : a.saf = s.saf := by
      simp only [a]
      repeat' (first | rfl | (simp; done) | split)
    simp [b, ha]

@[simp] theorem State.useTime_saf (s : State) (c : Option TimeCfg) : (State.useTime s c).saf = s.saf := by
  unfold State.useTime
  repeat' (first | with_reducible rfl | (simp; done) | (simp_all; done) | (apply foldl_keep_saf; intros) | split | dsimp only)

@[simp] theorem State.failImage_saf (s : State) (isB : Bool) (code : Nat) (idx : Word) : (State.failImage s isB code idx).saf = s.saf := by
  unfold State.failImage
  repeat' (first | with_reducible rfl | (simp; done) | (simp_all; done) | (apply foldl_keep_saf; intros) | split | dsimp only)

@[simp] theorem State.startRates_saf (s : State) : (State.startRates s).saf = s.saf := by
  unfold State.startRates
  repeat' (first | with_reducible rfl | (simp; done) | (simp_all; done) | (apply foldl_keep_saf; intros) | split | dsimp only)

@[simp] theorem State.acceptImage_saf (s : State) (img : ImageDesc) (us : Word) : (State.acceptImage s img us).saf = s.saf := by
  unfold State.acceptImage
  repeat' (first | with_reducible rfl | (simp; done) | (simp_all; done) | (apply foldl_keep_saf; intros) | split | dsimp only)

@[simp] theorem State.deliverSchedule_saf (s : State) (x : Schedule) : (State.deliverSchedule s x).saf = s.saf := rfl

@[simp] theorem State.leaveListen_saf (s : State) : (State.leaveListen s).saf = s.saf := by
  unfold State.leaveListen
  repeat' (first | with_reducible rfl | (simp; done) | (simp_all; done) | (apply foldl_keep_saf; intros) | split | dsimp only)

@[simp] theorem State.cocoonWoken_saf (s : State) : (State.cocoonWoken s).saf = s.saf := by
  unfold State.cocoonWoken
  repeat' (first | with_reducible rfl | (simp; done) | (simp_all; done) | (apply foldl_keep_saf; intros) | split | dsimp only)

@[simp] theorem State.reach_saf (s : State) (t : Nat) : (State.reach s t).saf = s.saf := rfl

@[simp] theorem State.ptpPort_saf (s : State) (k : Nat) (state : Byte) : (State.ptpPort s k state).saf = s.saf := by
  unfold State.ptpPort
  repeat' (first | with_reducible rfl | (simp; done) | (simp_all; done) | (apply foldl_keep_saf; intros) | split | dsimp only)

@[simp] theorem State.ppsFault_saf (s : State) (interval : Word) (present : Bool) : (State.ppsFault s interval present).saf = s.saf := by
  unfold State.ppsFault
  repeat' (first | with_reducible rfl | (simp; done) | (simp_all; done) | (apply foldl_keep_saf; intros) | split | dsimp only)

@[simp] theorem State.shift_saf (s : State) (k : Int) : (State.shift s k).saf = s.saf := rfl

@[simp] theorem State.alarmDue_saf (s : State) : (State.alarmDue s).saf = s.saf := by
  unfold State.alarmDue
  repeat' (first | with_reducible rfl | (simp; done) | (simp_all; done) | (apply foldl_keep_saf; intros) | split | dsimp only)

@[simp] theorem State.withCnd_saf (s : State) (r : CndSt × List Ev) : (State.withCnd s r).saf = s.saf := by
  unfold State.withCnd
  repeat' (first | with_reducible rfl | (simp; done) | (simp_all; done) | (apply foldl_keep_saf; intros) | split | dsimp only)

@[simp] theorem State.gnsCh_saf (s : State) (c : Nat) (f : GnsTable → SignalDef → GnsCh → State) (h_f : ∀ x0 x1 x2, (f x0 x1 x2).saf = s.saf) : (State.gnsCh s c f).saf = s.saf := by
  unfold State.gnsCh
  repeat' (first | with_reducible rfl | (simp; done) | (simp_all; done) | (apply foldl_keep_saf; intros) | split | dsimp only)

@[simp] theorem State.research_saf (s : State) (c : Nat) : (State.research s c).saf = s.saf := rfl

@[simp] theorem State.noPeak_saf (s : State) (c : Nat) : (State.noPeak s c).saf = s.saf := by
  unfold State.noPeak
  repeat' (first | with_reducible rfl | (simp; done) | (simp_all; done) | (apply foldl_keep_saf; intros) | split | dsimp only)

@[simp] theorem State.burstChannels_saf (s : State) : (State.burstChannels s).saf = s.saf := by
  unfold State.burstChannels
  apply foldl_keep_saf
  intro a c
  repeat' (first | rfl | (simp; done) | split)

@[simp] theorem State.sampleBy_saf (s : State) (model : Option ModelEntry) (source : Half) (stamp : Int) (t : Nat) : (State.sampleBy s model source stamp t).1.saf = s.saf := by
  unfold State.sampleBy
  repeat' (first | with_reducible rfl | (simp; done) | (simp_all; done) | (apply foldl_keep_saf; intros) | split | dsimp only)

@[simp] theorem State.modelSample_saf (s : State) (source : Half) (stamp : Int) (t : Nat) : (State.modelSample s source stamp t).1.saf = s.saf := by
  unfold State.modelSample
  repeat' (first | with_reducible rfl | (simp; done) | (simp_all; done) | (apply foldl_keep_saf; intros) | split | dsimp only)

@[simp] theorem State.withLun_saf (s : State) (r : LunSt × List Ev) : (State.withLun s r).saf = s.saf := by
  unfold State.withLun
  repeat' (first | with_reducible rfl | (simp; done) | (simp_all; done) | (apply foldl_keep_saf; intros) | split | dsimp only)

@[simp] theorem State.cameraFrame_saf (s : State) (port : BitVec 2) (vc dataType : Byte) (f : CameraCfg → State) (h_f : ∀ x0, (f x0).saf = s.saf) : (State.cameraFrame s port vc dataType f).saf = s.saf := by
  unfold State.cameraFrame
  repeat' (first | with_reducible rfl | (simp; done) | (simp_all; done) | (apply foldl_keep_saf; intros) | split | dsimp only)

@[simp] theorem State.accessed_saf (s : State) (who : Who) (block ofs : Nat) : (State.accessed s who block ofs).saf = s.saf := rfl

@[simp] theorem State.withOut_saf (s : State) (r : OutBlk × List Ev) : (State.withOut s r).saf = s.saf := by
  unfold State.withOut
  repeat' (first | with_reducible rfl | (simp; done) | (simp_all; done) | (apply foldl_keep_saf; intros) | split | dsimp only)

@[simp] theorem State.withFbu_saf (s : State) (r : FbuSt × List Ev) : (State.withFbu s r).saf = s.saf := by
  unfold State.withFbu
  repeat' (first | with_reducible rfl | (simp; done) | (simp_all; done) | (apply foldl_keep_saf; intros) | split | dsimp only)

@[simp] theorem State.takeReference_saf (s : State) (ch : Nat) (fr : CanFrame) (t : Nat) : (State.takeReference s ch fr t).saf = s.saf := by
  unfold State.takeReference
  repeat' (first | with_reducible rfl | (simp; done) | (simp_all; done) | (apply foldl_keep_saf; intros) | split | dsimp only)

@[simp] theorem State.takeFrame_saf (s0 : State) (ch : Nat) (g : ChanCfg) (fr : CanFrame) (t : Nat) : (State.takeFrame s0 ch g fr t).saf = s0.saf := by
  unfold State.takeFrame
  repeat' (first | with_reducible rfl | (simp; done) | (simp_all; done) | (apply foldl_keep_saf; intros) | split | dsimp only)

@[simp] theorem State.canFrame_saf (s : State) (ch : Nat) (fr : CanFrame) (t : Nat) : (State.canFrame s ch fr t).saf = s.saf := by
  unfold State.canFrame
  repeat' (first | with_reducible rfl | (simp; done) | (simp_all; done) | (apply foldl_keep_saf; intros) | split | dsimp only)

@[simp] theorem State.nextInWindow_saf (s : State) (ch : Nat) (g : ChanCfg) : (State.nextInWindow s ch g).saf = s.saf := by
  unfold State.nextInWindow
  repeat' (first | with_reducible rfl | (simp; done) | (simp_all; done) | (apply foldl_keep_saf; intros) | split | dsimp only)

@[simp] theorem State.busChan_saf (s : State) (ch : Nat) (f : ChanCfg → State) (h_f : ∀ x0, (f x0).saf = s.saf) : (State.busChan s ch f).saf = s.saf := by
  unfold State.busChan
  repeat' (first | with_reducible rfl | (simp; done) | (simp_all; done) | (apply foldl_keep_saf; intros) | split | dsimp only)

@[simp] theorem State.sentenceInstant_saf (s : State) (e : SentCfg) (source : Half) (text : List Byte) (tag : Option Nat) (t : Nat) : (State.sentenceInstant s e source text tag t).1.saf = s.saf := by
  unfold State.sentenceInstant
  repeat' (first | with_reducible rfl | (simp; done) | (simp_all; done) | (apply foldl_keep_saf; intros) | split | dsimp only)

@[simp] theorem State.takeSentence_saf (s : State) (port k : Nat) (e : SentCfg) (text : List Byte) (tag : Option Nat) (t : Nat) : (State.takeSentence s port k e text tag t).saf = s.saf := by
  unfold State.takeSentence
  repeat' (first | with_reducible rfl | (simp; done) | (simp_all; done) | (apply foldl_keep_saf; intros) | split | dsimp only)

@[simp] theorem State.ethLine_saf (port : Nat) (group : Word) (udp : Half) (t : Nat) (s : State) (line : List Byte) : (State.ethLine port group udp t s line).saf = s.saf := by
  unfold State.ethLine
  repeat' (first | with_reducible rfl | (simp; done) | (simp_all; done) | (apply foldl_keep_saf; intros) | split | dsimp only)

@[simp] theorem State.refuseStarting_saf (s : State) : (State.refuseStarting s).saf = s.saf := rfl

@[simp] theorem State.closeSession_saf (s : State) (k cause : Nat) : (State.closeSession s k cause).saf = s.saf := by
  unfold State.closeSession
  repeat' (first | with_reducible rfl | (simp; done) | (simp_all; done) | (apply foldl_keep_saf; intros) | split | dsimp only)

@[simp] theorem State.judgeRegion_saf (s : State) (k : Nat) (region : Half) (ps : List RegionPart) : (State.judgeRegion s k region ps).saf = s.saf := by
  unfold State.judgeRegion
  repeat' (first | with_reducible rfl | (simp; done) | (simp_all; done) | (apply foldl_keep_saf; intros) | split | dsimp only)

@[simp] theorem State.regionPart_saf (s : State) (ref : HostRef) (region : Half) (p : RegionPart) (lastPart : Bool) : (State.regionPart s ref region p lastPart).saf = s.saf := by
  unfold State.regionPart
  repeat' (first | with_reducible rfl | (simp; done) | (simp_all; done) | (apply foldl_keep_saf; intros) | split | dsimp only)

@[simp] theorem State.startNvm_saf (s : State) (h : HostRef) (op : Half) (ok : Bool) (chip : Byte) (address : Word) (n : Nat) : (State.startNvm s h op ok chip address n).saf = s.saf := by
  unfold State.startNvm
  repeat' (first | with_reducible rfl | (simp; done) | (simp_all; done) | (apply foldl_keep_saf; intros) | split | dsimp only)

@[simp] theorem State.withOtp_saf (s : State) (f : OtpSt → OtpSt) : (State.withOtp s f).saf = s.saf := rfl

@[simp] theorem State.withPai_saf (s : State) (r : PaiR) : (State.withPai s r).saf = s.saf := by
  unfold State.withPai
  repeat' (first | with_reducible rfl | (simp; done) | (simp_all; done) | (apply foldl_keep_saf; intros) | split | dsimp only)

@[simp] theorem State.partnerLost_saf (s : State) (r : PaiR) : (State.partnerLost s r).saf = s.saf := by
  unfold State.partnerLost
  repeat' (first | with_reducible rfl | (simp; done) | (simp_all; done) | (apply foldl_keep_saf; intros) | split | dsimp only)

@[simp] theorem State.linkFrame_saf (s : State) (h : LinkHdr) (f : State → State) (h_f : ∀ x0, (f x0).saf = x0.saf) : (State.linkFrame s h f).saf = s.saf := by
  unfold State.linkFrame
  repeat' (first | with_reducible rfl | (simp; done) | (simp_all; done) | (apply foldl_keep_saf; intros) | split | dsimp only)

@[simp] theorem State.refusePair_saf (s : State) : (State.refusePair s).1.saf = s.saf := rfl

@[simp] theorem State.discardLocal_saf (s : State) (d : Nat) : (State.discardLocal s d).saf = s.saf := by
  unfold State.discardLocal
  repeat' (first | with_reducible rfl | (simp; done) | (simp_all; done) | (apply foldl_keep_saf; intros) | split | dsimp only)

@[simp] theorem State.powerOrder_saf (s : State) (op : Nat) (flags address : Byte) (alarm : Long) (f : WakeCfg → PwrSt → PwrR) : (State.powerOrder s op flags address alarm f).1.saf = s.saf := by
  unfold State.powerOrder
  repeat' (first | with_reducible rfl | (simp; done) | (simp_all; done) | (apply foldl_keep_saf; intros) | split | dsimp only)

@[simp] theorem State.enterWatch_saf (s : State) : (State.enterWatch s).saf = s.saf := by
  unfold State.enterWatch
  repeat' (first | with_reducible rfl | (simp; done) | (simp_all; done) | (apply foldl_keep_saf; intros) | split | dsimp only)

@[simp] theorem State.enterRun_saf (s : State) : (State.enterRun s).saf = s.saf := by
  unfold State.enterRun
  repeat' (first | with_reducible rfl | (simp; done) | (simp_all; done) | (apply foldl_keep_saf; intros) | split | dsimp only)

@[simp] theorem State.roundSnapshot_saf (s : State) : (State.roundSnapshot s).saf = s.saf := rfl

@[simp] theorem State.closeSessions_saf (s : State) : (State.closeSessions s).saf = s.saf := by
  unfold State.closeSessions
  dsimp only
  exact foldl_keep_saf _ _ _ (fun x k => State.closeSession_saf x (k + 1) 3)

@[simp] theorem State.stopClocks_saf (s : State) : (State.stopClocks s).saf = s.saf := rfl

@[simp] theorem State.wake_saf (s : State) (source t : Nat) : (State.wake s source t).saf = s.saf := by
  unfold State.wake
  repeat' (first | with_reducible rfl | (simp; done) | (simp_all; done) | (apply foldl_keep_saf; intros) | split | dsimp only)

@[simp] theorem State.wakeBlocks_saf (s : State) : (State.wakeBlocks s).saf = s.saf := by
  unfold State.wakeBlocks
  extract_lets a b
  rw [State.leaveListen_saf]
  refine (foldl_keep_saf _ _ _ (fun x c => ?_)).trans rfl
  split <;> simp

@[simp] theorem State.feedAllocator_saf (s : State) (d : ProblemDesc) (data : ProblemData) : (State.feedAllocator s d data).1.saf = s.saf := by
  unfold State.feedAllocator
  repeat' (first | with_reducible rfl | (simp; done) | (simp_all; done) | (apply foldl_keep_saf; intros) | split | dsimp only)

@[simp] theorem State.withHwk_saf (s : State) (qid : Half) (r : HwkSt × List Ev) : (State.withHwk s qid r).saf = s.saf := by
  unfold State.withHwk
  repeat' (first | with_reducible rfl | (simp; done) | (simp_all; done) | (apply foldl_keep_saf; intros) | split | dsimp only)

@[simp] theorem State.loadStep_saf (s : State) (op : OpRun) (d : ProblemDesc) (data : ProblemData) : (State.loadStep s op d data).saf = s.saf := by
  unfold State.loadStep
  extract_lets slot s1 f
  have h1 : s1.saf = s.saf := by simp only [s1]; split <;> simp
  have h2 : f.1.saf = s.saf := by simp only [f]; split <;> simp [h1]
  simp [h2]

@[simp] theorem State.allocPost_saf (s : State) (d : ProblemDesc) (r : ProbResult) (z l u : List Int) : (State.allocPost s d r z l u).saf = s.saf := by
  unfold State.allocPost
  repeat' (first | with_reducible rfl | (simp; done) | (simp_all; done) | (apply foldl_keep_saf; intros) | split | dsimp only)

@[simp] theorem State.consume_saf (s : State) (slot : Nat) (d : ProblemDesc) (z l u : List Int) : (State.consume s slot d z l u).saf = s.saf := by
  unfold State.consume
  repeat' (first | with_reducible rfl | (simp; done) | (simp_all; done) | (apply foldl_keep_saf; intros) | split | dsimp only)

@[simp] theorem State.storeStep_saf (s : State) (op : OpRun) (slot : Nat) : (State.storeStep s op slot).saf = s.saf := by
  unfold State.storeStep
  repeat' (first | with_reducible rfl | (simp; done) | (simp_all; done) | (apply foldl_keep_saf; intros) | split | dsimp only)

@[simp] theorem State.slice_saf (s : State) (slot : Nat) (slices : Nat) : (State.slice s slot slices).saf = s.saf := by
  unfold State.slice
  repeat' (first | with_reducible rfl | (simp; done) | (simp_all; done) | (apply foldl_keep_saf; intros) | split | dsimp only)

@[simp] theorem State.breach_saf (s : State) (op : OpRun) (opcode : Nat) : (State.breach s op opcode).saf = s.saf := rfl

@[simp] theorem State.stopAt_saf (s : State) (op : OpRun) (slot deadline column done : Nat) : (State.stopAt s op slot deadline column done).saf = s.saf := by
  unfold State.stopAt
  repeat' (first | with_reducible rfl | (simp; done) | (simp_all; done) | (apply foldl_keep_saf; intros) | split | dsimp only)

@[simp] theorem State.runPlain_saf (s : State) (k : Nat) : (State.runPlain s k).saf = s.saf := by
  unfold State.runPlain
  repeat' (first | with_reducible rfl | (simp; done) | (simp_all; done) | (apply foldl_keep_saf; intros) | split | dsimp only)

@[simp] theorem State.runLoop_saf (s : State) (k ch : Nat) (carrier : Bool) : (State.runLoop s k ch carrier).saf = s.saf := by
  unfold State.runLoop
  repeat' (first | with_reducible rfl | (simp; done) | (simp_all; done) | (apply foldl_keep_saf; intros) | split | dsimp only)

@[simp] theorem State.runSlot_saf (s : State) (k : Nat) : (State.runSlot s k).saf = s.saf := by
  unfold State.runSlot
  repeat' (first | with_reducible rfl | (simp; done) | (simp_all; done) | (apply foldl_keep_saf; intros) | split | dsimp only)

@[simp] theorem State.ctlBegin_saf (s : State) : (State.ctlBegin s).saf = s.saf := by
  unfold State.ctlBegin
  extract_lets usable field r w _ s1
  rw [foldl_keep_saf _ _ _ (fun a x => by simp)]
  simp only [s1, State.raise_saf]

@[simp] theorem State.offerTile_saf (s : State) (source : Nat) (t : Nat × List Word × Nat) : (State.offerTile s source t).saf = s.saf := rfl

@[simp] theorem State.layers_saf (s : State) (source count : Nat) : (State.layers s source count).saf = s.saf := by
  unfold State.layers
  repeat' (first | with_reducible rfl | (simp; done) | (simp_all; done) | (apply foldl_keep_saf; intros) | split | dsimp only)

@[simp] theorem State.trackStep_saf (s : State) : (State.trackStep s).saf = s.saf := by
  unfold State.trackStep
  repeat' (first | with_reducible rfl | (simp; done) | (simp_all; done) | (apply foldl_keep_saf; intros) | split | dsimp only)

@[simp] theorem State.withSvc_saf (s : State) (r : SvcR) : (State.withSvc s r).saf = s.saf := by
  unfold State.withSvc
  repeat' (first | with_reducible rfl | (simp; done) | (simp_all; done) | (apply foldl_keep_saf; intros) | split | dsimp only)

@[simp] theorem State.withJtag_saf (s : State) (instr : BitVec 8) (dr : BitVec 136) : (State.withJtag s instr dr).saf = s.saf := rfl

@[simp] theorem State.dbgResult_saf (s : State) (read : Word) (status : BitVec 2) : (State.dbgResult s read status).saf = s.saf := rfl

end Sys2Proof.Machine
end

