-- ==== Sys2Proof/Laws/Ops.lean ====
section
/-! SUPPORT. What each shared operation can do, said once: engine operations, the gates of host commands, answers, and the ledgers. -/

namespace Sys2Proof.Machine

open Sys2Proof

/-! Engine operations (R59, R64). -/

/-- A ready engine goes on to its next operation, counted by the fabric, and then `f` does the work. -/
theorem State.engineOp_ready {s : State} {op : OpRun} (h : s.engineReady op) (f : State → State) :
    ∃ v, s.engineOp op f = f { s with svc := v, sch := s.sch.advance op } := by
  unfold State.engineOp
  rw [if_pos h]
  exact ⟨_, rfl⟩

/-- Nothing happens on an engine that is not ready. -/
theorem State.engineOp_idle {s : State} {op : OpRun} (h : ¬ s.engineReady op) (f : State → State) : s.engineOp op f = s := by
  unfold State.engineOp
  rw [if_neg h]

/-! Requests of a session (R402). -/

theorem State.mayRun_iff (s : State) (h : HostRef) (least : Nat) : s.mayRun h least = true ↔ s.sessionMay h least := by
  simp [State.mayRun, State.sessionMay]

/-- A local request of a session that may is done. -/
theorem State.localCmd_may {s : State} {h : HostRef} {least : Nat} (hm : s.sessionMay h least) (f : State → State) : s.localCmd h least f = f s := by
  unfold State.localCmd
  rw [if_pos ((s.mayRun_iff h least).mpr hm)]

/-- A local request of a session that may not has no effect. -/
theorem State.localCmd_not {s : State} {h : HostRef} {least : Nat} (hm : ¬ s.sessionMay h least) (f : State → State) : s.localCmd h least f = s := by
  unfold State.localCmd
  rw [if_neg (fun x => hm ((s.mayRun_iff h least).mp x))]

/-! Union commands (R404, R407). -/

/-- A union command in its turn is taken from the queue, judged by `f`, settled and answered. -/
theorem State.unionCmd_turn {s : State} {h : HostRef} (ht : s.unionTurn h) (op : Half) (f : State → State × Half × Word) :
    let s1 : State := { s with hst := { s.hst with toApply := s.hst.toApply.erase h } }
    s.unionCmd h op f = { (f s1).1 with hst := (f s1).1.hst.answer h op s.beat.n (f s1).2.1 (f s1).2.2 } := by
  obtain ⟨h1, h2, h3⟩ := ht
  have h3' : ¬ h.hostSeq ≤ (s.hst.sess h.session.toNat).lastSeq := BitVec.not_le.mpr h3
  unfold State.unionCmd HstSt.take
  rw [if_pos h1]
  have e : ({ s.hst with toApply := s.hst.toApply.erase h } : HstSt).sess h.session.toNat = s.hst.sess h.session.toNat := rfl
  simp only [e, h2, Bool.not_true, Bool.false_eq_true, if_false, h3']

/-- A union command that is not next of its session has no effect. -/
theorem State.unionCmd_not {s : State} {h : HostRef} (ht : (s.hst.toApply.filter (fun r => decide (r.session = h.session))).head? ≠ some h)
    (op : Half) (f : State → State × Half × Word) : s.unionCmd h op f = s := by
  unfold State.unionCmd HstSt.take
  rw [if_neg ht]

/-! Answers (R407). -/

/-- A local answer stands last in the queue of responses. -/
theorem State.reply_lastAnswer (s : State) (h : HostRef) (op st : Half) (d : Word) (p : List Word) : (s.reply h op st d p).lastAnswer st d :=
  ⟨localResponse h op s.beat.n st d p, by simp [State.reply, HstSt.respond], rfl, rfl⟩

/-! The ledgers (R40, R489, R555): every settlement adds one to the total and one to exactly one other term. -/

/-- A source's ledger: OFFERED is the sum of the other terms, modulo 2^48 (R40, R555). -/
theorem SrcLedger.settle_balanced {l : SrcLedger} (h : l.offered = l.admitted + l.quota + l.timeLost + l.late + l.restart) (f : Fate) :
    (l.settle f).offered = (l.settle f).admitted + (l.settle f).quota + (l.settle f).timeLost + (l.settle f).late + (l.settle f).restart := by
  cases f <;> simp only [SrcLedger.settle, h] <;> ac_rfl

/-- A session's ledger: RECEIVED is the sum of the other terms, modulo 2^48 (R40). -/
theorem HostLedger.settle_balanced {l : HostLedger} (h : l.received = l.applied + l.refused + l.restart + l.superseded + l.takeover) (f : CmdFate) (n : Nat) :
    (l.settle f n).received =
      (l.settle f n).applied + (l.settle f n).refused + (l.settle f n).restart + (l.settle f n).superseded + (l.settle f n).takeover := by
  cases f <;> simp only [HostLedger.settle, h] <;> ac_rfl

/-- The recorder's ledger balances (R489). -/
abbrev RecSt.balanced (r : RecSt) : Prop := r.ledger.raised = r.ledger.written + r.ledger.suppressed

@[simp] theorem RecSt.setCode_ledger (r : RecSt) (c : Half) (x : CodeSt) : (r.setCode c x).ledger = r.ledger := rfl
@[simp] theorem RecSt.setCode_ledgerSnap (r : RecSt) (c : Half) (x : CodeSt) : (r.setCode c x).ledgerSnap = r.ledgerSnap := rfl
@[simp] theorem RecSt.suppress_ledgerSnap (r : RecSt) (c : Half) (w : SuppWhy) : (r.suppress c w).ledgerSnap = r.ledgerSnap := rfl

/-- A suppressed event counts in RAISED and SUPPRESSED. -/
theorem RecSt.suppress_balanced {r : RecSt} (h : r.balanced) (c : Half) (w : SuppWhy) : (r.suppress c w).balanced := by
  show r.ledger.raised + 1 = r.ledger.written + (r.ledger.suppressed + 1)
  rw [show r.ledger.raised = _ from h]
  ac_rfl

/-- An event that the recorder takes either waits, uncounted, or is suppressed. -/
theorem RecSt.takeEvent_balanced {r : RecSt} (h : r.balanced) (c : Half) (p : List Word) (b : BitVec 10) (d : Bool) : (r.takeEvent c p b d).balanced := by
  unfold RecSt.takeEvent
  dsimp only
  repeat' split
  all_goals first | exact h | exact RecSt.suppress_balanced (r := r.setCode _ _) h _ _

@[simp] theorem RecSt.takeEvent_ledgerSnap (r : RecSt) (c : Half) (p : List Word) (b : BitVec 10) (d : Bool) :
    (r.takeEvent c p b d).ledgerSnap = r.ledgerSnap := by
  unfold RecSt.takeEvent
  dsimp only
  repeat' (first | rfl | split)

theorem RecSt.hold_balanced {r : RecSt} (h : r.balanced) (c : Half) (p : List Word) (b : BitVec 10) (t : Nat) : (r.hold c p b t).balanced := by
  unfold RecSt.hold
  dsimp only
  split
  · exact RecSt.suppress_balanced (r := r.setCode _ _) h _ _
  · exact h

@[simp] theorem RecSt.hold_ledgerSnap (r : RecSt) (c : Half) (p : List Word) (b : BitVec 10) (t : Nat) : (r.hold c p b t).ledgerSnap = r.ledgerSnap := by
  unfold RecSt.hold
  dsimp only
  split <;> rfl

/-- Raising events keeps the recorder's ledgers balanced. -/
theorem State.raise_balanced {s : State} (h : s.recorderBalanced) (l : List Ev) : (s.raise l).recorderBalanced := by
  induction l generalizing s with
  | nil => exact h
  | cons e l ih =>
    refine ih (s := s.raiseOne e) ?_
    unfold State.recorderBalanced State.raiseOne
    dsimp only
    split
    · exact ⟨RecSt.hold_balanced h.1 _ _ _ _, by rw [RecSt.hold_ledgerSnap]; exact h.2⟩
    · exact ⟨RecSt.takeEvent_balanced h.1 _ _ _ _, by rw [RecSt.takeEvent_ledgerSnap]; exact h.2⟩

end Sys2Proof.Machine
end

