-- ==== Sys2Proof/Laws/Pending.lean ====
section
/-! SUPPORT. The queue: no shared operation of the machine touches it. -/

namespace Sys2Proof.Machine

open Sys2Proof

/-- A fold of steps that each keep the field keeps it. -/
theorem foldl_keep_pending {β : Type} (l : List β) (f : State → β → State) (s : State) (h : ∀ a x, (f a x).pending = a.pending) :
    (l.foldl f s).pending = s.pending := by
  induction l generalizing s with
  | nil => rfl
  | cons x l ih => rw [List.foldl_cons, ih, h]

theorem foldl_keep1_pending {β γ : Type} (l : List β) (f : State × γ → β → State × γ) (s : State × γ) (h : ∀ a x, (f a x).1.pending = a.1.pending) :
    (l.foldl f s).1.pending = s.1.pending := by
  induction l generalizing s with
  | nil => rfl
  | cons x l ih => rw [List.foldl_cons, ih, h]

@[simp] theorem State.fresh_pending (s : State) : (State.fresh s).2.pending = s.pending := rfl

@[simp] theorem State.localCmd_pending (s : State) (ref : HostRef) (least : Nat) (f : State → State) (h_f : ∀ x0, (f x0).pending = x0.pending) : (State.localCmd s ref least f).pending = s.pending := by
  unfold State.localCmd
  repeat' (first | with_reducible rfl | (simp; done) | (simp_all; done) | (apply foldl_keep_pending; intros) | split | dsimp only)

@[simp] theorem State.unionCmd_pending (s : State) (ref : HostRef) (op : Half) (f : State → State × Half × Word) (h_f : ∀ x0, (f x0).1.pending = x0.pending) : (State.unionCmd s ref op f).pending = s.pending := by
  unfold State.unionCmd
  repeat' (first | with_reducible rfl | (simp; done) | (simp_all; done) | (apply foldl_keep_pending; intros) | split | dsimp only)

@[simp] theorem State.measure_pending (s : State) (src : TimeSource) (theta : Int) (atOnce : Bool) : (State.measure s src theta atOnce).pending = s.pending := by
  unfold State.measure
  repeat' (first | with_reducible rfl | (simp; done) | (simp_all; done) | (apply foldl_keep_pending; intros) | split | dsimp only)

@[simp] theorem State.disqualify_pending (s : State) (src : TimeSource) (present : Bool) : (State.disqualify s src present).pending = s.pending := by
  unfold State.disqualify
  repeat' (first | with_reducible rfl | (simp; done) | (simp_all; done) | (apply foldl_keep_pending; intros) | split | dsimp only)

@[simp] theorem State.engineOp_pending (s : State) (op : OpRun) (f : State → State) (h_f : ∀ x0, (f x0).pending = x0.pending) : (State.engineOp s op f).pending = s.pending := by
  unfold State.engineOp
  repeat' (first | with_reducible rfl | (simp; done) | (simp_all; done) | (apply foldl_keep_pending; intros) | split | dsimp only)

@[simp] theorem State.setPairDom_pending (s : State) (d : PairDom) : (State.setPairDom s d).pending = s.pending := rfl

@[simp] theorem State.setSel_pending (s : State) (who : Who) (block : Nat) (w : Word) : (State.setSel s who block w).pending = s.pending := rfl

@[simp] theorem State.unmapped_pending (s : State) (who : Who) (addr : Word) (write : Bool) : (State.unmapped s who addr write).pending = s.pending := rfl

@[simp] theorem State.holdPair_pending (s : State) (who : Who) (addr : Word) : (State.holdPair s who addr).pending = s.pending := rfl

@[simp] theorem State.dropPair_pending (s : State) (who : Who) (addr : Word) : (State.dropPair s who addr).pending = s.pending := rfl

@[simp] theorem State.lockRead_pending (s : State) (who : Who) (addr : Word) : (State.lockRead s who addr).1.pending = s.pending := by
  unfold State.lockRead
  repeat' (first | with_reducible rfl | (simp; done) | (simp_all; done) | (apply foldl_keep_pending; intros) | split | dsimp only)

@[simp] theorem State.readReg_pending (s0 : State) (who : Who) (addr : Word) : (State.readReg s0 who addr).1.pending = s0.pending := by
  unfold State.readReg
  repeat' (first | with_reducible rfl | (simp; done) | (simp_all; done) | (apply foldl_keep_pending; intros) | split | dsimp only)

@[simp] theorem State.navStore_pending (s : State) (slot : Nat) : (State.navStore s slot).pending = s.pending := by
  unfold State.navStore
  split
  · rfl
  · extract_lets code sideB ant all n own r first vis w r2 had offers _ e s1
    have h1 : s1.pending = s.pending := by simp only [s1, State.raise_pending]
    clear_value s1
    repeat' (first | rfl | exact h1 | (simp [h1]; done) | split | extract_lets)

@[simp] theorem State.classSamples_pending (s : State) (cls : RefClass) : (State.classSamples s cls).pending = s.pending := by
  unfold State.classSamples
  repeat' (first | with_reducible rfl | (simp; done) | (simp_all; done) | (apply foldl_keep_pending; intros) | split | dsimp only)

@[simp] theorem State.classGroup_pending (s : State) (cls : RefClass) : (State.classGroup s cls).pending = s.pending := by
  unfold State.classGroup
  repeat' (first | with_reducible rfl | (simp; done) | (simp_all; done) | (apply foldl_keep_pending; intros) | split | dsimp only)

@[simp] theorem State.followTarget_pending (s : State) : (State.followTarget s).pending = s.pending := by
  unfold State.followTarget
  repeat' (first | with_reducible rfl | (simp; done) | (simp_all; done) | (apply foldl_keep_pending; intros) | split | dsimp only)

@[simp] theorem State.referenceTests_pending (s : State) : (State.referenceTests s).pending = s.pending := by
  unfold State.referenceTests
  repeat' (first | with_reducible rfl | (simp; done) | (simp_all; done) | (apply foldl_keep_pending; intros) | split | dsimp only)

@[simp] theorem State.estimateUpdate_pending (s : State) (f : ProbFlags) (w : List Int) : (State.estimateUpdate s f w).pending = s.pending := by
  unfold State.estimateUpdate
  repeat' (first | with_reducible rfl | (simp; done) | (simp_all; done) | (apply foldl_keep_pending; intros) | split | dsimp only)

@[simp] theorem State.covarianceUpdate_pending (s : State) (f : ProbFlags) (res : List Int) : (State.covarianceUpdate s f res).pending = s.pending := by
  unfold State.covarianceUpdate
  repeat' (first | with_reducible rfl | (simp; done) | (simp_all; done) | (apply foldl_keep_pending; intros) | split | dsimp only)

@[simp] theorem State.stageOutputs_pending (s : State) : (State.stageOutputs s).pending = s.pending := rfl

@[simp] theorem State.sendSignature_pending (s : State) (r : PubRec) : (State.sendSignature s r).pending = s.pending := rfl

@[simp] theorem State.publish_pending (s : State) : (State.publish s).pending = s.pending := rfl

@[simp] theorem applied_pending (s : State) : (applied s).1.pending = s.pending := rfl

@[simp] theorem refusedCmd_pending (s : State) : (refusedCmd s).1.pending = s.pending := rfl

@[simp] theorem State.countRegion_pending (s : State) (n : Nat) : (State.countRegion s n).pending = s.pending := rfl

@[simp] theorem State.countSetpoint_pending (s : State) : (State.countSetpoint s).pending = s.pending := rfl

@[simp] theorem State.countGain_pending (s : State) (n : Nat) : (State.countGain s n).pending = s.pending := rfl

@[simp] theorem State.estCtrl_pending (s : State) (k : Nat) (w : Word) : (State.estCtrl s k w).pending = s.pending := rfl

@[simp] theorem State.bind_pending (s : State) (k : Nat) (track : BitVec 12) (gen : Half) (slot : BitVec 4) : (State.bind s k track gen slot).1.pending = s.pending := by
  unfold State.bind
  repeat' (first | with_reducible rfl | (simp; done) | (simp_all; done) | (apply foldl_keep_pending; intros) | split | dsimp only)

@[simp] theorem State.unbind_pending (s : State) (k : Nat) : (State.unbind s k).1.pending = s.pending := rfl

@[simp] theorem State.setTargetSlot_pending (s : State) (k : Nat) (slot : BitVec 4) : (State.setTargetSlot s k slot).pending = s.pending := rfl

@[simp] theorem State.calCommand_pending (s : State) (sensors : Byte) (c : CalCmd) : (State.calCommand s sensors c).1.pending = s.pending := by
  unfold State.calCommand
  repeat' (first | with_reducible rfl | (simp; done) | (simp_all; done) | (apply foldl_keep_pending; intros) | split | dsimp only)

@[simp] theorem State.refuseDevice_pending (s : State) : (State.refuseDevice s).1.pending = s.pending := rfl

@[simp] theorem State.deviceOut_pending (s : State) (k : Nat) : (State.deviceOut s k).1.pending = s.pending := by
  unfold State.deviceOut
  repeat' (first | with_reducible rfl | (simp; done) | (simp_all; done) | (apply foldl_keep_pending; intros) | split | dsimp only)

@[simp] theorem State.deviceIn_pending (s : State) (k : Nat) : (State.deviceIn s k).1.pending = s.pending := by
  unfold State.deviceIn
  repeat' (first | with_reducible rfl | (simp; done) | (simp_all; done) | (apply foldl_keep_pending; intros) | split | dsimp only)

@[simp] theorem State.deviceUnlock_pending (s : State) (k : Nat) : (State.deviceUnlock s k).1.pending = s.pending := by
  unfold State.deviceUnlock
  repeat' (first | with_reducible rfl | (simp; done) | (simp_all; done) | (apply foldl_keep_pending; intros) | split | dsimp only)

@[simp] theorem State.deviceCtrl_pending (s : State) (k : Nat) (w : Word) : (State.deviceCtrl s k w).1.pending = s.pending := by
  unfold State.deviceCtrl
  repeat' (first | with_reducible rfl | (simp; done) | (simp_all; done) | (apply foldl_keep_pending; intros) | split | dsimp only)

@[simp] theorem State.sectorWrite_pending (s : State) (k : Nat) (mask : BitVec 4) : (State.sectorWrite s k mask).1.pending = s.pending := by
  unfold State.sectorWrite
  repeat' (first | with_reducible rfl | (simp; done) | (simp_all; done) | (apply foldl_keep_pending; intros) | split | dsimp only)

@[simp] theorem State.overrideWrite_pending (s : State) (variant : BitVec 12) (enable : Bool) : (State.overrideWrite s variant enable).1.pending = s.pending := by
  unfold State.overrideWrite
  repeat' (first | with_reducible rfl | (simp; done) | (simp_all; done) | (apply foldl_keep_pending; intros) | split | dsimp only)

@[simp] theorem State.modeRequest_pending (s : State) (mode : Nat) (session : Word) : (State.modeRequest s mode session).1.pending = s.pending := by
  unfold State.modeRequest
  repeat' (first | with_reducible rfl | (simp; done) | (simp_all; done) | (apply foldl_keep_pending; intros) | split | dsimp only)

@[simp] theorem State.setpointGo_pending (s : State) (goPos goPsi : Bool) (turn : Nat) : (State.setpointGo s goPos goPsi turn).1.pending = s.pending := by
  unfold State.setpointGo
  repeat' (first | with_reducible rfl | (simp; done) | (simp_all; done) | (apply foldl_keep_pending; intros) | split | dsimp only)

@[simp] theorem State.setPoint_pending (s : State) (north east : Int) (heading : Word) (goPos goPsi : Bool) (turn : Nat) : (State.setPoint s north east heading goPos goPsi turn).1.pending = s.pending := by
  unfold State.setPoint
  repeat' (first | with_reducible rfl | (simp; done) | (simp_all; done) | (apply foldl_keep_pending; intros) | split | dsimp only)

@[simp] theorem State.setTarget_pending (s : State) (k : BitVec 3) : (State.setTarget s k).1.pending = s.pending := rfl

@[simp] theorem State.winchWrite_pending (s : State) (w mode : Nat) (session : Word) : (State.winchWrite s w mode session).1.pending = s.pending := by
  unfold State.winchWrite
  repeat' (first | with_reducible rfl | (simp; done) | (simp_all; done) | (apply foldl_keep_pending; intros) | split | dsimp only)

@[simp] theorem State.stabWrite_pending (s : State) (k : Nat) (enable : Bool) : (State.stabWrite s k enable).1.pending = s.pending := by
  unfold State.stabWrite
  repeat' (first | with_reducible rfl | (simp; done) | (simp_all; done) | (apply foldl_keep_pending; intros) | split | dsimp only)

@[simp] theorem State.coefsNow_pending (s : State) (k : Nat) (session : Word) : (State.coefsNow s k session).1.pending = s.pending := by
  unfold State.coefsNow
  repeat' (first | with_reducible rfl | (simp; done) | (simp_all; done) | (apply foldl_keep_pending; intros) | split | dsimp only)

@[simp] theorem State.coefWrite_pending (s : State) (k ofs : Nat) (w session : Word) : (State.coefWrite s k ofs w session).1.pending = s.pending := by
  unfold State.coefWrite
  repeat' (first | with_reducible rfl | (simp; done) | (simp_all; done) | (apply foldl_keep_pending; intros) | split | dsimp only)

@[simp] theorem State.pairWrite_pending (s : State) (sel session addr w : Word) : (State.pairWrite s sel session addr w).1.pending = s.pending := by
  unfold State.pairWrite
  generalize addr.toNat / 65536 = b
  generalize addr.toNat % 65536 = ofs
  dsimp only
  split
  all_goals (repeat' (first | rfl | (simp [applied]; done) | split))

@[simp] theorem State.ignoredIf_pending (s : State) (refused : Bool) (block : Nat) : (State.ignoredIf s refused block).pending = s.pending := by
  unfold State.ignoredIf
  repeat' (first | with_reducible rfl | (simp; done) | (simp_all; done) | (apply foldl_keep_pending; intros) | split | dsimp only)

@[simp] theorem State.writeSel_pending (s : State) (who : Who) (block : Nat) (w : Word) : (State.writeSel s who block w).pending = s.pending := by
  unfold State.writeSel
  repeat' (first | with_reducible rfl | (simp; done) | (simp_all; done) | (apply foldl_keep_pending; intros) | split | dsimp only)

@[simp] theorem State.forceActive_pending (s : State) (who : Who) (c : Nat) : (State.forceActive s who c).pending = s.pending := by
  unfold State.forceActive
  repeat' (first | with_reducible rfl | (simp; done) | (simp_all; done) | (apply foldl_keep_pending; intros) | split | dsimp only)

@[simp] theorem State.recoverBus_pending (s : State) (c : Nat) : (State.recoverBus s c).pending = s.pending := by
  unfold State.recoverBus
  repeat' (first | with_reducible rfl | (simp; done) | (simp_all; done) | (apply foldl_keep_pending; intros) | split | dsimp only)

@[simp] theorem State.windowWrite_pending (s : State) (c copy w : Nat) (v : Word) : (State.windowWrite s c copy w v).pending = s.pending := by
  unfold State.windowWrite
  repeat' (first | with_reducible rfl | (simp; done) | (simp_all; done) | (apply foldl_keep_pending; intros) | split | dsimp only)

@[simp] theorem State.winSwitch_pending (s : State) (mask : Half) : (State.winSwitch s mask).pending = s.pending := rfl

@[simp] theorem State.resetRing_pending (s : State) (r : Nat) : (State.resetRing s r).pending = s.pending := by
  unfold State.resetRing
  repeat' (first | with_reducible rfl | (simp; done) | (simp_all; done) | (apply foldl_keep_pending; intros) | split | dsimp only)

@[simp] theorem State.padRelease_pending (s : State) (who : Who) (mask : Nat) : (State.padRelease s who mask).pending = s.pending := by
  unfold State.padRelease
  repeat' (first | with_reducible rfl | (simp; done) | (simp_all; done) | (apply foldl_keep_pending; intros) | split | dsimp only)

@[simp] theorem State.stageWriteSel_pending (s : State) (who : Who) (addr w sel : Word) : (State.stageWriteSel s who addr w sel).pending = s.pending := rfl

@[simp] theorem State.stageWrite_pending (s : State) (who : Who) (addr w : Word) : (State.stageWrite s who addr w).pending = s.pending := rfl

theorem State.writeEngines_pending {s t : State} {who : Who} {b ofs : Nat} {w : Word} (h : s.writeEngines who b ofs w = some t) :
    t.pending = s.pending := by
  unfold State.writeEngines at h
  extract_lets at h
  repeat' split at h
  all_goals first | contradiction | (obtain rfl := Option.some.inj h; first | rfl | (simp; done))

theorem State.writeBuses_pending {s t : State} {who : Who} {b ofs : Nat} {w : Word} (h : s.writeBuses who b ofs w = some t) :
    t.pending = s.pending := by
  unfold State.writeBuses at h
  extract_lets at h
  repeat' (first | split at h | extract_lets at h)
  all_goals first | contradiction | (obtain rfl := Option.some.inj h; first | rfl | (simp; done) | (simp +zetaDelta [apply_ite State.pending]; done))

theorem State.writeService_pending {s t : State} {who : Who} {b ofs : Nat} {w : Word} (h : s.writeService who b ofs w = some t) :
    t.pending = s.pending := by
  unfold State.writeService at h
  repeat' (first | split at h | extract_lets at h)
  all_goals first | contradiction | (obtain rfl := Option.some.inj h; first | rfl | (simp; done))

theorem State.directWrite_pending {s t : State} {who : Who} {addr w : Word} (h : s.directWrite who addr w = some t) : t.pending = s.pending := by
  unfold State.directWrite at h
  extract_lets at h
  repeat' split at h
  · obtain rfl := Option.some.inj h
    simp
  · exact State.writeEngines_pending h
  · exact State.writeBuses_pending h
  · exact State.writeService_pending h

@[simp] theorem State.writeReg_pending (s0 : State) (who : Who) (addr w : Word) : (State.writeReg s0 who addr w).pending = s0.pending := by
  unfold State.writeReg
  extract_lets b ofs s1 s2
  split
  · simp
  · have h1 : s1.pending = s0.pending := by simp [s1]
    have h2 : s2.pending = s0.pending := by simp [s2, h1]
    clear_value s1 s2
    split
    · split
      · cases h : s2.directWrite who addr w with
        | none => exact h2
        | some t => exact (State.directWrite_pending h).trans h2
      · exact h2
    · split
      · next t h => exact (State.directWrite_pending h).trans h1
      · exact h1

@[simp] theorem State.closeGate_pending (s : State) (was : Bool) : (State.closeGate s was).pending = s.pending := by
  unfold State.closeGate
  repeat' (first | with_reducible rfl | (simp; done) | (simp_all; done) | (apply foldl_keep_pending; intros) | split | dsimp only)

@[simp] theorem State.revertChanges_pending (s : State) (kind : ResetKind) : (State.revertChanges s kind).pending = s.pending := rfl

@[simp] theorem State.beatRestart_pending (s : State) (counted : Bool) : (State.beatRestart s counted).pending = s.pending := by
  unfold State.beatRestart
  repeat' (first | with_reducible rfl | (simp; done) | (simp_all; done) | (apply foldl_keep_pending; intros) | split | dsimp only)

@[simp] theorem State.imageReset_pending (s : State) (cause : ResetCause) (session : Word) : (State.imageReset s cause session).pending = s.pending := by
  unfold State.imageReset
  repeat' (first | with_reducible rfl | (simp; done) | (simp_all; done) | (apply foldl_keep_pending; intros) | split | dsimp only)

@[simp] theorem State.coldReset_pending (s : State) (cocoon : Bool) : (State.coldReset s cocoon).pending = s.pending := by
  unfold State.coldReset
  repeat' (first | with_reducible rfl | (simp; done) | (simp_all; done) | (apply foldl_keep_pending; intros) | split | dsimp only)

@[simp] theorem State.takeRings_pending (s : State) (edge : Nat) (beat : Word) : (State.takeRings s edge beat).1.pending = s.pending := by
  unfold State.takeRings
  refine (foldl_keep1_pending _ _ (s, []) ?_).trans rfl
  intro a r
  repeat' (first | rfl | split)

@[simp] theorem State.serialTx_pending (s : State) (beat : Word) : (State.serialTx s beat).pending = s.pending := by
  unfold State.serialTx
  apply foldl_keep_pending
  intros
  all_goals (repeat (first | with_reducible rfl | (simp; done) | split | dsimp only))

@[simp] theorem State.latchGnss_pending (s : State) (edge : Nat) (trackOnly : Bool) : (State.latchGnss s edge trackOnly).pending = s.pending := by
  unfold State.latchGnss
  apply foldl_keep_pending
  intros
  all_goals (repeat (first | with_reducible rfl | (simp; done) | split | dsimp only))

@[simp] theorem State.streamEdge_pending (s : State) (boundary : Bool) (i : StreamIn) : (State.streamEdge s boundary i).pending = s.pending := by
  unfold State.streamEdge
  repeat' (first | with_reducible rfl | (simp; done) | (simp_all; done) | (apply foldl_keep_pending; intros) | split | dsimp only)

@[simp] theorem State.gnsEdge_pending (s : State) (inp : EdgeIn) (n : Nat) : (State.gnsEdge s inp n).pending = s.pending := by
  unfold State.gnsEdge
  repeat' (first | with_reducible rfl | (simp; done) | (simp_all; done) | (apply foldl_keep_pending; intros) | split | dsimp only)

@[simp] theorem State.sendToken_pending (s : State) : (State.sendToken s).pending = s.pending := by
  unfold State.sendToken
  repeat' (first | with_reducible rfl | (simp; done) | (simp_all; done) | (apply foldl_keep_pending; intros) | split | dsimp only)

@[simp] theorem State.commonEdge_pending (s : State) (inp : EdgeIn) (n : Nat) : (State.commonEdge s inp n).pending = s.pending := by
  unfold State.commonEdge
  repeat' (first | with_reducible rfl | (simp; done) | (simp_all; done) | (apply foldl_keep_pending; intros) | split | dsimp only)

@[simp] theorem State.restartEdge_pending (s : State) (inp : EdgeIn) : (State.restartEdge s inp).pending = s.pending := by
  unfold State.restartEdge
  repeat' (first | with_reducible rfl | (simp; done) | (simp_all; done) | (apply foldl_keep_pending; intros) | split | dsimp only)

@[simp] theorem State.liveEdge_pending (s : State) (inp : EdgeIn) : (State.liveEdge s inp).pending = s.pending := by
  unfold State.liveEdge
  repeat' (first | with_reducible rfl | (simp; done) | (simp_all; done) | (apply foldl_keep_pending; intros) | split | dsimp only)

@[simp] theorem State.takeCommand_pending (s : State) (c : HostCmd) (dropped : Bool) : (State.takeCommand s c dropped).pending = s.pending := by
  unfold State.takeCommand
  repeat' (first | with_reducible rfl | (simp; done) | (simp_all; done) | (apply foldl_keep_pending; intros) | split | dsimp only)

@[simp] theorem State.commitStaged_pending (s : State) (sel addr w : Word) : (State.commitStaged s sel addr w).pending = s.pending := by
  show ((s.pairWrite sel 0 addr w).1).pending = s.pending
  simp

@[simp] theorem State.takeStaged_pending (s : State) (i : Item) (dropped : Bool) : (State.takeStaged s i dropped).pending = s.pending := by
  unfold State.takeStaged
  repeat' (first | with_reducible rfl | (simp; done) | (simp_all; done) | (apply foldl_keep_pending; intros) | split | dsimp only)

@[simp] theorem State.takeRingFrame_pending (s : State) (i : Item) : (State.takeRingFrame s i).pending = s.pending := by
  unfold State.takeRingFrame
  repeat' (first | with_reducible rfl | (simp; done) | (simp_all; done) | (apply foldl_keep_pending; intros) | split | dsimp only)

@[simp] theorem State.takeItem_pending (dropped : List Item) (s : State) (i : Item) : (State.takeItem dropped s i).pending = s.pending := by
  unfold State.takeItem
  repeat' (first | with_reducible rfl | (simp; done) | (simp_all; done) | (apply foldl_keep_pending; intros) | split | dsimp only)

@[simp] theorem State.formUnion_pending (s : State) : (State.formUnion s).pending = s.pending := by
  unfold State.formUnion
  split
  · rfl
  · extract_lets
    rw [foldl_keep_pending _ _ _ (fun a x => by simp)]
    simp +zetaDelta only [State.raise_pending]

@[simp] theorem State.loopback_pending (s : State) (readings : List (BitVec 7 × Int)) : (State.loopback s readings).pending = s.pending := by
  unfold State.loopback
  repeat' (first | with_reducible rfl | (simp; done) | (simp_all; done) | (apply foldl_keep_pending; intros) | split | dsimp only)

@[simp] theorem State.powerUp_pending (s : State) : (State.powerUp s).pending = s.pending := by
  unfold State.powerUp
  repeat' (first | with_reducible rfl | (simp; done) | (simp_all; done) | (apply foldl_keep_pending; intros) | split | dsimp only)

@[simp] theorem State.answerEnd_pending (s : State) (a : Option (BitVec 8 × Word × Half × Word)) : (State.answerEnd s a).pending = s.pending := by
  unfold State.answerEnd
  repeat' (first | with_reducible rfl | (simp; done) | (simp_all; done) | (apply foldl_keep_pending; intros) | split | dsimp only)

@[simp] theorem State.installTables_pending (s : State) (x : Schedule) : (State.installTables s x).pending = s.pending := by
  unfold State.installTables
  extract_lets entries _ _ _ _ _ _ s1
  split
  · rfl
  · simp only [State.raise_pending]
    rfl

@[simp] theorem State.keepOwn_pending (t s : State) : (State.keepOwn t s).pending = t.pending := rfl

@[simp] theorem State.applySwitch_pending (s : State) : (State.applySwitch s).pending = s.pending := by
  unfold State.applySwitch
  split
  · rfl
  · extract_lets sig a b j p
    have ha : a.pending = s.pending := by
      simp only [a]
      repeat' (first | rfl | (simp; done) | split)
    simp [b, ha]

@[simp] theorem State.powerOn_pending (s : State) (cocoon : Bool) (straps : BitVec 4) (sideB : Bool) (badCopies : BitVec 2) : (State.powerOn s cocoon straps sideB badCopies).pending = s.pending := by
  unfold State.powerOn
  repeat' (first | with_reducible rfl | (simp; done) | (simp_all; done) | (apply foldl_keep_pending; intros) | split | dsimp only)

@[simp] theorem State.useTime_pending (s : State) (c : Option TimeCfg) : (State.useTime s c).pending = s.pending := by
  unfold State.useTime
  repeat' (first | with_reducible rfl | (simp; done) | (simp_all; done) | (apply foldl_keep_pending; intros) | split | dsimp only)

@[simp] theorem State.failImage_pending (s : State) (isB : Bool) (code : Nat) (idx : Word) : (State.failImage s isB code idx).pending = s.pending := by
  unfold State.failImage
  repeat' (first | with_reducible rfl | (simp; done) | (simp_all; done) | (apply foldl_keep_pending; intros) | split | dsimp only)

@[simp] theorem State.startRates_pending (s : State) : (State.startRates s).pending = s.pending := by
  unfold State.startRates
  repeat' (first | with_reducible rfl | (simp; done) | (simp_all; done) | (apply foldl_keep_pending; intros) | split | dsimp only)

@[simp] theorem State.acceptImage_pending (s : State) (img : ImageDesc) (us : Word) : (State.acceptImage s img us).pending = s.pending := by
  unfold State.acceptImage
  repeat' (first | with_reducible rfl | (simp; done) | (simp_all; done) | (apply foldl_keep_pending; intros) | split | dsimp only)

@[simp] theorem State.applySaf_pending (s : State) (r : SafR) : (State.applySaf s r).pending = s.pending := by
  unfold State.applySaf
  repeat' (first | with_reducible rfl | (simp; done) | (simp_all; done) | (apply foldl_keep_pending; intros) | split | dsimp only)

@[simp] theorem State.deliverSchedule_pending (s : State) (x : Schedule) : (State.deliverSchedule s x).pending = s.pending := rfl

@[simp] theorem State.deliverSections_pending (s : State) (img : ImageDesc) (x : Schedule) : (State.deliverSections s img x).pending = s.pending := by
  unfold State.deliverSections
  repeat' (first | with_reducible rfl | (simp; done) | (simp_all; done) | (apply foldl_keep_pending; intros) | split | dsimp only)

@[simp] theorem State.leaveListen_pending (s : State) : (State.leaveListen s).pending = s.pending := by
  unfold State.leaveListen
  repeat' (first | with_reducible rfl | (simp; done) | (simp_all; done) | (apply foldl_keep_pending; intros) | split | dsimp only)

@[simp] theorem State.cocoonWoken_pending (s : State) : (State.cocoonWoken s).pending = s.pending := by
  unfold State.cocoonWoken
  repeat' (first | with_reducible rfl | (simp; done) | (simp_all; done) | (apply foldl_keep_pending; intros) | split | dsimp only)

@[simp] theorem State.reach_pending (s : State) (t : Nat) : (State.reach s t).pending = s.pending := rfl

@[simp] theorem State.ptpPort_pending (s : State) (k : Nat) (state : Byte) : (State.ptpPort s k state).pending = s.pending := by
  unfold State.ptpPort
  repeat' (first | with_reducible rfl | (simp; done) | (simp_all; done) | (apply foldl_keep_pending; intros) | split | dsimp only)

@[simp] theorem State.ppsFault_pending (s : State) (interval : Word) (present : Bool) : (State.ppsFault s interval present).pending = s.pending := by
  unfold State.ppsFault
  repeat' (first | with_reducible rfl | (simp; done) | (simp_all; done) | (apply foldl_keep_pending; intros) | split | dsimp only)

@[simp] theorem State.shift_pending (s : State) (k : Int) : (State.shift s k).pending = s.pending := rfl

@[simp] theorem State.alarmDue_pending (s : State) : (State.alarmDue s).pending = s.pending := by
  unfold State.alarmDue
  repeat' (first | with_reducible rfl | (simp; done) | (simp_all; done) | (apply foldl_keep_pending; intros) | split | dsimp only)

@[simp] theorem State.withCnd_pending (s : State) (r : CndSt × List Ev) : (State.withCnd s r).pending = s.pending := by
  unfold State.withCnd
  repeat' (first | with_reducible rfl | (simp; done) | (simp_all; done) | (apply foldl_keep_pending; intros) | split | dsimp only)

@[simp] theorem State.gnsCh_pending (s : State) (c : Nat) (f : GnsTable → SignalDef → GnsCh → State) (h_f : ∀ x0 x1 x2, (f x0 x1 x2).pending = s.pending) : (State.gnsCh s c f).pending = s.pending := by
  unfold State.gnsCh
  repeat' (first | with_reducible rfl | (simp; done) | (simp_all; done) | (apply foldl_keep_pending; intros) | split | dsimp only)

@[simp] theorem State.research_pending (s : State) (c : Nat) : (State.research s c).pending = s.pending := rfl

@[simp] theorem State.noPeak_pending (s : State) (c : Nat) : (State.noPeak s c).pending = s.pending := by
  unfold State.noPeak
  repeat' (first | with_reducible rfl | (simp; done) | (simp_all; done) | (apply foldl_keep_pending; intros) | split | dsimp only)

@[simp] theorem State.burstChannels_pending (s : State) : (State.burstChannels s).pending = s.pending := by
  unfold State.burstChannels
  apply foldl_keep_pending
  intro a c
  repeat' (first | rfl | (simp; done) | split)

@[simp] theorem State.sampleBy_pending (s : State) (model : Option ModelEntry) (source : Half) (stamp : Int) (t : Nat) : (State.sampleBy s model source stamp t).1.pending = s.pending := by
  unfold State.sampleBy
  repeat' (first | with_reducible rfl | (simp; done) | (simp_all; done) | (apply foldl_keep_pending; intros) | split | dsimp only)

@[simp] theorem State.modelSample_pending (s : State) (source : Half) (stamp : Int) (t : Nat) : (State.modelSample s source stamp t).1.pending = s.pending := by
  unfold State.modelSample
  repeat' (first | with_reducible rfl | (simp; done) | (simp_all; done) | (apply foldl_keep_pending; intros) | split | dsimp only)

@[simp] theorem State.withLun_pending (s : State) (r : LunSt × List Ev) : (State.withLun s r).pending = s.pending := by
  unfold State.withLun
  repeat' (first | with_reducible rfl | (simp; done) | (simp_all; done) | (apply foldl_keep_pending; intros) | split | dsimp only)

@[simp] theorem State.cameraFrame_pending (s : State) (port : BitVec 2) (vc dataType : Byte) (f : CameraCfg → State) (h_f : ∀ x0, (f x0).pending = s.pending) : (State.cameraFrame s port vc dataType f).pending = s.pending := by
  unfold State.cameraFrame
  repeat' (first | with_reducible rfl | (simp; done) | (simp_all; done) | (apply foldl_keep_pending; intros) | split | dsimp only)

@[simp] theorem State.accessed_pending (s : State) (who : Who) (block ofs : Nat) : (State.accessed s who block ofs).pending = s.pending := rfl

@[simp] theorem State.withOut_pending (s : State) (r : OutBlk × List Ev) : (State.withOut s r).pending = s.pending := by
  unfold State.withOut
  repeat' (first | with_reducible rfl | (simp; done) | (simp_all; done) | (apply foldl_keep_pending; intros) | split | dsimp only)

@[simp] theorem State.withFbu_pending (s : State) (r : FbuSt × List Ev) : (State.withFbu s r).pending = s.pending := by
  unfold State.withFbu
  repeat' (first | with_reducible rfl | (simp; done) | (simp_all; done) | (apply foldl_keep_pending; intros) | split | dsimp only)

@[simp] theorem State.takeReference_pending (s : State) (ch : Nat) (fr : CanFrame) (t : Nat) : (State.takeReference s ch fr t).pending = s.pending := by
  unfold State.takeReference
  repeat' (first | with_reducible rfl | (simp; done) | (simp_all; done) | (apply foldl_keep_pending; intros) | split | dsimp only)

@[simp] theorem State.takeFrame_pending (s0 : State) (ch : Nat) (g : ChanCfg) (fr : CanFrame) (t : Nat) : (State.takeFrame s0 ch g fr t).pending = s0.pending := by
  unfold State.takeFrame
  repeat' (first | with_reducible rfl | (simp; done) | (simp_all; done) | (apply foldl_keep_pending; intros) | split | dsimp only)

@[simp] theorem State.canFrame_pending (s : State) (ch : Nat) (fr : CanFrame) (t : Nat) : (State.canFrame s ch fr t).pending = s.pending := by
  unfold State.canFrame
  repeat' (first | with_reducible rfl | (simp; done) | (simp_all; done) | (apply foldl_keep_pending; intros) | split | dsimp only)

@[simp] theorem State.nextInWindow_pending (s : State) (ch : Nat) (g : ChanCfg) : (State.nextInWindow s ch g).pending = s.pending := by
  unfold State.nextInWindow
  repeat' (first | with_reducible rfl | (simp; done) | (simp_all; done) | (apply foldl_keep_pending; intros) | split | dsimp only)

@[simp] theorem State.busChan_pending (s : State) (ch : Nat) (f : ChanCfg → State) (h_f : ∀ x0, (f x0).pending = s.pending) : (State.busChan s ch f).pending = s.pending := by
  unfold State.busChan
  repeat' (first | with_reducible rfl | (simp; done) | (simp_all; done) | (apply foldl_keep_pending; intros) | split | dsimp only)

@[simp] theorem State.sentenceInstant_pending (s : State) (e : SentCfg) (source : Half) (text : List Byte) (tag : Option Nat) (t : Nat) : (State.sentenceInstant s e source text tag t).1.pending = s.pending := by
  unfold State.sentenceInstant
  repeat' (first | with_reducible rfl | (simp; done) | (simp_all; done) | (apply foldl_keep_pending; intros) | split | dsimp only)

@[simp] theorem State.takeSentence_pending (s : State) (port k : Nat) (e : SentCfg) (text : List Byte) (tag : Option Nat) (t : Nat) : (State.takeSentence s port k e text tag t).pending = s.pending := by
  unfold State.takeSentence
  repeat' (first | with_reducible rfl | (simp; done) | (simp_all; done) | (apply foldl_keep_pending; intros) | split | dsimp only)

@[simp] theorem State.ethLine_pending (port : Nat) (group : Word) (udp : Half) (t : Nat) (s : State) (line : List Byte) : (State.ethLine port group udp t s line).pending = s.pending := by
  unfold State.ethLine
  repeat' (first | with_reducible rfl | (simp; done) | (simp_all; done) | (apply foldl_keep_pending; intros) | split | dsimp only)

@[simp] theorem State.refuseStarting_pending (s : State) : (State.refuseStarting s).pending = s.pending := rfl

@[simp] theorem State.closeSession_pending (s : State) (k cause : Nat) : (State.closeSession s k cause).pending = s.pending := by
  unfold State.closeSession
  repeat' (first | with_reducible rfl | (simp; done) | (simp_all; done) | (apply foldl_keep_pending; intros) | split | dsimp only)

@[simp] theorem State.judgeRegion_pending (s : State) (k : Nat) (region : Half) (ps : List RegionPart) : (State.judgeRegion s k region ps).pending = s.pending := by
  unfold State.judgeRegion
  repeat' (first | with_reducible rfl | (simp; done) | (simp_all; done) | (apply foldl_keep_pending; intros) | split | dsimp only)

@[simp] theorem State.regionPart_pending (s : State) (ref : HostRef) (region : Half) (p : RegionPart) (lastPart : Bool) : (State.regionPart s ref region p lastPart).pending = s.pending := by
  unfold State.regionPart
  repeat' (first | with_reducible rfl | (simp; done) | (simp_all; done) | (apply foldl_keep_pending; intros) | split | dsimp only)

@[simp] theorem State.unionWrite_pending (s : State) (ref : HostRef) (own : Bool) (p : Word × Word) : (State.unionWrite s ref own p).1.pending = s.pending := by
  unfold State.unionWrite
  extract_lets who b sel here r
  have hr : r.1.pending = s.pending := by simp [r]
  repeat' (first | rfl | exact hr | (simp [applied, hr]; done) | split)

theorem State.unionWrites_pending (s : State) (ref : HostRef) (own : Bool) (l : List (Word × Word)) :
    (s.unionWrites ref own l).1.pending = s.pending := by
  induction l generalizing s with
  | nil => rfl
  | cons p l ih =>
    unfold State.unionWrites
    dsimp only
    split
    · rw [ih, State.unionWrite_pending]
    · rfl

@[simp] theorem State.writePairs_pending (s : State) (ref : HostRef) (own : Bool) (l : List (Word × Word)) : (State.writePairs s ref own l).1.pending = s.pending := by
  unfold State.writePairs
  split
  · next h => simpa [h, applied] using State.unionWrites_pending s ref own l
  · extract_lets r
    have hr : r.1.pending = s.pending := by simp [r]
    split
    · rfl
    · exact hr

@[simp] theorem State.startNvm_pending (s : State) (h : HostRef) (op : Half) (ok : Bool) (chip : Byte) (address : Word) (n : Nat) : (State.startNvm s h op ok chip address n).pending = s.pending := by
  unfold State.startNvm
  repeat' (first | with_reducible rfl | (simp; done) | (simp_all; done) | (apply foldl_keep_pending; intros) | split | dsimp only)

@[simp] theorem State.withOtp_pending (s : State) (f : OtpSt → OtpSt) : (State.withOtp s f).pending = s.pending := rfl

@[simp] theorem State.withPai_pending (s : State) (r : PaiR) : (State.withPai s r).pending = s.pending := by
  unfold State.withPai
  repeat' (first | with_reducible rfl | (simp; done) | (simp_all; done) | (apply foldl_keep_pending; intros) | split | dsimp only)

@[simp] theorem State.partnerLost_pending (s : State) (r : PaiR) : (State.partnerLost s r).pending = s.pending := by
  unfold State.partnerLost
  repeat' (first | with_reducible rfl | (simp; done) | (simp_all; done) | (apply foldl_keep_pending; intros) | split | dsimp only)

@[simp] theorem State.linkFrame_pending (s : State) (h : LinkHdr) (f : State → State) (h_f : ∀ x0, (f x0).pending = x0.pending) : (State.linkFrame s h f).pending = s.pending := by
  unfold State.linkFrame
  repeat' (first | with_reducible rfl | (simp; done) | (simp_all; done) | (apply foldl_keep_pending; intros) | split | dsimp only)

@[simp] theorem State.refusePair_pending (s : State) : (State.refusePair s).1.pending = s.pending := rfl

@[simp] theorem State.onIsland_pending (s : State) (f : SafSt → SafR) : (State.onIsland s f).pending = s.pending := by
  unfold State.onIsland
  repeat' (first | with_reducible rfl | (simp; done) | (simp_all; done) | (apply foldl_keep_pending; intros) | split | dsimp only)

@[simp] theorem State.diagnose_pending (s : State) (f : SafSt → SafR) : (State.diagnose s f).pending = s.pending := by
  unfold State.diagnose
  repeat' (first | with_reducible rfl | (simp; done) | (simp_all; done) | (apply foldl_keep_pending; intros) | split | dsimp only)

@[simp] theorem State.discardLocal_pending (s : State) (d : Nat) : (State.discardLocal s d).pending = s.pending := by
  unfold State.discardLocal
  repeat' (first | with_reducible rfl | (simp; done) | (simp_all; done) | (apply foldl_keep_pending; intros) | split | dsimp only)

@[simp] theorem State.powerOrder_pending (s : State) (op : Nat) (flags address : Byte) (alarm : Long) (f : WakeCfg → PwrSt → PwrR) : (State.powerOrder s op flags address alarm f).1.pending = s.pending := by
  unfold State.powerOrder
  repeat' (first | with_reducible rfl | (simp; done) | (simp_all; done) | (apply foldl_keep_pending; intros) | split | dsimp only)

@[simp] theorem State.enterWatch_pending (s : State) : (State.enterWatch s).pending = s.pending := by
  unfold State.enterWatch
  repeat' (first | with_reducible rfl | (simp; done) | (simp_all; done) | (apply foldl_keep_pending; intros) | split | dsimp only)

@[simp] theorem State.enterRun_pending (s : State) : (State.enterRun s).pending = s.pending := by
  unfold State.enterRun
  repeat' (first | with_reducible rfl | (simp; done) | (simp_all; done) | (apply foldl_keep_pending; intros) | split | dsimp only)

@[simp] theorem State.roundSnapshot_pending (s : State) : (State.roundSnapshot s).pending = s.pending := rfl

@[simp] theorem State.closeSessions_pending (s : State) : (State.closeSessions s).pending = s.pending := by
  unfold State.closeSessions
  dsimp only
  exact foldl_keep_pending _ _ _ (fun x k => State.closeSession_pending x (k + 1) 3)

@[simp] theorem State.stopClocks_pending (s : State) : (State.stopClocks s).pending = s.pending := rfl

@[simp] theorem State.enterLowPower_pending (s : State) (e : PendEntry) : (State.enterLowPower s e).pending = s.pending := by
  unfold State.enterLowPower
  repeat' (first | with_reducible rfl | (simp; done) | (simp_all; done) | (apply foldl_keep_pending; intros) | split | dsimp only)

@[simp] theorem State.wake_pending (s : State) (source t : Nat) : (State.wake s source t).pending = s.pending := by
  unfold State.wake
  repeat' (first | with_reducible rfl | (simp; done) | (simp_all; done) | (apply foldl_keep_pending; intros) | split | dsimp only)

@[simp] theorem State.wakeBlocks_pending (s : State) : (State.wakeBlocks s).pending = s.pending := by
  unfold State.wakeBlocks
  extract_lets a b
  rw [State.leaveListen_pending]
  refine (foldl_keep_pending _ _ _ (fun x c => ?_)).trans rfl
  split <;> simp

@[simp] theorem State.feedAllocator_pending (s : State) (d : ProblemDesc) (data : ProblemData) : (State.feedAllocator s d data).1.pending = s.pending := by
  unfold State.feedAllocator
  repeat' (first | with_reducible rfl | (simp; done) | (simp_all; done) | (apply foldl_keep_pending; intros) | split | dsimp only)

@[simp] theorem State.withHwk_pending (s : State) (qid : Half) (r : HwkSt × List Ev) : (State.withHwk s qid r).pending = s.pending := by
  unfold State.withHwk
  repeat' (first | with_reducible rfl | (simp; done) | (simp_all; done) | (apply foldl_keep_pending; intros) | split | dsimp only)

@[simp] theorem State.loadStep_pending (s : State) (op : OpRun) (d : ProblemDesc) (data : ProblemData) : (State.loadStep s op d data).pending = s.pending := by
  unfold State.loadStep
  extract_lets slot s1 f
  have h1 : s1.pending = s.pending := by simp only [s1]; split <;> simp
  have h2 : f.1.pending = s.pending := by simp only [f]; split <;> simp [h1]
  simp [h2]

@[simp] theorem State.allocPost_pending (s : State) (d : ProblemDesc) (r : ProbResult) (z l u : List Int) : (State.allocPost s d r z l u).pending = s.pending := by
  unfold State.allocPost
  repeat' (first | with_reducible rfl | (simp; done) | (simp_all; done) | (apply foldl_keep_pending; intros) | split | dsimp only)

@[simp] theorem State.consume_pending (s : State) (slot : Nat) (d : ProblemDesc) (z l u : List Int) : (State.consume s slot d z l u).pending = s.pending := by
  unfold State.consume
  repeat' (first | with_reducible rfl | (simp; done) | (simp_all; done) | (apply foldl_keep_pending; intros) | split | dsimp only)

@[simp] theorem State.storeStep_pending (s : State) (op : OpRun) (slot : Nat) : (State.storeStep s op slot).pending = s.pending := by
  unfold State.storeStep
  repeat' (first | with_reducible rfl | (simp; done) | (simp_all; done) | (apply foldl_keep_pending; intros) | split | dsimp only)

@[simp] theorem State.slice_pending (s : State) (slot : Nat) (slices : Nat) : (State.slice s slot slices).pending = s.pending := by
  unfold State.slice
  repeat' (first | with_reducible rfl | (simp; done) | (simp_all; done) | (apply foldl_keep_pending; intros) | split | dsimp only)

@[simp] theorem State.breach_pending (s : State) (op : OpRun) (opcode : Nat) : (State.breach s op opcode).pending = s.pending := rfl

@[simp] theorem State.stopAt_pending (s : State) (op : OpRun) (slot deadline column done : Nat) : (State.stopAt s op slot deadline column done).pending = s.pending := by
  unfold State.stopAt
  repeat' (first | with_reducible rfl | (simp; done) | (simp_all; done) | (apply foldl_keep_pending; intros) | split | dsimp only)

@[simp] theorem State.runPlain_pending (s : State) (k : Nat) : (State.runPlain s k).pending = s.pending := by
  unfold State.runPlain
  repeat' (first | with_reducible rfl | (simp; done) | (simp_all; done) | (apply foldl_keep_pending; intros) | split | dsimp only)

@[simp] theorem State.runLoop_pending (s : State) (k ch : Nat) (carrier : Bool) : (State.runLoop s k ch carrier).pending = s.pending := by
  unfold State.runLoop
  repeat' (first | with_reducible rfl | (simp; done) | (simp_all; done) | (apply foldl_keep_pending; intros) | split | dsimp only)

@[simp] theorem State.runSlot_pending (s : State) (k : Nat) : (State.runSlot s k).pending = s.pending := by
  unfold State.runSlot
  repeat' (first | with_reducible rfl | (simp; done) | (simp_all; done) | (apply foldl_keep_pending; intros) | split | dsimp only)

@[simp] theorem State.ctlBegin_pending (s : State) : (State.ctlBegin s).pending = s.pending := by
  unfold State.ctlBegin
  extract_lets usable field r w _ s1
  rw [foldl_keep_pending _ _ _ (fun a x => by simp)]
  simp only [s1, State.raise_pending]

@[simp] theorem State.offerTile_pending (s : State) (source : Nat) (t : Nat × List Word × Nat) : (State.offerTile s source t).pending = s.pending := rfl

@[simp] theorem State.layers_pending (s : State) (source count : Nat) : (State.layers s source count).pending = s.pending := by
  unfold State.layers
  repeat' (first | with_reducible rfl | (simp; done) | (simp_all; done) | (apply foldl_keep_pending; intros) | split | dsimp only)

@[simp] theorem State.trackStep_pending (s : State) : (State.trackStep s).pending = s.pending := by
  unfold State.trackStep
  repeat' (first | with_reducible rfl | (simp; done) | (simp_all; done) | (apply foldl_keep_pending; intros) | split | dsimp only)

@[simp] theorem State.withSvc_pending (s : State) (r : SvcR) : (State.withSvc s r).pending = s.pending := by
  unfold State.withSvc
  repeat' (first | with_reducible rfl | (simp; done) | (simp_all; done) | (apply foldl_keep_pending; intros) | split | dsimp only)

@[simp] theorem State.withJtag_pending (s : State) (instr : BitVec 8) (dr : BitVec 136) : (State.withJtag s instr dr).pending = s.pending := rfl

@[simp] theorem State.dbgResult_pending (s : State) (read : Word) (status : BitVec 2) : (State.dbgResult s read status).pending = s.pending := rfl

end Sys2Proof.Machine
end

