-- ==== Sys2Proof/Tests/Slice0.lean ====
section
/-! SUPPORT. Tests of the model's own work: commands that the well-formedness check refuses, single steps on small states, and states that
meet the hypotheses of the statements. -/

namespace Sys2Proof.Tests

open Sys2Proof Sys2Proof.Machine

/-- A device that runs: power on, the first beat done, beat 5000 in progress. -/
def up : State :=
  { State.reset with
    img := { ImgSt.reset with powered := true, phase := .running }
    sch := { SchSt.reset with running := true }, beat := { BeatSt.reset with n := 5000, live := true } }

/-- A reference to a command of session 1. -/
def ref : HostRef := { session := 1, hostSeq := 7, reqId := 9 }

/-- The state with session 1 open in a role, 0 Observer to 3 Maintainer, and command `ref` next to be applied. -/
def opened (s : State) (role : BitVec 2) : State :=
  { s with hst := { s.hst with sessions := Tab.set SessionSt.zero [] 1 { SessionSt.zero with isOpen := true, role := role }, toApply := [ref] } }

/-- A TIME_CFG with GNSS and PTP enabled. -/
def timeCfg : TimeCfg :=
  { magic := 0x4D495458, format := 1, sources := 3, ptpPorts := 1, ptpDomain := 0, busChannel := 0, extSerial := 0, qualCount := 1, slewPpm := 100
    armWindow := 60, jumpUs := 1000, lockBandNs := 1000, ppsInDelay := 0, ppsWidthMs := 100, ppsFlags := 0, utcDefault := 37, kpLog2 := 6
    kiLog2 := 14, models := [] }

theorem test_timeCfg_ok : timeCfgOk timeCfg = true := by decide

/-- The state a command answers, reset for any other outcome. -/
def after (o : Host.Outcome State Fault Refusal) : State := match o with | .next t => t | _ => State.reset

theorem wit_BeatPhases : ∀ e : BitVec 4, up.engineReady { engine := e, pair := false, opIndex := 3, issue := 0, start := 0, stall := 0, complete := 1000 } := by decide

theorem wit_SoloUnion : ({ up with beat := { up.beat with captured := true } } : State).beat.captured = true ∧ up.pai.role = .solo := by decide

/-- The running device with TIME_CFG in force and port 0 up. -/
def timed : State :=
  { up with
    tim := { up.tim with cfg := some timeCfg, state := .free, now := 5000000000 }
    hst := { up.hst with ports := Tab.set PortSt.zero [] 0 { PortSt.zero with up := true } } }

/-- GNSS from PPS_IN, with a pulse taken. -/
def pulsed : State := { timed with tim := { timed.tim with cfg := some { timeCfg with sources := 9 }, ppsIn := 1000 } }

theorem wit_TimeSourceMessages : timed.awake = true ∧ (Tab.get PortSt.zero timed.hst.ports 0).up = true ∧ timed.ptpSlave 0 = true ∧
    parentOk 6 = true ∧ parentOk 5 = false ∧ timed.tim.state ≠ .unset ∧ timed.tim.external = false ∧ timed.tim.utcFrom.toNat ≤ 2 := by decide

theorem wit_TimeSourceMessages_pps : pulsed.awake = true ∧ pulsed.tim.external = true ∧
    pulsed.tim.cfg.any (fun c => decide (c.ppsInDelay = 0)) = true ∧ pulsed.tim.ppsIn ≠ 0 ∧ pulsed.tim.ppsIn + 1000010000 < 1000011001 := by decide

/-- A device before its first beat, with an accepted image or none. -/
def unset (img : Option ImageDesc) : State :=
  { timed with tim := { timed.tim with state := .unset }, img := { timed.img with phase := .waitTime, accepted := img } }

theorem wit_FirstSetting (img : ImageDesc) : (unset (some img)).awake = true ∧ (unset none).awake = true ∧ (unset none).tim.state = .unset ∧
    (unset none).img.phase ≠ .running ∧ (unset none).tim.qualCount = 1 ∧ (unset (some img)).img.accepted.isSome = true ∧
    ((unset (some img)).reach 8).partnerOk = false ∧ ((unset none).tim.src .gnss).state ≠ .qualified ∧
    ((unset none).tim.src .ptp).state ≠ .refused := ⟨rfl, rfl, rfl, by decide, rfl, rfl, rfl, by decide, by decide⟩

/-- A step of 1.5 ms waits under an arm: beat 5999 runs. -/
def stepping : State :=
  { timed with
    beat := { timed.beat with n := 5999 }, pub := { timed.pub with ctl := { timed.pub.ctl with mode := .standby } }
    tim := { timed.tim.setSrc .ptp { SourceSt.zero with state := .qualified, offset := some 1500000, atEdge := some (1500000, 5990) } with
      arm := some { session := 1, left := 500 }, pending := some { source := .ptp, byArm := true, age := 1 }, roundsSinceSave := 1000 } }

theorem wit_TimeStep : (opened timed 2).unionTurn ref ∧ stepping.sch.running = true ∧ stepping.beat.live = true ∧ stepping.beat.stepEdge = false ∧
    stepping.pai.role = .solo ∧ stepping.pub.ctl.mode = .standby ∧ (stepping.tim.src .ptp).atEdge = some (1500000, 5990) ∧
    (stepping.beat.n.toNat + 1) % 1000 = 0 ∧ stepping.tim.stepBeat.toNat ≤ 5990 ∧ IsRounded 1500000 1000000 2 ∧ stepping.pwr.armedFor 3 = false := by decide

theorem test_step_rounds_half_away : (after (execTimeStepApply stepping)).beat.n = 6001 ∧ (after (execTimeStepApply stepping)).tim.now = 5002000000 ∧
    (after (execTimeStepApply stepping)).tim.theta = -500000 := by decide

/-- An offset of 72 us selected, as in the worked case of R132. -/
def steered : TimSt :=
  { timed.tim.setSrc .gnss { SourceSt.zero with state := .qualified, offset := some 72000, fresh := true } with state := .locked, selected := some .gnss }

theorem wit_Steering : (steered.src .gnss).offset = some 72000 ∧ (steered.src .gnss).fresh = true ∧
    IsRounded (72000 * 1000000) (2 ^ 6) 1125000000 ∧ IsRounded (72000 * 1000000) (2 ^ 14) 4394531 := by decide

theorem test_steer_limit : steered.steer.applied = 100000000 ∧ steered.steer.learned = 0 ∧ steered.steer.settled = false := by decide

/-- An entry on AIN14 without filters, and a channel table that has it at channel 20. -/
def ainEntry : CndEntry := { cndEntryOff with source := 0x2E, maLen := 1, seqPos := 6, stepThr := 0x02000000 }
def chained : State :=
  { up with
    cnd := { table := some { magic := 0x444E4358, format := 1, seq0Len := 0, seq1Len := 20, entries := List.replicate 20 cndEntryOff ++ [ainEntry] }
             channels := Tab.set CndCh.zero [] 20 { CndCh.zero with use := .fast } } }

theorem wit_ChainSampleUse : chained.domainOn 9 = true ∧ isAin (chained.cnd.entry 20).source = true ∧ (chained.cnd.entry 20).altSource = 0xFF ∧
    (chained.cnd.ch 20).alt = false ∧ (chained.cnd.ch 20).flush = false := by decide

theorem test_sar_step : ((after (execChainSample 20 (.code 0x8100) false chained)).cnd.ch 20).use = .fine ∧
    ((after (execChainSample 20 (.code 0xFFFF) false chained)).cnd.ch 20).use = .none := by decide

/-- Table 5.6, channel 9. -/
theorem test_delays_channel9 :
    let d : CndSt := { table := some { magic := 0x444E4358, format := 1, seq0Len := 0, seq1Len := 0, entries := [
      { cndEntryOff with source := 5, sinc := 3, clkDiv := 40, osr := 250, fastOsr := 16, firKind := 1, firTaps := 63, maLen := 8 }] }, channels := [] }
    d.delayTotal 0 = 449925 ∧ d.delayFast 0 = 750 ∧ settleLen (d.entry 0) = 74 := by decide

/-- A channel on a bitstream, on its alternate, with both writes waiting. -/
def returning : State :=
  { up with
    cnd := { table := some { magic := 0x444E4358, format := 1, seq0Len := 0, seq1Len := 0, entries := [
               { cndEntryOff with source := 5, altSource := 6, sinc := 3, clkDiv := 40, osr := 250, fastOsr := 16, maLen := 1 }] }
             channels := Tab.set CndCh.zero [] 0 { CndCh.zero with alt := true, pendReturn := true, pendFreeze := some true } } }

theorem wit_ConditioningControl : returning.domainOn 9 = true ∧ returning.awake = true ∧ returning.cnd.isOn 0 = true ∧
    isBitstream (returning.cnd.sourceInUse 0) = true ∧ (returning.cnd.ch 0).stuck = false ∧ (returning.cnd.ch 0).otherBad = false := by decide

/-- The GNSS table of the worked case of R181. -/
def gnsTable : GnsTable :=
  { magic := 0x534E4758, format := 1, latchBeats := 10, kSigma := 3, signals := 0x8, cohMs := 4, nonCoh := 4, doppMax := 6000, acqThr := 0x0800
    cn0Min := 3000, pullBeats := 40, coastBeats := 50, elevMask := 5, exclMax := 1, rateSigma := 50, resThr := 0x0300, clkJump := 100
    clkDrift := 100, doppThr := 10, xbandM := 10, xantM := 10, agcLo := 0, agcHi := 0xFFFF, readmit := 5, spoofClear := 3, spoofPhase := 0x1000
    fixResMm := 10, notchDb := 10, burstBeats := 50, burstBeat := 0, streams := List.replicate 12 { rate := 4, bits := 4, band := 2, ifHz := 0 }
    antennas := [], chans := [], spi := [{ port := 1, verify := true, address := 0, value := 5 }], priority := [4], modelOfs := 4 }

/-- Table 6.6: the aided and the unaided window of channel 117, and the beats they take. -/
theorem test_acquisition_window :
    let a : Aiding := { sigmaPos := 50000, sigmaVel := 5000, sigmaT := 1000, timeSet := true }
    (signalDef 4 0).any (fun sd => decide (acqWindow gnsTable sd a true 0 = (145, 5)) && decide (acqWindow gnsTable sd a false 0 = (20460, 97))) = true ∧
      searchBeats gnsTable 145 5 = 1 ∧ searchBeats gnsTable 20460 97 = 31 := by decide

/-- Channel 117 in a state, with a search of it in its last beat. -/
def tracking (x : GnsChState) : State :=
  { up with
    gns := { GnsSt.reset with
      table := some gnsTable, searching := some ({ channel := 117, beat := 1, recMs := 16, beats := 1, start := 2 }, 1), spiPending := gnsTable.spi
      channels := Tab.set GnsCh.zero [] 117 { GnsCh.zero with
        state := x, signal := 4, sv := 12, beats := 200, cn0 := 4120, lockInd := 1717986918, lowBeats := 20, handoff := some (5, 6), aided := true } } }

theorem wit_TrackingChannelStates : ∀ x : GnsChState, (tracking x).baseband 117 gnsTable ∧ ((tracking x).gns.ch 117).state = x ∧
    ((tracking x).gns.ch 117).handoff = some (5, 6) := by intro x; cases x <;> decide

theorem test_pull_in_done : ((after (execPullInDone 117 (tracking .pullIn))).gns.ch 117).state = .track := by decide

theorem wit_AcquisitionEngine : ∃ r, (tracking .search).gns.searching = some (r, 1) ∧ (tracking .search).baseband r.channel gnsTable ∧
    ((tracking .search).gns.ch r.channel).state = .search := ⟨_, rfl, by decide, by decide⟩

theorem wit_BasebandService : (opened (tracking .track) 2).unionTurn ref ∧ (opened up 0).sessionMay ref 0 ∧
    (tracking .track).gns.spiPending = [{ port := 1, verify := true, address := 0, value := 5 }] ∧
    ({ up with sch := { up.sch with watch := true }, gns := { up.gns with table := some gnsTable } } : State).beat.n.toNat % 1000 = 0 := by decide

/-- An operation of engine HWK0, and problem 3 of two variables. -/
def anOp : OpRun := { engine := 1, pair := true, opIndex := 0, issue := 1, start := 2, stall := 0, complete := 60162 }
def problem3 : ProblemDesc :=
  { ofs := 0x100, slot := 3, kind := 1, clusters := 1, n := 2, m := 0, structSig := 0x9E401B55, iter := 2, pivotThr := 0x100, delta := 0x4000, rho := 1
    sigma := 1, resThr := 0, loadCyc := 1200, factorCyc := 18800, iterCyc := 1600, patternOfs := 1, permOfs := 1, dataOfs := 1, resultOfs := 1, qidX := 1
    qidY := 1, qidD := 1, qidRes := 1, qidAcc := 1, qidRho := 1, factorSrc := 0 }

def header0 : BankHeader :=
  { magic := 0, format := 1, compat := 0, imageId := 7, layoutSig := 9, period := 1000, nEngine := 0, flags := 0, worstCycles := 0, worstBeat := 0
    nVariant := 0, nRange := 0, nTranslate := 0, acceptCompat := [], runDir := 0, watchDir := 0, variantOfs := 0, rangeOfs := 0, translateOfs := 0
    bankBytes := 4096, compBytes := 0, ovrLimit := 3, ovrRounds := 60, reservedZero := true }

def schedule0 : Schedule :=
  { header := header0, runDir := [], watchDir := [], dirBad := false, variants := [], ranges := [], translate := [], host := none, rate := none
    problems := [problem3], projections := [], cnd := none, gns := none, est := none, luna := none, alc := none, ctl := none, msg := none
    pair := none, power := none, dirty := false }

/-- The running device with that schedule, and problem 3 in a phase. -/
def solving (ph : Option ProbPhase) : State :=
  { up with
    sch := { up.sch with bank0 := { Bank.empty with phase := .active, image := some schedule0 } }
    hwk := { up.hwk with
      progress := Tab.set none [] 3 (ph.map (fun x =>
        { desc := problem3, data := { lx := [0, 0], ux := [9, 9], l := [], u := [], other := [] }, phase := x, start := 2, x := [4, 5], z := [], y := [], resX := [4, 5]
          resid := [], precond := [], direction := [], normRes := [], factor := [], iterDone := 0, pivotFirst := none, pivots := 0, primal := 0
          dual := 0, flags := ProbFlags.zero })) } }

theorem wit_SolverOperations : (solving none).engineReady anOp ∧ (solving none).sch.sched = some schedule0 ∧ schedule0.problems[0]? = some problem3 ∧
    Tab.get none (solving none).hwk.progress 3 = none ∧ (Tab.get none (solving (some .loaded)).hwk.progress 3).isSome = true ∧
    0 < problem3.pivotThr.toInt ∧ problem3.pivotThr.toNat ≤ problem3.delta.toNat ∧ (solving (some .factored)).engineReady anOp := by decide

theorem wit_SolverDeadlines : (solving none).isJobSlot 3 = false ∧
    ({ solving none with sch := { (solving none).sch with bank0 := { Bank.empty with phase := .active, image := some { schedule0 with problems := [{ problem3 with kind := 5 }] } } } } : State).isJobSlot 3 = true ∧
    (solving none).hwk.job.discarded = false := by decide

/-- R210, Table 7.8: a cold start takes the midpoint of (-0.25, 1.0) in Q2.30, 0.375. -/
theorem test_cold_midpoint : (coldStart { lx := [-0x10000000], ux := [0x40000000], l := [], u := [], other := [] }).1 = [0x18000000] := by decide

/-- R205, Table 7.8: a pivot of 2 is replaced by DELTA. -/
theorem test_pivot_guard : guardPivot problem3 9 2 = (0x4000, true) ∧ guardPivot problem3 0 (-2) = (-0x4000, true) := by decide

/-- An estimator with one REL_POS slot, number 5, of the kind of Table 8.7, and a heading slot. -/
def estOff : EstEntry := estEntryOff
def estTable5 : EstTable :=
  { magic := 0x54534558, format := 1, slotUpd := 1, slotCov := 2, initBeats := 10, drLimit := 100, drLimitWatch := 0, peThr := 0x400, medMm := 2000
    medAng := 0, driftMm := 0, driftTc := 10, driftAng := 0, medMin := 3, modelOfs := 1, windOfs := 0, motMed := [0, 0, 0, 0, 0, 0]
    omega0 := [600, 600, 600], zeta := [100, 100, 100], model := [], wind := [], initState := [], initSigma := []
    entries := List.replicate 5 estEntryOff ++ [{ estEntryOff with kind := 2, source := 7, sigmaNom := 800, readmit := 3, staleBeats := 100, maxD := 8 }] ++
      List.replicate 34 estEntryOff }
def estimating (st : RefState) : State :=
  { opened up 2 with est := { EstSt.reset with table := some estTable5, refs := Tab.set RefSt.zero [] 5 { RefSt.zero with state := st, stale := 100, origin := some (1, 2) }
                                               initialised := true } }

theorem wit_ReferenceRows : (estimating .admitted).unionTurn ref ∧ ((estimating .admitted).est.ref 5).state = .admitted ∧
    ((estimating .deselected).est.ref 5).state = .deselected ∧ ((estimating .admitted).est.entry 5).kind = 2 ∧
    ((estimating .admitted).est.entry 5).staleBeats.toNat ≤ ((estimating .admitted).est.ref 5).stale ∧
    (estimating .admitted).est.initialised = true ∧ (estimating .admitted).est.initFlag = true ∧ (estimating .admitted).est.initLeft = 0 := by decide

/-- R231: the taut wire of the worked case, 250 µs after edge 7,340,508, has D = 4 in beat 7,340,512; without a history it is LATE. -/
theorem wit_ReferenceSamples : ((estimating .admitted).est.entry 5).kind ≠ 0 ∧ delayOf 7340512 7340508250000 = 4 ∧
    (estimating .admitted).est.history.length < 4 ∧ delayOf 7340512 7340512000000 = 0 := by decide

theorem wit_EstimatorResult : (estimating .admitted).est.table = some estTable5 ∧ (estimating .admitted).est.updates = true := by decide

/-- Table 8.7: slot 2 fails MEDIAN of the four candidates at 3,280 mm, slot 5 does not. -/
theorem test_median_case :
    let z := fun (n e : Int) => { RefSt.zero with state := .admitted, applied := true, passed := true, zCur := [n, e] }
    let x := { (estimating .admitted).est with refs := [(0, z 125470 88190), (1, z 125410 88230), (2, z 128650 88900), (5, z 125385 88215)] }
    x.candidates .position = [0, 1, 2, 5] ∧ isqrtBits 64 0 (dist2 .position [128650, 88900] [125440, 88222]) = 3280 := by decide

/-- A camera on port 1, a lidar on ES0 as source 4, and a running Luna domain. -/
def lunaTable : LunaTable :=
  { magic := 0x44524758, format := 1, cell := 0, nClass := 1, gridX0 := 0, gridY0 := 0, ageMax := 100, detCh := 0, detThr := 1, ofsXCh := 1, ofsYCh := 2
    classCh := 3, birthN := 1, birthM := 1, confK := 1, missMax := 1, gate := 1, detSig := 1, qTrack := 0, confSig := 1, waterline := 0
    gain := [0, 128, 0, 0, 64, 0, 0, 0], frameBeats := [0, 1, 0, 0, 1, 0, 0, 0], quota := [0, 4112, 0, 0, 4112, 0, 0, 0]
    cameras := [{ lanes := 0, vc := 0, dataType := 0, width := 0, height := 0, laneMbps := 0, embTsLine := 0, fsOffset := 0 },
                { lanes := 1, vc := 0, dataType := 0x2A, width := 2, height := 1, laneMbps := 80, embTsLine := 0, fsOffset := 300 }]
    lidars := [{ port := 0x10, udpPort := 5000, mode := 1, intOfs := 0xFF, hdrBytes := 8, stride := 12, coordOfs := 0, ptimeOfs := 0xFF, tsOfs := 0
                 scaleUm := 1, sweepMax := 1024 }] }
def seeing (open_ : Option Nat) (waits : Bool) : State :=
  { opened up 2 with
    lun := { LunSt.reset with
      table := some lunaTable
      sources := Tab.set LunSrc.zero [] 1 { LunSrc.zero with open_ := open_, waiting := if waits then some { instant := 1, data := [] } else none } } }

theorem wit_LunaIntake : (seeing none false).domainOn 7 = true ∧ ((seeing none false).lun.camera 1).isSome = true ∧
    ((seeing (some 9) true).lun.src 1).open_ = some 9 ∧ ((seeing (some 9) true).lun.src 1).waiting ≠ none ∧
    ((seeing none false).lun.lidar 4).isSome = true ∧ (seeing none false).tim.portModel 44 = none := by decide

theorem test_frame_end : ((after (execCsiFrameEnd 1 0 0x2A 0 none [5, 6] 6000000 (seeing (some 5900000) true))).lun.src 1).waiting =
    some { instant := 5899700, data := [5, 6] } ∧
    ((after (execCsiFrameEnd 1 0 0x2A 2 none [5, 6] 6000000 (seeing (some 5900000) false))).lun.src 1).lastDrop = 3 := by decide

theorem wit_LunaOperations : (seeing none false).engineReady anOp ∧ (seeing none false).lun.table = some lunaTable := by decide

/-- Table 9.4: rounds 1 and 5, and round 5 with DEV_ANG at 0.4 degrees. -/
theorem test_table_9_4 : (calStep 1193046 11930465 true 0 0 5130100).1 = 1193046 ∧ (calStep 1193046 11930465 true 4772184 0 357916).1 = 5130100 ∧
    (calStep 1193046 4772186 true 4772184 0 357916) = (4772186, true, some 357914) := by decide

/-- R258: rounding away from zero and the clamp. -/
theorem test_fuse : fuseValue 128 0 5 = 3 ∧ fuseValue 128 0 (-5) = -3 ∧ fuseValue 256 127 (-128) = -128 := by decide

/-- A confirmed track 5, a slot that takes targets, and an ACCEPT waiting at a boundary. -/
def targeting : State :=
  { estimating .admitted with
    lun := { LunSt.reset with
      tracks := Tab.set Track.zero [] 5 { Track.zero with state := .confirmed, gen := 2 }, pending := Tab.set CalCmd.none [] 1 .accept
      baseline := some { magic := 0, format := 1, stepMm := 1, devMm := 1, stepAng := 1, devAng := 1, entries := [], crc := 0 } }
    est := { (estimating .admitted).est with table := some { estTable5 with entries := estTable5.entries.map (fun e => { e with target := true }) } }
    beat := { up.beat with captured := true, boundary := true } }

theorem wit_TargetsAndCalibration : targeting.unionTurn ref ∧ targeting.lun.bindOk 0 5 2 5 (targeting.est.takesTarget 5) = true ∧
    targeting.lun.bindOk 0 5 3 5 (targeting.est.takesTarget 5) = false ∧ targeting.atBoundary = true ∧ targeting.lun.baseline.isSome = true := by decide

/-- An azimuth and a tunnel, with variants 0 and 1 of the worked case's masks. -/
def azimuth : AlcDevCfg :=
  { kind := 1, noLock := false, statusField := 1, posX := 36000, posY := 0, rated := 600000, dir := 0, revFrac := 0xFFFF, tRate := 6554, aRate := 0x08888888
    aMax := 0, liftAhead := 0, liftAstern := 0, wPower := 1, wChange := 1, fbField := 0, fbSide := 0, lockBeats := 3, lockTol := 100, fbTimeout := 0
    passFrac := 100, tMinAngle := 100, uFade := 0, eMin := 0, sectors := [] }
def alcTable2 : AlcTable :=
  { magic := 0x434C4158, format := 1, slot := 4, sectorPress := 1, forceRef := 3600000, momentRef := 16000000, wSlack := [1, 1, 1], slackWarn := 0
    slackWarnBeats := 0, devices := [azimuth, azimuth], groups := [] }
def anVariant (id : Half) (loss : BitVec 48) : VariantEntry :=
  { id := id, nVar := 14, nDev := 2, lossMask := loss, lockMask := 0, structSig := 0x2B6A91F3, problem := 1, proj := 0, nProj := 0 }
def allocating (st : DevState) : State :=
  { opened up 2 with
    sch := { up.sch with bank0 := { Bank.empty with phase := .active, image := some { schedule0 with variants := [anVariant 0 0, anVariant 1 1] } } }
    alc := { AlcSt.reset with table := some alcTable2
                              devices := Tab.set AlcDev.start [] 0 { AlcDev.start with state := st, reason := 1, healthy := true, fbNow := true } } }

theorem wit_DeviceCommands : (allocating .lost).unionTurn ref ∧ (allocating .lost).alc.stateOf 0 = .lost ∧ ((allocating .lost).alc.dev 0).healthy = true ∧
    (allocating .locked).alc.stateOf 0 = .locked ∧ (allocating .lost).alc.devCfg 0 = some azimuth ∧ (allocating .lost).variants.length = 2 ∧
    (allocating .lost).alc.usable (anVariant 1 1) = true ∧ (allocating .available).alc.usable (anVariant 1 1) = false := by decide

theorem test_device_in : ((after (execDeviceIn ref 0 (allocating .lost))).alc.dev 0).state = .available ∧
    (after (execDeviceIn ref 1 (allocating .lost))).alc.sticky = 512 := by decide

/-- R285 and the worked case: bit 1 of the status is FAULT; FALLBACK goes to the variant that matches. -/
theorem wit_AllocationRules : ((allocating .available).alc.dev 0).state = .available ∧ (3 : Nat).testBit 1 = true ∧
    -(devRev azimuth) ≤ 0 ∧ (anVariant 0 0).lossMask = 0 ∧
    ({ (allocating .lost).alc with devices := Tab.set AlcDev.start [] 1 { AlcDev.start with state := .available } }.select [anVariant 0 0, anVariant 1 1]) = (1, 0) := by decide

/-- R285: L bytes carry the high bits of the angle. -/
theorem test_feedback_angle : fbAngleOf 0x1234 2 = 0x12340000 ∧ fbAngleOf 0x7F 1 = 0x7F000000 ∧ angleDist 0xFFFFFFFF 1 = 2 := by decide

/-- Slot 212 of Table 11.3, here as slot 0, and a control table with it, a winch and a fin. -/
def slot212 : SlotCfg :=
  { order := 3, tag := 1, perBeat := 1, flags := 0, every := 0, phase := 0, input := 0x40000001, qidX := 1, qidY := 2
    b := [0x50000000, 0x98000000 - 2 ^ 32, 0x40000000, 0xF0000000 - 2 ^ 32], a := [0x90000000 - 2 ^ 32, 0x38000000, 0xF0000000 - 2 ^ 32]
    sb := [29, 29, 30, 31], sa := [30, 30, 31], outMin := -4500, outMax := 4500, stateMin := -4800, stateMax := 4800 }
def ctlTable2 : CtlTable :=
  { magic := 0x4C544358, format := 1, posMin := 1, ffWind := [0, 0, 0], ffCurrent := [0, 0, 0], joyField := 1, joyTimeout := 10, joyScale := [100, 100, 100]
    tgtLossBeats := 5, slackHold := 0, vMaxPos := 10000, aMaxPos := 50, vMaxPsi := 1000, aMaxPsi := 100, eDoneMm := 10, eDoneAng := 10
    sumList := [[], [1], []], slots := [slot212, { slot212 with order := 2, tag := 2, input := 0x20000005 }]
    winches := [{ outKind := 1, outIndex := 0, tension := 0, ahc := 1, leverX := 0, leverY := 0, speedMax := 2000 }]
    stabs := [{ kind := 1, outKind := 1, outIndex := 0, slot := 2, minSpeed := 300 }] }
/-- The loop in a mode, its permissives met, with motion lost. -/
def controlling (m : DpMode) : State :=
  { opened up 2 with
    est := { EstSt.reset with flags := 128, health := 3 }
    ctl := { CtlSt.reset with table := some ctlTable2, mode := m, unmet := [0, 0, 0, 0, 5], lostBeats := 5, joyMiss := some 10, err := [0, 1000, 0, 0, 0, 0]
                              slots := Tab.set SlotSt.zero [] 0 { SlotSt.zero with coefs := imageCoefs slot212, shadow := imageCoefs slot212 } } }

theorem wit_CompensatorWork : (controlling .joystick).engineReady anOp ∧ (controlling .joystick).ctl.slotCfg 0 = some slot212 ∧
    slotDue slot212 5000 = true ∧ bits slot212.input 31 28 = 4 ∧ slot212.flags.getLsbD 1 = false ∧
    (controlling .joystick).estView.motionLost = true ∧ (controlling .joystick).estView.velU.natAbs < 300 ∧ joyIn .joystick 0 = true := by decide

theorem wit_ControlRequests : (controlling .joystick).unionTurn ref ∧ DpMode.ofCode 3 = some .autoPosition ∧ (controlling .joystick).ctl.unmet.getD 3 0 = 0 ∧
    (controlling .joystick).ctl.unmet.getD 4 0 = 5 ∧ (controlling .joystick).sch.watch = false ∧ (controlling .joystick).ctl.slotCfg 1 ≠ none ∧
    ctlTable2.winches[0]? ≠ none ∧ ctlTable2.stabs[0]? ≠ none := by decide

theorem wit_SetpointsAndLosses : (controlling .autoPosition).unionTurn ref ∧ psiAuto .autoPosition = true ∧ posAuto (controlling .joystick).ctl.mode = false ∧
    (controlling .followTarget).ctl.table = some ctlTable2 ∧ ctlTable2.tgtLossBeats.toNat ≤ (controlling .followTarget).ctl.lostBeats ∧
    ctlTable2.joyTimeout.toNat ≤ 10 := by decide

/-- Table 11.4: runs 0 to 4 of slot 212 on 1,000 mm. -/
theorem test_slot_212 :
    let go := fun (s : SlotSt) => (s.run slot212 (some 1000) false).1
    let s0 := { SlotSt.zero with coefs := imageCoefs slot212 }
    ((go s0).out, (go (go s0)).out, (go (go (go s0))).out, (go (go (go (go s0)))).ys, (go (go (go (go s0)))).out, (go (go (go (go (go s0))))).flags) =
      (2500, 3625, 4406, 4800, 4500, 6) := by decide +kernel

/-- R558: cos and sin of 0 and of an eighth of a turn. -/
theorem test_cos : cosQ30 0 = 2 ^ 30 ∧ sinQ30 0 = 0 ∧ cosQ30 (2 ^ 29) = 759250125 := by decide +kernel

/-- AOUT3's drive of R336's worked case, with LATCH_FAIL or without it, and an output table with it as output 0. -/
def aout (latch : Bool) : OutCfg :=
  { kind := 1, srcKind := 3, srcIndex := 0, gain := 32767, shift := 31, latchFail := latch, sync := false, invert := false, holdLimit := 5, offset := 32768
    minCode := 0, maxCode := 65535, failKind := 1, safeLink := 4, slew := 0, periodTicks := 0, failCode := 32768 }
def outTable2 (latch : Bool) : OutTable :=
  { magic := 0x54554F58, format := 1, annBias := 2, vlcdCode := 7, refresh := 1, loopCount := 3, loopTol := 4, outputs := [aout latch], segments := [] }
/-- The output domain, with output 0 in a state, and a staged code. -/
def driving (st : OutState) (latch token : Bool) : State :=
  { up with
    out := { OutBlk.reset with
      cfg := some (outTable2 latch), domain := .run, token := token
      outputs := Tab.set OutSt.zero [] 0 { OutSt.zero with state := st, latched := latch, pin := .code 40000, staged := some (.code 49152) } } }

theorem wit_OutputStates : (driving .normal false false).out.cfg ≠ none ∧ (driving .normal false false).out.entry 0 = some (aout false) ∧
    managedKind (aout false) = true ∧ ((driving .fail true true).out.out 0).staged = some (.code 49152) ∧ (aout false).safeLink &&& 4 ≠ 0 ∧
    (aout false).minCode.toNat ≤ (aout false).maxCode.toNat := by decide

theorem wit_OutputCommands : (driving .hold true true).awake = true ∧ (driving .hold true true).out.domain = .run ∧
    ((driving .fail true true).out.out 0).latched = true ∧ ((driving .hold true true).out.out 0).state = .hold ∧ (outTable2 true).annBias = 2 ∧
    (5000 : Nat) * 1000000 + 1100000 ≤ 5001100000 := by decide

/-- R336: half thrust, full reverse and zero thrust of the worked case. -/
theorem test_aout_codes : ((scaleCode (aout false) none 0x40000000).1, (scaleCode (aout false) none (-0x80000000)).1, (scaleCode (aout false) none 0).1) =
    (49152, 1, 32768) := by decide

/-- R338: a missing token starts the hold and keeps the code. -/
theorem test_hold : (((driving .normal false false).out.edge 5001 5001000000 0).1.out 0).state = .hold ∧
    (((driving .normal false false).out.edge 5001 5001000000 0).1.out 0).pin = .code 40000 := by decide

/-- Channel 5 of Table 13.6, a MASTER, with windows 0 (reference), 1 (exclusive) and 2 (arbitrating), and one ring. -/
def chan5 : ChanCfg :=
  { role := 1, nom := 3, data := 1, autoRecover := true, shared := true, nomDefault := 3, dataDefault := 1, arbMax := 3, replyBeats := 4
    refId := 0x40000010, lifeId := 0x40000020, amdQueryId := 0x40000030, amdAnswerBase := 0x40000100, lifeWindow := 2, amdWindow := 2, hostWindow := 2
    refSilent := 10, freshPropose := 20, syncOffer := 7 }
def nodeTable5 : NodeTable :=
  { magic := 0x45444E58, format := 1, serRate := [], channels := List.replicate 16 chan5
    windows := List.replicate 160 0 ++ [0x00119000, 0x00232190, 0x0034B2BC], rings := [{ depth := 4, entryBytes := 32, producer := 3, consumer := 3, stale := 0, take := 0, serPort := 0 }]
    nodes := [{ channel := 5, address := 3, syncReq := 1, fdAllowed := true, freshMax := 100 }], sentences := [] }
def msgTable5 : MsgTable := { magic := 0x47534D58, format := 1, chEnable := 32, entries := [], fields := [], outFields := [] }
def aFrame (id : Word) : CanFrame := { ident := id, remote := false, fd := false, brs := false, data := [1, 2, 3, 4, 5, 6, 7, 8], nom := 3, dat := 0 }
def aRequest (id : Word) (w : Nat) : TxFrame := { kind := .command, window := w, frame := aFrame id, arb := 0 }
def chan5St (m : ChanMode) : ChanSt :=
  { ChanSt.zero with mode := m, nom := 3, dat := 1, pending := [aRequest 0x300 2, aRequest 0x200 2], refMissing := 11, mismatch := true }
/-- A device with that bus, its channel in a mode. -/
def bussing (c : ChanSt) : State :=
  { up with
    fbu := { FbuSt.reset with
      enabled := true, msgs := some msgTable5, table := some nodeTable5, channels := Tab.set ChanSt.zero [] 5 c
      nodes := Tab.set NodeSt.zero [] 643 { NodeSt.zero with state := .queried, query := some (4990, .first, 7) }
      serial := Tab.set SerSt.zero [] 2 { SerSt.zero with rate := 1, auto := true } }
    hst := { up.hst with ports := Tab.set PortSt.zero [] 2 { PortSt.zero with up := true } } }

theorem wit_BusReception : (bussing (chan5St .active)).fioOn = true ∧ (bussing (chan5St .active)).fbu.cfg 5 = some chan5 ∧
    (bussing (chan5St .active)).fbu.isAmdun 5 chan5 (aFrame 0x103) = true ∧ (bussing (chan5St .active)).fbu.isAmdun 5 chan5 (aFrame 0x300) = false ∧
    (bussing (chan5St .active)).fbu.matchRx 5 (aFrame 0x300) = none ∧ (Tab.get SerSt.zero (bussing (chan5St .active)).fbu.serial 2).auto = true ∧
    (bussing (chan5St .active)).img.phase = .running ∧ (Tab.get PortSt.zero (bussing (chan5St .active)).hst.ports 2).up = true ∧
    sentenceOk [0x41] = false ∧ sentenceOk [0x24, 0x41] = true := by decide

theorem wit_BusTransmission : (bussing (chan5St .active)).fbu.kindOf 5 chan5 2 = 3 ∧ (bussing (chan5St .active)).fbu.kindOf 5 chan5 1 = 2 ∧
    (bussing (chan5St .active)).pai.gate 0 = false ∧ (bussing { chan5St .active with current := some (aRequest 1 1), openWindow := some 1 }).fbu.cfg 5 = some chan5 ∧
    (bussing { chan5St .busOff with recovering := some true }).fioOn = true := by decide

theorem wit_BusService : (bussing (chan5St .listen)).awake = true ∧ (bussing (chan5St .listen)).fbu.activeCopy 5 = 0 ∧
    ({ bussing (chan5St .listen) with beat := { up.beat with boundary := true } } : State).atBoundary = true ∧
    (bussing (chan5St .listen)).fbu.ringCfg 0 ≠ none ∧ ((bussing (chan5St .listen)).fbu.node 643).state = .queried ∧ 4990 + 4 ≤ 5000 ∧
    chan5.refSilent.toNat < 11 := by decide

/-- R363, Table 13.2: of two frames the one of the lower identifier starts. -/
theorem test_lowest_first : ((chan5St .active).start 2 true 0).current.map (fun x => x.frame.ident) = some 0x200 := by decide

/-- R380: the checksum of "$A*41". -/
theorem test_checksum : sentenceOk [0x24, 0x41, 0x2A, 0x34, 0x31] = true ∧ sentenceOk [0x24, 0x41, 0x2A, 0x34, 0x32] = false := by decide

/-- R361, Table 13.11: the head word of a buffer that holds a frame with identifier 0x123, and the end word after two lost frames. -/
theorem test_buffer_words : bufHead { RxBuf.zero with frame := some (aFrame 0x123, 0) } = 0x80000123 ∧
    (bufEnd { RxBuf.zero with frame := some (aFrame 0x123, 0), lost := 2 }).toNat = 0x200 + (aFrame 0x123).data.length := by decide

/-- Table 13.11: FBU_B_HEAD and FBU_B_END are registers of the block, and 0x9050 is none. -/
theorem test_buffer_registers (f : FbuSt) (v : FbuView) : (f.read v 0x9000).isSome = true ∧ (f.read v 0x904C).isSome = true ∧ f.read v 0x9050 = none := by
  refine ⟨rfl, rfl, ?_⟩
  simp [FbuSt.read]

/-- A NET_CFG with queues of 16, and a device with session 1 open, a record, a ring and a region of 64 bytes. -/
def netCfg0 : NetCfg :=
  { magic := 0, format := 1, streamInterval := 10, streamSlot := 0, idleS := 10, ptpMaster := 0, priority1 := 0, priority2 := 0, mtu := 0, cmdQueue := 16
    cmdPerBeat := 4, ports := [], dests := [] }
def hosting (role : BitVec 2) : State :=
  let s := opened up role
  { s with
    hst := { s.hst with
      netCfg := some netCfg0, heard := [ref], ports := Tab.set PortSt.zero [] 0 { PortSt.zero with up := true }
      snapshots := [{ beat := 4999, words := [1, 2, 3] }] }
    fbu := { FbuSt.reset with enabled := true, table := some nodeTable5 }
    sch := { up.sch with bank0 := { Bank.empty with phase := .active, image := some { schedule0 with
      host := some { magic := 0, format := 1, userQids := [], regions := [{ id := 3, role := 1, runtime := true, target := 0, length := 64, qid := 0 }] } } } } }

/-- A byte string with the key's TAG after it, and that TAG read back. -/
def signed (key : BitVec 256) (b : List Byte) : List Byte := b ++ bytes16 (mac16 key b)

theorem foldr_leBytes (k n : Nat) (hk : k ≤ 16) :
    ((leBytes k n).foldr (fun (x : Byte) (a : BitVec 128) => (a <<< 8) ||| x.setWidth 128) 0).toNat = n % 256 ^ k := by
  induction k generalizing n with
  | zero => simp [leBytes, Nat.mod_one]
  | succ k ih =>
    have h := ih (n / 256) (by omega)
    have hp : 256 ^ k ≤ 256 ^ 15 := Nat.pow_le_pow_right (by omega) (by omega)
    have hl : n / 256 % 256 ^ k < 256 ^ 15 := Nat.lt_of_lt_of_le (Nat.mod_lt _ (Nat.pow_pos (by decide))) hp
    simp only [leBytes, List.foldr_cons, BitVec.toNat_or, BitVec.toNat_shiftLeft, h, BitVec.toNat_setWidth, BitVec.toNat_ofNat, Nat.shiftLeft_eq]
    rw [Nat.mod_eq_of_lt (by omega : n / 256 % 256 ^ k * 2 ^ 8 < 2 ^ 128), Nat.mod_eq_of_lt (by omega : n % 2 ^ 8 < 2 ^ 128), ← Nat.shiftLeft_eq,
      ← Nat.shiftLeft_add_eq_or_of_lt (by omega), Nat.shiftLeft_eq,
      show 256 ^ (k + 1) = 256 * 256 ^ k from Nat.pow_succ', Nat.mod_mul]
    omega

theorem tagOk_signed (key : BitVec 256) (b : List Byte) : tagOk key (signed key b) = true := by
  have hl : (bytes16 (mac16 key b)).length = 16 := rfl
  have h1 : signedPart (signed key b) = b := by simp [signedPart, signed, hl]
  have h2 : tagPart (signed key b) = mac16 key b := by
    apply BitVec.eq_of_toNat_eq
    simp only [tagPart, signed, List.length_append, hl]
    rw [Nat.add_sub_cancel, List.drop_left, bytes16, List.foldl_reverse, foldr_leBytes 16 _ (by omega)]
    exact Nat.mod_eq_of_lt (mac16 key b).isLt
  simp [tagOk, h1, h2]

/-- A KEEPALIVE datagram of session 1 with a REQ_ID. -/
def keepaliveBytes (reqId : Byte) : List Byte :=
  signed 0 ([0x58, 0x50, 1, 1, 1, 0, 3, 0, reqId, 0, 0, 0, 7, 0, 0, 0] ++ List.replicate 16 0)

theorem wit_HostAdmission : (hosting 2).fioOn = true ∧ (Tab.get PortSt.zero (hosting 2).hst.ports 0).up = true ∧ (hosting 2).hst.netCfg.isSome = true ∧ frameOk [] = false ∧
    frameOk (keepaliveBytes 9) = true ∧ (xhpHeader (keepaliveBytes 9)).session = 1 ∧ (xhpHeader (keepaliveBytes 9)).reqId = 9 ∧
    ((hosting 2).hst.sess 1).key = 0 ∧ leastRole 3 = some 0 ∧ isUnion 3 [] = true ∧ formatOk 3 7 [] = true ∧
    ((hosting 2).hst.sess 1).queue.length < (hosting 2).hst.cmdQueue ∧ isUnion 0x10 [] = false ∧ leastRole 0x7F = none := by decide

theorem wit_HostAdmission_tag : tagOk 0 (keepaliveBytes 9) = true := tagOk_signed _ _

theorem wit_HostSessions : (hosting 2).unionTurn ref ∧ ((hosting 2).hst.sess 2).isOpen = false ∧ (hosting 2).hst.netCfg = some netCfg0 ∧
    ((hosting 2).hst.sess 1).region = none ∧ ref ∈ (hosting 2).hst.heard ∧ ((hosting 2).hst.sess 1).idleBeats < 10000 := by decide

theorem wit_HostReads : (hosting 2).sessionMay ref 1 ∧ (hosting 2).hst.snapshots.getLast? = some { beat := 4999, words := [1, 2, 3] } ∧
    (hosting 2).fbu.ringCfg 0 = some { depth := 4, entryBytes := 32, producer := 3, consumer := 3, stale := 0, take := 0, serPort := 0 } ∧
    ttlOk { address := 0x0A000001, port := 0, ports := 1, ttl := 0 } = true ∧ ttlOk { address := 0xE0000001, port := 0, ports := 1, ttl := 4 } = true := by
  decide

theorem test_extent : extentBytes { beat := 1, words := [0x04030201, 0x08070605] } [(1, 2), (4, 1)] = [2, 3, 5] := by decide

theorem wit_HostWrites : (hosting 3).unionTurn ref ∧ (hosting 3).sessionMay ref 3 ∧ (hosting 3).hst.nvmBusy = false ∧ (hosting 3).img.nvmFits 0 4096 256 = true ∧
    [((0x000D0010 : Word), (2 : Word))].any pairWriteOf = false ∧ (hosting 3).img.otp.minSecver < 5 := by decide

theorem test_region_applied : Tab.get 0 (after (execRegionWrite ref 3 0 8 [5, 6] true (hosting 3))).hst.regionMem (3 * 65536 + 3) = 6 := by decide

/-- A device in a role, its link up on four lanes, the exchange of beat 5000 under way. -/
def pairing (r : Role) (j : JoinPhase) : State :=
  { opened up 2 with
    sch := { up.sch with bank0 := { Bank.empty with phase := .active, image := some { schedule0 with
      pair := some { magic := 0, format := 1, takeoverMask := 0, stateBytes := 4096, fastBytes := 64, dirtyThr := 1, dirtyMax := 1, proveRounds := 1, exclLimit := 3
                     sigMissLimit := 3, alignNs := 1000, scrubLimit := 0 } } } }
    pai := { PaiSt.reset with
      first := false, role := r, join := j, link := .up, lanes := 4, rxSeq := 9, lastIn := some 1000, toggling := true, sideB := true, kind := 1
      partner := some .standby, sigOwn := some 5, sigPartner := some 6, adoptBeat := some 4999, adoptEnd := some (4999, 3), proveDone := 1
      unacked := [{ seq := 1, beat := 0, retry := false, body := .idle }], swap := some 4999 } }

theorem wit_PairClaims : (pairing .standby .none).awake = true ∧ (pairing .active .none).pai.sameSide = false ∧ (pairing .standby .none).pai.follows = true ∧
    (∀ x, (pairing .standby .none).pai.lastIn = some x → x + 20000 ≤ 30000) ∧ (pairing .active .none).pai.toggling = true ∧
    (pairing .joining .copy).pai.adopted = false := by
  refine ⟨by decide, by decide, by decide, ?_, by decide, by decide⟩
  intro x h; cases h; decide

theorem test_tie_break : (after (execPairActInEdge 5000000000 (pairing .active .none))).pai.role = .joining := by decide

theorem wit_PairExchange : (pairing .active .none).exchanging = true ∧ (pairing .active .none).pai.inPair = true ∧ (pairing .active .none).pai.tokenNow = none ∧
    (pairing .standby .none).pai.commitNow = none ∧ (pairing .standby .none).pai.toJoining = false ∧ healthBad 6 = true := by decide

theorem test_takeover_90us : (after (execCommitDeadline (pairing .standby .none))).pai.role = .active := by decide

/-- A JOIN_REQ of side A for the image of `pairing`. -/
def aJoinReq : JoinReq :=
  { deviceId := 77, imageId := 7, layoutSig := 9, compat := 0, accepts := [], sideB := false, stepUsed := false, translate := false, health := 0 }

theorem wit_PairJoins : (pairing .solo .none).imageId = aJoinReq.imageId ∧ (pairing .solo .none).layoutSig = aJoinReq.layoutSig ∧
    (pairing .solo .none).compat = aJoinReq.compat ∧ (pairing .solo .none).pai.sideB = true ∧ (pairing .solo .none).sch.inactive.phase ≠ .pending ∧
    (pairing .solo .none).sch.watch = false := by decide

theorem wit_PairJoins_adopt : (pairing .joining .adopting).exchanging = true ∧ (pairing .joining .adopting).beat.n.toNat = 4999 + 1 ∧
    (pairing .joining .adopting).pai.adoptEnd = some (4999, 3) ∧ (pairing .shadow .proving).pai.proved = false ∧
    (pairing .shadow .proving).pairCfg.proveRounds.toNat ≤ (pairing .shadow .proving).pai.proveDone ∧ (pairing .solo .none).unionTurn ref := by decide

theorem test_swap_refused : (after (execPairSwap ref (pairing .solo .none))).pai = (pairing .solo .none).pai := by decide

/-- A SAFETY_CFG: SI0 and SI1 (antivalent), SO0 stopped by SI0 and SO1, SPEED from encoder 2 and channel 5, SLS at 15000 on SO1. -/
def safCfg : SafetyCfg :=
  { magic := 0x46415358, format := 1, configId := 7, sackLow := false
    si := [{ mode := 1, filterMs := 0, discMs := 10, tpSo := 0 }, { mode := 2, filterMs := 1, discMs := 20, tpSo := 0xFF },
      { mode := 3, filterMs := 0, discMs := 0, tpSo := 0xFF }]
    so := [{ used := true, reqKind := 0, reqQid := 0, reqBit := 0, siStop := 1, tpW := 10 },
      { used := true, reqKind := 0, reqQid := 0, reqBit := 0, siStop := 0, tpW := 10 }]
    sense := [{ kind := 2, srcA := 0x82, srcB := 5, shiftA := 0, shiftB := 31, gainA := 100, gainB := 30000, offsetA := 0, offsetB := 0, plausTol := 50, plausMs := 5 }]
    funcs := [{ kind := 1, sense := 0, sense2 := 0xFF, enableSi := 0xFF, soMask := 2, dirOrN := 0, lookahead := 0, limitLo := 0, limitHi := 15000, sectors := [] }]
    dirty := false, crc := 0 }

theorem test_safCfg_ok : safOk safCfg (fun _ => true) = true := by decide

/-- The island in RUN, both pairs on, pair 0 of the inputs ON, in disagreement for `d` edges, the entry for `r`, with an arm. -/
def guarding (d r : Nat) : State :=
  { up with
    saf := { SafSt.reset with
      island := .run, cfg := some safCfg, siOn := 1, soOn := 3, started := true, released := true, disRun := Tab.set 0 [] 0 d,
      senseRun := Tab.set 0 [] 0 r, arm := some { mask := 2, session := 1, left := 1 } } }

/-- What an edge brings: both channels of SI0 as given, the encoder's count. -/
def edgeIn (a b : Bool) (count : Int) (sack : Bool) : IslandIn :=
  { samples := [[(a, 100)], [(b, 100)]], encoder := [(0, false), (0, false), (count, false)], sack := sack, rephase := false, readBad := 0 }

theorem wit_IslandEdge : (guarding 0 0).islandOn = true ∧ (guarding 0 0).saf.cfg = some safCfg ∧ (guarding 0 0).saf.released = true ∧
    (guarding 0 0).saf.si 0 ≠ none ∧ (guarding 0 0).saf.so 0 ≠ none ∧ maskBit (guarding 0 0).saf.siOn 0 = true ∧
    ((guarding 0 0).saf.func 0).isSome = true ∧ (guarding 0 0).saf.started = true := by decide

theorem wit_IslandEdge_demand : maskBit (after (exec (.islandCycle (edgeIn true false 0 false)) (guarding 0 0))).saf.siOn 0 = false ∧
    maskBit (after (exec (.islandCycle (edgeIn true false 0 false)) (guarding 0 0))).saf.latched 0 = true := by decide +kernel

theorem wit_SafetyCommands : (guarding 11 6).islandOn = true ∧ (guarding 11 6).saf.island = .run ∧ 10 < Tab.get 0 (guarding 11 6).saf.disRun 0 ∧
    5 < Tab.get 0 (guarding 11 6).saf.senseRun 0 ∧ (guarding 11 6).saf.sense 0 ≠ none ∧ (guarding 11 6).saf.siDisc = 0 ∧ (guarding 11 6).saf.senseLate = 0 ∧
    ((guarding 11 6).saf.so 1).isSome = true ∧ maskBit (guarding 11 6).saf.soOn 0 = true ∧
    ((opened (guarding 11 6) 2).hst.sess ref.session.toNat).isOpen = true ∧ (guarding 11 6).saf.arm = some { mask := 2, session := 1, left := 1 } ∧
    ({ (guarding 11 6) with saf := { (guarding 11 6).saf with island := .selftest } } : State).islandOn = true := by decide +kernel

theorem wit_SafeOutputsHeldOff : State.reset.outputsHeldOff ∧ (guarding 0 0).outputsHeldOff ∧ (guarding 0 0).saf.soOn ≠ 0 := by decide +kernel

/-- The island with pair 1 latched and a valid pulse about to end inside the window. -/
def resetting : State :=
  let s := guarding 0 0
  { s with saf := { s.saf with lockA := { LockRec.zero with pairs := 2 }, lockB := { LockRec.zero with pairs := 2 },
                               arm := some { mask := 2, session := 1, left := 500 }, sack := true, sackGood := true, sackBeats := 299 },
           cnd := { s.cnd with channels := [] } }

/-- R463, R469: the pulse ends and the entry without a value of its conditioning channel keeps pair 1 latched. -/
theorem test_reset_refused : maskBit resetting.saf.latched 1 = true ∧
    maskBit (after (exec (.islandCycle (edgeIn true true 0 false)) resetting)).saf.latched 1 = true ∧
    (after (exec (.islandCycle (edgeIn true true 0 false)) resetting)).saf.lastCode = 0x0F06 := by decide +kernel

/-- An entry whose other source is an encoder too: the lock-out is cleared. -/
def resetting2 : State :=
  let c := { safCfg with
    si := safCfg.si ++ [{ mode := 3, filterMs := 0, discMs := 0, tpSo := 0xFF }]
    sense := [{ kind := 2, srcA := 0x82, srcB := 0x83, shiftA := 0, shiftB := 0, gainA := 100, gainB := 100, offsetA := 0, offsetB := 0, plausTol := 50, plausMs := 5 }] }
  { resetting with saf := { resetting.saf with cfg := some c } }

theorem wit_LockoutCleared : maskBit resetting2.saf.latched 1 = true ∧
    maskBit (after (exec (.islandCycle (edgeIn true true 0 false)) resetting2)).saf.latched 1 = false ∧
    (after (exec (.islandCycle (edgeIn true true 0 false)) resetting2)).saf.lastCode = 0x0F05 := by decide +kernel

/-- Table 16.4: 150 counts at 0.01 mm are not above the limit, 151 are. -/
theorem test_sls : (after (exec (.islandCycle (edgeIn true true 150 false)) resetting2)).saf.violated = 0 ∧
    (after (exec (.islandCycle (edgeIn true true 151 false)) resetting2)).saf.violated = 1 := by decide +kernel

/-- A device whose recorder is ready, with a queue and a held event. -/
def logging (q : List QEvent) (held : List HeldEvent) : State :=
  { up with rcd := { RecSt.reset with ready := true, queue := q, held := held } }
def anEvent : QEvent := { code := 0x0401, params := [9], beat := 17, deferred := false, supp := 2 }

theorem wit_RecorderCommands : (logging [anEvent] []).awake = true ∧ (logging [anEvent] []).svcDown = false ∧ (logging [] []).admitsEvent 0x0401 ∧
    ¬ ({ (logging [] []) with rcd := { (logging [] []).rcd with final := true } } : State).admitsEvent 0x0401 ∧
    ({ (logging [] []) with pwr := { (logging [] []).pwr with mode := .chrysalis } } : State).svcDown = true ∧
    (logging [] [{ code := 0x0F01, params := [], beat := 1023, instant := 3 }]).rcd.held.length ≤ 16 ∧
    ((logging [] []).rcd.codeOf 0x0401).spent ≤ ((logging [] []).rcd.rate 0x0401).1 ∧ up.rcd.ready = false ∧ (logging [] []).rcd.window = none := by decide

theorem wit_RecorderConserves : State.reset.recorderBalanced ∧ (logging [anEvent] []).recorderBalanced ∧
    Tab.get none (logging [anEvent] []).rcd.slots 0 = some Record.production := by decide

/-- Table 17.3: with BURST 3 the fourth event at once is suppressed, and after a refill the next one carries SUPP 1. -/
def limited : RecSt := { (logging [] []).rcd with table := [{ code := 0x0401, burst := 3, noGlobal := false, refillMs := 500 }] }
theorem test_rate_limit :
    let r := (List.range 4).foldl (fun (q : RecSt) _ => q.takeEvent 0x0401 [9] 0 false) limited
    r.queue.length = 3 ∧ r.ledger.suppressed = 1 ∧
    (((r.refill (some 0x0401)).takeEvent 0x0401 [9] 0 false).queue.map (fun e => e.supp)) = [0, 0, 0, 1] := by decide

/-- R491: OLDEST is 20,833 when NEWEST is 28,000. -/
theorem test_oldest : ({ RecSt.reset with newest := 28000 } : RecSt).oldest = 20833 := by decide

/-- The device with an entry in progress: `age` beats old, the handshake at a block. -/
def entering (age block : Nat) (delaying : Bool) : State :=
  { opened up 3 with
    beat := { up.beat with n := 5999 }
    pwr := { PwrSt.reset with
      domains := [(6, { state := .on, idle := true, ms := 100, gates := 0 })], table := some { magic := 0x52575058, format := 1, idleMs := [100, 0, 0, 0] }
      entry := some { mode := .chrysalis, session := 1, wake := { WakeCfg.zero with pin := true }, age := age, block := block, started := true, delaying := delaying } } }

/-- A device asleep with the pin armed, woken at `w` or not, and one in Watch with both sources armed. -/
def asleep (m : PwrMode) (w : Option Nat) : State :=
  { up with sch := { up.sch with running := false }
            pwr := { PwrSt.reset with mode := m, armed := { WakeCfg.zero with pin := true, port := true, addr := 0x3A }, latched := 3, wakeAt := w } }

theorem wit_PowerStates : (opened up 3).unionTurn ref ∧ orderOk 3 4 0 0 0 = true ∧ orderOk 4 4 0 0 0 = true ∧ orderOk 2 0 0 0 0 = true ∧ orderOk 1 0 0 0 0 = true ∧
    (opened up 3).sch.inactive.phase ≠ .pending ∧ (opened up 3).pai.role = .solo ∧ (opened up 3).pai.join = .none ∧ (opened up 3).ctl.mode = .standby ∧
    (opened up 3).ctl.winches = [] ∧ (opened up 3).tim.pending = none ∧ (opened up 3).tim.arm = none := by decide

theorem wit_PowerStates_entry : (entering 11 19 false).edgesRun = true ∧ (entering 11 19 false).pwr.due 6 = true ∧ (entering 11 3 false).awake = true ∧
    (entering 11 19 false).beat.live = true ∧ (entering 11 19 false).beat.closes ((entering 11 19 false).beatNo + 1) = true ∧
    (entering 11 0x10 true).rcd.queue = [] ∧ (entering 3 2 false).pwr.due 7 = false := by decide

theorem wit_PowerStates_wake : (asleep .chrysalis (some 412000)).pwr.mode = .chrysalis ∧ (asleep .cocoon none).img.powered = true ∧
    (3000000 % 1000000 = 0 ∧ 412000 + 2000000 ≤ 3000000 ∧ 3000000 < 412000 + 3000000) ∧ (asleep .watch none).pai.role = .solo ∧
    (asleep .watch none).pwr.prog = none ∧ (asleep .run none).awake = true ∧ (asleep .run none).img.phase = .running := by decide

theorem wit_PowerStates_program :
    let s : State := { up with beat := { up.beat with boundary := true }, pwr := { PwrSt.reset with prog := some { toWatch := true, age := 2, wake := 0, cfg := WakeCfg.zero } } }
    s.atBoundary = true ∧ s.pwr.progDue.isSome = true := by decide

/-- Table 18.7: the first edge at least 2 ms after 422 µs is 3 ms, and PWR_WAKE_US reads 2,578. -/
theorem test_first_edge : firstEdge 422000 = 3000000 ∧
    ((asleep .chrysalis (some 422000)).pwr.woken 3000000 false).1.wakeUs = 2578 := by decide

/-- Table 18.7: edge E of an order in beat 9,345,988. -/
theorem test_edge_e : 9345988 + toBoundary 9345988 12 = 9346000 := by decide

/-- Table 19.2 before cycle 48: N 4, 43 grants, REC holds, HST_REQ raised at 45 and IMG at 0. -/
def arbitrating (grantNo : Nat) : State :=
  { up with svc := { SvcSt.reset with arbN := 4, grantNo := grantNo, grant := some { holder := 11, start := 41, limit := 256 }, raised := [(7, some 0), (9, some 45)] } }
def idleFabric (grantNo : Nat) : State := { arbitrating grantNo with svc := { (arbitrating grantNo).svc with grant := none } }
def anEngineer : Who := { input := 9, session := 1, role := 3 }
def aTag : TagEntry :=
  { beat := 1, engine := 5, stopped := false, abandoned := false, pair := false, opcode := 0x0401, beatInPeriod := 0, opIndex := 0, issue := 0, start := 0,
    stall := 0, complete := 0, lfsr := 1 }

theorem wit_ArbiterGrants : (arbitrating 41).awake = true ∧ (41 + 1) % (arbitrating 41).svc.arbN.toNat ≠ 0 ∧
    (9, some 45) ∈ (arbitrating 41).svc.raised ∧ ∀ p ∈ (arbitrating 41).svc.raised, p.1 ≤ 9 := by decide

theorem wit_FabricCommands : (idleFabric 43).svc.grant = none ∧ (43 + 1) % (idleFabric 43).svc.arbN.toNat = 0 ∧ (7, some 0) ∈ (idleFabric 43).svc.raised ∧
    (arbitrating 43).svc.grant.isSome = true ∧ up.peek anEngineer 0x00130000 = none ∧ (up.peek anEngineer 0x00100030).isSome = true ∧
    (up.peek anEngineer 0x00100034).isSome = true ∧ isPairLow 0x10 0x30 = true ∧ up.edgesRun = true ∧ up.beatNo % up.svc.pcWindow.toNat = 0 ∧
    up.svc.debugServed up.img.otp = true ∧ 3 ≤ anEngineer.role.toNat ∧ up.svc.tagger.enable = false ∧ up.svc.tagger.count ≠ 256 ∧
    ({ up with svc := { up.svc with tagger := { up.svc.tagger with inFlight := some aTag } } } : State).svc.tagger.inFlight = some aTag ∧
    ({ up with beat := { up.beat with n := 5001 } } : State).beatNo % up.svc.pcWindow.toNat ≠ 0 := by decide

/-- Table 19.2: grant 44 is reserved and goes to IMG, which has waited longest; cut at cycle 304, grant 45 goes to HST_REQ. -/
theorem test_table_19_2 :
    let a := (arbitrating 43).svc.decision 48 48 8
    a.grant = some { holder := 7, start := 49, limit := 256 } ∧ a.grantNo = 44 ∧
    (a.cut 0x100 256 304).1.grant = some { holder := 9, start := 305, limit := 256 } ∧ (a.cut 0x100 256 303).1 = a := by decide

-- A whole image that the loader accepts, and the rules of the loader on it (R88 to R92).

def endList : BeatList := { budget := 700000, ops := [{ opcode := 1, flags := 0, notBefore := 0, deadline := 0, operand := 0 }] }
/-- A schedule of one engine with a period of one beat. -/
def schedule1 : Schedule :=
  { schedule0 with
    header := { header0 with
      magic := 0x48435358, compat := 3, period := 1, nEngine := 1, worstCycles := 700000, nVariant := 1, nRange := 1, runDir := 256, variantOfs := 512
      rangeOfs := 768, compBytes := 256 }
    runDir := [{ engine := 0, budget := 700000, opTotal := 1, beats := [endList] }], problems := [], variants := [anVariant 0 0]
    ranges := [{ qid := 1, intBits := 8, fracBits := 8, min := 0, max := 1, block := 0 }] }
def dirEntry (type : Half) (offset : Word) : DirEntry := { type := type, reserved := 0, offset := offset, length := 256, crcOk := true }
def outOff : OutCfg :=
  { kind := 0, srcKind := 0, srcIndex := 0, gain := 0, shift := 0, latchFail := false, sync := false, invert := false, holdLimit := 0, offset := 0
    minCode := 0, maxCode := 0, failKind := 0, safeLink := 0, slew := 0, periodTicks := 0, failCode := 0 }
def segOff : SegCfg := { kind := 0, bitNo := 0, blink := 0, fbBlink := 0, fbOn := false, arg := 0 }
def aPort (a : Word) : NetPort := { address := a, prefixLen := 24, vlan := 0, gateway := 0 }
def noDest : NetDest := { address := 0, port := 0, ports := 0, ttl := 0 }
def netCfg1 : NetCfg :=
  { netCfg0 with magic := 0x54454E58, streamInterval := 1, ports := [aPort 0x0A000002, aPort 0, aPort 0, aPort 0], dests := List.replicate 4 noDest }
def image1 : ImageDesc :=
  { readError := 0
    header := { magic := 0x474D4958, format := 1, nSection := 7, imageId := 7, imageBytes := 65536, secver := 2, keySlot := 1, flags := 0, dirOfs := 64
                sigOfs := 65408, reservedZero := true }
    dir := [dirEntry 1 0x400, dirEntry 2 0x500, dirEntry 4 0x600, dirEntry 5 0x700, dirEntry 6 0x800, dirEntry 7 0x900, dirEntry 9 0xA00]
    keyHash := 0x1234, sigOk := true, sched := some schedule1, luna := none
    cal := some { magic := 0x4C414358, format := 1, stepMm := 10, devMm := 100, stepAng := 1, devAng := 1, crc := 0
                  entries := [{ sensor := 0, learn := true, params := [0, 0, 0, 0, 0, 0] }] }
    safety := some safCfg, out := some { outTable2 false with outputs := aout false :: List.replicate 111 outOff, segments := List.replicate 192 segOff }
    net := some netCfg1, nodes := none, time := some timeCfg, dirty := [] }
/-- The same schedule as a bank image. -/
def bankImage1 : ImageDesc :=
  { image1 with header := { image1.header with flags := 1, nSection := 2 }, dir := [dirEntry 1 0x400, dirEntry 2 0x500] }
/-- OTP with image key 1 valid and security version 2 asked for. -/
def otp1 : OtpSt := { State.reset.img.otp with imageKeys := Tab.set ImageKeySlot.none [] 1 { state := .valid, hash := 0x1234 }, minSecver := 2 }

theorem test_image_accepted : imageErr image1 otp1 false = (0, 0xFFFFFFFF) ∧ imageErr bankImage1 otp1 true = (0, 0xFFFFFFFF) := by decide +kernel

/-- Table 3.3: one image for the loader's errors, each with the error it meets first. -/
def badImages : List (ImageDesc × OtpSt × Nat) :=
  let h := image1.header
  let s (f : BankHeader → BankHeader) : ImageDesc := { image1 with sched := some { schedule1 with header := f schedule1.header } }
  let ops (l : BeatList) : ImageDesc := { image1 with sched := some { schedule1 with runDir := [{ engine := 0, budget := 700000, opTotal := 1, beats := [l] }] } }
  [({ image1 with readError := 2 }, otp1, 0x02), ({ image1 with header := { h with magic := 0 } }, otp1, 0x03),
   ({ image1 with header := { h with format := 2 } }, otp1, 0x04), ({ image1 with header := { h with imageBytes := 4095 } }, otp1, 0x05),
   ({ image1 with dir := image1.dir.take 6 }, otp1, 0x06), ({ image1 with dir := { dirEntry 1 0x400 with crcOk := false } :: image1.dir.drop 1 }, otp1, 0x06),
   ({ image1 with header := { h with keySlot := 2 } }, otp1, 0x07), ({ image1 with keyHash := 0 }, otp1, 0x08), ({ image1 with sigOk := false }, otp1, 0x09),
   (image1, { otp1 with minSecver := 3 }, 0x0A), (s (fun x => { x with magic := 0 }), otp1, 0x10), (s (fun x => { x with format := 2 }), otp1, 0x11),
   (s (fun x => { x with compat := 0 }), otp1, 0x12), (s (fun x => { x with imageId := 8 }), otp1, 0x13), (s (fun x => { x with layoutSig := 0 }), otp1, 0x14),
   (s (fun x => { x with period := 3 }), otp1, 0x15), (s (fun x => { x with nEngine := 2 }), otp1, 0x16), (s (fun x => { x with worstCycles := 736001 }), otp1, 0x17),
   (s (fun x => { x with nVariant := 2 }), otp1, 0x18), (s (fun x => { x with nRange := 0 }), otp1, 0x19), (s (fun x => { x with bankBytes := 0 }), otp1, 0x1A),
   (ops { endList with ops := { opcode := 5, flags := 0, notBefore := 0, deadline := 0, operand := 0 } :: endList.ops }, otp1, 0x1B),
   (ops { endList with ops := { opcode := 3, flags := 0, notBefore := 0, deadline := 9, operand := 0 } :: endList.ops }, otp1, 0x1C),
   (ops { endList with ops := endList.ops ++ endList.ops }, otp1, 0x1D)]

theorem test_image_errors : ∀ p ∈ badImages, (imageErr p.1 p.2.1 false).1 = p.2.2 := by decide +kernel

/-- Errors 0x20 to 0x26: a wrong section of each type. -/
theorem test_section_errors :
    ∀ p ∈ ([({ image1 with dirty := [3] }, 0x20), ({ image1 with dirty := [4] }, 0x21),
        ({ image1 with safety := some { safCfg with configId := 0 } }, 0x22), ({ image1 with dirty := [6] }, 0x23),
        ({ image1 with net := some { netCfg1 with cmdQueue := 0 } }, 0x24), ({ image1 with dirty := [8] }, 0x25),
        ({ image1 with time := some { timeCfg with sources := 8 } }, 0x26)] : List (ImageDesc × Nat)),
      (imageErr p.1 otp1 false).1 = p.2 := by decide +kernel

-- States that meet the hypotheses of the statements on the beat, the banks and the start.

/-- The running device with the one-engine schedule in bank 0, another bank 1, and an Engineer's command next. -/
def banked (b : Bank) : State :=
  let s := opened up 2
  { s with sch := { up.sch with bank0 := { Bank.empty with phase := .active, image := some schedule1 }, bank1 := b }, img := { up.img with otp := otp1 } }
def bankIn (p : BankPhase) : Bank := { Bank.empty with phase := p, session := 1, declared := 65536, image := some schedule1 }

theorem wit_BeatEdgeAdvances : (banked Bank.empty).edgesRun = true ∧ (banked Bank.empty).sch.restarting = false ∧ (banked Bank.empty).beat.live = true := by decide

/-- BEAT_BUDGET of engine 0 is 700,000: an END at 700,001 is late, one at 700,000 is not; event 9 is raised. -/
theorem wit_SequencerOps :
    let s : State := { banked Bank.empty with sch := { (banked Bank.empty).sch with events := [9], engines := Tab.set EngineSt.zero [] 2 { EngineSt.zero with wait := .event 9 } } }
    s.engineReady { engine := 0, pair := true, opIndex := 0, issue := 0, start := 0, stall := 0, complete := 700001 } ∧
      s.sch.budget 0 s.beat.n.toNat = 700000 ∧
      s.sch.released { engine := 2, pair := true, opIndex := 0, issue := 0, start := 0, stall := 0, complete := 10 } = true := by decide

/-- Engine 0 late, with three overruns in the window or none; the schedule stopped with one edge to go. -/
theorem wit_OverrunAndRestart :
    let s := banked Bank.empty
    let e : State := { s with sch := { s.sch with ovrLog := [0, 0, 0] } }
    let r : State := { s with sch := { s.sch with restarting := true, running := false, restartLeft := 1 } }
    s.sch.lateEngines = [0] ∧ s.sch.escalates = false ∧ e.sch.lateEngines ≠ [] ∧ e.sch.escalates = true ∧ up.sch.lateEngines = [] ∧
      s.img.phase = .running ∧ s.img.faultRound ≠ some s.sch.roundNo ∧ r.sch.restarting = true ∧ r.sch.restartLeft ≤ 1 ∧
      ({ s with img := { s.img with faultRound := some 0 } } : State).img.faultRound = some s.sch.roundNo := by decide

theorem wit_BankLoading : ∀ p ∈ [BankPhase.empty, .ready, .loading, .verify, .pending],
    (banked (bankIn p)).sessionMay ref 2 ∧ (banked (bankIn p)).sch.inactive.phase = p ∧ (banked (bankIn p)).sch.inactive.session = ref.session := by decide

/-- Verification passes for the bank image and fails for the whole image. -/
theorem wit_BankLoading_verify :
    (((banked (bankIn .verify)).sch.verifyErr bankImage1 (banked Bank.empty).img.otp).1 = 0) ∧
      ((banked (bankIn .verify)).sch.verifyErr image1 (banked Bank.empty).img.otp).1 ≠ 0 := by decide +kernel

theorem wit_BankSwitchOrdered :
    let s := banked (bankIn .ready)
    let d : State := { banked (bankIn .pending) with
      beat := { up.beat with boundary := true }, sch := { (banked (bankIn .pending)).sch with switch := some { imageId := 7, age := 2 } } }
    s.unionTurn ref ∧ s.sch.switch = none ∧ s.sch.inactive.phase = .ready ∧ s.sch.inactive.image = some schedule1 ∧ s.sch.sched = some schedule1 ∧
      d.atBoundary = true ∧ d.sch.switchDue = true ∧ d.sch.inactive.image = some schedule1 ∧ s.sch.switchDue = false ∧
      (banked Bank.empty).sch.inactive.phase ≠ .ready := by decide

/-- SCH_OVR_CFG: RESTART_LIMIT 5 over 16 rounds by an Engineer is taken; a limit of 0 is not. -/
theorem test_ovr_cfg : (after (execSchOvrCfgWrite { input := 9, session := 1, role := 3 } 0x1005 up)).sch.ovrLimit = 5 ∧
    (after (execSchOvrCfgWrite { input := 9, session := 1, role := 3 } 0x1000 up)).sch.flCfgRefused = true := by decide

/-- A powered device in a phase of its start, with an order of images and an accepted image or none. -/
def starting (p : StartPhase) (order : List Bool) (a : Option ImageDesc) : State :=
  { State.reset with img := { ImgSt.reset with powered := true, phase := p, order := order, imageB := decide (p = .loadB), accepted := a, otp := otp1 } }

theorem wit_StartSequence :
    State.reset.img.powered = false ∧ State.reset.img.pwrcyc ≠ BitVec.allOnes 22 ∧ (starting .discover [false, true] none).img.powered = true ∧
      (starting .discover [false, true] none).img.nresetIn = false ∧ (starting .discover [false, true] none).fbu.enabled = false ∧
      (starting .discover [false, true] none).img.nvmMap = false ∧ (starting .loadA [false, true] none).loading = true ∧
      netOk netCfg1.streamInterval.toNat netCfg1 = true := by decide

theorem wit_ImageOutcome :
    (starting .loadA [false, true] none).loading = true ∧ (starting .loadA [false, true] none).img.imageB = false ∧
      (starting .loadB [true] none).loading = true ∧ (starting .loadB [true] none).img.imageB = true ∧
      (starting .init [false, true] (some image1)).img.accepted = some image1 ∧ image1.sched = some schedule1 ∧
      (starting .waitTime [false, true] (some image1)).tim.now ≤ 5001 * 1000000 := by decide +kernel

theorem wit_ImageOutcome_errors : (imageErr image1 (starting .loadA [] none).img.otp false).1 = 0 ∧ (imageErr bankImage1 otp1 false).1 ≠ 0 := by
  decide +kernel

theorem wit_ImageResetPersistence : (opened up 3).sessionMay ref 3 ∧ up.awake = true ∧ up.img.nresetIn = false ∧
    ({ up with img := { up.img with nresetIn := true } } : State).img.nresetIn = true := by decide

theorem wit_ColdStart : up.img.powered = true := rfl

-- Ill-formed commands, one or more for each check of WellFormed.lean.

def noSession : HostRef := { ref with session := 0 }
def nobody : Who := { input := 9, session := 0, role := 3 }
def lateOp : OpRun := { anOp with issue := 9, start := 8 }
def noData : ProblemData := { lx := [], ux := [], l := [], u := [], other := [] }
def aStream : StreamIn := { stream := 0, clocks := 0, index := 0, fraction := 0, fill := 0, clips := 0, line := none }
def aDump : Dump := { promptI := 0, promptQ := 0, earlyI := 0, earlyQ := 0, lateI := 0, lateQ := 0, pilot := false, symbol := none, txTime := none }
def aHdr : LinkHdr := { ok := true, retry := false, beat := 0, seq := 0, ack := 0 }
def anItem : Item :=
  { kind := 1, channel := 0, ident := 0, sideB := false, shared := false, check := 0, source := 0, bytes := 0, instant := 0, payload := [], host := none }

/-- An operation that starts before it is issued. -/
theorem test_wf_operations : ∀ i ∈ ([
    .endOp lateOp, .waitCycle lateOp 0, .signalOp lateOp 0, .waitEvent lateOp 0, .waitRelease lateOp, .captureOp lateOp,
    .loadOp lateOp 0 noData, .factorOp lateOp 0, .iterateOp lateOp 0, .storeOp lateOp 0, .baSlice lateOp 0 0,
    .solverDeadline lateOp 0 0 0 0, .compensatorOp lateOp .begin_, .publishOp lateOp, .lunaOp lateOp .track, .selfTestOp lateOp false 0 []] : List Instr), i.wf = false := by decide +kernel

/-- A request of no session. -/
theorem test_wf_sessions : ∀ i ∈ ([
    .bankLoadBegin noSession 0 0, .bankLoadData noSession 0 [], .bankLoadEnd noSession 0 0, .bankLoadAbort noSession 0,
    .bankSwitch noSession 0, .resetImage noSession, .timeStepArm noSession, .gnssAid noSession 0 0 0, .gnssEph noSession 0 [],
    .gnssAmbRead noSession 0, .gnssAmbFix noSession 0 [] [], .deselectRef noSession 0, .selectRef noSession 0, .resetOrigin noSession 0,
    .targetBind noSession 0 0 0 0, .targetClear noSession 0, .calFreeze noSession 0, .calUnfreeze noSession 0, .calAccept noSession 0,
    .calReset noSession 0, .deviceOut noSession 0, .deviceIn noSession 0, .deviceUnlock noSession 0, .sectorEnable noSession 0 0,
    .variantOverride noSession 0 false, .setMode noSession 0, .setPoint noSession 0 0 0 false false 0, .goPos noSession,
    .goPsi noSession 0 false, .setTarget noSession 0, .winchModeRequest noSession 0 0, .stabEnable noSession 0 false,
    .closeSession noSession, .keepalive noSession, .readSnapshot noSession 0 [], .readReg noSession [], .readRecorder noSession 0 0,
    .ringRead noSession 0 0, .ringWrite noSession 0 [], .streamAdd noSession noDest, .streamRemove noSession noDest,
    .regionWrite noSession 0 0 0 [] false, .writeReg noSession [], .nvmWrite noSession 0 0 [], .nvmErase noSession 0 0 0 0,
    .otpRevoke noSession false 0, .otpMinSecver noSession 0, .pairSwap noSession, .pairDemote noSession, .joinBlock noSession,
    .joinAllow noSession, .safResetArm noSession 0, .powerRun noSession 0 0 0, .powerWatch noSession 0 0 0,
    .powerChrysalis noSession 0 0 0, .powerCocoon noSession 0 0 0] : List Instr), i.wf = false := by decide +kernel

/-- A register access of no requester. -/
theorem test_wf_requesters : ∀ i ∈ ([
    .schOvrCfgWrite nobody 0, .peakClear nobody, .coefApply nobody noSession 0, .outputRelease nobody 0, .hostValueWrite nobody 0 0,
    .forceActive nobody 0, .recover nobody 0, .renegotiate nobody 0, .bufferHeadRead nobody 0 0, .bufferEndRead nobody 0 0,
    .windowCopyWrite nobody 0 false 0 0, .winSwitch nobody 0, .ringReset nobody 0, .recordWindowLock nobody, .recordWindowRelease nobody,
    .padReleaseDirect nobody, .padReleaseAnn nobody, .arbCfgWrite nobody 0, .pairLowRead nobody 0, .registerWrite nobody 0 0,
    .counterConfigWrite nobody 0 0, .tagSeedWrite nobody 0, .taggerEnable nobody 0, .tagWindowLock nobody, .tagWindowRelease nobody] : List Instr), i.wf = false := by decide +kernel

/-- Every other bound. -/
theorem test_wf_bounds : ∀ i ∈ ([
    .beatEdge { streams := List.replicate 13 aStream, gpio := 0 }, .endOp { anOp with engine := 14 },
    .endOp { anOp with start := 3, complete := 2 }, .selfTestOp anOp true 0 [(112, 0)], .firstBeat 1500000 0, .correlatorDump 384 aDump,
    .acqHandoff 384, .pullInDone 400, .pullInTimeout 511, .trackLowCn0 384, .coastExpired 384,
    .bankLoadBegin { ref with session := 17 } 0 0, .gnssAmbFix ref 0 [1, 2] [3], .csiFrameEnd 0 0 0 4 none [] 0,
    .setPoint ref 0 0 0 true true 3, .goPsi ref 3 false, .coefApply anEngineer noSession 0, .holdLimitExpire 112 false,
    .outputRelease anEngineer 112, .hostValueWrite anEngineer 127 0, .canFrameReceive 0 { aFrame 0 with data := List.replicate 9 0 } 0,
    .canFrameReceive 0 { aFrame 0 with fd := true, data := List.replicate 65 0 } 0, .canFrameReceive 0 { aFrame 0 with brs := true } 0,
    .canFrameReceive 0 { aFrame 0 with fd := true, remote := true } 0, .canFrameReceive 0 (aFrame 0x40000000) 0, .sentenceComplete 12 [] 0,
    .serialRateDetect 12 0, .serialRateDetect 0 5, .ringReset { anEngineer with role := 0 } 0, .ringReset { anEngineer with role := 5 } 0,
    .ringReset { anEngineer with input := 3 } 0, .ringReset { anEngineer with input := 14 } 0] : List Instr), i.wf = false := by decide +kernel

/-- Every other bound. -/
theorem test_wf_bounds2 : ∀ i ∈ ([
    .xhpRequest { port := 2, address := 0, bytes := [] }, .openSession ref 0 0 0, .readReg ref (List.replicate 65 0), .readReg ref [2],
    .regionWrite ref 0 0 0 (List.replicate 257 0) true, .writeReg ref (List.replicate 65 (0, 0)), .writeReg ref [(1, 0)],
    .nvmWrite ref 0 0 (List.replicate 1025 0), .linkTrained 3, .linkCapture aHdr [{ anItem with kind := 9 }], .joinAccept aHdr 4 0,
    .joinRefuse aHdr 0, .linkPage aHdr 0 [1, 2], .linkDemote aHdr 3,
    .islandCycle { edgeIn true true 0 false with samples := List.replicate 17 [] },
    .islandCycle { edgeIn true true 0 false with encoder := List.replicate 9 (0, false) }, .globalFault 0 0, .globalFault 8 0,
    .eventRaise 0x0400 [], .eventRaise 0x0401 [1, 2, 3, 4, 5], .bucketRefill (some 0x0500), .domainIdleExpire 12, .wakePortMatch 7 0,
    .wakePortMatch 0x78 0, .chrysalisFirstBeat 1, .requestRaise 0 5, .holdLimitCut 2 0 0, .pairLowRead anEngineer 3,
    .registerWrite anEngineer 1 0, .dbgAuth 8 0, .dbgAccess 2 0 false, .otpProg (.debugState 3), .counterConfigWrite anEngineer 0x00120031 0] : List Instr), i.wf = false := by decide +kernel

/-- Well-formed commands are taken. -/
theorem test_wf_accepts : ∀ i ∈ ([.endOp anOp, .openSession { ref with session := 0 } 0 0 0, .keepalive ref, .tagWindowLock anEngineer,
    .tagWindowLock { input := 14, session := 0, role := 4 }, .canFrameReceive 0 { aFrame 0 with fd := true, brs := true } 0, .linkTrained 2,
    .otpProg (.debugState 2), .eventRaise 0x0401 [1], .overrunCheck] : List Instr), i.wf = true := by decide

end Sys2Proof.Tests
end

section
/-! SUPPORT. The start of a device (03_image_start_resets.md R84 to R99): what power good, a failed image, discovery and a time
configuration change, and the statement on the rows from power good to a chosen image. -/

namespace Sys2Proof.Machine

open Sys2Proof

/-! A TIME_CFG coming into force changes the time keeper, and raises events (R131). -/

@[simp] theorem State.useTime_img (s : State) (c : Option TimeCfg) : (s.useTime c).img = s.img := by simp [State.useTime]
@[simp] theorem State.useTime_hst (s : State) (c : Option TimeCfg) : (s.useTime c).hst = s.hst := by simp [State.useTime]

/-! Power good (R97). -/

@[simp] theorem SafSt.last_island (v : SafSt) (l : List Ev) : (v.last l).island = v.island := by
  unfold SafSt.last
  split <;> rfl

@[simp] theorem SafSt.last_soOn (v : SafSt) (l : List Ev) : (v.last l).soOn = v.soOn := by
  unfold SafSt.last
  split <;> rfl

@[simp] theorem SafSt.start_island (v : SafSt) (kind bad : BitVec 2) : (v.start kind bad).saf.island = .selftest := by
  simp [SafSt.start, SafR.of, SafSt.reset]

/-- The full self-test starts with every safe output off (R471). -/
@[simp] theorem SafSt.start_soOn (v : SafSt) (kind bad : BitVec 2) : (v.start kind bad).saf.soOn = 0 := by
  simp [SafSt.start, SafR.of, SafSt.reset]

@[simp] theorem PaiSt.startTraining_sideB (p : PaiSt) : p.startTraining.1.sideB = p.sideB := by
  unfold PaiSt.startTraining
  split <;> rfl

/-- The loader at power good: the power cycle counted, the straps sampled, both reset lines asserted (R95, R97). -/
theorem State.powerOn_img (s : State) (straps : BitVec 4) (sideB : Bool) (bad : BitVec 2) :
    (s.powerOn false straps sideB bad).img =
      { s.img with
        powered := true, phase := .discover, forceB := straps.getLsbD 0, nvmMap := straps.getLsbD 1, strap2 := straps.getLsbD 2
        strap3 := straps.getLsbD 3, order := imageOrder (straps.getLsbD 0) none, kind := .cold, nresetOut := true, faultOut := true
        pwrcyc := satInc s.img.pwrcyc } := by
  simp [State.powerOn]

@[simp] theorem State.powerOn_saf (s : State) (straps : BitVec 4) (sideB : Bool) (bad : BitVec 2) :
    (s.powerOn false straps sideB bad).saf = (s.saf.start 0 bad).saf := by
  simp [State.powerOn]

@[simp] theorem State.powerOn_sideB (s : State) (straps : BitVec 4) (sideB : Bool) (bad : BitVec 2) :
    (s.powerOn false straps sideB bad).pai.sideB = sideB := by
  simp [State.powerOn]

/-- POWER_GOOD on a device without power is a Cold start. -/
theorem exec_powerGood_unpowered {s : State} (h : s.img.powered = false) (straps : BitVec 4) (sideB : Bool) (bad : BitVec 2) :
    exec (.powerGood false straps sideB bad) s = .next (s.powerOn false straps sideB bad) := by
  show execPowerGood false straps sideB bad s = _
  simp [execPowerGood, h]

theorem exec_fusesRead_powered {s : State} (h : s.img.powered = true) :
    exec .fusesRead s = .next { s with img := { s.img with paramsValid := true } } := by
  show execFusesRead s = _
  simp [execFusesRead, h]

/-! The field buses listen (R99). -/

theorem FbuSt.listenAll_chan (f : FbuSt) {c : Nat} (hc : c < 16) : (f.listenAll.chan c).mode = .listen := by
  have hmem : c ∈ List.range 16 := List.mem_range.mpr hc
  simp [FbuSt.chan, FbuSt.listenAll, Tab.get_modifyAll _ _ _ _ hmem List.nodup_range]

theorem exec_nresetOutRelease_ready {s : State} (hp : s.img.powered = true) (hr : s.img.nresetIn = false) (he : s.fbu.enabled = false) :
    exec .nresetOutRelease s = .next { s with img := { s.img with nresetOut := false }, fbu := s.fbu.listenAll } := by
  show execNresetOutRelease s = _
  simp [execNresetOutRelease, hp, hr, he]

/-! A failed image (R94 to R96). -/

/-- The loader's registers once an image has failed: its error is kept, and it leaves the order. -/
def ImgSt.failed (g : ImgSt) (isB : Bool) (code : Nat) (idx : Word) : ImgSt :=
  let sec : Half := if idx = 0xFFFFFFFF then 0xFFFF else idx.setWidth 16
  let h := if isB then { g with errB := BitVec.ofNat 8 code, errBSec := sec } else { g with errA := BitVec.ofNat 8 code, errASec := sec }
  { h with provisional := false, order := g.order.filter (fun b => b != isB) }

/-- An image that fails during discovery leaves the loader there while another is left to try. -/
theorem State.failImage_img_discover {s : State} (h : s.img.phase = .discover) (isB : Bool) (code : Nat) (idx : Word) :
    (s.failImage isB code idx).img =
      if (s.img.failed isB code idx).order = [] then { s.img.failed isB code idx with phase := .noImage } else s.img.failed isB code idx := by
  cases isB <;> simp [State.failImage, ImgSt.failed, h]

/-- Both images fail in their order: nothing is left to load. -/
theorem State.failImage_both {s : State} (hd : s.img.phase = .discover) (ho : s.img.order = [false, true]) (code : Nat) (idx : Word) :
    let g := ((s.failImage false code idx).failImage true code idx).img
    g.phase = .noImage ∧ g.order = [] ∧ g.errA = BitVec.ofNat 8 code ∧ g.errB = BitVec.ofNat 8 code := by
  have h1 : (s.failImage false code idx).img = s.img.failed false code idx := by
    simp [State.failImage_img_discover hd, ImgSt.failed, ho]
  have hd1 : (s.failImage false code idx).img.phase = .discover := by simp [h1, ImgSt.failed, hd]
  simp [State.failImage_img_discover hd1, h1, ImgSt.failed, ho]

/-! Discovery (R84, R85). -/

/-- The registers that discovery sets where an SFDP table was found, and where none was. -/
def ImgSt.nvmFound (g : ImgSt) (modes : BitVec 3) (mhz size : BitVec 8) : ImgSt :=
  { g with nvmMode := nvmModeOf modes, nvmMhz := if mhz.toNat < 200 then mhz else 200, nvmSize := size }
def ImgSt.nvmMissing (g : ImgSt) : ImgSt := { g with nvmMode := 3, nvmMhz := 0, nvmSize := 0 }

section
variable {s : State} (hp : s.img.powered = true) (hr : s.img.nresetIn = false) (hd : s.img.phase = .discover)
  (ho : s.img.order = [false, true]) (hm : s.img.nvmMap = false)
include hp hr hd ho hm

/-- Both images behind chip select 0, which answers: image A is tried first. -/
theorem exec_nvmDiscovery_found (b : Bool) (modes : BitVec 3) (mhz size : BitVec 8) :
    exec (.nvmDiscovery true b modes mhz size) s = .next { s with img := (s.img.nvmFound modes mhz size).tryNext } := by
  show execNvmDiscovery true b modes mhz size s = _
  simp [execNvmDiscovery, ImgSt.nvmFound, hp, hr, hd, ho, hm]

/-- Both images behind chip select 0, which does not answer: both fail with error 0x01. -/
theorem exec_nvmDiscovery_missing (b : Bool) (modes : BitVec 3) (mhz size : BitVec 8) :
    exec (.nvmDiscovery false b modes mhz size) s =
      .next ((({ s with img := s.img.nvmMissing } : State).failImage false 0x01 0xFFFFFFFF).failImage true 0x01 0xFFFFFFFF) := by
  have hd' : ({ s with img := s.img.nvmMissing } : State).img.phase = .discover := hd
  have ho' : ({ s with img := s.img.nvmMissing } : State).img.order = [false, true] := ho
  obtain ⟨-, hnone, -⟩ := State.failImage_both hd' ho' 0x01 0xFFFFFFFF
  show execNvmDiscovery false b modes mhz size s = _
  simp [execNvmDiscovery, ImgSt.nvmMissing, hp, hr, hd, ho, hm] at hnone ⊢
  exact fun hsome => absurd hnone hsome

end

/-- The modes of R84 in their order: the first that is declared is taken. -/
theorem nvmModeOf_first (modes : BitVec 3) :
    (modes.getLsbD 0 = true → nvmModeOf modes = 0) ∧ (modes.getLsbD 0 = false → modes.getLsbD 1 = true → nvmModeOf modes = 1) ∧
      (modes.getLsbD 0 = false → modes.getLsbD 1 = false → modes.getLsbD 2 = true → nvmModeOf modes = 2) := by
  refine ⟨fun h0 => ?_, fun h0 h1 => ?_, fun h0 h1 h2 => ?_⟩
  · simp only [nvmModeOf, h0, if_true]
  · simp only [nvmModeOf, h0, h1, if_true, Bool.false_eq_true, if_false]
  · simp only [nvmModeOf, h0, h1, h2, if_true, Bool.false_eq_true, if_false]

/-! Provisional settings (R98). -/

/-- A NET_CFG that keeps its rules is applied, whatever comes of the TIME_CFG. -/
theorem exec_provisionalApply_net {s : State} (hl : s.loading = true) {net : NetCfg} (hn : netOk net.streamInterval.toNat net = true)
    (time : Option TimeCfg) :
    ∃ t, exec (.provisionalApply (some net) time) s = .next t ∧ t.img.provisional = true ∧ t.hst.netCfg = some net := by
  refine ⟨_, rfl, ?_⟩
  simp only [hl, if_true, Option.filter_some, hn, Option.isSome_some]
  split
  · simp
  · exact ⟨rfl, rfl⟩

/-- Settles O13: each row by what it does to the loader, the island and the buses. -/
theorem startSequence : Obligations.StartSequence := by
  intro s
  refine ⟨fun straps sideB bad hp => ?_, fun hp => ?_, fun hp hr he => ?_, fun b modes mhz size hp hr hd ho hm => ?_,
    fun b modes mhz size hp hr hd ho hm => ?_, fun net time hl hn => exec_provisionalApply_net hl hn time⟩
  · refine ⟨_, exec_powerGood_unpowered hp straps sideB bad, ?_⟩
    simp +contextual [State.powerOn_img, imageOrder, satInc]
  · exact ⟨_, exec_fusesRead_powered hp, rfl, rfl⟩
  · exact ⟨_, exec_nresetOutRelease_ready hp hr he, rfl, rfl, fun c hc => s.fbu.listenAll_chan hc⟩
  · refine ⟨_, exec_nvmDiscovery_found hp hr hd ho hm b modes mhz size, ?_⟩
    have hg : (s.img.nvmFound modes mhz size).tryNext = { s.img.nvmFound modes mhz size with phase := .loadA, imageB := false } := by
      simp [ImgSt.tryNext, ImgSt.nvmFound, ho]
    rw [hg]
    exact ⟨rfl, rfl, rfl, rfl, nvmModeOf_first modes⟩
  · refine ⟨_, exec_nvmDiscovery_missing hp hr hd ho hm b modes mhz size, ?_⟩
    obtain ⟨hphase, -, hA, hB⟩ :=
      State.failImage_both (s := { s with img := s.img.nvmMissing }) hd ho 0x01 0xFFFFFFFF
    exact ⟨hphase, hA, hB⟩

end Sys2Proof.Machine
end

section
/-! SUPPORT. Laws of the service fabric (19_service_fabric.md): what counting changes, whom the arbiter picks, what a cut and a
collection do. -/

namespace Sys2Proof.Machine

open Sys2Proof

theorem bits_lt (w : Word) (hi lo : Nat) : bits w hi lo < 2 ^ (hi + 1 - lo) := Nat.mod_lt _ (Nat.two_pow_pos _)

/-! Counting changes the counters alone (R529). -/

/-- `w` is `v` but for its performance counters. -/
def SvcSt.SameButCounters (v w : SvcSt) : Prop := ∃ c, w = { v with counters := c }

theorem SvcSt.SameButCounters.refl (v : SvcSt) : v.SameButCounters v := ⟨v.counters, rfl⟩

theorem SvcSt.SameButCounters.trans {u v w : SvcSt} (h1 : u.SameButCounters v) (h2 : v.SameButCounters w) : u.SameButCounters w := by
  obtain ⟨c, rfl⟩ := h1
  obtain ⟨d, rfl⟩ := h2
  exact ⟨d, rfl⟩

theorem SvcSt.SameButCounters.setCounter (v : SvcSt) (k : Nat) (x : Counter) : v.SameButCounters (v.setCounter k x) := ⟨_, rfl⟩

/-- Block SVC's own counters count words of grants, and no event (R529). -/
@[simp] theorem SvcSt.count_svcBlock (v : SvcSt) (event n : Nat) (ok : CounterCfg → Bool) : v.count 0x12 event n ok = v := if_pos rfl

theorem SvcSt.count_same (v : SvcSt) (block event n : Nat) (ok : CounterCfg → Bool) : v.SameButCounters (v.count block event n ok) := by
  unfold SvcSt.count
  split
  · exact .refl v
  · generalize List.range (counterCount block) = ks
    induction ks generalizing v with
    | nil => exact .refl v
    | cons k ks ih =>
      rw [List.foldl_cons]
      refine .trans ?_ (ih _)
      dsimp only
      split
      · exact .setCounter v _ _
      · exact .refl v

theorem SvcSt.countAccess_same (v : SvcSt) (who : Who) (block ofs : Nat) (write locking : Bool) :
    v.SameButCounters (v.countAccess who block ofs write locking) := by
  unfold SvcSt.countAccess
  exact .trans (.trans (SvcSt.count_same _ _ _ _ _) (SvcSt.count_same _ _ _ _ _)) (SvcSt.count_same _ _ _ _ _)

@[simp] theorem SvcSt.countAccess_svcBlock (v : SvcSt) (who : Who) (ofs : Nat) (write locking : Bool) :
    v.countAccess who 0x12 ofs write locking = v := by
  simp [SvcSt.countAccess]

/-- Events are counted in their blocks' counters; the rest of the fabric is as it was. -/
theorem State.raise_svc (s : State) (l : List Ev) : s.svc.SameButCounters (s.raise l).svc := by
  induction l generalizing s with
  | nil => exact .refl _
  | cons e l ih => exact (SvcSt.count_same s.svc (e.1.toNat / 256) 8 1 (fun _ => true)).trans (ih (s.raiseOne e))

theorem State.withSvc_svc (s : State) (r : SvcR) : r.1.SameButCounters (s.withSvc r).svc := State.raise_svc _ r.2

/-! Requests and the arbiter's choice (R516 to R518). -/

/-- A request that is raised already keeps its first cycle. -/
theorem SvcSt.request_raised {i : BitVec 4} (h : i ≠ 0) (v : SvcSt) (c : Nat) :
    Tab.get none (v.request i c).raised i.toNat = some ((Tab.get none v.raised i.toNat).getD c) := by
  rw [SvcSt.request, if_neg h]
  simp only [Tab.get_modify, if_true]
  cases Tab.get none v.raised i.toNat <;> rfl

@[simp] theorem SvcSt.request_grant (v : SvcSt) (i : BitVec 4) (c : Nat) : (v.request i c).grant = v.grant := by
  unfold SvcSt.request
  split <;> rfl

theorem SvcSt.mem_waiting {v : SvcSt} {upTo k c : Nat} : (k, c) ∈ v.waiting upTo ↔ (k, some c) ∈ v.raised ∧ c ≤ upTo := by
  simp only [SvcSt.waiting, List.mem_filterMap, Prod.exists]
  constructor
  · rintro ⟨j, o, hmem, ho⟩
    cases o with
    | none => cases ho
    | some d =>
      by_cases hd : d ≤ upTo
      · simp only [hd, if_true, Option.some.injEq, Prod.mk.injEq] at ho
        obtain ⟨rfl, rfl⟩ := ho
        exact ⟨hmem, hd⟩
      · simp [hd] at ho
  · rintro ⟨hmem, hc⟩
    exact ⟨k, some c, hmem, by simp [hc]⟩

/-- R518's order: request `p`, an input with its cycle, goes before `q`. -/
abbrev goesBefore (p q : Nat × Nat) : Prop := p.2 < q.2 ∨ (p.2 = q.2 ∧ q.1 < p.1)

/-- What is found in a list whose head is one of `p` and `q` is found behind both. -/
theorem mem_of_mem_ite_cons {α : Type} {r p q : α} {l : List α} {c : Prop} [Decidable c] (h : r ∈ (if c then q else p) :: l) :
    r ∈ p :: q :: l := by
  split at h
  · exact List.mem_cons_of_mem p h
  · rcases List.mem_cons.mp h with rfl | hl
    · exact List.mem_cons_self
    · exact List.mem_cons_of_mem p (List.mem_cons_of_mem q hl)

theorem pickOldest_cons_cons (p q : Nat × Nat) (l : List (Nat × Nat)) :
    pickOldest (p :: q :: l) = pickOldest ((if goesBefore q p then q else p) :: l) := by
  simp only [pickOldest, List.foldl_cons, goesBefore]
  congr 2
  split <;> rfl

/-- The reserved grant goes to a waiting request that none goes before. -/
theorem pickOldest_first (p : Nat × Nat) (l : List (Nat × Nat)) :
    ∃ r ∈ p :: l, pickOldest (p :: l) = some r.1 ∧ ∀ q ∈ p :: l, ¬ goesBefore q r := by
  induction l generalizing p with
  | nil => exact ⟨p, by simp, rfl, by simp⟩
  | cons q l ih =>
    obtain ⟨r, hr, hpick, hfirst⟩ := ih (if goesBefore q p then q else p)
    have hm := hfirst _ List.mem_cons_self
    refine ⟨r, mem_of_mem_ite_cons hr, (pickOldest_cons_cons p q l).trans hpick, fun x hx => ?_⟩
    rcases List.mem_cons.mp hx with rfl | hx
    · split at hm <;> omega
    · rcases List.mem_cons.mp hx with rfl | hx
      · split at hm <;> omega
      · exact hfirst x (List.mem_cons_of_mem _ hx)

theorem pickRank_cons_cons (p q : Nat × Nat) (l : List (Nat × Nat)) :
    pickRank (p :: q :: l) = pickRank ((if p.1 ≤ q.1 then q else p) :: l) := by
  simp only [pickRank, List.foldl_cons]
  congr 2
  split <;> omega

/-- A grant by rank goes to a waiting request. -/
theorem pickRank_mem (p : Nat × Nat) (l : List (Nat × Nat)) : ∃ r ∈ p :: l, pickRank (p :: l) = some r.1 := by
  induction l generalizing p with
  | nil => exact ⟨p, by simp, rfl⟩
  | cons q l ih =>
    obtain ⟨r, hr, hpick⟩ := ih (if p.1 ≤ q.1 then q else p)
    exact ⟨r, mem_of_mem_ite_cons hr, (pickRank_cons_cons p q l).trans hpick⟩

/-- The arbiter never picks the input it leaves out. -/
theorem SvcSt.choose_ne_out {v : SvcSt} {upTo k j : Nat} (h : v.choose upTo (some k) = some j) : j ≠ k := by
  unfold SvcSt.choose at h
  dsimp only at h
  generalize hl : (v.waiting upTo).filter (fun p => decide (some p.1 ≠ some k)) = l at h
  have hout : ∀ r ∈ l, r.1 ≠ k := by
    subst hl
    simp
  cases l with
  | nil => simp [pickOldest, pickRank] at h
  | cons p l =>
    split at h
    · obtain ⟨r, hr, hpick, -⟩ := pickOldest_first p l
      rw [hpick, Option.some.injEq] at h
      exact h ▸ hout r hr
    · obtain ⟨r, hr, hpick⟩ := pickRank_mem p l
      rw [hpick, Option.some.injEq] at h
      exact h ▸ hout r hr

/-- A reserved grant goes to the request that every other waiting one comes after. -/
theorem SvcSt.choose_reserved {v : SvcSt} {upTo k c : Nat} (hn : v.arbN ≠ 0) (hres : (v.grantNo + 1) % v.arbN.toNat = 0)
    (hmem : (k, some c) ∈ v.raised) (hc : c ≤ upTo)
    (hfirst : ∀ j d, (j, some d) ∈ v.raised → d ≤ upTo → c < d ∨ (c = d ∧ j ≤ k)) : v.choose upTo none = some k := by
  have hn' : v.arbN.toNat ≠ 0 := fun h0 => hn (BitVec.eq_of_toNat_eq h0)
  have hkc : (k, c) ∈ v.waiting upTo := SvcSt.mem_waiting.mpr ⟨hmem, hc⟩
  have hall : (v.waiting upTo).filter (fun p => decide (some p.1 ≠ none)) = v.waiting upTo := by simp
  have hr : reservedGrant (v.grantNo + 1) v.arbN.toNat = true := by simp [reservedGrant, hn', hres]
  simp only [SvcSt.choose, hall, hr, if_true]
  cases hw : v.waiting upTo with
  | nil => simp [hw] at hkc
  | cons p l =>
    obtain ⟨⟨j, d⟩, hjd, hpick, hbest⟩ := pickOldest_first p l
    rw [← hw] at hjd hbest
    have hnb := hbest _ hkc
    obtain ⟨hj, hd⟩ := SvcSt.mem_waiting.mp hjd
    have hbound := hfirst j d hj hd
    have hjk : j = k := by
      simp only [goesBefore] at hnb
      omega
    rw [hpick, hjk]

/-! Decisions and cuts (R519, R520). -/

theorem SvcSt.decide_some {v : SvcSt} {cycle upTo k : Nat} {out : Option Nat} (h : v.choose upTo out = some k) :
    v.decide_ cycle upTo out =
      { v with
        grant := some { holder := BitVec.ofNat 4 k, start := cycle + 1, limit := v.holdLimit.toNat }
        grantNo := v.grantNo + 1, raised := Tab.set none v.raised k none } := by
  simp [SvcSt.decide_, h]

@[simp] theorem SvcSt.decide_cuts (v : SvcSt) (cycle upTo : Nat) (out : Option Nat) : (v.decide_ cycle upTo out).cuts = v.cuts := by
  unfold SvcSt.decide_
  split <;> rfl

/-- The input that a decision leaves out keeps what it raised. -/
theorem SvcSt.decide_raised_out (v : SvcSt) (cycle upTo k : Nat) :
    Tab.get none (v.decide_ cycle upTo (some k)).raised k = Tab.get none v.raised k := by
  cases h : v.choose upTo (some k) with
  | none => simp [SvcSt.decide_, h]
  | some j => rw [SvcSt.decide_some h, Tab.get_set_other _ _ _ (SvcSt.choose_ne_out h).symm]

/-- A grant that has reached its limit is cut. -/
theorem SvcSt.cut_reached {v : SvcSt} {g : Grant} (hg : v.grant = some g) {cycle : Nat} (h : g.start + g.limit ≤ cycle + 1) (a : Word)
    (words : Nat) :
    let w := (v.cut a words cycle).1
    w.flCutoff = true ∧ Tab.get 0 w.cuts g.holder.toNat = Tab.get 0 v.cuts g.holder.toNat + 1 ∧
      Tab.get none w.raised g.holder.toNat = Tab.get none v.raised g.holder.toNat := by
  simp only [SvcSt.cut, hg, Nat.not_lt.mpr h, if_false]
  generalize hd : (v.grantWords g.holder.toNat words).decide_ cycle cycle (some g.holder.toNat) = d
  have hcuts : d.cuts = v.cuts := by simp [← hd, SvcSt.grantWords, SvcSt.setCounter]
  have hraised : Tab.get none d.raised g.holder.toNat = Tab.get none v.raised g.holder.toNat := by
    rw [← hd, SvcSt.decide_raised_out]
    rfl
  obtain ⟨c, hc⟩ := d.count_same (a.toNat / 65536) 7 1
    (fun f => f.matches { input := g.holder, session := 0, role := if g.holder.toNat = 14 then 4 else 0 } 0 (a.toNat % 65536))
  rw [hc]
  simp [Tab.get_modify, hcuts, hraised]

/-- A grant below its limit goes on. -/
theorem SvcSt.cut_early {v : SvcSt} {g : Grant} (hg : v.grant = some g) {cycle : Nat} (h : cycle + 1 < g.start + g.limit) (a : Word)
    (words : Nat) : v.cut a words cycle = (v, []) := by
  simp [SvcSt.cut, hg, h]

/-! A collection (R532). -/

/-- A counter after a collection: snapshot, difference, and the written configuration in force. -/
def Counter.collected (c : Counter) : Counter :=
  { c with delta := c.value - c.snap, snap := c.value, cfg := c.next.getD c.cfg, next := none, reconfig := c.next.isSome }

/-- Every counter of the device. -/
def counterKeys : List Nat := (List.range 19).flatMap (fun b => (List.range (counterCount b)).map (counterKey b))

theorem counterCount_le (b : Nat) : counterCount b ≤ 16 := by
  unfold counterCount
  split
  · omega
  · split
    · omega
    · split <;> omega

theorem counterKeys_nodup : counterKeys.Nodup := by
  refine List.pairwise_flatMap.mpr ⟨fun b _ => ?_, List.nodup_range.imp fun {a b} hab => ?_⟩
  · refine List.pairwise_map.mpr (List.nodup_range.imp fun hjk heq => hjk ?_)
    simp only [counterKey] at heq
    omega
  · intro x hx y hy
    obtain ⟨j, hj, rfl⟩ := List.mem_map.mp hx
    obtain ⟨k, hk, rfl⟩ := List.mem_map.mp hy
    have hja := Nat.lt_of_lt_of_le (List.mem_range.mp hj) (counterCount_le a)
    have hkb := Nat.lt_of_lt_of_le (List.mem_range.mp hk) (counterCount_le b)
    simp only [counterKey]
    omega

theorem mem_counterKeys {b k : Nat} (hb : b < 19) (hk : k < counterCount b) : counterKey b k ∈ counterKeys :=
  List.mem_flatMap.mpr ⟨b, List.mem_range.mpr hb, List.mem_map_of_mem (List.mem_range.mpr hk)⟩

/-- Applying `f` to counters one after the other is one change of the table. -/
theorem SvcSt.foldl_setCounter (v : SvcSt) (ks : List Nat) (f : Counter → Counter) :
    ks.foldl (fun (a : SvcSt) k => a.setCounter k (f (a.counter k))) v =
      { v with counters := Tab.modifyAll Counter.zero v.counters ks (fun _ => f) } := by
  induction ks generalizing v with
  | nil => rfl
  | cons k ks ih =>
    rw [List.foldl_cons, ih]
    rfl

theorem SvcSt.collect_eq (v : SvcSt) (t0 : Nat) (lat : Half) :
    v.collect t0 lat =
      { v with
        counters := Tab.modifyAll Counter.zero v.counters counterKeys (fun _ => Counter.collected)
        pcSeq := v.pcSeq + 1, pcT0 := BitVec.ofNat 64 t0, pcLat := lat, pcSkew := (v.collect t0 lat).pcSkew, bw := (v.collect t0 lat).bw } := by
  have hfold := v.foldl_setCounter counterKeys Counter.collected
  simp only [counterKeys, Counter.collected] at hfold ⊢
  simp only [SvcSt.collect, hfold]

theorem SvcSt.collect_counter (v : SvcSt) (t0 : Nat) (lat : Half) {b k : Nat} (hb : b < 19) (hk : k < counterCount b) :
    (v.collect t0 lat).counter (counterKey b k) = (v.counter (counterKey b k)).collected := by
  have hcounters := congrArg SvcSt.counters (v.collect_eq t0 lat)
  rw [SvcSt.counter, hcounters, Tab.get_modifyAll _ _ _ _ (mem_counterKeys hb hk) counterKeys_nodup]
  rfl

/-! The tagger (R534, R535). -/

/-- The countdown lies between BASE and BASE + SPREAD. -/
theorem Tagger.rearm_countdown (g : Tagger) : g.base.toNat ≤ g.rearm.countdown ∧ g.rearm.countdown ≤ g.base.toNat + g.spread.toNat := by
  simp only [Tagger.rearm]
  have : (lfsrStep g.lfsr).toNat % 65536 % (g.spread.toNat + 1) < g.spread.toNat + 1 := Nat.mod_lt _ (Nat.succ_pos _)
  omega

/-- A completed entry is written at the head of the buffer, whether or not the tagger goes on. -/
theorem SvcSt.tagWrite_tagger (v : SvcSt) (e : TagEntry) :
    (v.tagWrite e).1.tagger.inFlight = none ∧ (v.tagWrite e).1.tagger.next = v.tagger.next + 1 ∧
      (v.tagWrite e).1.tagger.buffer = Tab.set none v.tagger.buffer v.tagger.next.toNat (some e) := by
  unfold SvcSt.tagWrite
  extract_lets g count g1
  split
  · exact ⟨rfl, rfl, rfl⟩
  · split <;> exact ⟨rfl, rfl, rfl⟩

/-! The debug port (R527). -/

theorem SvcSt.debugServed_iff (v : SvcSt) (otp : OtpSt) :
    v.debugServed otp = true ↔ otp.debugState.toNat = 0 ∨ (otp.debugState.toNat = 1 ∧ v.jtag.authSlot.isSome = true) := by
  unfold SvcSt.debugServed
  split <;> simp_all

theorem SvcSt.debugEnd_jtag (v : SvcSt) : v.debugEnd.1.jtag = { v.jtag with authSlot := none } := by
  unfold SvcSt.debugEnd
  split
  · next h => rw [← h]
  · rfl

end Sys2Proof.Machine
end

section
/-! SUPPORT. Register access over the service fabric (19_service_fabric.md R522 to R527): no access touches the debug port, and what an
access of one register is. -/

namespace Sys2Proof.Machine

open Sys2Proof

/-! No register access changes the debug port (R526). -/

theorem SvcSt.SameButCounters.jtag {v w : SvcSt} (h : v.SameButCounters w) : w.jtag = v.jtag := by
  obtain ⟨c, rfl⟩ := h
  rfl

@[simp] theorem SvcSt.count_jtag (v : SvcSt) (block event n : Nat) (ok : CounterCfg → Bool) : (v.count block event n ok).jtag = v.jtag :=
  (v.count_same block event n ok).jtag

@[simp] theorem SvcSt.countAccess_jtag (v : SvcSt) (who : Who) (block ofs : Nat) (write locking : Bool) :
    (v.countAccess who block ofs write locking).jtag = v.jtag := (v.countAccess_same who block ofs write locking).jtag

@[simp] theorem SvcSt.countIgnored_jtag (v : SvcSt) (block : Nat) : (v.countIgnored block).jtag = v.jtag := v.count_jtag _ _ _ _
@[simp] theorem SvcSt.countStaged_jtag (v : SvcSt) (who : Who) (block ofs : Nat) : (v.countStaged who block ofs).jtag = v.jtag :=
  v.count_jtag _ _ _ _

@[simp] theorem State.raiseOne_jtag (s : State) (e : Ev) : (s.raiseOne e).svc.jtag = s.svc.jtag := s.svc.count_jtag _ _ _ _
@[simp] theorem State.raise_jtag (s : State) (l : List Ev) : (s.raise l).svc.jtag = s.svc.jtag := (s.raise_svc l).jtag

@[simp] theorem SvcSt.arbWrite_jtag (v : SvcSt) (who : Who) (w : Word) : (v.arbWrite who w).1.jtag = v.jtag := by
  unfold SvcSt.arbWrite
  extract_lets
  split <;> rfl

@[simp] theorem SvcSt.counterWrite_jtag (v : SvcSt) (who : Who) (sel : Word) (ofs : Nat) (w : Word) :
    (v.counterWrite who sel ofs w).jtag = v.jtag := by
  unfold SvcSt.counterWrite
  extract_lets
  repeat' (first | rfl | split)

@[simp] theorem SvcSt.tagCfg_jtag (v : SvcSt) (who : Who) (w : Word) : (v.tagCfg who w).jtag = v.jtag := by
  unfold SvcSt.tagCfg
  split <;> rfl

@[simp] theorem SvcSt.tagBase_jtag (v : SvcSt) (who : Who) (w : Word) : (v.tagBase who w).jtag = v.jtag := by
  unfold SvcSt.tagBase
  split <;> rfl

@[simp] theorem SvcSt.seedWrite_jtag (v : SvcSt) (who : Who) (w : Word) : (v.seedWrite who w).jtag = v.jtag := by
  unfold SvcSt.seedWrite
  split <;> rfl

@[simp] theorem State.unmapped_jtag (s : State) (who : Who) (a : Word) (write : Bool) : (s.unmapped who a write).svc.jtag = s.svc.jtag := by
  cases write <;> simp [State.unmapped]

@[simp] theorem State.dropPair_jtag (s : State) (who : Who) (a : Word) : (s.dropPair who a).svc.jtag = s.svc.jtag := rfl
@[simp] theorem State.holdPair_jtag (s : State) (who : Who) (a : Word) : (s.holdPair who a).svc.jtag = s.svc.jtag := rfl

@[simp] theorem State.lockRead_jtag (s : State) (who : Who) (a : Word) : (s.lockRead who a).1.svc.jtag = s.svc.jtag := by
  unfold State.lockRead
  extract_lets
  split <;> rfl

@[simp] theorem State.readReg_jtag (s : State) (who : Who) (a : Word) : (s.readReg who a).1.svc.jtag = s.svc.jtag := by
  unfold State.readReg
  extract_lets b ofs
  split
  · simp
  · split
    · simp +zetaDelta
    · extract_lets
      split <;> simp +zetaDelta

@[simp] theorem State.ignoredIf_jtag (s : State) (refused : Bool) (block : Nat) : (s.ignoredIf refused block).svc.jtag = s.svc.jtag := by
  cases refused <;> simp [State.ignoredIf]

@[simp] theorem State.setSel_jtag (s : State) (who : Who) (block : Nat) (w : Word) : (s.setSel who block w).svc.jtag = s.svc.jtag := rfl

@[simp] theorem State.writeSel_jtag (s : State) (who : Who) (block : Nat) (w : Word) : (s.writeSel who block w).svc.jtag = s.svc.jtag := by
  unfold State.writeSel
  extract_lets old upTo
  have hup : ∀ hi lim, (upTo hi lim).svc.jtag = s.svc.jtag := fun hi lim => by
    simp only [upTo]
    split <;> simp
  clear_value upTo
  split <;> first | exact hup _ _ | rfl | (split <;> rfl)

@[simp] theorem State.forceActive_jtag (s : State) (who : Who) (c : Nat) : (s.forceActive who c).svc.jtag = s.svc.jtag := by
  unfold State.forceActive
  extract_lets
  split <;> simp

@[simp] theorem State.recoverBus_jtag (s : State) (c : Nat) : (s.recoverBus c).svc.jtag = s.svc.jtag := by
  unfold State.recoverBus
  extract_lets
  split <;> rfl

@[simp] theorem State.windowWrite_jtag (s : State) (c copy w : Nat) (v : Word) : (s.windowWrite c copy w v).svc.jtag = s.svc.jtag := by
  unfold State.windowWrite
  extract_lets
  split <;> simp

@[simp] theorem State.resetRing_jtag (s : State) (r : Nat) : (s.resetRing r).svc.jtag = s.svc.jtag := by
  unfold State.resetRing
  extract_lets
  split <;> simp

@[simp] theorem State.padRelease_jtag (s : State) (who : Who) (mask : Nat) : (s.padRelease who mask).svc.jtag = s.svc.jtag := by
  simp [State.padRelease]

@[simp] theorem State.stageWrite_jtag (s : State) (who : Who) (a w : Word) : (s.stageWrite who a w).svc.jtag = s.svc.jtag := by
  simp [State.stageWrite, State.stageWriteSel]

@[simp] theorem State.coefsNow_jtag (s : State) (k : Nat) (session : Word) : (s.coefsNow k session).1.svc.jtag = s.svc.jtag := by
  unfold State.coefsNow
  extract_lets
  split <;> simp +zetaDelta [applied, refusedCmd, State.countGain]

@[simp] theorem State.coefWrite_jtag (s : State) (k ofs : Nat) (w session : Word) : (s.coefWrite k ofs w session).1.svc.jtag = s.svc.jtag := by
  unfold State.coefWrite
  repeat' split
  all_goals first | rfl | simp

/-- `t`, where there is one, has the debug port of `s`. -/
def State.KeepsJtag (s : State) (t : Option State) : Prop := ∀ u ∈ t, u.svc.jtag = s.svc.jtag

theorem State.writeEngines_jtag (s : State) (who : Who) (b ofs : Nat) (w : Word) : s.KeepsJtag (s.writeEngines who b ofs w) := by
  unfold State.writeEngines State.KeepsJtag
  extract_lets
  repeat' split
  all_goals simp

theorem State.writeBuses_jtag (s : State) (who : Who) (b ofs : Nat) (w : Word) : s.KeepsJtag (s.writeBuses who b ofs w) := by
  unfold State.writeBuses State.KeepsJtag
  extract_lets
  repeat' (first | split | extract_lets)
  all_goals simp +zetaDelta [State.winSwitch, apply_ite State.svc, apply_ite SvcSt.jtag]

theorem State.writeService_jtag (s : State) (who : Who) (b ofs : Nat) (w : Word) : s.KeepsJtag (s.writeService who b ofs w) := by
  unfold State.writeService State.KeepsJtag
  repeat' split
  all_goals simp [SvcSt.clearFlags]

theorem State.directWrite_jtag (s : State) (who : Who) (a w : Word) : s.KeepsJtag (s.directWrite who a w) := by
  unfold State.directWrite
  extract_lets b ofs
  split
  · simp [State.KeepsJtag]
  · split
    · exact s.writeEngines_jtag who b ofs w
    · split
      · exact s.writeBuses_jtag who b ofs w
      · exact s.writeService_jtag who b ofs w

@[simp] theorem State.writeReg_jtag (s : State) (who : Who) (a w : Word) : (s.writeReg who a w).svc.jtag = s.svc.jtag := by
  unfold State.writeReg
  extract_lets b ofs s1 s2
  split
  · simp
  · have h1 : s1.svc.jtag = s.svc.jtag := by simp [s1]
    have h2 : s2.svc.jtag = s.svc.jtag := by simp [s2, h1]
    split
    · split
      · cases h : s2.directWrite who a w with
        | none => exact h2
        | some t => exact (s2.directWrite_jtag who a w t h).trans h2
      · exact h2
    · split
      · next t h => exact (s1.directWrite_jtag who a w t h).trans h1
      · simp [h1]

/-! A write to a service-domain block (R4, R525). -/

/-- A write has been counted and has ended the requester's claim on the block's pair (R524, R529). -/
def State.writeAccess (s : State) (who : Who) (a : Word) : State :=
  ({ s with svc := s.svc.countAccess who (a.toNat / 65536) (a.toNat % 65536) true false } : State).dropPair who a

/-- In block SVC such a write counts nothing. -/
theorem State.writeAccess_svcBlock (s : State) (who : Who) {a : Word} (h : a.toNat / 65536 = 0x12) : s.writeAccess who a = s.dropPair who a := by
  simp [State.writeAccess, h]

/-- No register of a service-domain block is written staged. -/
theorem State.staged_service (s : State) (who : Who) {a : Word} (w : Word) (h : 0x0D ≤ a.toNat / 65536) : s.staged who a w = false := by
  have hpair : pairRegister a.toNat = false := by
    unfold pairRegister
    split <;> first | omega | rfl
  have hne : decide (a = 0x000C8008) = false := by
    refine decide_eq_false ?_
    rintro rfl
    exact absurd h (by decide)
  unfold State.staged
  rw [hpair, hne]
  simp

theorem State.writeReg_service {s t : State} {who : Who} {a v : Word} (w : Word) (hp : s.peek who a = some v) (hb : 0x0D ≤ a.toNat / 65536)
    (ho : a.toNat % 65536 ≠ 0x10)
    (ht : (s.writeAccess who a).writeService who (a.toNat / 65536) (a.toNat % 65536) w = some t) : s.writeReg who a w = t := by
  have hd : (s.writeAccess who a).directWrite who a w = some t := by
    unfold State.directWrite
    rw [if_neg (fun h => ho h.1), if_neg (by omega), if_neg (by omega), ht]
  unfold State.writeAccess at hd
  simp [State.writeReg, hp, State.staged_service _ who w hb, hd]

/-- A write that a service-domain block does not take changes the counters and the claim alone. -/
theorem State.writeReg_service_ignored {s : State} {who : Who} {a v : Word} (w : Word) (hp : s.peek who a = some v)
    (hb : 0x0D ≤ a.toNat / 65536) (ho : a.toNat % 65536 ≠ 0x10)
    (ht : (s.writeAccess who a).writeService who (a.toNat / 65536) (a.toNat % 65536) w = none) :
    s.writeReg who a w = { s.writeAccess who a with svc := (s.writeAccess who a).svc.countIgnored (a.toNat / 65536) } := by
  have hd : (s.writeAccess who a).directWrite who a w = none := by
    unfold State.directWrite
    rw [if_neg (fun h => ho h.1), if_neg (by omega), if_neg (by omega), ht]
  unfold State.writeAccess at hd ⊢
  simp [State.writeReg, hp, State.staged_service _ who w hb, hd]

/-- A write to an address that is not mapped (R522). -/
theorem State.writeReg_unmapped {s : State} {who : Who} {a : Word} (w : Word) (hp : s.peek who a = none) :
    s.writeReg who a w = s.unmapped who a true := by
  simp [State.writeReg, hp]

theorem State.writeReg_svc {s t : State} {who : Who} {a v : Word} (w : Word) (hb : a.toNat / 65536 = 0x12) (ho : a.toNat % 65536 ≠ 0x10)
    (hp : s.peek who a = some v) (ht : (s.dropPair who a).writeService who 0x12 (a.toNat % 65536) w = some t) : s.writeReg who a w = t := by
  refine State.writeReg_service w hp (by omega) ho ?_
  rw [State.writeAccess_svcBlock s who hb, hb, ht]

/-- SVC_ARB_CFG (R521). -/
theorem State.writeReg_arbCfg (s : State) (who : Who) (w : Word) :
    s.writeReg who 0x00120020 w =
      ({ s.dropPair who 0x00120020 with svc := ((s.dropPair who 0x00120020).svc.arbWrite who w).1 } : State).raise
        ((s.dropPair who 0x00120020).svc.arbWrite who w).2 :=
  State.writeReg_svc w rfl (by decide) rfl rfl

/-- SVC_PC_WINDOW (R532). -/
theorem State.writeReg_pcWindow (s : State) (who : Who) (w : Word) :
    s.writeReg who 0x00120030 w =
      { s.dropPair who 0x00120030 with svc := (s.dropPair who 0x00120030).svc.counterWrite who (s.sel who 0x12) 0x30 w } :=
  State.writeReg_svc w rfl (by decide) rfl rfl

/-- SVC_TAG_CFG (R534). -/
theorem State.writeReg_tagCfg (s : State) (who : Who) (w : Word) :
    s.writeReg who 0x00120048 w = { s.dropPair who 0x00120048 with svc := (s.dropPair who 0x00120048).svc.tagCfg who w } :=
  State.writeReg_svc w rfl (by decide) rfl rfl

/-- SVC_TAG_SEED (R534). -/
theorem State.writeReg_tagSeed (s : State) (who : Who) (w : Word) :
    s.writeReg who 0x00120050 w = { s.dropPair who 0x00120050 with svc := (s.dropPair who 0x00120050).svc.seedWrite who w } :=
  State.writeReg_svc w rfl (by decide) rfl rfl

@[simp] theorem State.writeAccess_saf (s : State) (who : Who) (a : Word) : (s.writeAccess who a).saf = s.saf := rfl
@[simp] theorem State.writeAccess_rcd (s : State) (who : Who) (a : Word) : (s.writeAccess who a).rcd = s.rcd := rfl

/-- REC_SEQSEL (Table 17.6). -/
theorem State.writeReg_seqSel (s : State) (who : Who) (w : Word) :
    s.writeReg who 0x00100014 w =
      { s.writeAccess who 0x00100014 with rcd := { (s.writeAccess who 0x00100014).rcd with seqSel := w } } :=
  State.writeReg_service w (hp := rfl) (by decide) (by decide) rfl

/-- SAF_FLAGS, cleared where 1 is written (Table 16.6). -/
theorem State.writeReg_safFlags (s : State) (who : Who) (w : Word) :
    s.writeReg who 0x000F0034 w = { s.writeAccess who 0x000F0034 with saf := (s.writeAccess who 0x000F0034).saf.clearFlags w } :=
  State.writeReg_service w (hp := rfl) (by decide) (by decide) rfl

/-- SAF_TRIPS is read-only (Table 16.6). -/
theorem State.writeReg_safTrips (s : State) (who : Who) (w : Word) :
    s.writeReg who 0x000F0038 w =
      { s.writeAccess who 0x000F0038 with svc := (s.writeAccess who 0x000F0038).svc.countIgnored 0x0F } :=
  State.writeReg_service_ignored w (hp := rfl) (by decide) (by decide) rfl

/-! Reads (R524, R535). -/

/-- The registers of the other blocks do not show the performance counters. -/
theorem State.peek_counters (s : State) (who : Who) {a : Word} (h : a.toNat / 65536 < 0x12) {v : SvcSt} (hv : s.svc.SameButCounters v) :
    ({ s with svc := v } : State).peek who a = s.peek who a := by
  obtain ⟨c, rfl⟩ := hv
  unfold State.peek
  generalize a.toNat / 65536 = b at h ⊢
  match b, h with
  | 0, _ | 1, _ | 2, _ | 3, _ | 4, _ | 5, _ | 6, _ | 7, _ | 8, _ | 9, _ | 10, _ | 11, _ | 12, _ | 13, _ | 14, _ | 15, _ | 16, _ | 17, _ => rfl
  | n + 18, hn => exact absurd hn (by omega)

/-- The low words of pairs lie in the blocks of Table 0.2, below the end of their block. -/
theorem isPairLow_bound {b ofs : Nat} (h : isPairLow b ofs = true) : b ≤ 0x12 ∧ ofs ≤ 0xC030 := by
  unfold isPairLow at h
  split at h <;> simp at h <;> omega

/-- The high word of a pair lies in the same block. -/
theorem isPairLow_block {a : Word} (h : isPairLow (a.toNat / 65536) (a.toNat % 65536) = true) : (a + 4).toNat / 65536 = a.toNat / 65536 := by
  obtain ⟨hb, ho⟩ := isPairLow_bound h
  have hadd : (a + 4).toNat = a.toNat + 4 := by
    rw [BitVec.toNat_add]
    exact Nat.mod_eq_of_lt (by simp; omega)
  omega

/-- Counting an access leaves the high word of the pair as it was. -/
theorem State.peek_pairHigh (s : State) (who : Who) {a : Word} (h : isPairLow (a.toNat / 65536) (a.toNat % 65536) = true) :
    ({ s with svc := s.svc.countAccess who (a.toNat / 65536) (a.toNat % 65536) false (lockingReg a) } : State).peek who (a + 4) =
      s.peek who (a + 4) := by
  by_cases hb : a.toNat / 65536 = 0x12
  · rw [hb, SvcSt.countAccess_svcBlock]
  · have hlt : (a + 4).toNat / 65536 < 0x12 := by
      rw [isPairLow_block h]
      exact Nat.lt_of_le_of_ne (isPairLow_bound h).1 hb
    exact State.peek_counters s who hlt (SvcSt.countAccess_same _ _ _ _ _ _)

/-- The low word of a pair read: the high word goes into the requester's holding register (R524). -/
theorem State.readReg_pairLow {s : State} {who : Who} {a v w : Word} (h : isPairLow (a.toNat / 65536) (a.toNat % 65536) = true)
    (hv : s.peek who a = some v) (hw : s.peek who (a + 4) = some w) :
    let t := (s.readReg who a).1
    Tab.get 0 t.svc.pairHold (State.holdKey who a) = w ∧ Tab.get 0 t.svc.pairLast (State.holdKey who a) = a.toNat := by
  have hhigh := (s.peek_pairHigh who h).trans hw
  simp only [State.readReg, hv, h, if_true, State.holdPair, hhigh, Option.getD_some, Tab.get_set_same, and_self]

/-- SVC_T_W0 takes the selected entry into the window (R535). -/
theorem State.readReg_tagLock (s : State) (who : Who) :
    (s.readReg who 0x00129000).1.svc.tagger =
      { s.svc.tagger with window := some (Tab.get none s.svc.tagger.buffer (bits (s.sel who 0x12) 23 16)) } := rfl

/-- SVC_T_W7 releases the window (R535). -/
theorem State.readReg_tagRelease (s : State) (who : Who) :
    (s.readReg who 0x0012901C).1.svc.tagger = { s.svc.tagger with window := none } := rfl

/-- REC_NEWEST (Table 17.6). -/
theorem State.readReg_newest (s : State) (who : Who) : (s.readReg who 0x00100020).2 = s.rcd.newest := rfl

end Sys2Proof.Machine
end

section
/-! SUPPORT. The commands of the service fabric (19_service_fabric.md): what each does to its registers, and the statement on them. -/

namespace Sys2Proof.Machine

open Sys2Proof

/-- A command of a device that is awake does its work. -/
theorem next_if_awake {s x : State} (h : s.awake = true) :
    (.next (if s.awake then x else s) : Host.Outcome State Fault Refusal) = .next x := congrArg _ (if_pos h)

/-! Configuration writes (R521, R531, R532, R534). -/

theorem SvcSt.mayConfigure_iff (v : SvcSt) (who : Who) :
    v.mayConfigure who = true ↔ if who.input = 14 then v.jtag.authSlot.isSome = true else 3 ≤ who.role.toNat := by
  unfold SvcSt.mayConfigure
  split <;> simp

theorem SvcSt.arbWrite_accepted {v : SvcSt} {who : Who} {w : Word} (hmay : v.mayConfigure who = true)
    (hn : 2 ≤ bits w 6 0 ∧ bits w 6 0 ≤ 64) (hh : 256 ≤ bits w 28 16 ∧ bits w 28 16 ≤ 4096) :
    (v.arbWrite who w).1 = { v with arbN := BitVec.ofNat 7 (bits w 6 0), holdLimit := BitVec.ofNat 13 (bits w 28 16) } := by
  simp [SvcSt.arbWrite, hmay, hn, hh]

theorem SvcSt.arbWrite_refused {v : SvcSt} {who : Who} {w : Word}
    (h : ¬ (v.mayConfigure who = true ∧ 2 ≤ bits w 6 0 ∧ bits w 6 0 ≤ 64 ∧ 256 ≤ bits w 28 16 ∧ bits w 28 16 ≤ 4096)) :
    (v.arbWrite who w).1 = { v with flCfgRefused := true } := by
  unfold SvcSt.arbWrite
  exact congrArg Prod.fst (if_neg h)

theorem mayCount_iff (who : Who) : mayCount who = true ↔ 3 ≤ who.role.toNat := decide_eq_true_iff

theorem SvcSt.counterWrite_window_accepted {who : Who} {w : Word} (hmay : 3 ≤ who.role.toNat) (hn : bits w 9 0 ≠ 0)
    (hd : 1000 % bits w 9 0 = 0) (v : SvcSt) (sel : Word) :
    v.counterWrite who sel 0x30 w = { v with pcWindow := BitVec.ofNat 10 (bits w 9 0) } := by
  simp [SvcSt.counterWrite, (mayCount_iff who).mpr hmay, hn, hd]

theorem SvcSt.counterWrite_window_refused {who : Who} {w : Word} (h : who.role.toNat < 3 ∨ 1000 % bits w 9 0 ≠ 0) (v : SvcSt) (sel : Word) :
    v.counterWrite who sel 0x30 w = { v with flCfgRefused := true } := by
  rcases h with hrole | hd
  · have hmay : mayCount who = false := decide_eq_false (by omega)
    simp [SvcSt.counterWrite, hmay]
  · simp [SvcSt.counterWrite, hd]

theorem SvcSt.seedWrite_accepted {who : Who} {w : Word} (hmay : 3 ≤ who.role.toNat) (hw : w ≠ 0) (v : SvcSt) :
    v.seedWrite who w = { v with tagger := { v.tagger with seed := w, lfsr := w } } := by
  unfold SvcSt.seedWrite
  refine if_neg ?_
  rintro (h0 | h0)
  · exact hw h0
  · exact h0 ((mayCount_iff who).mpr hmay)

theorem SvcSt.seedWrite_zero (who : Who) (v : SvcSt) : v.seedWrite who 0 = { v with flCfgRefused := true } := if_pos (.inl rfl)

/-- Enabling the tagger arms it (R534). -/
theorem SvcSt.tagCfg_enable {v : SvcSt} {who : Who} {w : Word} (hmay : 3 ≤ who.role.toNat) (hoff : v.tagger.enable = false)
    (hon : bitOf w 31 = true) (hroom : v.tagger.count ≠ 256) :
    ∃ g : Tagger, g.base = v.tagger.base ∧ g.spread = v.tagger.spread ∧ (v.tagCfg who w).tagger = g.rearm := by
  have hfull : v.tagger.count.toNat ≠ 256 := fun h => hroom (BitVec.eq_of_toNat_eq h)
  refine ⟨{ v.tagger with engines := BitVec.ofNat 14 (bits w 13 0), stopMode := bitOf w 16, enable := bitOf w 31 }, rfl, rfl, ?_⟩
  simp [SvcSt.tagCfg, (mayCount_iff who).mpr hmay, hoff, hon, hfull]

theorem SvcSt.tagCfg_disable {v : SvcSt} {who : Who} {w : Word} (hmay : 3 ≤ who.role.toNat) (hoff : bitOf w 31 = false) :
    (v.tagCfg who w).tagger.running = false := by
  simp [SvcSt.tagCfg, (mayCount_iff who).mpr hmay, hoff]

/-! An unmapped access (R522). -/

theorem State.unmapped_svc (s : State) (who : Who) (a : Word) (write : Bool) :
    ({ s.svc with unmapped := s.svc.unmapped + 1, unmapAddr := if s.svc.flUnmapped then s.svc.unmapAddr else a, flUnmapped := true } :
      SvcSt).SameButCounters (s.unmapped who a write).svc := by
  refine .trans ?_ (State.raise_svc _ _)
  cases write
  · exact .refl _
  · exact SvcSt.count_same _ (a.toNat / 65536) 4 1 (fun _ => true)

/-! The debug port (R527, R528). -/

@[simp] theorem SvcSt.debugAuth_nonce (v : SvcSt) (otp : OtpSt) (slot : Byte) (tag : BitVec 128) : (v.debugAuth otp slot tag).1.jtag.nonce = none := by
  unfold SvcSt.debugAuth
  extract_lets
  split <;> rfl

section
variable {v : SvcSt} {otp : OtpSt} {slot : Byte} {tag : BitVec 128}

/-- The answer to the nonce, under a valid key of the Maintainer, opens the port. -/
theorem SvcSt.debugAuth_accepted {n : BitVec 128} (hn : v.jtag.nonce = some n) (hslot : slot.toNat < 8)
    (hstate : (Tab.get HostKeySlot.none otp.hostKeys slot.toNat).state = .valid)
    (hrole : (Tab.get HostKeySlot.none otp.hostKeys slot.toNat).role = 3) (hdbg : otp.debugState.toNat ≤ 1)
    (htag : tag = mac16 (Tab.get HostKeySlot.none otp.hostKeys slot.toNat).key (lblDbg ++ bytes16 n ++ leBytes 8 otp.deviceId.toNat)) :
    (v.debugAuth otp slot tag).1.jtag.authSlot = some slot := by
  unfold SvcSt.debugAuth
  extract_lets k good j
  have hgood : good = true := by
    simp only [good, hn, k, hslot, hstate, hrole, hdbg, ← htag, decide_true, Bool.and_self]
  rw [if_pos hgood]

/-- Without a nonce, a valid key, the Maintainer role or an open port the attempt fails. -/
theorem SvcSt.debugAuth_refused
    (h : v.jtag.nonce = none ∨ (Tab.get HostKeySlot.none otp.hostKeys slot.toNat).state ≠ .valid ∨
      (Tab.get HostKeySlot.none otp.hostKeys slot.toNat).role ≠ 3 ∨ otp.debugState.toNat = 2) :
    (v.debugAuth otp slot tag).1.jtag.authSlot = v.jtag.authSlot ∧ (v.debugAuth otp slot tag).1.flDebugRefused = true := by
  unfold SvcSt.debugAuth
  extract_lets k good j
  have hgood : good = false := by
    simp only [good]
    split
    · next n hn =>
      rcases h with hnone | hstate | hrole | hdbg
      · simp [hn] at hnone
      · simp [k, hstate]
      · simp only [k, decide_eq_false hrole, Bool.and_false, Bool.false_and]
      · simp [hdbg]
    · rfl
  rw [if_neg (by simp [hgood])]
  exact ⟨rfl, rfl⟩

end

theorem otpProg_hostKey_empty {otp : OtpSt} {slot : BitVec 3} (key : BitVec 256) (role : BitVec 2)
    (h : (Tab.get HostKeySlot.none otp.hostKeys slot.toNat).state = .empty) :
    otpProg otp (.hostKey slot key role) =
      ({ otp with hostKeys := Tab.set HostKeySlot.none otp.hostKeys slot.toNat { state := .valid, key := key, role := role } },
        some [1, slot.setWidth 32]) := if_pos h

theorem otpProg_hostKey_programmed {otp : OtpSt} {slot : BitVec 3} (key : BitVec 256) (role : BitVec 2)
    (h : (Tab.get HostKeySlot.none otp.hostKeys slot.toNat).state ≠ .empty) : otpProg otp (.hostKey slot key role) = (otp, none) := if_neg h

/-! The commands. -/

section
variable {s : State} (h : s.awake = true)
include h

/-- R518: a reserved grant goes to the request that has waited longest. -/
theorem exec_arbiterDecision_reserved {k c cycle : Nat} (words : Nat) (hg : s.svc.grant = none)
    (hres : (s.svc.grantNo + 1) % s.svc.arbN.toNat = 0) (hn : s.svc.arbN ≠ 0) (hmem : (k, some c) ∈ s.svc.raised) (hc : c ≤ cycle)
    (hfirst : ∀ j d, (j, some d) ∈ s.svc.raised → d ≤ cycle → c < d ∨ (c = d ∧ j ≤ k)) :
    ∃ t g, exec (.arbiterDecision cycle cycle words) s = .next t ∧ t.svc.grant = some g ∧ g.holder = BitVec.ofNat 4 k ∧ g.start = cycle + 1 := by
  have hd : s.svc.decision cycle cycle words = s.svc.decide_ cycle cycle none := by simp [SvcSt.decision, hg]
  refine ⟨_, { holder := BitVec.ofNat 4 k, start := cycle + 1, limit := s.svc.holdLimit.toNat }, next_if_awake h, ?_, rfl, rfl⟩
  simp [hd, SvcSt.decide_some (SvcSt.choose_reserved hn hres hmem hc hfirst)]

/-- R520: a grant at its limit is cut, and no other. -/
theorem exec_holdLimitCut {g : Grant} (hg : s.svc.grant = some g) (a : Word) (words cycle : Nat) :
    (g.start + g.limit ≤ cycle + 1 →
      ∃ t, exec (.holdLimitCut a words cycle) s = .next t ∧ t.svc.flCutoff = true ∧
        Tab.get 0 t.svc.cuts g.holder.toNat = Tab.get 0 s.svc.cuts g.holder.toNat + 1 ∧
        Tab.get none t.svc.raised g.holder.toNat = Tab.get none s.svc.raised g.holder.toNat) ∧
      (cycle + 1 < g.start + g.limit → exec (.holdLimitCut a words cycle) s = .next s) := by
  refine ⟨fun hle => ⟨_, next_if_awake h, ?_⟩, fun hlt => (next_if_awake h).trans ?_⟩
  · obtain ⟨c, hc⟩ := s.withSvc_svc (s.svc.cut a words cycle)
    rw [hc]
    exact SvcSt.cut_reached hg hle a words
  · rw [SvcSt.cut_early hg hlt]
    rfl

/-- R521: a write of SVC_ARB_CFG. -/
theorem exec_arbCfgWrite (who : Who) (v : Word) :
    let may := if who.input = 14 then s.svc.jtag.authSlot.isSome = true else 3 ≤ who.role.toNat
    let n := bits v 6 0
    let h := bits v 28 16
    ∃ t, exec (.arbCfgWrite who v) s = .next t ∧ t.svc.grant = s.svc.grant ∧ t.svc.grantNo = s.svc.grantNo ∧
      (may → 2 ≤ n → n ≤ 64 → 256 ≤ h → h ≤ 4096 → t.svc.arbN.toNat = n ∧ t.svc.holdLimit.toNat = h) ∧
      (¬ (may ∧ 2 ≤ n ∧ n ≤ 64 ∧ 256 ≤ h ∧ h ≤ 4096) →
        t.svc.arbN = s.svc.arbN ∧ t.svc.holdLimit = s.svc.holdLimit ∧ t.svc.flCfgRefused = true) := by
  intro may n hold
  refine ⟨_, next_if_awake h, ?_⟩
  rw [State.writeReg_arbCfg]
  dsimp only
  generalize hd : (s.dropPair who 0x00120020).svc = d
  have hmay : d.mayConfigure who = true ↔ may := by
    rw [← hd]
    exact SvcSt.mayConfigure_iff _ who
  obtain ⟨c, hc⟩ := State.raise_svc { s.dropPair who 0x00120020 with svc := (d.arbWrite who v).1 } (d.arbWrite who v).2
  rw [hc]
  dsimp only
  by_cases hok : may ∧ 2 ≤ n ∧ n ≤ 64 ∧ 256 ≤ hold ∧ hold ≤ 4096
  · obtain ⟨hm, hn2, hn64, hh256, hh4096⟩ := hok
    rw [SvcSt.arbWrite_accepted (hmay.mpr hm) ⟨hn2, hn64⟩ ⟨hh256, hh4096⟩, ← hd]
    refine ⟨rfl, rfl, fun _ _ _ _ _ => ?_, fun hn => absurd ⟨hm, hn2, hn64, hh256, hh4096⟩ hn⟩
    constructor <;> rw [BitVec.toNat_ofNat] <;> omega
  · have hno : ¬ (d.mayConfigure who = true ∧ 2 ≤ n ∧ n ≤ 64 ∧ 256 ≤ hold ∧ hold ≤ 4096) := by rwa [hmay]
    rw [SvcSt.arbWrite_refused hno, ← hd]
    exact ⟨rfl, rfl, fun hm h1 h2 h3 h4 => absurd ⟨hm, h1, h2, h3, h4⟩ hok, fun _ => ⟨rfl, rfl, rfl⟩⟩

/-- R527: an access of the debug port. -/
theorem exec_dbgAccess (a d : Word) (w : Bool) :
    let served := s.img.otp.debugState.toNat = 0 ∨ (s.img.otp.debugState.toNat = 1 ∧ s.svc.jtag.authSlot.isSome = true)
    ∃ t, exec (.dbgAccess a d w) s = .next t ∧ t.svc.jtag.instr = 0x12 ∧
      (served → t.svc.jtag.dbgStatus = 0 ∧ (a = 0x00100014 → w = true → t.rcd.seqSel = d) ∧
        (a = 0x00100020 → w = false → t.svc.jtag.dbgRead = s.rcd.newest)) ∧
      (¬ served → t.svc.jtag.dbgStatus = 1 ∧ t.rcd = s.rcd ∧ t.beat = s.beat ∧ t.hst = s.hst) := by
  intro served
  have hserved : s.svc.debugServed s.img.otp = true ↔ served := s.svc.debugServed_iff s.img.otp
  refine ⟨_, next_if_awake h, ?_⟩
  dsimp only
  by_cases hs : served
  · rw [if_pos (hserved.mpr hs)]
    cases w with
    | true =>
      refine ⟨by simp [State.dbgResult, State.withJtag], fun _ => ⟨rfl, ?_, by simp⟩, fun hn => absurd hs hn⟩
      rintro rfl -
      rw [State.writeReg_seqSel]
      rfl
    | false =>
      refine ⟨by simp [State.dbgResult, State.withJtag], fun _ => ⟨rfl, by simp, ?_⟩, fun hn => absurd hs hn⟩
      rintro rfl -
      exact State.readReg_newest _ Who.debug
  · rw [if_neg (fun hd => hs (hserved.mp hd))]
    exact ⟨rfl, fun hn => absurd hn hs, fun _ => ⟨rfl, rfl, rfl, rfl⟩⟩

/-- R528: OTP_PROG of a host key. -/
theorem exec_otpProg_hostKey (slot : BitVec 3) (key : BitVec 256) (role : BitVec 2) :
    ∃ t, exec (.otpProg (.hostKey slot key role)) s = .next t ∧
      (s.svc.debugServed s.img.otp = true → (Tab.get HostKeySlot.none s.img.otp.hostKeys slot.toNat).state = .empty →
        Tab.get HostKeySlot.none t.img.otp.hostKeys slot.toNat = { state := .valid, key := key, role := role } ∧ t.svc.jtag.dbgStatus = 0) ∧
      (s.svc.debugServed s.img.otp = false ∨ (Tab.get HostKeySlot.none s.img.otp.hostKeys slot.toNat).state ≠ .empty →
        t.img.otp = s.img.otp ∧ t.svc.jtag.dbgStatus = 1) := by
  refine ⟨_, next_if_awake h, ?_⟩
  dsimp only
  by_cases he : (Tab.get HostKeySlot.none s.img.otp.hostKeys slot.toNat).state = .empty
  · rw [otpProg_hostKey_empty key role he]
    cases hd : s.svc.debugServed s.img.otp with
    | true => exact ⟨fun _ _ => by simp [State.dbgResult], fun hn => by simp [he] at hn⟩
    | false => exact ⟨fun hn => by simp at hn, fun _ => ⟨rfl, rfl⟩⟩
  · rw [otpProg_hostKey_programmed key role he]
    cases hd : s.svc.debugServed s.img.otp <;> exact ⟨fun _ hn => absurd hn he, fun _ => ⟨rfl, rfl⟩⟩

end

/-- R532: a collection at a beat in its window. -/
theorem exec_counterCollection {s : State} (hrun : s.edgesRun = true) (t0 : Nat) (lat : Half) :
    exec (.counterCollection t0 lat) s =
      .next (if s.beatNo % s.svc.pcWindow.toNat = 0 then { s with svc := s.svc.collect t0 lat } else s) := by
  show execCounterCollection t0 lat s = _
  simp [execCounterCollection, hrun]

end Sys2Proof.Machine
end

section
/-! The statement on the commands of the service fabric. -/

namespace Sys2Proof.Machine

open Sys2Proof

section
variable {s : State} (h : s.awake = true)
include h

/-- R522: a write to an address that is not mapped. -/
theorem exec_registerWrite_unmapped {who : Who} {a : Word} (v : Word) (hp : s.peek who a = none) :
    ∃ t, exec (.registerWrite who a v) s = .next t ∧ t.svc.unmapped = s.svc.unmapped + 1 ∧ t.svc.flUnmapped = true ∧
      t.svc.unmapAddr = (if s.svc.flUnmapped then s.svc.unmapAddr else a) ∧ t.saf = s.saf ∧ t.est = s.est ∧ t.beat = s.beat := by
  refine ⟨_, next_if_awake h, ?_⟩
  obtain ⟨c, hc⟩ := s.unmapped_svc who a true
  rw [State.writeReg_unmapped v hp, hc]
  exact ⟨rfl, rfl, rfl, rfl, rfl, rfl⟩

/-- R4: the read-only SAF_TRIPS, the flags of the island, and the selection of a record. -/
theorem exec_registerWrite_service (who : Who) (v : Word) :
    (∃ t, exec (.registerWrite who 0x000F0038 v) s = .next t ∧ t.saf = s.saf ∧ t.rcd = s.rcd) ∧
      (∃ t, exec (.registerWrite who 0x000F0034 v) s = .next t ∧ t.saf = { s.saf with flags := s.saf.flags &&& ~~~(BitVec.ofNat 6 v.toNat) }) ∧
      (∃ t, exec (.registerWrite who 0x00100014 v) s = .next t ∧ t.rcd = { s.rcd with seqSel := v }) := by
  refine ⟨⟨_, next_if_awake h, ?_⟩, ⟨_, next_if_awake h, ?_⟩, ⟨_, next_if_awake h, ?_⟩⟩
  · simp only [State.writeReg_safTrips, State.writeAccess_saf, State.writeAccess_rcd, and_self]
  · simp only [State.writeReg_safFlags, State.writeAccess_saf, SafSt.clearFlags]
  · simp only [State.writeReg_seqSel, State.writeAccess_rcd]

/-- R524: the low word of a pair. -/
theorem exec_pairLowRead {who : Who} {a v w : Word} (hlow : isPairLow (a.toNat / 65536) (a.toNat % 65536) = true)
    (hv : s.peek who a = some v) (hw : s.peek who (a + 4) = some w) :
    ∃ t, exec (.pairLowRead who a) s = .next t ∧ Tab.get 0 t.svc.pairHold (State.holdKey who a) = w ∧
      Tab.get 0 t.svc.pairLast (State.holdKey who a) = a.toNat :=
  ⟨_, congrArg Host.Outcome.next (if_pos (by rw [h, hlow, Bool.and_self])), State.readReg_pairLow hlow hv hw⟩

/-- R527: the answer to the challenge. -/
theorem exec_dbgAuth (slot : Byte) (tag : BitVec 128) :
    let k := Tab.get HostKeySlot.none s.img.otp.hostKeys slot.toNat
    ∃ t, exec (.dbgAuth slot tag) s = .next t ∧ t.svc.jtag.nonce = none ∧
      (∀ n, s.svc.jtag.nonce = some n → slot.toNat < 8 → k.state = .valid → k.role = 3 → s.img.otp.debugState.toNat ≤ 1 →
        tag = mac16 k.key (lblDbg ++ bytes16 n ++ leBytes 8 s.img.otp.deviceId.toNat) → t.svc.jtag.authSlot = some slot) ∧
      (s.svc.jtag.nonce = none ∨ k.state ≠ .valid ∨ k.role ≠ 3 ∨ s.img.otp.debugState.toNat = 2 →
        t.svc.jtag.authSlot = s.svc.jtag.authSlot ∧ t.svc.flDebugRefused = true) := by
  intro k
  refine ⟨_, next_if_awake h, ?_⟩
  obtain ⟨c, hc⟩ := s.withSvc_svc (s.svc.debugAuth s.img.otp slot tag)
  rw [hc]
  exact ⟨SvcSt.debugAuth_nonce _ _ _ _, fun n => SvcSt.debugAuth_accepted, SvcSt.debugAuth_refused⟩

/-- R532: a write of SVC_PC_WINDOW. -/
theorem exec_counterConfigWrite_window (who : Who) (v : Word) :
    ∃ t, exec (.counterConfigWrite who 0x00120030 v) s = .next t ∧
      (3 ≤ who.role.toNat → bits v 9 0 ≠ 0 → 1000 % bits v 9 0 = 0 → t.svc.pcWindow.toNat = bits v 9 0) ∧
      (who.role.toNat < 3 ∨ 1000 % bits v 9 0 ≠ 0 → t.svc.pcWindow = s.svc.pcWindow ∧ t.svc.flCfgRefused = true) := by
  refine ⟨_, congrArg Host.Outcome.next (if_pos (by rw [h]; rfl)), ?_⟩
  rw [State.writeReg_pcWindow]
  refine ⟨fun hmay hn hd => ?_, fun hno => ?_⟩
  · rw [SvcSt.counterWrite_window_accepted hmay hn hd]
    exact BitVec.toNat_ofNat _ _ |>.trans (Nat.mod_eq_of_lt (bits_lt v 9 0))
  · rw [SvcSt.counterWrite_window_refused hno]
    exact ⟨rfl, rfl⟩

/-- R534: a write of SVC_TAG_SEED. -/
theorem exec_tagSeedWrite (who : Who) (v : Word) :
    ∃ t, exec (.tagSeedWrite who v) s = .next t ∧ (3 ≤ who.role.toNat → v ≠ 0 → t.svc.tagger.lfsr = v) ∧
      (v = 0 → t.svc.tagger = s.svc.tagger ∧ t.svc.flCfgRefused = true) := by
  refine ⟨_, next_if_awake h, ?_⟩
  rw [State.writeReg_tagSeed]
  refine ⟨fun hmay hv => by rw [SvcSt.seedWrite_accepted hmay hv], ?_⟩
  rintro rfl
  rw [SvcSt.seedWrite_zero]
  exact ⟨rfl, rfl⟩

/-- R534: a write of SVC_TAG_CFG. -/
theorem exec_taggerEnable (who : Who) (v : Word) :
    ∃ t, exec (.taggerEnable who v) s = .next t ∧
      (3 ≤ who.role.toNat → s.svc.tagger.enable = false → bitOf v 31 = true → s.svc.tagger.count ≠ 256 →
        t.svc.tagger.running = true ∧ s.svc.tagger.base.toNat ≤ t.svc.tagger.countdown ∧
        t.svc.tagger.countdown ≤ s.svc.tagger.base.toNat + s.svc.tagger.spread.toNat) ∧
      (3 ≤ who.role.toNat → bitOf v 31 = false → t.svc.tagger.running = false) := by
  refine ⟨_, next_if_awake h, ?_⟩
  rw [State.writeReg_tagCfg]
  refine ⟨fun hmay hoff hon hroom => ?_, fun hmay hoff => SvcSt.tagCfg_disable hmay hoff⟩
  obtain ⟨g, hbase, hspread, hg⟩ := SvcSt.tagCfg_enable (v := (s.dropPair who 0x00120048).svc) hmay hoff hon hroom
  obtain ⟨hlow, hhigh⟩ := g.rearm_countdown
  rw [hbase] at hlow
  rw [hbase, hspread] at hhigh
  dsimp only
  rw [hg]
  exact ⟨rfl, hlow, hhigh⟩

end

/-- R535: a tagged operation completes. -/
theorem exec_tagComplete {s : State} {e : TagEntry} (cycle stall : BitVec 20) (stopped : Bool) (hrun : s.sch.running = true)
    (he : s.svc.tagger.inFlight = some e) :
    ∃ t, exec (.tagComplete cycle stall stopped) s = .next t ∧ t.svc.tagger.inFlight = none ∧
      t.svc.tagger.next = s.svc.tagger.next + 1 ∧
      Tab.get none t.svc.tagger.buffer s.svc.tagger.next.toNat =
        some { e with stall := stall.setWidth 32, complete := cycle.setWidth 32, stopped := stopped } := by
  refine ⟨_, congrArg Host.Outcome.next (if_pos hrun), ?_⟩
  obtain ⟨c, hc⟩ := s.withSvc_svc (s.svc.tagComplete cycle stall stopped)
  have htag : s.svc.tagComplete cycle stall stopped =
      s.svc.tagWrite { e with stall := stall.setWidth 32, complete := cycle.setWidth 32, stopped := stopped } := by
    simp only [SvcSt.tagComplete, he]
  obtain ⟨hnone, hnext, hbuffer⟩ :=
    s.svc.tagWrite_tagger { e with stall := stall.setWidth 32, complete := cycle.setWidth 32, stopped := stopped }
  rw [hc, htag]
  exact ⟨hnone, hnext, by rw [hbuffer, Tab.get_set_same]⟩

/-- Settles O60: the arbiter and the register accesses, the debug port, the collection, the configuration writes, and the tag of a
completed operation. -/
theorem fabricCommands : Obligations.FabricCommands := by
  refine ⟨fun s h => ?_, fun s h => ?_, fun s t0 lat hrun => ?_, fun s who v h => ?_,
    fun s e cycle stall stopped hrun he => exec_tagComplete cycle stall stopped hrun he⟩
  · refine ⟨fun i c hi => ⟨_, next_if_awake h, SvcSt.request_grant _ _ _, SvcSt.request_raised hi _ _⟩,
      fun k c cycle words hg hres hn hmem hc hfirst => exec_arbiterDecision_reserved h words hg hres hn hmem hc hfirst,
      fun g a words cycle hg => exec_holdLimitCut h hg a words cycle, exec_arbCfgWrite h,
      fun who a v hp => exec_registerWrite_unmapped h v hp, exec_registerWrite_service h,
      fun who a v w hlow hv hw => exec_pairLowRead h hlow hv hw⟩
  · refine ⟨⟨_, next_if_awake h, rfl, rfl⟩, ⟨_, next_if_awake h, rfl, rfl⟩,
      fun l => ⟨⟨_, next_if_awake h, fun hin => ?_, fun hin => ?_⟩, ⟨_, next_if_awake h, rfl, rfl⟩⟩,
      fun n => ⟨_, next_if_awake h, rfl, rfl⟩, exec_dbgAuth h, exec_dbgAccess h, exec_otpProg_hostKey h,
      ⟨_, next_if_awake h, rfl, ?_⟩, ⟨_, next_if_awake h, ?_⟩⟩
    · rw [if_pos hin]
      exact ⟨rfl, rfl⟩
    · rw [if_neg (by simp [hin])]
      exact ⟨rfl, rfl⟩
    · show (s.withSvc s.svc.debugEnd).svc.jtag.authSlot = none
      rw [(s.withSvc_svc s.svc.debugEnd).jtag, SvcSt.debugEnd_jtag]
    · rw [(s.withSvc_svc s.svc.debugEnd).jtag, SvcSt.debugEnd_jtag]
      exact ⟨rfl, rfl⟩
  · rw [exec_counterCollection hrun]
    refine ⟨fun hwin => ⟨_, congrArg Host.Outcome.next (if_pos hwin), ?_⟩, fun hwin => congrArg Host.Outcome.next (if_neg hwin)⟩
    have hcol := s.svc.collect_eq t0 lat
    refine ⟨congrArg SvcSt.pcSeq hcol, congrArg SvcSt.pcT0 hcol, congrArg SvcSt.pcLat hcol, fun b k hb hk => ?_⟩
    dsimp only
    rw [SvcSt.collect_counter _ _ _ hb hk]
    exact ⟨rfl, rfl, rfl, rfl, rfl⟩
  · exact ⟨exec_counterConfigWrite_window h who v, exec_tagSeedWrite h who v, exec_taggerEnable h who v,
      ⟨_, next_if_awake h, State.readReg_tagLock s who⟩, ⟨_, next_if_awake h, State.readReg_tagRelease s who⟩⟩

end Sys2Proof.Machine
end

section
/-! SUPPORT. The sequencer's own operations (02_schedule_contract.md R59, R62): what END, the waits and SIGNAL leave of the schedule,
and the statement on them. -/

namespace Sys2Proof.Machine

open Sys2Proof

/-! An engine goes on to its next operation (R59). -/

@[simp] theorem SchSt.eng_advance (v : SchSt) (op : OpRun) :
    (v.advance op).eng op.engine.toNat = { v.eng op.engine.toNat with opIndex := op.opIndex.toNat + 1, wait := .none } :=
  SchSt.eng_setEng _ _ _

@[simp] theorem SchSt.advance_events (v : SchSt) (op : OpRun) : (v.advance op).events = v.events := rfl
@[simp] theorem SchSt.advance_flBudget (v : SchSt) (op : OpRun) : (v.advance op).flBudget = v.flBudget := rfl
@[simp] theorem SchSt.advance_budget (v : SchSt) (op : OpRun) (e n : Nat) : (v.advance op).budget e n = v.budget e n := rfl

/-! END (R62). -/

@[simp] theorem SchSt.endOp_ended (v : SchSt) (op : OpRun) (n : Nat) :
    ((v.endOp op n).1.eng op.engine.toNat).ended = some op.complete := by
  unfold SchSt.endOp
  extract_lets e g late w
  have hw : (w.eng op.engine.toNat).ended = some op.complete := by simp [w, e]
  split <;> exact hw

/-- An end past the budget and by cycle 768,000 is late. -/
theorem SchSt.endOp_late {v : SchSt} {op : OpRun} {n : Nat} (hb : v.budget op.engine.toNat n < op.complete.toNat)
    (hc : op.complete.toNat ≤ 768000) :
    (v.endOp op n).1.flBudget = true ∧ ((v.endOp op n).1.eng op.engine.toNat).late = (v.eng op.engine.toNat).late + 1 := by
  unfold SchSt.endOp
  extract_lets e g late w
  have hlate : late = true := by simp [late, e, hb, hc]
  have hw : (w.eng op.engine.toNat).late = (v.eng op.engine.toNat).late + 1 := by simp [w, g, e, hlate]
  rw [if_pos hlate]
  exact ⟨rfl, hw⟩

/-- An end within the budget is not. -/
theorem SchSt.endOp_inTime {v : SchSt} {op : OpRun} {n : Nat} (hb : op.complete.toNat ≤ v.budget op.engine.toNat n) :
    (v.endOp op n).1.flBudget = v.flBudget ∧ ((v.endOp op n).1.eng op.engine.toNat).late = (v.eng op.engine.toNat).late := by
  unfold SchSt.endOp
  extract_lets e g late w
  have hlate : late = false := by simp [late, e, Nat.not_lt.mpr hb]
  have hw : (w.eng op.engine.toNat).late = (v.eng op.engine.toNat).late := by simp [w, g, e, hlate]
  rw [if_neg (by simp [hlate])]
  exact ⟨rfl, hw⟩

/-! Waits and events. -/

@[simp] theorem SchSt.waitOn_wait (v : SchSt) (op : OpRun) (w : EngineWait) : ((v.waitOn op w).eng op.engine.toNat).wait = w := by
  simp [SchSt.waitOn]

@[simp] theorem SchSt.waitOn_events (v : SchSt) (op : OpRun) (w : EngineWait) : (v.waitOn op w).events = v.events := rfl

theorem SchSt.mem_signal {v : SchSt} {k : BitVec 8} {j : Nat} : j ∈ (v.signal k).events ↔ j = k.toNat ∨ j ∈ v.events := by
  simp only [SchSt.signal, List.contains_iff_mem]
  split
  · next h => exact ⟨.inr, fun hj => hj.elim (fun e => e ▸ h) id⟩
  · exact List.mem_cons

section
variable {s : State} {op : OpRun} (h : s.engineReady op)
include h

theorem exec_endOp_ready : ∃ t, exec (.endOp op) s = .next t ∧ t.sch = ((s.sch.advance op).endOp op s.beat.n.toNat).1 := by
  obtain ⟨v, hop⟩ := State.engineOp_ready h (fun a => let r := a.sch.endOp op a.beat.n.toNat; { a with sch := r.1 }.raise r.2)
  exact ⟨_, congrArg Host.Outcome.next hop, State.raise_sch _ _⟩

theorem exec_waitCycle_ready (c : BitVec 20) :
    ∃ t, exec (.waitCycle op c) s = .next t ∧ t.sch = (s.sch.advance op).waitOn op (.cycle c.toNat) := by
  obtain ⟨v, hop⟩ := State.engineOp_ready h (fun a => { a with sch := a.sch.waitOn op (.cycle c.toNat) })
  exact ⟨_, congrArg Host.Outcome.next hop, rfl⟩

theorem exec_signalOp_ready (k : BitVec 8) : ∃ t, exec (.signalOp op k) s = .next t ∧ t.sch = (s.sch.advance op).signal k := by
  obtain ⟨v, hop⟩ := State.engineOp_ready h (fun a => { a with sch := a.sch.signal k })
  exact ⟨_, congrArg Host.Outcome.next hop, rfl⟩

/-- An event that has been raised lets the engine go on; another is waited for. -/
theorem exec_waitEvent_ready (k : BitVec 8) :
    ∃ t, exec (.waitEvent op k) s = .next t ∧
      t.sch = if k.toNat ∈ s.sch.events then s.sch.advance op else (s.sch.advance op).waitOn op (.event k) := by
  obtain ⟨v, hop⟩ := State.engineOp_ready h
    (fun a => if a.sch.events.contains k.toNat then a else { a with sch := a.sch.waitOn op (.event k) })
  refine ⟨_, congrArg Host.Outcome.next hop, ?_⟩
  simp only [SchSt.advance_events, List.contains_iff_mem]
  split <;> rfl

end

theorem exec_waitRelease_over {s : State} {op : OpRun} (hrun : s.sch.running = true) (hrel : s.sch.released op = true) :
    ∃ t, exec (.waitRelease op) s = .next t ∧ (t.sch.eng op.engine.toNat).wait = .none := by
  refine ⟨_, congrArg Host.Outcome.next (if_pos (by rw [hrun, hrel]; rfl)), ?_⟩
  simp

/-- Settles O7: each operation by what it does to the schedule of an engine that has gone on. -/
theorem sequencerOps : Obligations.SequencerOps := by
  refine fun s op => ⟨fun h => ⟨?_, fun c => ?_, fun k => ?_, fun k => ?_⟩, exec_waitRelease_over⟩
  · obtain ⟨t, ht, hsch⟩ := exec_endOp_ready h
    refine ⟨t, ht, ?_, fun hb hc => ?_, fun hb => ?_⟩ <;> rw [hsch]
    · exact SchSt.endOp_ended _ _ _
    · simpa using SchSt.endOp_late (v := s.sch.advance op) hb hc
    · simpa using SchSt.endOp_inTime (v := s.sch.advance op) hb
  · obtain ⟨t, ht, hsch⟩ := exec_waitCycle_ready h c
    exact ⟨t, ht, by rw [hsch, SchSt.waitOn_wait]⟩
  · obtain ⟨t, ht, hsch⟩ := exec_signalOp_ready h k
    exact ⟨t, ht, hsch ▸ SchSt.mem_signal.mpr (.inl rfl), fun j hj => hsch ▸ SchSt.mem_signal.mpr (.inr hj)⟩
  · obtain ⟨t, ht, hsch⟩ := exec_waitEvent_ready h k
    refine ⟨t, ht, ?_⟩
    rw [hsch]
    split <;> simp

end Sys2Proof.Machine
end

section
/-! SUPPORT. The sequencer's overruns and restarts (02_schedule_contract.md R61 to R66; 03_image_start_resets.md R106, R107): what a
Beat restart and an Image reset leave of the schedule and of the loader, and the statement on the overrun check, a beat fault and the
resumption. -/

namespace Sys2Proof.Machine

open Sys2Proof

/-! The schedule at a Beat restart (R64). -/

/-- Cancelling a switch changes the banks, the switch and its flag (R73). -/
theorem SchSt.cancelSwitch_frame (v : SchSt) (cause : Nat) :
    ∃ b0 b1 p f, (v.cancelSwitch cause).1 = { v with bank0 := b0, bank1 := b1, switch := p, flSwitchCancelled := f } := by
  unfold SchSt.cancelSwitch
  split
  · exact ⟨v.bank0, v.bank1, v.switch, v.flSwitchCancelled, rfl⟩
  · unfold SchSt.setInactive SchSt.setBank
    cases v.active1 <;> exact ⟨_, _, _, _, rfl⟩

@[simp] theorem SchSt.restart_running (v : SchSt) (counted : Bool) : (v.restart counted).1.running = false := rfl
@[simp] theorem SchSt.restart_restarting (v : SchSt) (counted : Bool) : (v.restart counted).1.restarting = true := rfl
@[simp] theorem SchSt.restart_restartLeft (v : SchSt) (counted : Bool) : (v.restart counted).1.restartLeft = 10 := rfl

@[simp] theorem SchSt.restart_flOverrun (v : SchSt) (counted : Bool) : (v.restart counted).1.flOverrun = v.flOverrun := by
  obtain ⟨b0, b1, p, f, h⟩ := v.cancelSwitch_frame 1
  simp [SchSt.restart, h]

@[simp] theorem SchSt.restart_ovrBeat (v : SchSt) (counted : Bool) : (v.restart counted).1.ovrBeat = v.ovrBeat := by
  obtain ⟨b0, b1, p, f, h⟩ := v.cancelSwitch_frame 1
  simp [SchSt.restart, h]

/-- Only a counted restart enters the window (R65). -/
@[simp] theorem SchSt.restart_ovrLog (v : SchSt) (counted : Bool) :
    (v.restart counted).1.ovrLog = if counted then v.roundNo :: v.ovrLog else v.ovrLog := by
  obtain ⟨b0, b1, p, f, h⟩ := v.cancelSwitch_frame 1
  simp [SchSt.restart, h]

/-! The device at a Beat restart. -/

/-- Closing the gate changes the field buses alone. -/
theorem State.closeGate_frame (s : State) (was : Bool) : ∃ f, s.closeGate was = { s with fbu := f } := by
  unfold State.closeGate
  split
  · exact ⟨_, rfl⟩
  · exact ⟨s.fbu, rfl⟩

@[simp] theorem State.closeGate_sch (s : State) (was : Bool) : (s.closeGate was).sch = s.sch := by
  obtain ⟨f, h⟩ := s.closeGate_frame was
  rw [h]
@[simp] theorem State.closeGate_img (s : State) (was : Bool) : (s.closeGate was).img = s.img := by
  obtain ⟨f, h⟩ := s.closeGate_frame was
  rw [h]
@[simp] theorem State.closeGate_beat (s : State) (was : Bool) : (s.closeGate was).beat = s.beat := by
  obtain ⟨f, h⟩ := s.closeGate_frame was
  rw [h]

@[simp] theorem State.beatRestart_sch (s : State) (counted : Bool) : (s.beatRestart counted).sch = (s.sch.restart counted).1 := by
  simp [State.beatRestart]
@[simp] theorem State.beatRestart_img (s : State) (counted : Bool) : (s.beatRestart counted).img = s.img := by
  simp [State.beatRestart]
@[simp] theorem State.beatRestart_live (s : State) (counted : Bool) : (s.beatRestart counted).beat.live = false := by
  simp [State.beatRestart]

/-! The device at an Image reset (R108). -/

@[simp] theorem State.imageReset_running (s : State) (cause : ResetCause) (session : Word) : (s.imageReset cause session).sch.running = false := by
  simp [State.imageReset, SchSt.imageReset, SchSt.reset]
@[simp] theorem State.imageReset_phase (s : State) (cause : ResetCause) (session : Word) : (s.imageReset cause session).img.phase = .discover := by
  simp [State.imageReset]
@[simp] theorem State.imageReset_cause (s : State) (cause : ResetCause) (session : Word) : (s.imageReset cause session).img.cause = cause := by
  simp [State.imageReset]
@[simp] theorem State.imageReset_faultOut (s : State) (cause : ResetCause) (session : Word) : (s.imageReset cause session).img.faultOut = true := by
  simp [State.imageReset]

/-! The overrun check (R61, R65). -/

/-- The state in which an overrun is dealt with: recorded in the registers, its event raised (R61). -/
def State.overrun (s : State) : State :=
  let o := s.sch.overrun s.beat.n.toNat
  { s with sch := o.1 }.raise o.2

@[simp] theorem State.overrun_sch (s : State) :
    s.overrun.sch =
      { s.sch with flOverrun := true, ovrEngines := maskOf 14 s.sch.lateEngines, ovrBeat := BitVec.ofNat 64 s.beat.n.toNat } := by
  simp [State.overrun, SchSt.overrun]

theorem exec_overrunCheck_none {s : State} (h : s.sch.lateEngines = []) : exec .overrunCheck s = .next s := by
  show execOverrunCheck s = _
  simp [execOverrunCheck, h]

section
variable {s : State} (hrun : s.sch.running = true) (hlate : s.sch.lateEngines ≠ [])
include hrun hlate

theorem exec_overrunCheck_restarts (h : s.sch.escalates = false) : exec .overrunCheck s = .next (s.overrun.beatRestart true) := by
  show execOverrunCheck s = _
  simp [execOverrunCheck, State.overrun, hrun, hlate, h]

theorem exec_overrunCheck_escalates (h : s.sch.escalates = true) :
    exec .overrunCheck s =
      .next ((s.overrun.raise [s.sch.escalationEv s.beat.n.toNat]).imageReset .escalationOverrun 0xFFFFFFFF) := by
  show execOverrunCheck s = _
  simp [execOverrunCheck, State.overrun, hrun, hlate, h]

end

/-! A beat fault (R107). -/

/-- The first fault of a round has been counted and its event raised. -/
def State.faultCounted (s : State) (source address : Word) : State :=
  ({ s with img := { s.img with faultRound := some s.sch.roundNo, faultRst := s.img.faultRst + 1 } } : State).raise
    [(0x0205, [source, wordN (s.sch.bip s.beat.n.toNat), address])]

@[simp] theorem State.faultCounted_sch (s : State) (source address : Word) : (s.faultCounted source address).sch = s.sch := by
  simp [State.faultCounted]
@[simp] theorem State.faultCounted_img (s : State) (source address : Word) :
    (s.faultCounted source address).img = { s.img with faultRound := some s.sch.roundNo, faultRst := s.img.faultRst + 1 } := by
  simp [State.faultCounted]

theorem exec_beatFault_restarts {s : State} (source address : Word) (hp : s.img.phase = .running) (hr : s.sch.restarting = false)
    (hf : s.img.faultRound ≠ some s.sch.roundNo) :
    exec (.beatFault source address) s = .next ((s.faultCounted source address).beatRestart false) := by
  show execBeatFault source address s = _
  simp [execBeatFault, State.faultCounted, hp, hr, hf]

theorem exec_beatFault_escalates {s : State} (source address : Word) (hp : s.img.phase = .running)
    (h : s.sch.restarting = true ∨ s.img.faultRound = some s.sch.roundNo) :
    exec (.beatFault source address) s = .next (s.imageReset .escalationFault 0xFFFFFFFF) := by
  show execBeatFault source address s = _
  simp [execBeatFault, hp, h.symm]

/-! The end of a Beat restart (R64, R112). -/

@[simp] theorem State.revertChanges_sch (s : State) (kind : ResetKind) : (s.revertChanges kind).sch = s.sch := by simp [State.revertChanges]
@[simp] theorem State.revertChanges_beat (s : State) (kind : ResetKind) : (s.revertChanges kind).beat = s.beat := by simp [State.revertChanges]
@[simp] theorem State.revertChanges_ctl (s : State) (kind : ResetKind) : (s.revertChanges kind).ctl = s.ctl := by simp [State.revertChanges]
@[simp] theorem State.revertChanges_img (s : State) (kind : ResetKind) :
    (s.revertChanges kind).img = { s.img with changes := { regions := 0, setpoints := 0, gains := 0 } } := by
  simp [State.revertChanges]

theorem exec_beatRestartResume_last {s : State} (hr : s.sch.restarting = true) (hl : s.sch.restartLeft ≤ 1) :
    exec .beatRestartResume s =
      .next (({ s with
        sch := { s.sch with running := true, restarting := false, restartLeft := 0 }
        beat := { s.beat with live := true } } : State).revertChanges .beatRestart) := by
  show execBeatRestartResume s = _
  simp [execBeatRestartResume, hr, hl]

/-- Settles O8: an overrun and a beat fault are each a Beat restart or an Image reset, and what these two leave is said above. -/
theorem overrunAndRestart : Obligations.OverrunAndRestart := by
  refine ⟨fun s hrun hlate hesc => ⟨_, exec_overrunCheck_restarts hrun hlate hesc, ?_⟩,
    fun s hrun hlate hesc => ⟨_, exec_overrunCheck_escalates hrun hlate hesc, ?_⟩,
    fun s hlate => exec_overrunCheck_none hlate,
    fun s source address hp hr hf => ⟨_, exec_beatFault_restarts source address hp hr hf, ?_⟩,
    fun s source address hp h => ⟨_, exec_beatFault_escalates source address hp h, ?_⟩,
    fun s hr hl => ⟨_, exec_beatRestartResume_last hr hl, ?_⟩⟩
  · simp
  · simp
  · simp
  · simp
  · simp

end Sys2Proof.Machine
end

section
/-! SUPPORT. Bank loading (02_schedule_contract.md R67 to R70): what BANK_LOAD and the end of verification do to the inactive bank, and
the statement on them. -/

namespace Sys2Proof.Machine

open Sys2Proof

/-! The bytes of an image being loaded (R70). -/

/-- Storing bytes leaves what lies before them. -/
theorem storeBytes_before {data : List Byte} {t : Tab Byte} {ofs j : Nat} (h : j < ofs) :
    Tab.get 0 (storeBytes t ofs data) j = Tab.get 0 t j := by
  induction data generalizing t ofs with
  | nil => rfl
  | cons b data ih => rw [storeBytes, ih (Nat.lt_add_one_of_lt h), Tab.get_set_other _ _ _ (Nat.ne_of_lt h)]

theorem storeBytes_get {data : List Byte} {t : Tab Byte} {ofs k : Nat} (h : k < data.length) :
    Tab.get 0 (storeBytes t ofs data) (ofs + k) = data.getD k 0 := by
  induction data generalizing t ofs k with
  | nil => cases h
  | cons b data ih =>
    cases k with
    | zero =>
      show Tab.get 0 (storeBytes t ofs (b :: data)) ofs = b
      rw [storeBytes, storeBytes_before (Nat.lt_add_one ofs), Tab.get_set_same]
    | succ k => rw [storeBytes, show ofs + (k + 1) = ofs + 1 + k by omega, ih (Nat.lt_of_succ_lt_succ h), List.getD_cons_succ]

/-! BANK_LOAD on an inactive bank that takes it (R70). -/

/-- The status codes of a refused write and of a finished one differ (Table 14.7). -/
theorem stOk_ne_stBankPending : stOk ≠ stBankPending := by decide

theorem SchSt.loadBegin_accepted {v : SchSt} (h : v.inactive.phase = .empty ∨ v.inactive.phase = .ready) (session : BitVec 8) :
    v.loadBegin session 0 0 = (v.setInactive { Bank.empty with phase := .loading, session := session }, stOk) := by
  rcases h with h | h <;> simp [SchSt.loadBegin, h]

section
variable {v : SchSt} {session : BitVec 8} (hl : v.inactive.phase = .loading) (hs : v.inactive.session = session)
include hl hs

theorem SchSt.loadGate_loading : v.loadGate session = stOk := by
  simp [SchSt.loadGate, hl, hs]

/-- The bank with data of the image being loaded. -/
theorem SchSt.loadData_accepted {ofs : Word} {data : List Byte} (ha : ofs.toNat % 4 = 0) (he : ofs.toNat + data.length ≤ 50331648)
    (hn : data.length ≤ 1024) (hd : data ≠ []) :
    v.loadData session ofs data =
      (v.setInactive { v.inactive with
        bytes := storeBytes v.inactive.bytes ofs.toNat data, highEnd := max v.inactive.highEnd (ofs.toNat + data.length) }, stOk) := by
  have hok : ¬ (ofs.toNat % 4 ≠ 0 ∨ 50331648 < ofs.toNat + data.length ∨ 1024 < data.length) := by omega
  simp only [SchSt.loadData, SchSt.loadGate_loading hl hs, stOk_ne_stBankPending, hok, hd, if_false, ne_eq, not_true]

theorem SchSt.loadEnd_accepted {ofs : Word} (hlo : 4096 ≤ ofs.toNat) (hhi : ofs.toNat ≤ 50331648) (req : Word) :
    v.loadEnd session req ofs 0 =
      (v.setInactive { v.inactive with phase := .verify, endReq := some req, declared := ofs.toNat }, stOk) := by
  simp [SchSt.loadEnd, SchSt.loadGate_loading hl hs, stOk_ne_stBankPending, Nat.not_lt.mpr hlo, Nat.not_lt.mpr hhi]

theorem SchSt.loadAbort_accepted : v.loadAbort session 0 = ((v.abortLoad 1).1, (v.abortLoad 1).2, stOk) := by
  simp only [SchSt.loadAbort, SchSt.loadGate_loading hl hs, stOk_ne_stBankPending, if_false, ne_eq, not_true]

end

/-! BANK_LOAD while the inactive bank waits for its switch (R70). -/

section
variable {v : SchSt} (hp : v.inactive.phase = .pending) (session : BitVec 8)
include hp

theorem SchSt.loadGate_pending : v.loadGate session = stBankPending := by
  simp [SchSt.loadGate, hp]

theorem SchSt.loadBegin_pending (ofs : Word) (nData : Nat) : v.loadBegin session ofs nData = (v.refuseWrite, stBankPending) := by
  simp [SchSt.loadBegin, hp]

theorem SchSt.loadData_pending (ofs : Word) (data : List Byte) : v.loadData session ofs data = (v.refuseWrite, stBankPending) := by
  simp [SchSt.loadData, SchSt.loadGate_pending hp]

theorem SchSt.loadEnd_pending (req ofs : Word) (nData : Nat) : v.loadEnd session req ofs nData = (v.refuseWrite, stBankPending) := by
  simp [SchSt.loadEnd, SchSt.loadGate_pending hp]

theorem SchSt.loadAbort_pending (nData : Nat) : v.loadAbort session nData = (v.refuseWrite, [], stBankPending) := by
  simp [SchSt.loadAbort, SchSt.loadGate_pending hp]

end

/-! The end of verification (R68, R70). -/

/-- A bank that passes is READY with the image. -/
theorem SchSt.verified_passes {v : SchSt} {img : ImageDesc} {otp : OtpSt} (h : (v.verifyErr img otp).1 = 0) :
    (v.verified img otp).1 = v.setInactive { v.inactive with phase := .ready, endReq := none, image := img.sched } := by
  simp [SchSt.verified, h]

/-- A bank that fails is EMPTY. -/
theorem SchSt.verified_fails {v : SchSt} {img : ImageDesc} {otp : OtpSt} (h : (v.verifyErr img otp).1 ≠ 0) :
    (v.verified img otp).1 = v.setInactive Bank.empty := by
  simp [SchSt.verified, h]

@[simp] theorem State.answerEnd_sch (s : State) (a : Option (BitVec 8 × Word × Half × Word)) : (s.answerEnd a).sch = s.sch := by
  unfold State.answerEnd
  split
  · rfl
  · split <;> rfl

@[simp] theorem State.powerUp_sch (s : State) : s.powerUp.sch = s.sch := by simp [State.powerUp]

theorem exec_bankVerifyDone_verify {s : State} (h : s.sch.inactive.phase = .verify) (img : ImageDesc) :
    ∃ t, exec (.bankVerifyDone img) s = .next t ∧ t.sch = (s.sch.verified img s.img.otp).1 := by
  refine ⟨_, rfl, ?_⟩
  simp [h]

theorem exec_bankLoadTimeout_loading {s : State} (h : s.sch.inactive.phase = .loading) :
    ∃ t, exec .bankLoadTimeout s = .next t ∧ t.sch = s.sch.setInactive Bank.empty := by
  refine ⟨_, rfl, ?_⟩
  simp [h, SchSt.abortLoad]

/-! The commands of a session that may (R70). -/

/-- A command that is a local request of a session that may does the request's work. -/
theorem exec_of_localCmd {s : State} {h : HostRef} {least : Nat} (hm : s.sessionMay h least) {c : Instr} {f : State → State}
    (hc : exec c s = .next (s.localCmd h least f)) : exec c s = .next (f s) :=
  hc.trans (congrArg Host.Outcome.next (State.localCmd_may hm f))

section
variable {s : State} {h : HostRef} (hm : s.sessionMay h 2)
include hm

theorem exec_bankLoadBegin_idle (he : s.sch.inactive.phase = .empty ∨ s.sch.inactive.phase = .ready) :
    ∃ t, exec (.bankLoadBegin h 0 0) s = .next t ∧
      t.sch = s.sch.setInactive { Bank.empty with phase := .loading, session := h.session } :=
  ⟨_, exec_of_localCmd hm rfl, congrArg Prod.fst (SchSt.loadBegin_accepted he h.session)⟩

section
variable (hl : s.sch.inactive.phase = .loading) (hs : s.sch.inactive.session = h.session)
include hl hs

theorem exec_bankLoadData_loading {ofs : Word} {data : List Byte} (ha : ofs.toNat % 4 = 0) (he : ofs.toNat + data.length ≤ 50331648)
    (hn : data.length ≤ 1024) (hd : data ≠ []) :
    ∃ t, exec (.bankLoadData h ofs data) s = .next t ∧
      t.sch = s.sch.setInactive { s.sch.inactive with
        bytes := storeBytes s.sch.inactive.bytes ofs.toNat data, highEnd := max s.sch.inactive.highEnd (ofs.toNat + data.length) } :=
  ⟨_, exec_of_localCmd hm rfl, by simp [SchSt.loadData_accepted hl hs ha he hn hd]⟩

theorem exec_bankLoadEnd_loading {ofs : Word} (hlo : 4096 ≤ ofs.toNat) (hhi : ofs.toNat ≤ 50331648) :
    ∃ t, exec (.bankLoadEnd h ofs 0) s = .next t ∧
      t.sch = s.sch.setInactive { s.sch.inactive with phase := .verify, endReq := some h.reqId, declared := ofs.toNat } :=
  ⟨_, exec_of_localCmd hm rfl, by simp [SchSt.loadEnd_accepted hl hs hlo hhi]⟩

theorem exec_bankLoadAbort_loading : ∃ t, exec (.bankLoadAbort h 0) s = .next t ∧ t.sch = s.sch.setInactive Bank.empty :=
  ⟨_, exec_of_localCmd hm rfl, by simp [SchSt.loadAbort_accepted hl hs, SchSt.abortLoad]⟩

end

/-- Each of the four is answered BANK_PENDING and counted, and changes no bank. -/
theorem exec_bankLoad_pending (hp : s.sch.inactive.phase = .pending) (ofs : Word) (nData : Nat) (data : List Byte) :
    ∀ c ∈ [Instr.bankLoadBegin h ofs nData, .bankLoadData h ofs data, .bankLoadEnd h ofs nData, .bankLoadAbort h nData],
      exec c s = .next (({ s with sch := s.sch.refuseWrite } : State).reply h opBankLoad stBankPending 0 []) := by
  simp only [List.forall_mem_cons, List.not_mem_nil, false_implies, implies_true, and_true]
  refine ⟨(exec_of_localCmd hm rfl).trans ?_, (exec_of_localCmd hm rfl).trans ?_, (exec_of_localCmd hm rfl).trans ?_,
    (exec_of_localCmd hm rfl).trans ?_⟩
  · simp [SchSt.loadBegin_pending hp]
  · simp [SchSt.loadData_pending hp]
  · simp [SchSt.loadEnd_pending hp, stOk_ne_stBankPending.symm]
  · simp [SchSt.loadAbort_pending hp]

end

/-- Settles O9: each command by what it makes of the inactive bank; the active one is never written. -/
theorem bankLoading : Obligations.BankLoading := by
  refine ⟨fun s h hm => ⟨fun he => ?_, fun hl hs => ⟨fun ofs data ha hend hn hd => ?_, fun ofs hlo hhi => ?_, ?_, ?_⟩, fun hv img => ?_⟩,
    fun s h ofs nData data hm hp c hc =>
      ⟨_, exec_bankLoad_pending hm hp ofs nData data c hc, State.reply_lastAnswer _ _ _ _ _ _, rfl, rfl, rfl, rfl⟩⟩
  · obtain ⟨t, ht, hsch⟩ := exec_bankLoadBegin_idle hm he
    exact ⟨t, ht, by simp [hsch]⟩
  · obtain ⟨t, ht, hsch⟩ := exec_bankLoadData_loading hm hl hs ha hend hn hd
    refine ⟨t, ht, ?_⟩
    simp only [hsch, SchSt.inactive_setInactive, SchSt.active_setInactive, hl, true_and]
    exact fun k hk => storeBytes_get hk
  · obtain ⟨t, ht, hsch⟩ := exec_bankLoadEnd_loading hm hl hs hlo hhi
    exact ⟨t, ht, by simp [hsch]⟩
  · obtain ⟨t, ht, hsch⟩ := exec_bankLoadAbort_loading hm hl hs
    exact ⟨t, ht, by simp [hsch]⟩
  · obtain ⟨t, ht, hsch⟩ := exec_bankLoadTimeout_loading hl
    exact ⟨t, ht, by simp [hsch]⟩
  · obtain ⟨t, ht, hsch⟩ := exec_bankVerifyDone_verify hv img
    refine ⟨t, ht, ?_⟩
    rw [hsch]
    split
    · next hok => simp [SchSt.verified_passes hok]
    · next herr => simp [SchSt.verified_fails herr]

end Sys2Proof.Machine
end

section
/-! SUPPORT. The configuration writes of the sequencer (02_schedule_contract.md R81, R82): what SCH_OVR_CFG and SCH_E_PEAK take, and the
statement on them. -/

namespace Sys2Proof.Machine

open Sys2Proof

/-! A write to an engine's block (R4). -/

/-- A mapped register outside the pair domain is written by what it does itself. -/
theorem State.writeReg_engine {s t : State} {who : Who} {a v : Word} (w : Word) (hp : s.peek who a = some v) (hb : a.toNat / 65536 ≤ 0x0A)
    (ho : a.toNat % 65536 ≠ 0x10) (hs : (s.writeAccess who a).staged who a w = false)
    (ht : (s.writeAccess who a).writeEngines who (a.toNat / 65536) (a.toNat % 65536) w = some t) : s.writeReg who a w = t := by
  have hd : (s.writeAccess who a).directWrite who a w = some t := by
    unfold State.directWrite
    rw [if_neg (fun h => ho h.1), if_pos hb, ht]
  unfold State.writeAccess at hs hd
  simp [State.writeReg, hp, hs, hd]

@[simp] theorem State.writeAccess_sch (s : State) (who : Who) (a : Word) : (s.writeAccess who a).sch = s.sch := rfl

/-- Counting an access changes no selection (R523). -/
@[simp] theorem State.writeAccess_sel (s : State) (who : Who) (a : Word) (block : Nat) : (s.writeAccess who a).sel who block = s.sel who block := by
  obtain ⟨c, hc⟩ := s.svc.countAccess_same who (a.toNat / 65536) (a.toNat % 65536) true false
  simp [State.writeAccess, State.dropPair, State.sel, hc]

@[simp] theorem State.ignoredIf_sch (s : State) (refused : Bool) (block : Nat) : (s.ignoredIf refused block).sch = s.sch := by
  unfold State.ignoredIf
  split <;> rfl

/-- SCH_OVR_CFG (R82). -/
theorem State.writeReg_ovrCfg (s : State) (who : Who) (w : Word) :
    (s.writeReg who 0x00010064 w).sch = s.sch.ovrWrite who.role.toNat w := by
  rw [State.writeReg_engine (a := 0x00010064) (hp := rfl) (hb := by decide) (ho := by decide) (hs := rfl) (ht := rfl)]
  simp

/-- SCH_E_PEAK (R81). -/
theorem State.writeReg_peakClear (s : State) (who : Who) :
    (s.writeReg who 0x00018008 0x80000000).sch = s.sch.peakClear (bits (s.sel who 1) 3 0) := by
  rw [State.writeReg_engine (a := 0x00018008) (hp := rfl) (hb := by decide) (ho := by decide) (hs := rfl) (ht := rfl)]
  simp

/-! What SCH_OVR_CFG takes (R82). -/

theorem bits_eq_ushiftRight (w : Word) (hi lo : Nat) : bits w hi lo = ((w >>> lo).setWidth (hi + 1 - lo)).toNat := by
  rw [bits, BitVec.toNat_setWidth, BitVec.toNat_ushiftRight, Nat.shiftRight_eq_div_pow]

/-- RESTART_LIMIT, bits 3 to 0. -/
theorem ovrCfg_limit (w : Word) : BitVec.ofNat 4 (bits w 3 0) = w.setWidth 4 := by
  rw [bits_eq_ushiftRight, BitVec.ofNat_toNat, BitVec.setWidth_eq, BitVec.ushiftRight_zero]

/-- WINDOW_ROUNDS, bits 15 to 8. -/
theorem ovrCfg_rounds (w : Word) : BitVec.ofNat 8 (bits w 15 8) = (w >>> 8).setWidth 8 := by
  rw [bits_eq_ushiftRight, BitVec.ofNat_toNat, BitVec.setWidth_eq]

/-- A field under its mask. -/
theorem toNat_and_mask (w : Word) (hi lo : Nat) : w.toNat &&& ((2 ^ (hi + 1 - lo) - 1) <<< lo) = bits w hi lo <<< lo := by
  refine Nat.eq_of_testBit_eq fun i => ?_
  by_cases h : lo ≤ i
  · simp [bits, Nat.testBit_mod_two_pow, Nat.testBit_div_two_pow, h, Bool.and_comm]
  · simp [h]

theorem bits_eq_zero_iff (w : Word) (hi lo : Nat) : bits w hi lo = 0 ↔ w.toNat &&& ((2 ^ (hi + 1 - lo) - 1) <<< lo) = 0 := by
  rw [toNat_and_mask, Nat.shiftLeft_eq_zero_iff]

theorem ovrCfg_limit_eq_zero (w : Word) : bits w 3 0 = 0 ↔ w &&& 0xF = 0 := by
  rw [bits_eq_zero_iff, ← BitVec.toNat_inj, BitVec.toNat_and]
  rfl

theorem ovrCfg_rounds_eq_zero (w : Word) : bits w 15 8 = 0 ↔ w &&& 0xFF00 = 0 := by
  rw [bits_eq_zero_iff, ← BitVec.toNat_inj, BitVec.toNat_and]
  rfl

/-- The words that SCH_OVR_CFG refuses (R82). -/
theorem ovrCfg_refused_iff (role : Nat) (w : Word) :
    (role < 3 ∨ bits w 3 0 = 0 ∨ bits w 15 8 = 0) ↔ ¬ (3 ≤ role ∧ w &&& 0xF ≠ 0 ∧ w &&& 0xFF00 ≠ 0) := by
  rw [ovrCfg_limit_eq_zero, ovrCfg_rounds_eq_zero, ← Nat.not_le]
  simp only [ne_eq, Decidable.not_and_iff_not_or_not, Decidable.not_not]

theorem SchSt.ovrWrite_taken {v : SchSt} {role : Nat} {w : Word} (h : 3 ≤ role ∧ w &&& 0xF ≠ 0 ∧ w &&& 0xFF00 ≠ 0) :
    v.ovrWrite role w = { v with ovrLimit := w.setWidth 4, ovrRounds := (w >>> 8).setWidth 8 } := by
  unfold SchSt.ovrWrite
  rw [if_neg (fun hn => (ovrCfg_refused_iff role w).mp hn h), ovrCfg_limit, ovrCfg_rounds]

theorem SchSt.ovrWrite_refused {v : SchSt} {role : Nat} {w : Word} (h : ¬ (3 ≤ role ∧ w &&& 0xF ≠ 0 ∧ w &&& 0xFF00 ≠ 0)) :
    v.ovrWrite role w = { v with flCfgRefused := true } := if_pos ((ovrCfg_refused_iff role w).mpr h)

/-- Settles O11: both writes go to the schedule's own registers. -/
theorem overrunConfigWrite : Obligations.OverrunConfigWrite := by
  refine fun s who => ⟨fun w => ⟨_, rfl, ?_⟩, ⟨_, rfl, ?_⟩⟩
  · rw [State.writeReg_ovrCfg]
    split
    · next h => simp [SchSt.ovrWrite_taken h]
    · next h => simp [SchSt.ovrWrite_refused h]
  · rw [State.writeReg_peakClear]
    simp [SchSt.peakClear]

end Sys2Proof.Machine
end

section
/-! SUPPORT. The end of a load, the delivery of the sections and the first beat (02_schedule_contract.md R74; 03_image_start_resets.md
R92 to R100, R112), and the statement on them. -/

namespace Sys2Proof.Machine

open Sys2Proof

/-! Choosing the time source again keeps the time and its configuration (R131). -/

@[simp] theorem TimSt.reselect_now (t : TimSt) (partnerOk : Bool) : (t.reselect partnerOk).1.now = t.now := by
  unfold TimSt.reselect
  repeat' split
  all_goals rfl

@[simp] theorem TimSt.reselect_cfg (t : TimSt) (partnerOk : Bool) : (t.reselect partnerOk).1.cfg = t.cfg := by
  unfold TimSt.reselect
  repeat' split
  all_goals rfl

@[simp] theorem State.useTime_now (s : State) (c : Option TimeCfg) : (s.useTime c).tim.now = s.tim.now := by
  cases c <;> simp [State.useTime, TimSt.configure]

@[simp] theorem State.useTime_cfg (s : State) (c : Option TimeCfg) : (s.useTime c).tim.cfg = c := by
  cases c <;> simp [State.useTime, TimSt.configure]

/-! An accepted image (R92, R97, R98). -/

/-- The loader's registers once an image is accepted. -/
def ImgSt.accept (g : ImgSt) (img : ImageDesc) (us : Word) : ImgSt :=
  { g with
    accepted := some img, phase := .init, imageId := img.header.imageId, secver := img.header.secver, loadUs := us, provisional := false }

@[simp] theorem State.startRates_img (s : State) : s.startRates.img = s.img := by
  unfold State.startRates
  split
  · simp
  · rfl

@[simp] theorem State.startRates_hst (s : State) : s.startRates.hst = s.hst := by
  unfold State.startRates
  split
  · simp
  · rfl

@[simp] theorem State.acceptImage_img (s : State) (img : ImageDesc) (us : Word) : (s.acceptImage img us).img = s.img.accept img us := by
  simp [State.acceptImage, apply_ite State.img, ImgSt.accept]

@[simp] theorem State.acceptImage_netCfg (s : State) (img : ImageDesc) (us : Word) : (s.acceptImage img us).hst.netCfg = img.net := by
  simp [State.acceptImage, apply_ite State.hst]

/-! A failed image (R94 to R96). -/

theorem State.loading_iff (s : State) :
    s.loading = true ↔
      s.img.powered = true ∧ s.img.nresetIn = false ∧ s.img.accepted = none ∧ (s.img.phase = .loadA ∨ s.img.phase = .loadB) := by
  simp [State.loading, and_assoc]

/-- An image that fails while the loader reads it gives way to the next of the order. -/
theorem State.failImage_img_loading {s : State} (h : s.loading = true) (isB : Bool) (code : Nat) (idx : Word) :
    (s.failImage isB code idx).img = (s.img.failed isB code idx).tryNext := by
  obtain ⟨-, -, -, hphase⟩ := s.loading_iff.mp h
  rcases hphase with hphase | hphase <;> cases isB <;> simp [State.failImage, ImgSt.failed, hphase]

/-- The provisional NET_CFG goes, and in NO_IMAGE the recovery settings apply (R96, R98). -/
theorem State.failImage_netCfg_loading {s : State} (h : s.loading = true) (isB : Bool) (code : Nat) (idx : Word) :
    (s.failImage isB code idx).hst.netCfg =
      if (s.img.failed isB code idx).tryNext.phase = .noImage then s.img.otp.recovery else none := by
  obtain ⟨-, -, -, hphase⟩ := s.loading_iff.mp h
  rcases hphase with hphase | hphase <;> cases isB <;> simp [State.failImage, ImgSt.failed, hphase]

@[simp] theorem State.failImage_cfg (s : State) (isB : Bool) (code : Nat) (idx : Word) : (s.failImage isB code idx).tim.cfg = none :=
  State.useTime_cfg _ none

@[simp] theorem State.failImage_now (s : State) (isB : Bool) (code : Nat) (idx : Word) : (s.failImage isB code idx).tim.now = s.tim.now := by
  simp [State.failImage]

theorem exec_imageReadDone_accepted {s : State} (h : s.loading = true) {img : ImageDesc} (he : (imageErr img s.img.otp false).1 = 0)
    (us : Word) : exec (.imageReadDone img us) s = .next (s.acceptImage img us) := by
  show execImageReadDone img us s = _
  simp [execImageReadDone, h, he]

theorem exec_imageReadDone_refused {s : State} (h : s.loading = true) {img : ImageDesc} (he : (imageErr img s.img.otp false).1 ≠ 0)
    (us : Word) :
    exec (.imageReadDone img us) s =
      .next (s.failImage s.img.imageB (imageErr img s.img.otp false).1 (imageErr img s.img.otp false).2) := by
  show execImageReadDone img us s = _
  simp [execImageReadDone, h, he]

theorem exec_nvmReadStall_loading {s : State} (h : s.loading = true) :
    exec .nvmReadStall s = .next (s.failImage s.img.imageB 0x02 0xFFFFFFFF) := congrArg Host.Outcome.next (if_pos h)

/-- Image A fails with image B behind it in the order: B is tried, under no settings. -/
theorem State.failImage_first {s : State} (h : s.loading = true) (ho : s.img.order = [false, true]) (code : Nat) (idx : Word) :
    let t := s.failImage false code idx
    t.img.phase = .loadB ∧ t.img.imageB = true ∧ t.img.accepted = none ∧ t.img.errA = BitVec.ofNat 8 code ∧ t.hst.netCfg = none := by
  obtain ⟨-, -, hacc, -⟩ := s.loading_iff.mp h
  simp [State.failImage_img_loading h, State.failImage_netCfg_loading h, ImgSt.failed, ImgSt.tryNext, ho, hacc]

/-- Image B fails with none behind it: NO_IMAGE with the recovery settings. -/
theorem State.failImage_last {s : State} (h : s.loading = true) (ho : s.img.order = [true]) (code : Nat) (idx : Word) :
    let t := s.failImage true code idx
    t.img.phase = .noImage ∧ t.img.errB = BitVec.ofNat 8 code ∧ t.hst.netCfg = s.img.otp.recovery := by
  simp [State.failImage_img_loading h, State.failImage_netCfg_loading h, ImgSt.failed, ImgSt.tryNext, ho]

/-! The sections go to their blocks (R74, R97). -/

@[simp] theorem State.applySaf_sch (s : State) (r : SafR) : (s.applySaf r).sch = s.sch := by simp [State.applySaf]
@[simp] theorem State.applySaf_ctl (s : State) (r : SafR) : (s.applySaf r).ctl = s.ctl := by simp [State.applySaf]

/-- The sequencer and the control block take the schedule's tables; no other section touches them. -/
theorem State.deliverSections_blocks (s : State) (img : ImageDesc) (x : Schedule) :
    let t := s.deliverSections img x
    t.sch = s.sch.deliver x ∧ t.ctl = CtlSt.reset.restart x.ctl false true := by
  dsimp only [State.deliverSections]
  cases img.safety with
  | none => simp [State.deliverSchedule]
  | some c =>
    dsimp only
    split <;> simp [State.deliverSchedule]

@[simp] theorem CtlSt.restart_mode (c : CtlSt) (t : Option CtlTable) (keepHist counts : Bool) :
    (c.restart t keepHist counts).mode = .standby := by
  unfold CtlSt.restart
  extract_lets
  split <;> rfl

theorem exec_sectionsDelivered_init {s : State} (hp : s.img.powered = true) (hr : s.img.nresetIn = false) (hi : s.img.phase = .init)
    {img : ImageDesc} {x : Schedule} (ha : s.img.accepted = some img) (hx : img.sched = some x) :
    exec .sectionsDelivered s =
      .next (({ s.deliverSections img x with
        img := { (s.deliverSections img x).img with phase := .waitTime, delivered := true } } : State).revertChanges s.img.kind) := by
  show execSectionsDelivered s = _
  simp [execSectionsDelivered, hp, hr, hi, ha, hx]

/-! The first beat (R97, R100, R104). -/

@[simp] theorem TimSt.firstBeat_now (t : TimSt) (now : Nat) (partnerOk : Bool) : (t.firstBeat now partnerOk).1.now = now := by
  unfold TimSt.firstBeat
  extract_lets u
  split
  · rfl
  · rfl
  · exact TimSt.reselect_now u partnerOk

/-- Leaving listen changes the field buses, and raises events. -/
theorem State.leaveListen_frame (s : State) : ∃ f r v, s.leaveListen = { s with fbu := f, rcd := r, svc := v } := by
  unfold State.leaveListen
  generalize List.range 16 = ks
  induction ks generalizing s with
  | nil => exact ⟨s.fbu, s.rcd, s.svc, rfl⟩
  | cons k ks ih =>
    rw [List.foldl_cons]
    dsimp only
    split
    · next g hg =>
      obtain ⟨r, v, h⟩ := ({ s with fbu := (s.fbu.setChan k ((s.fbu.chan k).leaveListen k g).1).requeue k } : State).raise_frame
        ((s.fbu.chan k).leaveListen k g).2
      rw [h]
      exact ih _
    · exact ih _

@[simp] theorem State.leaveListen_img (s : State) : s.leaveListen.img = s.img := by
  obtain ⟨f, r, v, h⟩ := s.leaveListen_frame
  rw [h]
@[simp] theorem State.leaveListen_sch (s : State) : s.leaveListen.sch = s.sch := by
  obtain ⟨f, r, v, h⟩ := s.leaveListen_frame
  rw [h]
@[simp] theorem State.leaveListen_beat (s : State) : s.leaveListen.beat = s.beat := by
  obtain ⟨f, r, v, h⟩ := s.leaveListen_frame
  rw [h]
@[simp] theorem State.leaveListen_tim (s : State) : s.leaveListen.tim = s.tim := by
  obtain ⟨f, r, v, h⟩ := s.leaveListen_frame
  rw [h]

/-- A wake reported changes the power controller and the counter of free values, and raises an event. -/
theorem State.cocoonWoken_frame (s : State) : ∃ p c r v, s.cocoonWoken = { s with pwr := p, freeCtr := c, rcd := r, svc := v } := by
  unfold State.cocoonWoken
  split
  · extract_lets f us
    obtain ⟨r, v, h⟩ := State.raise_frame
      { f.2 with pwr := { s.pwr with wakeAt := none, armed := WakeCfg.zero, wakeUs := us, flags := setBit s.pwr.flags 1 } }
      [(0x1104, [4, s.pwr.lastSource.setWidth 32, us])]
    rw [h]
    exact ⟨_, _, r, v, rfl⟩
  · exact ⟨s.pwr, s.freeCtr, s.rcd, s.svc, rfl⟩

@[simp] theorem State.cocoonWoken_img (s : State) : s.cocoonWoken.img = s.img := by
  obtain ⟨p, c, r, v, h⟩ := s.cocoonWoken_frame
  rw [h]
@[simp] theorem State.cocoonWoken_sch (s : State) : s.cocoonWoken.sch = s.sch := by
  obtain ⟨p, c, r, v, h⟩ := s.cocoonWoken_frame
  rw [h]
@[simp] theorem State.cocoonWoken_beat (s : State) : s.cocoonWoken.beat = s.beat := by
  obtain ⟨p, c, r, v, h⟩ := s.cocoonWoken_frame
  rw [h]
@[simp] theorem State.cocoonWoken_tim (s : State) : s.cocoonWoken.tim = s.tim := by
  obtain ⟨p, c, r, v, h⟩ := s.cocoonWoken_frame
  rw [h]

theorem exec_firstBeat_starts {s : State} {k : Nat} {us : Word} (hp : s.img.powered = true) (hr : s.img.nresetIn = false)
    (hw : s.img.phase = .waitTime) (hk : 0 < k) (hn : s.tim.now ≤ k * 1000000)
    (ht : s.img.kind = .image ∨ s.tim.state ≠ .unset ∨ 300000 ≤ us.toNat) :
    ∃ t, exec (.firstBeat (k * 1000000) us) s = .next t ∧ t.img = { s.img with phase := .running, startUs := us, faultOut := false } ∧
      t.sch = { s.sch with running := true } ∧ t.beat.live = true ∧ t.beat.n = BitVec.ofNat 64 k - 1 ∧ t.tim.now = k * 1000000 := by
  refine ⟨_, congrArg Host.Outcome.next (if_pos ?_), ?_⟩
  · simp [hp, hr, hw, hk, hn, or_assoc, ht]
  · simp [BeatSt.prepare]

/-- Settles O14: the loader's registers after each end of a load, the delivered blocks, and the state of the first beat. -/
theorem imageOutcome : Obligations.ImageOutcome := by
  refine ⟨fun s img us hl he => ⟨_, exec_imageReadDone_accepted hl he us, ?_⟩, fun s img us hl hb ho he => ?_, fun s hl hb ho => ?_,
    fun s img x hp hr hi ha hx => ⟨_, exec_sectionsDelivered_init hp hr hi ha hx, ?_⟩, fun s k us hp hr hw hk hn ht => ?_⟩
  · simp [ImgSt.accept]
  · refine ⟨_, exec_imageReadDone_refused hl he us, ?_⟩
    rw [hb]
    obtain ⟨hphase, himageB, hacc, herr, hnet⟩ :=
      State.failImage_first hl ho (imageErr img s.img.otp false).1 (imageErr img s.img.otp false).2
    exact ⟨hacc, hphase, himageB, herr, hnet, State.failImage_cfg _ _ _ _, State.failImage_now _ _ _ _⟩
  · refine ⟨_, exec_nvmReadStall_loading hl, ?_⟩
    rw [hb]
    obtain ⟨hphase, herr, hnet⟩ := State.failImage_last hl ho 0x02 0xFFFFFFFF
    exact ⟨hphase, herr, hnet, State.failImage_cfg _ _ _ _⟩
  · obtain ⟨hsch, hctl⟩ := s.deliverSections_blocks img x
    simp [hsch, hctl, SchSt.deliver, Bank.empty, ImgSt.changeCount]
  · obtain ⟨t, hexec, himg, hsch, hlive, hbeat, hnow⟩ := exec_firstBeat_starts hp hr hw hk hn ht
    refine ⟨t, hexec, ?_⟩
    rw [himg, hsch, hbeat]
    exact ⟨rfl, rfl, rfl, rfl, hlive, BitVec.sub_add_cancel _ _, hnow⟩

end Sys2Proof.Machine
end

section
/-! SUPPORT. Steering (04_device_time.md R122, R123, R559): rounding and clamping, what an edge does to the rate, and the statement on
it. -/

namespace Sys2Proof.Machine

open Sys2Proof

/-! Rounding to nearest, halves away from zero. -/

theorem rndDiv_eq_of_nonneg {x : Int} {d : Nat} {q : Int} (hx : 0 ≤ x) (h : IsRounded x d q) : rndDiv x d = q := by
  have hd : 0 < d := by omega
  have hneg : q ≤ -1 → q * d ≤ -1 * d := fun hq => Int.mul_le_mul_of_nonneg_right hq (by omega)
  have hpos : 0 ≤ q → 0 ≤ q * d := fun hq => Int.mul_nonneg hq (by omega)
  have hlow : q * (2 * d) ≤ 2 * x + d := by
    rw [Int.mul_left_comm]
    omega
  have hhigh : 2 * x + d < (q + 1) * (2 * d) := by
    rw [Int.add_mul, Int.mul_left_comm, Int.one_mul]
    omega
  rw [rndDiv, if_neg (by omega), if_pos hx]
  exact Int.le_antisymm (Int.le_of_lt_add_one (Int.ediv_lt_of_lt_mul (by omega) hhigh)) (Int.le_ediv_of_mul_le (by omega) hlow)

theorem rndDiv_neg {x : Int} (d : Nat) (hx : x < 0) : rndDiv x d = -rndDiv (-x) d := by
  have hneg : ¬ 0 ≤ x := by omega
  have hpos : 0 ≤ -x := by omega
  rw [rndDiv, rndDiv, if_neg hneg, if_pos hpos]
  split
  · exact Int.neg_zero.symm
  · rfl

/-- `rndDiv` is the quotient rounded to nearest, which is one only. -/
theorem IsRounded.rndDiv_eq {x : Int} {d : Nat} {q : Int} (h : IsRounded x d q) : rndDiv x d = q := by
  by_cases hx : 0 ≤ x
  · exact rndDiv_eq_of_nonneg hx h
  · have hneg : IsRounded (-x) d (-q) := by
      have hdiff : -x - -q * d = -(x - q * d) := by
        rw [Int.neg_mul]
        omega
      rw [IsRounded, hdiff, Int.neg_mul, Int.natAbs_neg, Int.natAbs_neg, Int.natAbs_neg]
      exact h
    rw [rndDiv_neg d (by omega), rndDiv_eq_of_nonneg (by omega) hneg, Int.neg_neg]

/-! Clamping. -/

theorem clampI_inside {lo hi a : Int} (hlo : lo ≤ a) (hhi : a ≤ hi) : clampI lo hi a = a := by
  rw [clampI, if_neg (Int.not_lt.mpr hlo), if_neg (Int.not_lt.mpr hhi)]

theorem clampI_below {lo hi a : Int} (h : a < lo) : clampI lo hi a = lo := if_pos h

theorem clampI_above {lo hi a : Int} (hle : lo ≤ hi) (h : hi < a) : clampI lo hi a = hi := by
  rw [clampI, if_neg (by omega), if_pos h]

/-! The steering of one edge. -/

/-- The rate after an edge with a new offset `theta`, whose proportional and integral parts are `q` and `i`. -/
def TimSt.steeredBy (t : TimSt) (c : TimeCfg) (theta q i : Int) : TimSt :=
  let lim : Int := (c.slewPpm.toNat : Int) * 1000000
  let pull := clampI (-lim) lim q
  let learned := if pull = q then clampI (-100000000) 100000000 (t.learned + i) else t.learned
  { t with theta := theta, learned := learned, applied := learned + pull, settled := decide (theta.natAbs < c.lockBandNs.toNat) }

section
variable {t : TimSt} {src : TimeSource} {c : TimeCfg} {theta q i : Int}

theorem TimSt.steer_fresh (hsel : t.selected = some src) (hcfg : t.cfg = some c) (hoff : (t.src src).offset = some theta)
    (hfresh : (t.src src).fresh = true) (hq : IsRounded (theta * 1000000) (2 ^ c.kpLog2.toNat) q)
    (hi : IsRounded (theta * 1000000) (2 ^ c.kiLog2.toNat) i) : t.steer = t.steeredBy c theta q i := by
  simp only [TimSt.steer, hsel, hcfg, hfresh, if_true, hoff, rndShift, hq.rndDiv_eq, hi.rndDiv_eq, TimSt.slewPpm, TimSt.lockBand,
    TimSt.steeredBy]

theorem TimSt.steer_stale (hsel : t.selected = some src) (hcfg : t.cfg = some c) (hstale : (t.src src).fresh = false) : t.steer = t := by
  simp only [TimSt.steer, hsel, hcfg, hstale, Bool.false_eq_true, if_false]

theorem TimSt.steer_unselected (h : t.selected = none) : t.steer = { t with applied := t.learned } := by
  simp only [TimSt.steer, h]

/-- A pull inside its limit: the rate is learned. -/
theorem TimSt.steeredBy_inside (t : TimSt) (theta i : Int) (h : q.natAbs ≤ c.slewPpm.toNat * 1000000) :
    t.steeredBy c theta q i =
      { t with
        theta := theta, learned := clampI (-100000000) 100000000 (t.learned + i)
        applied := clampI (-100000000) 100000000 (t.learned + i) + q, settled := decide (theta.natAbs < c.lockBandNs.toNat) } := by
  have hpull : clampI (-(c.slewPpm.toNat * 1000000)) (c.slewPpm.toNat * 1000000) q = q := clampI_inside (by omega) (by omega)
  simp only [TimSt.steeredBy, hpull, if_true]

/-- A pull above its limit: nothing is learned. -/
theorem TimSt.steeredBy_above (t : TimSt) (theta i : Int) (h : (c.slewPpm.toNat : Int) * 1000000 < q) :
    t.steeredBy c theta q i =
      { t with
        theta := theta, applied := t.learned + c.slewPpm.toNat * 1000000, settled := decide (theta.natAbs < c.lockBandNs.toNat) } := by
  have hpull : clampI (-(c.slewPpm.toNat * 1000000)) (c.slewPpm.toNat * 1000000) q = c.slewPpm.toNat * 1000000 :=
    clampI_above (by omega) h
  simp only [TimSt.steeredBy, hpull, Int.ne_of_lt h, if_false]

/-- A pull below its limit: nothing is learned. -/
theorem TimSt.steeredBy_below (t : TimSt) (theta i : Int) (h : q < -((c.slewPpm.toNat : Int) * 1000000)) :
    t.steeredBy c theta q i =
      { t with
        theta := theta, applied := t.learned - c.slewPpm.toNat * 1000000, settled := decide (theta.natAbs < c.lockBandNs.toNat) } := by
  have hpull : clampI (-(c.slewPpm.toNat * 1000000)) (c.slewPpm.toNat * 1000000) q = -(c.slewPpm.toNat * 1000000) := clampI_below h
  simp only [TimSt.steeredBy, hpull, Int.ne_of_gt h, if_false, Int.sub_eq_add_neg]

end

/-- Settles O20: the edge's rate by where the pull lies against its limit. -/
theorem steering : Obligations.Steering := by
  intro t src c theta q i hsel hcfg hoff hq hi
  refine ⟨fun hfresh => ?_, TimSt.steer_stale hsel hcfg, fun u => TimSt.steer_unselected⟩
  rw [TimSt.steer_fresh hsel hcfg hoff hfresh hq hi]
  refine ⟨rfl, decide_eq_true_iff, fun hin => ?_, fun habove => ?_, fun hbelow => ?_⟩
  · rw [TimSt.steeredBy_inside t theta i hin]
    exact ⟨rfl, clampI_inside, clampI_above (by decide), clampI_below⟩
  · rw [TimSt.steeredBy_above t theta i habove]
    exact ⟨rfl, rfl⟩
  · rw [TimSt.steeredBy_below t theta i hbelow]
    exact ⟨rfl, rfl⟩

end Sys2Proof.Machine
end

section
/-! SUPPORT. The time sources (04_device_time.md R118 to R121, R124 to R126, R134, R135; 14_host_protocol.md R394): what a measurement, a
lost qualification and the selection change, and the statements on the sources' messages and on the first setting. -/

namespace Sys2Proof.Machine

open Sys2Proof

/-! One source's entry. -/

theorem TimeSource.key_injective : Function.Injective TimeSource.key := by
  intro a b h
  cases a <;> cases b <;> simp [TimeSource.key, TimeSource.code] at h ⊢

@[simp] theorem TimSt.src_setSrc (t : TimSt) (s : TimeSource) (v : SourceSt) : (t.setSrc s v).src s = v := by
  simp [TimSt.src, TimSt.setSrc]

theorem TimSt.src_setSrc_other (t : TimSt) {r s : TimeSource} (v : SourceSt) (h : r ≠ s) : (t.setSrc s v).src r = t.src r :=
  Tab.get_set_other _ _ _ (fun hkey => h (TimeSource.key_injective hkey))

@[simp] theorem TimSt.enabled_setSrc (t : TimSt) (s r : TimeSource) (v : SourceSt) : (t.setSrc s v).enabled r = t.enabled r := rfl

/-! Choosing the source again keeps what the sources gave (R120, R131). -/

theorem TimSt.reselect_frame (t : TimSt) (partnerOk : Bool) :
    ∃ st sel cl app se fs fh hb, (t.reselect partnerOk).1 =
      { t with
        state := st, selected := sel, lastClass := cl, applied := app, settled := se, flSourceChanged := fs, flHoldover := fh
        holdBeats := hb } := by
  unfold TimSt.reselect
  repeat' split
  all_goals exact ⟨_, _, _, _, _, _, _, _, rfl⟩

@[simp] theorem TimSt.reselect_src (t : TimSt) (partnerOk : Bool) (s : TimeSource) : (t.reselect partnerOk).1.src s = t.src s := by
  obtain ⟨_, _, _, _, _, _, _, _, h⟩ := t.reselect_frame partnerOk
  rw [h]
  rfl

@[simp] theorem TimSt.reselect_parentClass (t : TimSt) (partnerOk : Bool) : (t.reselect partnerOk).1.parentClass = t.parentClass := by
  obtain ⟨_, _, _, _, _, _, _, _, h⟩ := t.reselect_frame partnerOk
  rw [h]

@[simp] theorem TimSt.reselect_ppsIn (t : TimSt) (partnerOk : Bool) : (t.reselect partnerOk).1.ppsIn = t.ppsIn := by
  obtain ⟨_, _, _, _, _, _, _, _, h⟩ := t.reselect_frame partnerOk
  rw [h]

/-! A lost qualification (R121). -/

/-- The source starts from the beginning; a step that waited for it may go (R129). -/
theorem TimSt.disqualify_frame (t : TimSt) (s : TimeSource) (present : Bool) :
    ∃ p, t.disqualify s present =
      { t.setSrc s { SourceSt.zero with state := if present then .qualifying else .absent } with pending := p } := by
  unfold TimSt.disqualify
  dsimp only
  split
  · split <;> exact ⟨_, rfl⟩
  · exact ⟨_, rfl⟩

@[simp] theorem State.disqualify_src (s : State) (src : TimeSource) (present : Bool) :
    (s.disqualify src present).tim.src src = { SourceSt.zero with state := if present then .qualifying else .absent } := by
  obtain ⟨p, h⟩ := s.tim.disqualify_frame src present
  simp only [State.disqualify, State.raise_tim, TimSt.reselect_src, h]
  exact TimSt.src_setSrc _ _ _

@[simp] theorem State.disqualify_parentClass (s : State) (src : TimeSource) (present : Bool) :
    (s.disqualify src present).tim.parentClass = s.tim.parentClass := by
  obtain ⟨p, h⟩ := s.tim.disqualify_frame src present
  simp only [State.disqualify, State.raise_tim, TimSt.reselect_parentClass, h]
  rfl

@[simp] theorem State.disqualify_ppsIn (s : State) (src : TimeSource) (present : Bool) :
    (s.disqualify src present).tim.ppsIn = s.tim.ppsIn := by
  obtain ⟨p, h⟩ := s.tim.disqualify_frame src present
  simp only [State.disqualify, State.raise_tim, TimSt.reselect_ppsIn, h]
  rfl

@[simp] theorem State.disqualify_hst (s : State) (src : TimeSource) (present : Bool) : (s.disqualify src present).hst = s.hst := by
  simp [State.disqualify]

/-- A fault of PPS_IN sets its flag, and GNSS starts from the beginning (R135). -/
theorem State.ppsFault_tim (s : State) (interval : Word) (present : Bool) :
    let t := (s.ppsFault interval present).tim
    t.ppsIn = s.tim.ppsIn ∧ t.flPpsIn = true ∧ t.src .gnss = { SourceSt.zero with state := if present then .qualifying else .absent } := by
  simp only [State.ppsFault, State.raise_tim, State.disqualify_ppsIn, true_and]
  exact s.disqualify_src .gnss present

/-! A measurement (R119, R124 to R128). -/

/-- `u` is `t` but for a step that waits, a refusal, and entries of sources in which `s` keeps its offset with its beat. -/
def TimSt.Judged (t u : TimSt) (s : TimeSource) : Prop :=
  ∃ srcs fl n p, u = { t with sources := srcs, flJumpRefused := fl, refusals := n, pending := p } ∧
    (Tab.get SourceSt.zero srcs s.key).offset = (t.src s).offset ∧ (Tab.get SourceSt.zero srcs s.key).beat = (t.src s).beat

theorem TimSt.judged_pending (t : TimSt) (s : TimeSource) (p : Option PendStep) : t.Judged { t with pending := p } s :=
  ⟨_, _, _, _, rfl, rfl, rfl⟩

theorem TimSt.judged_entry (t : TimSt) (s : TimeSource) (v : SourceSt) (fl : Bool) (n : Word) (p : Option PendStep)
    (hoff : v.offset = (t.src s).offset) (hbeat : v.beat = (t.src s).beat) :
    t.Judged { t.setSrc s v with flJumpRefused := fl, refusals := n, pending := p } s :=
  ⟨_, _, _, _, rfl, (congrArg SourceSt.offset (t.src_setSrc s v)).trans hoff, (congrArg SourceSt.beat (t.src_setSrc s v)).trans hbeat⟩

theorem TimSt.refuse_judged (t : TimSt) (s : TimeSource) (theta : Int) : t.Judged (t.refuse s theta).1 s := by
  unfold TimSt.refuse
  extract_lets o
  split
  · exact t.judged_entry s { o with returned := 0 } t.flJumpRefused t.refusals t.pending rfl rfl
  · exact t.judged_entry s { o with state := .refused, returned := 0 } true (t.refusals + 1) t.pending rfl rfl

/-- The jump test keeps the offset measured, with its beat (R126 to R128). -/
theorem TimSt.judge_judged (t : TimSt) (s : TimeSource) (theta : Int) : t.Judged (t.judge s theta).1 s := by
  unfold TimSt.judge
  extract_lets o
  split
  · split
    · exact t.judged_pending s _
    · exact t.judged_pending s _
  split
  · split
    · split
      · exact t.judged_pending s _
      · exact t.judged_pending s _
    · exact t.refuse_judged s theta
  split
  · split
    · exact t.judged_entry s { o with state := .qualified, returned := 0 } t.flJumpRefused t.refusals t.pending rfl rfl
    · exact t.judged_entry s { o with returned := o.returned + 1 } t.flJumpRefused t.refusals t.pending rfl rfl
  · exact t.judged_pending s _

/-- The time keeper with an offset in its source's entry. -/
def TimSt.takeOffset (t : TimSt) (s : TimeSource) (st : SourceState) (good : Nat) (theta : Int) (beat : Nat) : TimSt :=
  t.setSrc s { t.src s with state := st, good := good, offset := some theta, beat := beat, fresh := true }

/-- What a measurement of an enabled source does once its entry is written: nothing more, the first setting, or the jump test with the
selection after it. -/
theorem TimSt.measure_cases {t : TimSt} {s : TimeSource} (he : t.enabled s = true) (theta : Int)
    (atOnce firstRan accepted partnerOk : Bool) (beat : Nat) :
    ∃ st good, let m := t.takeOffset s st good theta beat
      let r := (t.measure s theta atOnce firstRan accepted partnerOk beat).1
      r = m ∨ (t.state = .unset ∧ r = (m.setExactly s theta).1) ∨ r = ((m.judge s theta).1.reselect partnerOk).1 := by
  unfold TimSt.measure
  rw [he]
  extract_lets o good st m r
  refine ⟨st, good, ?_⟩
  by_cases hq : st = .qualifying
  · exact .inl (by simp only [r]; rw [if_neg (by decide), if_pos hq]; rfl)
  by_cases hu : m.state = .unset ∧ firstRan = false
  · by_cases hb : (accepted && decide (m.best partnerOk = some s)) = true
    · exact .inr (.inl ⟨hu.1, by simp only [r, hq, hu, hb]; rfl⟩)
    · exact .inl (by simp only [r, hq, hu, hb]; rfl)
  · have hu' : ¬ (decide (m.state = .unset) && !firstRan) = true := by simpa using hu
    exact .inr (.inr (by simp only [r, hq, hu']; rfl))

/-- An offset of an enabled source, once device time is set, stands in its entry with the beat it was measured in. -/
theorem TimSt.measure_src {t : TimSt} {s : TimeSource} (he : t.enabled s = true) (hset : t.state ≠ .unset) (theta : Int)
    (atOnce firstRan accepted partnerOk : Bool) (beat : Nat) :
    let o := (t.measure s theta atOnce firstRan accepted partnerOk beat).1.src s
    o.offset = some theta ∧ o.beat = beat := by
  obtain ⟨st, good, hm | ⟨hu, -⟩ | hm⟩ := TimSt.measure_cases he theta atOnce firstRan accepted partnerOk beat
  · simp [hm, TimSt.takeOffset]
  · exact absurd hu hset
  · obtain ⟨srcs, fl, n, p, h, hoff, hbeat⟩ := (t.takeOffset s st good theta beat).judge_judged s theta
    simp only [hm, TimSt.reselect_src, h]
    refine ⟨hoff.trans ?_, hbeat.trans ?_⟩ <;> simp [TimSt.takeOffset]

@[simp] theorem TimSt.measure_parentClass (t : TimSt) (s : TimeSource) (theta : Int) (atOnce firstRan accepted partnerOk : Bool) (beat : Nat) :
    (t.measure s theta atOnce firstRan accepted partnerOk beat).1.parentClass = t.parentClass := by
  cases he : t.enabled s with
  | false => simp [TimSt.measure, he]
  | true =>
    obtain ⟨st, good, hm | ⟨-, hm⟩ | hm⟩ := TimSt.measure_cases he theta atOnce firstRan accepted partnerOk beat
    · rw [hm]
      rfl
    · rw [hm]
      rfl
    · obtain ⟨srcs, fl, n, p, h, -⟩ := (t.takeOffset s st good theta beat).judge_judged s theta
      rw [hm, TimSt.reselect_parentClass, h]
      rfl

theorem State.measure_tim (s : State) (src : TimeSource) (theta : Int) (atOnce : Bool) :
    (s.measure src theta atOnce).tim =
      (s.tim.measure src theta atOnce (decide (s.img.phase = .running)) s.img.accepted.isSome s.partnerOk s.beat.n.toNat).1 :=
  State.raise_tim _ _

@[simp] theorem State.measure_parentClass (s : State) (src : TimeSource) (theta : Int) (atOnce : Bool) :
    (s.measure src theta atOnce).tim.parentClass = s.tim.parentClass := by
  simp [State.measure]

@[simp] theorem State.measure_hst (s : State) (src : TimeSource) (theta : Int) (atOnce : Bool) :
    (s.measure src theta atOnce).hst = s.hst := by
  simp [State.measure]

theorem TimSt.one_le_agree (t : TimSt) (s : TimeSource) (theta : Int) : 1 ≤ t.agree s theta := by
  unfold TimSt.agree
  extract_lets o
  split
  · exact Nat.le_refl 1
  · split
    · exact Nat.le_add_left 1 _
    · exact Nat.le_refl 1

/-- The state of a source that has given as many offsets as it needs: qualified, unless it is refused (R119, R126). -/
def SourceState.qualify : SourceState → SourceState
  | .refused => .refused
  | _ => .qualified

theorem SourceState.qualify_ne_qualifying (x : SourceState) : x.qualify ≠ .qualifying := by cases x <;> decide

theorem SourceState.qualify_of_ne_refused {x : SourceState} (h : x ≠ .refused) : x.qualify = .qualified := by
  cases x with
  | refused => exact absurd rfl h
  | absent | qualifying | qualified => rfl

/-- The time keeper with an offset that qualifies its source. -/
def TimSt.qualifiedBy (t : TimSt) (s : TimeSource) (theta : Int) (beat : Nat) : TimSt :=
  t.takeOffset s (t.src s).state.qualify (t.agree s theta) theta beat

/-- R124, R125: before the first beat, with device time unset, a qualified source sets it where it is the best one under the TIME_CFG of
an accepted image, and is held otherwise. -/
theorem TimSt.measure_first {t : TimSt} {s : TimeSource} {theta : Int} (he : t.enabled s = true) (hu : t.state = .unset)
    (hq : t.qualCount ≤ t.agree s theta) (accepted partnerOk : Bool) (beat : Nat) :
    t.measure s theta false false accepted partnerOk beat =
      if accepted && decide ((t.qualifiedBy s theta beat).best partnerOk = some s) then (t.qualifiedBy s theta beat).setExactly s theta
      else (t.qualifiedBy s theta beat, []) := by
  unfold TimSt.measure
  rw [he]
  extract_lets o good st m
  have hst : st = (t.src s).state.qualify := by
    have hgood : good ≥ t.qualCount := hq
    simp only [st, o, if_pos hgood]
    cases (t.src s).state <;> rfl
  have hm : m = t.qualifiedBy s theta beat := by
    simp only [m, hst]
    rfl
  have hunset : m.state = .unset := hu
  have hdone : ¬ st = .qualifying := hst ▸ (t.src s).state.qualify_ne_qualifying
  rw [if_neg (by decide), if_neg hdone, if_pos (by simp [hunset]), hm]

/-! PTP messages (R394). -/

theorem State.ptpPort_frame (s : State) (k : Nat) (state : Byte) :
    ∃ p r v, s.ptpPort k state = { s with hst := { s.hst with ports := Tab.set PortSt.zero s.hst.ports k p }, rcd := r, svc := v } ∧
      p.ptpState = state := by
  unfold State.ptpPort
  extract_lets p c h q
  split
  · exact ⟨_, _, _, rfl, rfl⟩
  · obtain ⟨r, v, h⟩ := State.raise_frame q [(0x0D06, [wordN k, state.setWidth 32, wordN c])]
    rw [h]
    exact ⟨_, r, v, rfl, rfl⟩

@[simp] theorem State.ptpPort_tim (s : State) (k : Nat) (state : Byte) : (s.ptpPort k state).tim = s.tim := by
  obtain ⟨p, r, v, h, -⟩ := s.ptpPort_frame k state
  rw [h]
@[simp] theorem State.ptpPort_img (s : State) (k : Nat) (state : Byte) : (s.ptpPort k state).img = s.img := by
  obtain ⟨p, r, v, h, -⟩ := s.ptpPort_frame k state
  rw [h]
@[simp] theorem State.ptpPort_beat (s : State) (k : Nat) (state : Byte) : (s.ptpPort k state).beat = s.beat := by
  obtain ⟨p, r, v, h, -⟩ := s.ptpPort_frame k state
  rw [h]
@[simp] theorem State.ptpPort_pai (s : State) (k : Nat) (state : Byte) : (s.ptpPort k state).pai = s.pai := by
  obtain ⟨p, r, v, h, -⟩ := s.ptpPort_frame k state
  rw [h]
@[simp] theorem State.ptpPort_state (s : State) (k : Nat) (state : Byte) :
    (Tab.get PortSt.zero (s.ptpPort k state).hst.ports k).ptpState = state := by
  obtain ⟨p, r, v, h, hp⟩ := s.ptpPort_frame k state
  simp [h, hp]

/-- The device with what a message on a slave port says of the port, the parent and UTC, before its offset is taken. -/
def State.ptpHeard (s : State) (k : Nat) (c st : Byte) (u : Option Half) (i : Nat) : State :=
  let a := (s.reach i).ptpPort k st
  let tim := { a.tim with parentClass := c }
  { a with tim := match u with | some u => tim.takeUtc u 2 | none => tim }

theorem State.ptpHeard_tim (s : State) (k : Nat) (c st : Byte) (u : Option Half) (i : Nat) :
    ∃ utc src, (s.ptpHeard k c st u i).tim = { s.tim with now := max s.tim.now i, parentClass := c, utc := utc, utcFrom := src } := by
  cases u with
  | none => exact ⟨_, _, by simp only [State.ptpHeard, State.ptpPort_tim]; rfl⟩
  | some u =>
    simp only [State.ptpHeard, State.ptpPort_tim, TimSt.takeUtc]
    split <;> exact ⟨_, _, rfl⟩

@[simp] theorem State.ptpHeard_ptpState (s : State) (k : Nat) (c st : Byte) (u : Option Half) (i : Nat) :
    (Tab.get PortSt.zero (s.ptpHeard k c st u i).hst.ports k).ptpState = st := (s.reach i).ptpPort_state k st

@[simp] theorem State.ptpHeard_img (s : State) (k : Nat) (c st : Byte) (u : Option Half) (i : Nat) : (s.ptpHeard k c st u i).img = s.img :=
  (s.reach i).ptpPort_img k st

@[simp] theorem State.ptpHeard_beat (s : State) (k : Nat) (c st : Byte) (u : Option Half) (i : Nat) :
    (s.ptpHeard k c st u i).beat = s.beat := (s.reach i).ptpPort_beat k st

@[simp] theorem State.ptpHeard_partnerOk (s : State) (k : Nat) (c st : Byte) (u : Option Half) (i : Nat) :
    (s.ptpHeard k c st u i).partnerOk = (s.reach i).partnerOk := by
  obtain ⟨utc, src, h⟩ := s.ptpHeard_tim k c st u i
  have hpai : (s.ptpHeard k c st u i).pai = s.pai := (s.reach i).ptpPort_pai k st
  simp only [State.partnerOk, h, hpai, State.ptpHeard_img]
  rfl

section
variable {s : State} {port : BitVec 2} {c : Byte} (ha : s.awake = true) (hup : (Tab.get PortSt.zero s.hst.ports port.toNat).up = true)
  (hsl : s.ptpSlave port.toNat = true)
include ha hup hsl

theorem exec_ptpMessageReceive_badParent (hc : parentOk c = false) (theta : Option Int) (st : Byte) (u : Option Half) (i : Nat) :
    exec (.ptpMessageReceive port c theta st u i) s = .next ((s.ptpHeard port.toNat c st u i).disqualify .ptp true) := by
  show execPtpMessageReceive port c theta st u i s = _
  simp only [execPtpMessageReceive, ha, hup, hsl, hc, Bool.true_or, Bool.and_self, if_true, Bool.not_true, Bool.false_eq_true, if_false,
    Bool.not_false]
  rfl

theorem exec_ptpMessageReceive_offset (hc : parentOk c = true) (theta : Int) (st : Byte) (u : Option Half) (i : Nat) :
    exec (.ptpMessageReceive port c (some theta) st u i) s = .next ((s.ptpHeard port.toNat c st u i).measure .ptp theta false) := by
  show execPtpMessageReceive port c (some theta) st u i s = _
  simp only [execPtpMessageReceive, ha, hup, hsl, hc, Bool.true_or, Bool.and_self, if_true, Bool.not_true, Bool.false_eq_true, if_false]
  rfl

end

/-- A slave port enables PTP (Table 4.3). -/
theorem State.ptpSlave_enabled {s : State} {k : Nat} (h : s.ptpSlave k = true) : s.tim.enabled .ptp = true := by
  unfold State.ptpSlave at h
  unfold TimSt.enabled
  cases hcfg : s.tim.cfg with
  | none => simp [hcfg] at h
  | some c =>
    simp only [hcfg, Bool.and_eq_true] at h
    exact h.1

theorem State.ptpHeard_enabled {s : State} {k : Nat} (h : s.ptpSlave k = true) (c st : Byte) (u : Option Half) (i : Nat) :
    (s.ptpHeard k c st u i).tim.enabled .ptp = true := by
  obtain ⟨utc, src, htim⟩ := s.ptpHeard_tim k c st u i
  rw [htim]
  exact State.ptpSlave_enabled h

/-- Every state but UNSET announces a class (Table 14.1). -/
theorem announcedClass_isSome {t : TimSt} (h : t.state ≠ .unset) : (announcedClass t).isSome = true := by
  cases hs : t.state with
  | unset => exact absurd hs h
  | free => simp only [announcedClass, hs, Option.isSome_some]
  | locked | holdover =>
    simp only [announcedClass, hs]
    repeat' split
    all_goals rfl

theorem exec_ptpMasterSend_active {s : State} {port : BitVec 2} (ha : s.awake = true)
    (hup : (Tab.get PortSt.zero s.hst.ports port.toNat).up = true) (hm : s.ptpMaster port.toNat = true)
    (hp : (Tab.get PortSt.zero s.hst.ports port.toNat).ptpState ≠ 7) (hset : s.tim.state ≠ .unset) :
    exec (.ptpMasterSend port) s = .next (s.ptpPort port.toNat 6) := by
  refine congrArg Host.Outcome.next (if_pos ?_)
  simp only [ha, hup, hm, decide_eq_true hp, announcedClass_isSome hset, Bool.and_self]

/-! The pulse per second (R119, R135). -/

/-- The edge at `i` less the delay of PPS_IN is stamped into TIM_PPSIN. -/
def State.ppsStamped (s : State) (c : TimeCfg) (i : Nat) : State :=
  { s with tim := { s.tim with now := max s.tim.now i, ppsIn := ((i : Int) - c.ppsInDelay).toNat } }

theorem exec_ppsInEdge_internal {s : State} {c : TimeCfg} (ha : s.awake = true) (hc : s.tim.cfg = some c) (hx : s.tim.external = false)
    (i : Nat) (label : Option Nat) : exec (.ppsInEdge i label) s = .next (s.ppsStamped c i) := by
  show execPpsInEdge i label s = _
  simp [execPpsInEdge, ha, hc, hx, State.reach, State.ppsStamped]

/-- External GNSS: an edge further than 10 µs from a second after the last is a fault. -/
theorem exec_ppsInEdge_far {s : State} {c : TimeCfg} (ha : s.awake = true) (hc : s.tim.cfg = some c) (hx : s.tim.external = true)
    (hlast : s.tim.ppsIn ≠ 0) {i : Nat} {gap : Int} (hgap : gap = (((i : Int) - c.ppsInDelay).toNat : Int) - s.tim.ppsIn)
    (hfar : 10000 < (gap - 1000000000).natAbs) (label : Option Nat) :
    exec (.ppsInEdge i label) s = .next ((s.ppsStamped c i).ppsFault (satWordU (gap.toNat / 1000)) true) := by
  subst hgap
  refine congrArg Host.Outcome.next ((if_neg (by simp [ha])).trans ?_)
  simp only [hc, hx, hlast, hfar, Bool.not_true, Bool.false_eq_true, if_false, if_true]
  rfl

theorem exec_ppsInTimeout_external {s : State} (ha : s.awake = true) (hx : s.tim.external = true) :
    exec .ppsInTimeout s = .next (s.ppsFault 0xFFFFFFFF false) := congrArg Host.Outcome.next (if_pos (by simp [ha, hx]))

theorem exec_leapSecond_awake {s : State} (ha : s.awake = true) (d : Half) (i : Nat) (g : Bool) :
    exec (.leapSecond d i g) s = .next { s.reach i with tim := (s.reach i).tim.takeUtc d (if g then 3 else 2) } := next_if_awake ha

/-- A source of R118 at or above the one in force gives TAI − UTC. -/
theorem TimSt.takeUtc_utc {t : TimSt} {src : BitVec 2} (h : t.utcFrom.toNat ≤ src.toNat) (d : Half) : (t.takeUtc d src).utc = d := by
  rw [TimSt.takeUtc, if_pos h]

/-- Settles O17: each message and edge by what it leaves in the port and the time keeper. -/
theorem timeSourceMessages : Obligations.TimeSourceMessages := by
  intro s ha
  refine ⟨fun port c theta st u i hup hsl => ?_, fun port hup hm hp hset => ?_, fun i label c hc hx => ?_, fun i label hx hd hlast hfar => ?_,
    fun hx => ?_, ⟨_, rfl, rfl⟩, fun d i g hu => ?_⟩
  · obtain ⟨utc, src, htim⟩ := s.ptpHeard_tim port.toNat c st u i
    cases hc : parentOk c with
    | false =>
      refine ⟨_, exec_ptpMessageReceive_badParent ha hup hsl hc _ st u i, ?_⟩
      simp [htim, SourceSt.zero]
    | true =>
      refine ⟨_, exec_ptpMessageReceive_offset ha hup hsl hc theta st u i, ?_, ?_, fun h => absurd h (by decide), fun _ hset => ?_⟩
      · simp [htim]
      · simp
      · have hset' : (s.ptpHeard port.toNat c st u i).tim.state ≠ .unset := by rw [htim]; exact hset
        simpa [State.measure] using TimSt.measure_src (State.ptpHeard_enabled hsl c st u i) hset' theta false
          (decide (s.img.phase = .running)) s.img.accepted.isSome (s.reach i).partnerOk s.beat.n.toNat
  · exact ⟨_, exec_ptpMasterSend_active ha hup hm hp hset, s.ptpPort_state port.toNat 6, s.ptpPort_tim port.toNat 6⟩
  · exact ⟨_, exec_ppsInEdge_internal ha hc hx i label, rfl, rfl⟩
  · cases hc : s.tim.cfg with
    | none => simp [hc] at hd
    | some c =>
      have hdelay : c.ppsInDelay = 0 := by simpa [hc] using hd
      have hat : ((i : Int) - c.ppsInDelay).toNat = i := by simp [hdelay]
      have hexec := exec_ppsInEdge_far ha hc hx hlast (gap := (i : Int) - s.tim.ppsIn) (by rw [hat]) (by omega) label
      obtain ⟨hpps, hflag, hsrc⟩ := (s.ppsStamped c i).ppsFault_tim (satWordU (((i : Int) - s.tim.ppsIn).toNat / 1000)) true
      exact ⟨_, hexec, hpps.trans hat, hflag, by rw [hsrc]; rfl, by rw [hsrc]; rfl⟩
  · obtain ⟨-, hflag, hsrc⟩ := s.ppsFault_tim 0xFFFFFFFF false
    exact ⟨_, exec_ppsInTimeout_external ha hx, hflag, by rw [hsrc]; rfl⟩
  · have hle : s.tim.utcFrom.toNat ≤ (if g then 3 else 2 : BitVec 2).toNat := by cases g <;> simp <;> omega
    exact ⟨_, exec_leapSecond_awake ha d i g, TimSt.takeUtc_utc (t := (s.reach i).tim) hle d⟩

/-! The first setting (R124, R125). -/

theorem firstSource_ptp {ok : TimeSource → Bool} (hg : ok .gnss = false) (hp : ok .ptp = true) : firstSource ok false = some .ptp := by
  simp [firstSource, hg, hp]

/-- With neither PARTNER nor GNSS to choose, PTP is the best source once it is qualified. -/
theorem TimSt.qualifiedBy_best_ptp {t : TimSt} (he : t.enabled .ptp = true) (hg : (t.src .gnss).state ≠ .qualified)
    (hr : (t.src .ptp).state ≠ .refused) (theta : Int) (beat : Nat) : (t.qualifiedBy .ptp theta beat).best false = some .ptp := by
  have hgnss : ((t.qualifiedBy .ptp theta beat).src .gnss).state ≠ .qualified := by
    rwa [TimSt.qualifiedBy, TimSt.takeOffset, TimSt.src_setSrc_other t _ (by decide)]
  have hptp : ((t.qualifiedBy .ptp theta beat).src .ptp).state = .qualified := by
    rw [TimSt.qualifiedBy, TimSt.takeOffset, TimSt.src_setSrc]
    exact SourceState.qualify_of_ne_refused hr
  have hen : (t.qualifiedBy .ptp theta beat).enabled .ptp = true := he
  exact firstSource_ptp (by simp [TimSt.selectable, hgnss]) (by simp [TimSt.selectable, hen, hptp])

/-- Settles O18: PTP qualifies at its offset, and sets device time or is held. -/
theorem firstSetting : Obligations.FirstSetting := by
  intro s port c st theta i ha hup hsl hc hu hph hn
  have hexec := exec_ptpMessageReceive_offset ha hup hsl hc theta st none i
  have htim : (s.ptpHeard port.toNat c st none i).tim = { s.tim with now := max s.tim.now i, parentClass := c } := by
    simp only [State.ptpHeard, State.ptpPort_tim]
    rfl
  have hfirst := TimSt.measure_first (State.ptpHeard_enabled hsl c st none i) (theta := theta) (by rw [htim]; exact hu)
    (by rw [htim]; exact Nat.le_trans (Nat.le_of_eq hn) (TimSt.one_le_agree _ _ _)) s.img.accepted.isSome (s.reach i).partnerOk s.beat.n.toNat
  have hmeasure : ((s.ptpHeard port.toNat c st none i).measure .ptp theta false).tim =
      ((s.ptpHeard port.toNat c st none i).tim.measure .ptp theta false false s.img.accepted.isSome (s.reach i).partnerOk
        s.beat.n.toNat).1 := by
    rw [State.measure_tim, State.ptpHeard_img, State.ptpHeard_beat, State.ptpHeard_partnerOk, decide_eq_false hph]
  rw [hfirst] at hmeasure
  refine ⟨fun hacc hpartner hg hr => ⟨_, hexec, ?_⟩, fun hacc => ⟨_, hexec, ?_⟩⟩
  · have hbest := TimSt.qualifiedBy_best_ptp (State.ptpHeard_enabled hsl c st none i) (by rw [htim]; exact hg) (by rw [htim]; exact hr)
      theta s.beat.n.toNat
    rw [hmeasure, hacc, hpartner, hbest, if_pos (by decide), htim]
    exact ⟨rfl, rfl, rfl, rfl⟩
  · rw [hmeasure, hacc, if_neg (by simp), htim]
    exact ⟨rfl, rfl, hu, by simp [TimSt.qualifiedBy, TimSt.takeOffset]⟩

end Sys2Proof.Machine
end

section
/-! SUPPORT. The conditioning channels (05_conditioning.md): what a converter's code, the chain and its validity leave in a channel, what a
stuck source and the waiting writes of CND_C_CTRL do, and the two statements on them. -/

namespace Sys2Proof.Machine

open Sys2Proof

@[simp] theorem CndSt.entry_setCh (d : CndSt) (c k : Nat) (x : CndCh) : (d.setCh c x).entry k = d.entry k := rfl

@[simp] theorem State.withCnd_cnd (s : State) (r : CndSt × List Ev) : (s.withCnd r).cnd = r.1 := State.raise_cnd _ _

/-! The fine chain (R150 to R153) changes its own stages and the marks of saturation. -/

theorem CndCh.dcBlock_frame (ch : CndCh) (e : CndEntry) (rate : Nat) (x : Int) : ∃ o, (ch.dcBlock e rate x).1 = { ch with offset := o } := by
  unfold CndCh.dcBlock
  split
  · exact ⟨ch.offset, rfl⟩
  · exact ⟨_, rfl⟩

theorem CndCh.fineChain_frame (ch : CndCh) (e : CndEntry) (rate : Nat) (x : Int) (s0 : Bool) :
    ∃ o h m f sn sf n, ch.fineChain e rate x s0 =
      { ch with offset := o, fir := h, ma := m, fine := f, satFineNow := sn, flSatFine := sf, sats := n } := by
  obtain ⟨o, ho⟩ := ch.dcBlock_frame e rate x
  simp only [CndCh.fineChain, ho]
  exact ⟨_, _, _, _, _, _, _, rfl⟩

theorem satS_inside {w : Nat} {a : Int} (hlo : minS w ≤ a) (hhi : a ≤ maxS w) : satS w a = a := clampI_inside hlo hhi

/-- Without DC block, FIR and average the fine chain passes its sample on. -/
theorem CndCh.fineChain_unfiltered (ch : CndCh) {e : CndEntry} (hdc : e.dcbMhz = 0) (hfir : e.firKind = 0) (hma : e.maLen = 1) (rate : Nat)
    {x : Int} (hlo : minS 32 ≤ x) (hhi : x ≤ maxS 32) (s0 : Bool) : (ch.fineChain e rate x s0).fine = x := by
  simp [CndCh.fineChain, CndCh.dcBlock, maOut, hdc, hfir, hma, satS_inside hlo hhi]

/-! Validity (Table 5.4, R157, R158): an overload, and the three cases of a sound source. -/

theorem CndCh.validity_frame (ch : CndCh) (e : CndEntry) (c : Nat) (src : Byte) (wasOvl flushed : Bool) :
    ∃ u st fo ov run fst n af, (ch.validity e c src wasOvl flushed).1 =
      { ch with use := u, settle := st, flOverload := fo, ovls := ov, ovlRun := run, flStep := fst, steps := n, autoFrozen := af } := by
  unfold CndCh.validity
  cases ch.overload && !wasOvl
  all_goals
    simp only [Bool.false_eq_true, if_false, if_true]
    repeat' split
  all_goals exact ⟨_, _, _, _, _, _, _, _, rfl⟩

@[simp] theorem CndCh.validity_fast (ch : CndCh) (e : CndEntry) (c : Nat) (src : Byte) (wasOvl flushed : Bool) :
    (ch.validity e c src wasOvl flushed).1.fast = ch.fast := by
  obtain ⟨_, _, _, _, _, _, _, _, h⟩ := ch.validity_frame e c src wasOvl flushed
  rw [h]

@[simp] theorem CndCh.validity_fine (ch : CndCh) (e : CndEntry) (c : Nat) (src : Byte) (wasOvl flushed : Bool) :
    (ch.validity e c src wasOvl flushed).1.fine = ch.fine := by
  obtain ⟨_, _, _, _, _, _, _, _, h⟩ := ch.validity_frame e c src wasOvl flushed
  rw [h]

/-- An overload counts an episode at its first sample alone. -/
theorem CndCh.validity_overload {ch : CndCh} (ho : ch.overload = true) (e : CndEntry) (c : Nat) (src : Byte) (wasOvl flushed : Bool) :
    (ch.validity e c src wasOvl flushed).1 =
      { ch with
        use := .none, settle := 0, flOverload := ch.flOverload || !wasOvl, ovls := if wasOvl then ch.ovls else ch.ovls + 1
        ovlRun := ch.ovlRun + 1, autoFrozen := e.autoFreeze } := by
  cases wasOvl <;> simp [CndCh.validity, ho]

section
variable {ch : CndCh} (ho : ch.overload = false) (hs : ch.stuck = false) (e : CndEntry) (c : Nat) (src : Byte) (wasOvl : Bool)
include ho hs

theorem CndCh.validity_flushed :
    (ch.validity e c src wasOvl true).1 = { ch with use := .fast, settle := 0, ovlRun := 0, autoFrozen := e.autoFreeze } := by
  simp [CndCh.validity, ho, hs]

theorem CndCh.validity_step {e : CndEntry} (hthr : e.stepThr ≠ 0) (hdiff : e.stepThr.toNat < (ch.fast - ch.fine).natAbs) :
    (ch.validity e c src wasOvl false).1 =
      { ch with use := .fast, settle := 0, ovlRun := 0, flStep := true, steps := ch.steps + 1, autoFrozen := e.autoFreeze } := by
  have hstep : (decide (e.stepThr ≠ 0) && decide ((ch.fast - ch.fine).natAbs > e.stepThr.toNat)) = true := by
    rw [decide_eq_true hthr, decide_eq_true hdiff, Bool.and_self]
  simp only [CndCh.validity, ho, hs, hstep, Bool.false_and, Bool.or_self, Bool.false_eq_true, if_false, if_true]

theorem CndCh.validity_quiet {e : CndEntry} (hquiet : e.stepThr = 0 ∨ (ch.fast - ch.fine).natAbs ≤ e.stepThr.toNat) :
    ∃ af, (ch.validity e c src wasOvl false).1 =
      { ch with use := if settleLen e ≤ ch.settle + 1 then .fine else .fast, settle := ch.settle + 1, ovlRun := 0, autoFrozen := af } := by
  have hstep : (decide (e.stepThr ≠ 0) && decide ((ch.fast - ch.fine).natAbs > e.stepThr.toNat)) = false := by
    rcases hquiet with hoff | hle
    · rw [decide_eq_false (not_not_intro hoff), Bool.false_and]
    · rw [decide_eq_false (Nat.not_lt.mpr hle), Bool.and_false]
  simp only [CndCh.validity, ho, hs, hstep, Bool.false_and, Bool.or_self, Bool.false_eq_true, if_false]
  exact ⟨_, rfl⟩

end

/-! A sample of a SAR converter (R147). -/

/-- The Q1.31 value of a SAR code. -/
def sarValue (code : Half) : Int := ((code.toNat : Int) - 32768) * 65536

theorem sarValue_inside (code : Half) : minS 32 ≤ sarValue code ∧ sarValue code ≤ maxS 32 := by
  have hlt := code.isLt
  simp only [minS, maxS, sarValue]
  omega

/-- A channel that has taken a SAR code as its fast value. -/
def CndCh.takeCode (ch : CndCh) (code : Half) : CndCh :=
  { ch with overload := decide (code = 0) || decide (code = 0xFFFF), stuck := false, satFastNow := false, fast := sarValue code }

/-- A channel before its validity: preloaded by the first sample after a flush, and its fine chain run by any later one. -/
def CndCh.takeSar (ch : CndCh) (e : CndEntry) (rate : Nat) (code : Half) : CndCh :=
  if ch.flush then (ch.takeCode code).preload e (sarValue code) (ch.freeze || ch.keepOfs)
  else (ch.takeCode code).fineChain e rate (sarValue code) false

section
variable (ch : CndCh) (e : CndEntry) (rate : Nat) (code : Half)

theorem CndCh.takeSar_running {ch : CndCh} (hf : ch.flush = false) :
    ch.takeSar e rate code = (ch.takeCode code).fineChain e rate (sarValue code) false := if_neg (by simp [hf])

theorem CndCh.takeSar_settle {ch : CndCh} (hf : ch.flush = false) : (ch.takeSar e rate code).settle = ch.settle := by
  obtain ⟨_, _, _, _, _, _, _, h⟩ := (ch.takeCode code).fineChain_frame e rate (sarValue code) false
  rw [CndCh.takeSar_running e rate code hf, h]
  rfl

theorem CndCh.takeSar_frame :
    ∃ o h m f sn sf n u st fl k, ch.takeSar e rate code =
      { ch.takeCode code with
        offset := o, fir := h, ma := m, fine := f, satFineNow := sn, flSatFine := sf, sats := n, use := u, settle := st, flush := fl
        keepOfs := k } := by
  unfold CndCh.takeSar
  split
  · exact ⟨_, _, _, _, _, _, _, _, _, _, _, rfl⟩
  · obtain ⟨_, _, _, _, _, _, _, h⟩ := (ch.takeCode code).fineChain_frame e rate (sarValue code) false
    exact ⟨_, _, _, _, _, _, _, _, _, _, _, h⟩

theorem CndCh.takeSar_keeps :
    (ch.takeSar e rate code).fast = sarValue code ∧ (ch.takeSar e rate code).stuck = false ∧ (ch.takeSar e rate code).ovls = ch.ovls ∧
      (ch.takeSar e rate code).steps = ch.steps := by
  obtain ⟨_, _, _, _, _, _, _, _, _, _, _, h⟩ := ch.takeSar_frame e rate code
  rw [h]
  exact ⟨rfl, rfl, rfl, rfl⟩

theorem CndCh.takeSar_overload_iff : (ch.takeSar e rate code).overload = true ↔ code = 0 ∨ code = 0xFFFF := by
  obtain ⟨_, _, _, _, _, _, _, _, _, _, _, h⟩ := ch.takeSar_frame e rate code
  rw [h, CndCh.takeCode, Bool.or_eq_true, decide_eq_true_iff, decide_eq_true_iff]

end

/-- The channel that a SAR sample leaves. -/
def CndCh.sampleSar (ch : CndCh) (e : CndEntry) (rate c : Nat) (src : Byte) (code : Half) : CndCh :=
  ((ch.takeSar e rate code).validity e c src ch.overload ch.flush).1

section
variable (ch : CndCh) (e : CndEntry) (rate c : Nat) (src : Byte) {code : Half}

theorem CndCh.sampleSar_fast : (ch.sampleSar e rate c src code).fast = sarValue code := by
  obtain ⟨hfast, -⟩ := ch.takeSar_keeps e rate code
  rw [CndCh.sampleSar, CndCh.validity_fast, hfast]

/-- The codes 0 and 0xFFFF are an overload (R158). -/
theorem CndCh.sampleSar_overload (h : code = 0 ∨ code = 0xFFFF) :
    (ch.sampleSar e rate c src code).use = .none ∧ (ch.sampleSar e rate c src code).overload = true ∧
      (ch.overload = false →
        (ch.sampleSar e rate c src code).flOverload = true ∧ (ch.sampleSar e rate c src code).ovls = ch.ovls + 1) ∧
      (ch.overload = true → (ch.sampleSar e rate c src code).ovls = ch.ovls) := by
  obtain ⟨-, -, hovls, -⟩ := ch.takeSar_keeps e rate code
  have ho := (ch.takeSar_overload_iff e rate code).mpr h
  rw [CndCh.sampleSar, CndCh.validity_overload ho]
  exact ⟨rfl, ho, fun hw => by simp [hw, hovls], fun hw => by simp [hw, hovls]⟩

/-- A running chain without filters (R150 to R152). -/
theorem CndCh.sampleSar_unfiltered (hf : ch.flush = false) (hdc : e.dcbMhz = 0) (hfir : e.firKind = 0) (hma : e.maLen = 1) :
    (ch.sampleSar e rate c src code).fine = sarValue code := by
  obtain ⟨hlo, hhi⟩ := sarValue_inside code
  rw [CndCh.sampleSar, CndCh.validity_fine, CndCh.takeSar_running e rate code hf, CndCh.fineChain_unfiltered _ hdc hfir hma _ hlo hhi]

section
variable (h0 : code ≠ 0) (h1 : code ≠ 0xFFFF)
include h0 h1

theorem CndCh.takeSar_sound : (ch.takeSar e rate code).overload = false :=
  Bool.eq_false_iff.mpr fun ho => ((ch.takeSar_overload_iff e rate code).mp ho).elim h0 h1

/-- The first sample after a flush (Table 5.4). -/
theorem CndCh.sampleSar_flushed (hf : ch.flush = true) :
    (ch.sampleSar e rate c src code).use = .fast ∧ (ch.sampleSar e rate c src code).fine = sarValue code ∧
      (ch.sampleSar e rate c src code).settle = 0 ∧ (ch.sampleSar e rate c src code).flush = false := by
  obtain ⟨-, hstuck, -, -⟩ := ch.takeSar_keeps e rate code
  rw [CndCh.sampleSar, hf, CndCh.validity_flushed (ch.takeSar_sound e rate h0 h1) hstuck, CndCh.takeSar, if_pos hf]
  exact ⟨rfl, rfl, rfl, rfl⟩

variable (hf : ch.flush = false)
include hf

/-- A sample further than STEP_THR from FINE (Table 5.4). -/
theorem CndCh.sampleSar_step (hthr : e.stepThr ≠ 0)
    (hdiff : e.stepThr.toNat < (sarValue code - (ch.sampleSar e rate c src code).fine).natAbs) :
    (ch.sampleSar e rate c src code).use = .fast ∧ (ch.sampleSar e rate c src code).settle = 0 ∧
      (ch.sampleSar e rate c src code).steps = ch.steps + 1 ∧ (ch.sampleSar e rate c src code).flStep = true := by
  obtain ⟨hfast, hstuck, -, hsteps⟩ := ch.takeSar_keeps e rate code
  rw [CndCh.sampleSar, CndCh.validity_fine, ← hfast] at hdiff
  rw [CndCh.sampleSar, hf, CndCh.validity_step (ch.takeSar_sound e rate h0 h1) hstuck _ _ _ hthr hdiff, hsteps]
  exact ⟨rfl, rfl, rfl, rfl⟩

/-- A sample without a step: FINE once SETTLE of them have come (R157). -/
theorem CndCh.sampleSar_quiet
    (hquiet : e.stepThr = 0 ∨ (sarValue code - (ch.sampleSar e rate c src code).fine).natAbs ≤ e.stepThr.toNat) :
    (ch.sampleSar e rate c src code).settle = ch.settle + 1 ∧ (ch.sampleSar e rate c src code).steps = ch.steps ∧
      ((ch.sampleSar e rate c src code).use = .fine ↔ settleLen e ≤ ch.settle + 1) ∧ (ch.sampleSar e rate c src code).use ≠ .none := by
  obtain ⟨hfast, hstuck, -, hsteps⟩ := ch.takeSar_keeps e rate code
  rw [CndCh.sampleSar, CndCh.validity_fine, ← hfast] at hquiet
  obtain ⟨_, hval⟩ := CndCh.validity_quiet (ch.takeSar_sound e rate h0 h1) hstuck c src ch.overload hquiet
  rw [CndCh.sampleSar, hf, hval, CndCh.takeSar_settle e rate code hf, hsteps]
  refine ⟨rfl, rfl, ?_⟩
  split <;> simp [*]

end
end

/-! The whole command, on a channel without an alternate. -/

theorem CndSt.isOn_of_isAin {d : CndSt} {c : Nat} (h : isAin (d.entry c).source = true) : d.isOn c = true := by
  refine decide_eq_true fun hoff => ?_
  rw [hoff] at h
  exact absurd h (by decide)

/-- A channel whose other source is known to be sound or not. -/
def CndCh.withOther (ch : CndCh) (bad : Bool) : CndCh := { ch with otherBad := bad }

/-- A channel without an alternate takes the sample from its primary. -/
theorem CndSt.sample_primary {d : CndSt} {c : Nat} (hon : d.isOn c = true) (halt : (d.entry c).altSource = 0xFF) (inp : CndInput) (bad : Bool) :
    d.sample c inp bad = (d.setCh c ((d.ch c).withOther bad)).runSample c inp := by
  simp [CndSt.sample, CndCh.wantsAlt, CndCh.withOther, hon, halt]

theorem CndSt.runSample_code (d : CndSt) (c : Nat) (code : Half) :
    (d.runSample c (.code code)).1 = d.setCh c ((d.ch c).sampleSar (d.entry c) (d.rateKhz c) c (d.sourceInUse c) code) := by
  simp only [CndSt.runSample, CndCh.front, Bool.or_false]
  rfl

theorem exec_chainSample_code {s : State} {ch : BitVec 6} (hd : s.domainOn 9 = true) (hain : isAin (s.cnd.entry ch.toNat).source = true)
    (halt : (s.cnd.entry ch.toNat).altSource = 0xFF) (hprim : (s.cnd.ch ch.toNat).alt = false) (code : Half) (bad : Bool) :
    ∃ t rate src, exec (.chainSample ch (.code code) bad) s = .next t ∧
      t.cnd = (s.cnd.setCh ch.toNat ((s.cnd.ch ch.toNat).withOther bad)).setCh ch.toNat
        (((s.cnd.ch ch.toNat).withOther bad).sampleSar (s.cnd.entry ch.toNat) rate ch.toNat src code) := by
  let x := (s.cnd.ch ch.toNat).withOther bad
  have hfits : inputFits (s.cnd.sourceInUse ch.toNat) (.code code) = true := by simpa [inputFits, CndSt.sourceInUse, hprim] using hain
  refine ⟨_, (s.cnd.setCh ch.toNat x).rateKhz ch.toNat, (s.cnd.setCh ch.toNat x).sourceInUse ch.toNat,
    congrArg Host.Outcome.next (if_pos (by rw [hd, hfits]; rfl)), ?_⟩
  rw [State.withCnd_cnd, CndSt.sample_primary (CndSt.isOn_of_isAin hain) halt, CndSt.runSample_code, CndSt.ch_setCh, CndSt.entry_setCh]

/-- Settles O21: the sample's channel, by its code and by whether it is the first after a flush. -/
theorem chainSampleUse : Obligations.ChainSampleUse := by
  intro s ch code bad c e v hd hain halt hprim
  obtain ⟨t, rate, src, hexec, hcnd⟩ := exec_chainSample_code hd hain halt hprim code bad
  let x := (s.cnd.ch c).withOther bad
  have hch : t.cnd.ch c = x.sampleSar e rate c src code := by rw [hcnd]; exact CndSt.ch_setCh _ _ _
  refine ⟨t, hexec, ?_, by rw [hcnd]; rfl, fun k hk => ?_, ?_⟩
  · rw [hch]
    exact x.sampleSar_fast e rate c src
  · rw [hcnd, CndSt.ch_setCh_other _ _ hk, CndSt.ch_setCh_other _ _ hk]
  · rw [hch]
    exact ⟨x.sampleSar_overload e rate c src, fun h0 h1 => ⟨x.sampleSar_flushed e rate c src h0 h1, fun hf =>
      ⟨x.sampleSar_step e rate c src h0 h1 hf, x.sampleSar_quiet e rate c src h0 h1 hf, x.sampleSar_unfiltered e rate c src hf⟩⟩⟩

/-! A stuck bitstream (R158) and the writes that wait for the edge (R159, R160). -/

theorem CndSt.sourceStuck_first {d : CndSt} {c : Nat} (hon : d.isOn c = true) (hbit : isBitstream (d.sourceInUse c) = true)
    (hfree : (d.ch c).stuck = false) :
    (d.sourceStuck c).1 = d.setCh c
      { d.ch c with
        stuck := true, flStuck := true, ovls := (d.ch c).ovls + 1, settle := 0, use := .none, autoFrozen := (d.entry c).autoFreeze } := by
  simp only [CndSt.sourceStuck, hon, hbit, hfree, Bool.not_false, Bool.and_self, if_true]

/-- FREEZE as it was asked, and nothing waits any more. -/
theorem CndSt.applyCtrl_takesWrites (d : CndSt) (c : Nat) :
    ((d.applyCtrl c).1.ch c).freeze = (d.ch c).pendFreeze.getD (d.ch c).freeze ∧ ((d.applyCtrl c).1.ch c).pendFreeze = none ∧
      ((d.applyCtrl c).1.ch c).pendReturn = false ∧ ((d.applyCtrl c).1.ch c).offset = (d.ch c).offset := by
  unfold CndSt.applyCtrl
  dsimp only
  repeat' split
  all_goals
    rw [CndSt.ch_setCh]
    exact ⟨rfl, rfl, rfl, rfl⟩

section
variable {d : CndSt} {c : Nat} (hret : (d.ch c).pendReturn = true) (halt : (d.ch c).alt = true)
include hret halt

theorem CndSt.applyCtrl_returns (hsound : (d.ch c).otherBad = false) :
    ((d.applyCtrl c).1.ch c).alt = false ∧ ((d.applyCtrl c).1.ch c).flush = true := by
  simp [CndSt.applyCtrl, CndCh.changeSource, hret, halt, hsound]

theorem CndSt.applyCtrl_refuses (hbad : (d.ch c).otherBad = true) :
    ((d.applyCtrl c).1.ch c).alt = true ∧ ((d.applyCtrl c).1.ch c).flReturnRefused = true := by
  simp [CndSt.applyCtrl, hret, halt, hbad]

end

section
variable {s : State} (hd : s.domainOn 9 = true) (ch : BitVec 6)
include hd

theorem exec_sourceStuck_on : exec (.sourceStuck ch) s = .next (s.withCnd (s.cnd.sourceStuck ch.toNat)) :=
  congrArg Host.Outcome.next (if_pos hd)

theorem exec_cndCtrlApply_on : exec (.cndCtrlApply ch) s = .next (s.withCnd (s.cnd.applyCtrl ch.toNat)) :=
  congrArg Host.Outcome.next (if_pos hd)

end

/-- Settles O22: a stuck source, the two writes as they wait, and both at the edge. -/
theorem conditioningControl : Obligations.ConditioningControl := by
  intro s ch c
  obtain ⟨hfreeze, hpend, hret0, hofs⟩ := s.cnd.applyCtrl_takesWrites c
  refine ⟨fun hd hon hbit hfree => ⟨_, exec_sourceStuck_on hd ch, ?_⟩, fun v ha => ⟨_, next_if_awake ha, ?_⟩,
    fun ha => ⟨_, next_if_awake ha, ?_⟩, fun hd => ⟨fun v hv => ⟨_, exec_cndCtrlApply_on hd ch, ?_⟩, fun hret halt =>
      ⟨_, exec_cndCtrlApply_on hd ch, ?_⟩⟩⟩
  · rw [State.withCnd_cnd, CndSt.sourceStuck_first hon hbit hfree, CndSt.ch_setCh]
    exact ⟨rfl, rfl, rfl, rfl, fun k hk => CndSt.ch_setCh_other _ _ hk⟩
  · simp [CndSt.askFreeze, c]
  · simp [CndSt.askReturn, c]
  · rw [State.withCnd_cnd]
    exact ⟨hfreeze.trans (by rw [hv]; rfl), hpend, hofs⟩
  · rw [State.withCnd_cnd]
    exact ⟨hret0, CndSt.applyCtrl_returns hret halt, CndSt.applyCtrl_refuses hret halt⟩

end Sys2Proof.Machine
end

section
/-! SUPPORT. The tracking channels of the GNSS baseband (06_gnss_baseband.md R173 to R180, Table 6.4): what a command does on an assigned
channel, what queueing a search leaves, and the statement on them. -/

namespace Sys2Proof.Machine

open Sys2Proof

/-! A command on an assigned channel. -/

theorem State.baseband_signal {s : State} {c : Nat} {tab : GnsTable} (hb : s.baseband c tab) :
    s.gns.table = some tab ∧ ∃ sd, signalDef (s.gns.ch c).signal ((s.gns.ch c).sv.toNat / 256) = some sd := by
  obtain ⟨-, -, -, htab, hsig⟩ := hb
  exact ⟨htab, Option.isSome_iff_exists.mp hsig⟩

theorem State.gnsCh_assigned {s : State} {c : Nat} {tab : GnsTable} (hb : s.baseband c tab) {sd : SignalDef}
    (hsd : signalDef (s.gns.ch c).signal ((s.gns.ch c).sv.toNat / 256) = some sd) (f : GnsTable → SignalDef → GnsCh → State) :
    s.gnsCh c f = f tab sd (s.gns.ch c) := by
  obtain ⟨hdom, hpow, hc, htab, -⟩ := hb
  simp [State.gnsCh, hdom, hpow, hc, htab, hsd]

theorem exec_of_gnsCh {s : State} {c : Nat} {tab : GnsTable} (hb : s.baseband c tab) {sd : SignalDef}
    (hsd : signalDef (s.gns.ch c).signal ((s.gns.ch c).sv.toNat / 256) = some sd) {i : Instr}
    {f : GnsTable → SignalDef → GnsCh → State} (hi : exec i s = .next (s.gnsCh c f)) : exec i s = .next (f tab sd (s.gns.ch c)) :=
  hi.trans (congrArg Host.Outcome.next (State.gnsCh_assigned hb hsd f))

/-- A command that acts under a condition, and leaves the state as it is where the condition fails. -/
theorem exists_next_ite {o : Host.Outcome State Fault Refusal} {p : Prop} [Decidable p] {x s : State} {post : State → Prop}
    (ho : o = .next (if p then x else s)) (hx : post x) : ∃ t, o = .next t ∧ if p then post t else t = s := by
  refine ⟨_, ho, ?_⟩
  split
  · exact hx
  · rfl

/-! Queueing a search (R179, R180). -/

theorem insertBy_length {α : Type} (key : α → Nat) (x : α) (l : List α) : (insertBy key x l).length = l.length + 1 := by
  induction l with
  | nil => rfl
  | cons y l ih =>
    rw [insertBy]
    split
    · rfl
    · rw [List.length_cons, ih, List.length_cons]

/-- A channel that waits for its search over a window of `w` code and Doppler bins. -/
def GnsCh.inSearch (ch : GnsCh) (w : Nat × Nat) (aided : Bool) : GnsCh :=
  { ch with state := .search, codeBins := w.1, doppBins := w.2, aided := aided, beats := 0 }

/-- The request in the queue, in the order of requests. -/
def GnsSt.enqueue (g : GnsSt) (r : AcqReq) : GnsSt :=
  { g with queue := insertBy (fun (q : AcqReq) => q.beat * 1024 + q.channel) r g.queue }

@[simp] theorem GnsSt.enqueue_ch (g : GnsSt) (r : AcqReq) (k : Nat) : (g.enqueue r).ch k = g.ch k := rfl

@[simp] theorem GnsSt.enqueue_queue_length (g : GnsSt) (r : AcqReq) : (g.enqueue r).queue.length = g.queue.length + 1 :=
  insertBy_length _ _ _

theorem GnsSt.queueAcq_assigned {g : GnsSt} {tab : GnsTable} (ht : g.table = some tab) {c : Nat} {sd : SignalDef}
    (hsd : signalDef (g.ch c).signal ((g.ch c).sv.toNat / 256) = some sd) (beat : Nat) (a : Aiding) (aided : Bool) (widen : Nat) :
    ∃ w r, g.queueAcq c beat a aided widen = (g.setCh c ((g.ch c).inSearch w aided)).enqueue r := by
  simp only [GnsSt.queueAcq, ht, hsd]
  exact ⟨acqWindow tab sd a aided widen, _, rfl⟩

/-- A request for a search touches the channels and the queue alone. -/
theorem GnsSt.queueAcq_frame (g : GnsSt) (c beat : Nat) (a : Aiding) (aided : Bool) (widen : Nat) :
    ∃ chans q, g.queueAcq c beat a aided widen = { g with channels := chans, queue := q } := by
  unfold GnsSt.queueAcq
  split
  · exact ⟨g.channels, g.queue, rfl⟩
  · dsimp only
    split
    · exact ⟨g.channels, g.queue, rfl⟩
    · exact ⟨_, _, rfl⟩

@[simp] theorem GnsSt.queueAcq_searching (g : GnsSt) (c beat : Nat) (a : Aiding) (aided : Bool) (widen : Nat) :
    (g.queueAcq c beat a aided widen).searching = g.searching := by
  obtain ⟨chans, q, h⟩ := g.queueAcq_frame c beat a aided widen
  rw [h]
@[simp] theorem GnsSt.queueAcq_burst (g : GnsSt) (c beat : Nat) (a : Aiding) (aided : Bool) (widen : Nat) :
    (g.queueAcq c beat a aided widen).burst = g.burst := by
  obtain ⟨chans, q, h⟩ := g.queueAcq_frame c beat a aided widen
  rw [h]
@[simp] theorem GnsSt.queueAcq_powered (g : GnsSt) (c beat : Nat) (a : Aiding) (aided : Bool) (widen : Nat) :
    (g.queueAcq c beat a aided widen).powered = g.powered := by
  obtain ⟨chans, q, h⟩ := g.queueAcq_frame c beat a aided widen
  rw [h]

/-- A channel that is written and then queues a search is in SEARCH with one request more; no other channel changes. -/
theorem GnsSt.setCh_queueAcq {g : GnsSt} {tab : GnsTable} (ht : g.table = some tab) {x : GnsCh} {sd : SignalDef}
    (hx : signalDef x.signal (x.sv.toNat / 256) = some sd) (c beat : Nat) (a : Aiding) (aided : Bool) (widen : Nat) :
    let g' := (g.setCh c x).queueAcq c beat a aided widen
    (∃ w, g'.ch c = x.inSearch w aided) ∧ (∀ k, k ≠ c → g'.ch k = g.ch k) ∧ g'.queue.length = g.queue.length + 1 := by
  have ht' : (g.setCh c x).table = some tab := ht
  obtain ⟨w, r, hq⟩ := GnsSt.queueAcq_assigned ht' (c := c) (sd := sd) (by rw [GnsSt.ch_setCh, hx]) beat a aided widen
  dsimp only
  rw [hq]
  refine ⟨⟨w, by simp⟩, fun k hk => ?_, GnsSt.enqueue_queue_length _ _⟩
  rw [GnsSt.enqueue_ch, GnsSt.ch_setCh_other _ _ hk, GnsSt.ch_setCh_other _ _ hk]

/-- A search anew on an assigned channel. -/
theorem State.research_assigned {s : State} {c : Nat} {tab : GnsTable} (hb : s.baseband c tab) :
    ((s.research c).gns.ch c).state = .search ∧ (s.research c).gns.queue.length = s.gns.queue.length + 1 ∧
      ∀ k, k ≠ c → (s.research c).gns.ch k = s.gns.ch k := by
  obtain ⟨htab, sd, hsd⟩ := State.baseband_signal hb
  let x : GnsCh := { s.gns.ch c with failures := 0, handoff := none }
  obtain ⟨⟨w, hch⟩, hother, hlen⟩ := GnsSt.setCh_queueAcq htab (x := x) hsd c s.beat.n.toNat s.aiding
    (s.gns.canAid c s.aiding s.tim.now) 0
  exact ⟨congrArg GnsCh.state hch, hlen, hother⟩

/-! The rows of Table 6.4. -/

theorem GnsCh.dump_dumps (ch : GnsCh) (d : Dump) : (ch.dump d).dumps = ((d.promptI, d.promptQ) :: ch.dumps).take 100 := rfl

section
variable {s : State} {c : BitVec 9} {tab : GnsTable} (hb : s.baseband c.toNat tab) {sd : SignalDef}
  (hsd : signalDef (s.gns.ch c.toNat).signal ((s.gns.ch c.toNat).sv.toNat / 256) = some sd)
include hb hsd

theorem exec_acqHandoff_search {x : Int × Int} (hs : (s.gns.ch c.toNat).state = .search)
    (hh : (s.gns.ch c.toNat).handoff = some x) :
    let y := (s.gns.ch c.toNat).pull sd (gnsStream tab (s.gns.ch c.toNat).stream.toNat) x.1 x.2
    ∃ t, exec (.acqHandoff c) s = .next t ∧ t.gns = s.gns.setCh c.toNat { y with acqs := y.acqs + 1 } := by
  refine ⟨_, exec_of_gnsCh hb hsd rfl, ?_⟩
  simp only [hs, hh, State.raise_gns]

theorem exec_correlatorDump_track (hs : (s.gns.ch c.toNat).state = .track) (d : Dump) :
    exec (.correlatorDump c d) s = .next { s with gns := s.gns.setCh c.toNat ((s.gns.ch c.toNat).dump d) } := by
  refine (exec_of_gnsCh hb hsd rfl).trans ?_
  simp only [hs]

/-- A coast that has expired: the search is queued once the event is raised. -/
theorem exec_coastExpired_assigned :
    let x : GnsCh := { s.gns.ch c.toNat with flLost := true, failures := 0, handoff := none }
    ∃ a : State, a.gns = s.gns ∧ exec (.coastExpired c) s = .next
      (if (s.gns.ch c.toNat).state = .hold ∧ tab.coastBeats.toNat ≤ (s.gns.ch c.toNat).beats then
        { a with gns := (a.gns.setCh c.toNat x).queueAcq c.toNat a.beat.n.toNat a.aiding a.aiding.timeSet 0 }
      else s) :=
  ⟨s.raise _, State.raise_gns _ _, (exec_of_gnsCh hb hsd rfl).trans rfl⟩

end

theorem State.raise_baseband {s : State} {c : Nat} {tab : GnsTable} (hb : s.baseband c tab) (l : List Ev) :
    (s.raise l).baseband c tab := by
  obtain ⟨r, v, h⟩ := s.raise_frame l
  rw [h]
  exact hb

/-- Settles O23: each row of Table 6.4 writes the one channel, and leaves the state where its conditions fail. -/
theorem trackingChannelStates : Obligations.TrackingChannelStates := by
  intro s c tab hb ch
  obtain ⟨htab, sd, hsd⟩ := State.baseband_signal hb
  have hkeep (x : GnsCh) (k : Nat) (hk : k ≠ c.toNat) : (s.gns.setCh c.toNat x).ch k = s.gns.ch k := GnsSt.ch_setCh_other s.gns x hk
  refine ⟨fun x hs hh => ?_, exists_next_ite ((exec_of_gnsCh hb hsd rfl).trans rfl) ?_,
    exists_next_ite ((exec_of_gnsCh hb hsd rfl).trans rfl) ?_, exists_next_ite ((exec_of_gnsCh hb hsd rfl).trans rfl) ?_, ?_,
    fun d hs => ?_⟩
  · obtain ⟨t, hexec, hgns⟩ := exec_acqHandoff_search hb hsd hs hh
    refine ⟨t, hexec, ?_⟩
    rw [hgns, GnsSt.ch_setCh]
    exact ⟨rfl, rfl, rfl, rfl, hkeep _⟩
  · rw [GnsSt.ch_setCh]
    exact ⟨rfl, hkeep _⟩
  · simpa only [State.raise_gns] using State.research_assigned (State.raise_baseband hb _)
  · rw [GnsSt.ch_setCh]
    exact ⟨rfl, rfl, rfl, hkeep _⟩
  · obtain ⟨a, hgns, hexec⟩ := exec_coastExpired_assigned hb hsd
    refine exists_next_ite hexec ?_
    obtain ⟨⟨w, hch⟩, hother, -⟩ := GnsSt.setCh_queueAcq htab (x := { ch with flLost := true, failures := 0, handoff := none }) hsd
      c.toNat a.beat.n.toNat a.aiding a.aiding.timeSet 0
    rw [hgns]
    exact ⟨congrArg GnsCh.state hch, congrArg GnsCh.flLost hch, hother⟩
  · refine ⟨_, exec_correlatorDump_track hb hsd hs d, ?_⟩
    rw [GnsSt.ch_setCh, GnsCh.dump_dumps]
    exact ⟨hs, rfl, rfl, rfl, List.length_take_le _ _, hkeep _⟩

end Sys2Proof.Machine
end

section
/-! SUPPORT. The acquisition engine (06_gnss_baseband.md R176, R180, R181): a finished record, the end of a search with and without a
peak, and the statement on them. -/

namespace Sys2Proof.Machine

open Sys2Proof

/-! A finished record (R180). -/

theorem GnsSt.recordDone_starts_search {g : GnsSt} {r : AcqReq} (hrec : g.recording = some (r, 0)) (hfree : g.searching = none)
    (hq : g.queue = []) (n : Nat) : g.recordDone n = { g with recording := none, searching := some (r, r.beats) } := by
  simp [GnsSt.recordDone, hrec, hfree, hq]

theorem exec_acqRecordDone_powered {s : State} (hp : s.gns.powered = true) :
    exec .acqRecordDone s = .next { s with gns := s.gns.recordDone s.beat.n.toNat } := congrArg Host.Outcome.next (if_pos hp)

/-! The end of a search (R180, R181). -/

/-- The state with the search ended. -/
def State.searchEnded (s : State) : State := { s with gns := { s.gns with searching := none } }

/-- The state with the search ended, and a peak held for the hand-off of channel `c`. -/
def State.searchFound (s : State) (c : Nat) (x : Int × Int) : State :=
  { s.searchEnded with gns := s.searchEnded.gns.setCh c { s.gns.ch c with handoff := some x } }

/-- A peak that counts: above ACQ_THR, and not in an outer bin of an aided window (R181). -/
def peakCounts (tab : GnsTable) (aided : Bool) (p : AcqPeak) : Bool := decide (tab.acqThr.toNat < p.ratio) && !(p.outer && aided)

theorem peakCounts_iff (tab : GnsTable) (aided : Bool) (p : AcqPeak) :
    peakCounts tab aided p = true ↔ tab.acqThr.toNat < p.ratio ∧ ¬ (p.outer ∧ aided) := by
  rw [peakCounts, Bool.and_eq_true, decide_eq_true_iff, Bool.not_eq_true', ← Bool.not_eq_true, Bool.and_eq_true]

section
variable {s : State} {r : AcqReq} {tab : GnsTable} (hrun : s.gns.searching = some (r, 1)) (hb : s.baseband r.channel tab)
  (hs : (s.gns.ch r.channel).state = .search)
include hrun hb hs

/-- A search in its last beat: a peak that counts is held for the hand-off, and without one the search has failed. -/
theorem exec_acqSearchDone_ends (peak : Option AcqPeak) :
    ∃ x, exec (.acqSearchDone peak) s = .next
      (if peak.any (peakCounts tab (s.gns.ch r.channel).aided) then s.searchFound r.channel x else s.searchEnded.noPeak r.channel) := by
  obtain ⟨-, sd, hsd⟩ := State.baseband_signal hb
  have hch (f : GnsTable → SignalDef → GnsCh → State) :
      State.gnsCh { s with gns := { s.gns with searching := none } } r.channel f = f tab sd (s.gns.ch r.channel) :=
    State.gnsCh_assigned (s := s.searchEnded) hb hsd f
  have hsearch : ¬ (s.gns.ch r.channel).state ≠ .search := not_not_intro hs
  have hlast : ¬ 1 < 1 := Nat.lt_irrefl 1
  cases peak with
  | none =>
    refine ⟨(0, 0), ?_⟩
    show execAcqSearchDone none s = _
    simp only [execAcqSearchDone, hrun, hch, hlast, hsearch, if_false]
    rfl
  | some p =>
    refine ⟨s.searchEnded.handoffOf tab sd (s.gns.ch r.channel) r p, ?_⟩
    show execAcqSearchDone (some p) s = _
    simp only [execAcqSearchDone, hrun, hch, hlast, hsearch, if_false, Option.any_some, peakCounts_iff]
    rfl

end

theorem State.searchFound_ch (s : State) (c : Nat) (x : Int × Int) :
    (s.searchFound c x).gns.ch c = { s.gns.ch c with handoff := some x } := GnsSt.ch_setCh _ _ _

theorem State.searchFound_ch_other (s : State) {c k : Nat} (x : Int × Int) (hk : k ≠ c) : (s.searchFound c x).gns.ch k = s.gns.ch k :=
  GnsSt.ch_setCh_other s.searchEnded.gns _ hk

/-! A search that found nothing (Table 6.4). -/

/-- An unaided search that found nothing releases its channel. -/
theorem State.noPeak_unaided {s : State} {c : Nat} (h : (s.gns.ch c).aided = false) :
    (s.noPeak c).gns = s.gns.setCh c (s.gns.ch c).release := by
  simp [State.noPeak, h]

/-- An aided search that found nothing is queued again with its window widened, and aided still after the first failure alone. -/
theorem State.noPeak_aided {s : State} {c : Nat} (h : (s.gns.ch c).aided = true) :
    let k := (s.gns.ch c).failures + 1
    (s.noPeak c).gns = (s.gns.setCh c { s.gns.ch c with failures := k }).queueAcq c s.beat.n.toNat s.aiding (decide (k < 2)) k := by
  simp [State.noPeak, h]

theorem State.noPeak_searching (s : State) (c : Nat) : (s.noPeak c).gns.searching = s.gns.searching := by
  cases ha : (s.gns.ch c).aided with
  | false => rw [State.noPeak_unaided ha]; rfl
  | true => rw [State.noPeak_aided ha, GnsSt.queueAcq_searching]; rfl

/-- Settles O24: the record, and the search's end by its peak and by whether its window was aided. -/
theorem acquisitionEngine : Obligations.AcquisitionEngine := by
  refine ⟨fun s r hp hrec hfree hq => ⟨_, exec_acqRecordDone_powered hp, ?_⟩, ?_⟩
  · rw [GnsSt.recordDone_starts_search hrec hfree hq]
    exact ⟨rfl, rfl, rfl⟩
  · intro s r tab peak hrun hb hs hit
    obtain ⟨htab, sd, hsd⟩ := State.baseband_signal hb
    obtain ⟨x, hexec⟩ := exec_acqSearchDone_ends hrun hb hs peak
    have hpeak : hit = peak.any (peakCounts tab (s.gns.ch r.channel).aided) := rfl
    rw [← hpeak] at hexec
    obtain hfound | hmiss := Bool.eq_false_or_eq_true hit
    · rw [if_pos hfound] at hexec
      have hnot : ¬ hit = false := ne_false_of_eq_true hfound
      refine ⟨_, hexec, rfl, fun k hk => s.searchFound_ch_other x hk, fun _ => ?_, fun h => absurd h hnot, fun h => absurd h hnot⟩
      rw [State.searchFound_ch]
      exact ⟨hs, rfl, rfl⟩
    · have hnot : ¬ hit = true := ne_true_of_eq_false hmiss
      rw [if_neg hnot] at hexec
      refine ⟨_, hexec, State.noPeak_searching _ _, ?_⟩
      cases ha : (s.gns.ch r.channel).aided with
      | false =>
        rw [State.noPeak_unaided (s := s.searchEnded) ha, GnsSt.ch_setCh]
        exact ⟨fun k hk => GnsSt.ch_setCh_other s.searchEnded.gns _ hk, fun h => absurd h hnot, fun _ _ => ⟨rfl, rfl⟩, fun _ => nofun⟩
      | true =>
        rw [State.noPeak_aided (s := s.searchEnded) ha]
        obtain ⟨⟨w, hch⟩, hother, hlen⟩ := GnsSt.setCh_queueAcq (g := s.searchEnded.gns) htab
          (x := { s.gns.ch r.channel with failures := (s.gns.ch r.channel).failures + 1 }) hsd r.channel s.beat.n.toNat
          s.searchEnded.aiding (decide ((s.gns.ch r.channel).failures + 1 < 2)) ((s.gns.ch r.channel).failures + 1)
        have hstill : decide ((s.gns.ch r.channel).failures + 1 < 2) = decide ((s.gns.ch r.channel).failures = 0) :=
          decide_eq_decide.mpr (by omega)
        exact ⟨hother, fun h => absurd h hnot, fun _ => nofun, fun _ _ =>
          ⟨congrArg GnsCh.state hch, congrArg GnsCh.failures hch, hlen, (congrArg GnsCh.aided hch).trans hstill⟩⟩

end Sys2Proof.Machine
end

section
/-! SUPPORT. The service of the baseband (06_gnss_baseband.md R170, R171, R179, R189 to R192): the answers of host commands, the front
ends' readback and the Watch bursts, and the statement on them. -/

namespace Sys2Proof

/-! What an entry of a table is. -/

theorem Tab.get_eq_or_mem {α : Type} (d : α) (t : Tab α) (k : Nat) : Tab.get d t k = d ∨ (k, Tab.get d t k) ∈ t := by
  induction t with
  | nil => exact .inl rfl
  | cons e t ih =>
    obtain ⟨j, v⟩ := e
    rw [Tab.get_cons]
    split
    · next hj => exact .inr (hj ▸ List.mem_cons_self)
    · exact ih.imp_right (List.mem_cons_of_mem _)

/-- What holds of the default and of every value that `f` gives holds of every entry after `f`. -/
theorem Tab.get_mapVals_of {α : Type} [DecidableEq α] {P : α → Prop} {d : α} {f : α → α} (hd : P d) (hf : ∀ v, P (f v)) (t : Tab α)
    (k : Nat) : P (Tab.get d (Tab.mapVals d t f) k) := by
  rcases Tab.get_eq_or_mem d (Tab.mapVals d t f) k with h | h
  · rwa [h]
  · obtain ⟨e, -, he⟩ := List.mem_map.mp (List.mem_filter.mp h).1
    have hval : f e.2 = Tab.get d (Tab.mapVals d t f) k := congrArg Prod.snd he
    exact hval ▸ hf e.2

end Sys2Proof

namespace Sys2Proof.Machine

open Sys2Proof

/-! Union commands by their answer (R404, R407). -/

/-- The state in which a union command is judged: its reference waits no more. -/
def State.taken (s : State) (h : HostRef) : State := { s with hst := { s.hst with toApply := s.hst.toApply.erase h } }

/-- A device that received the command answers it, last of its answers. -/
theorem HstSt.answer_responses {g : HstSt} {h : HostRef} (hheard : h ∈ g.heard) (op : Half) (beat : Long) (st : Half) (detail : Word) :
    (g.answer h op beat st detail).responses = g.responses ++ [cmdResponse h op beat st detail []] := by
  have hsent : (g.setSess h.session.toNat ((g.sess h.session.toNat).settle h.hostSeq
      (if st = stApplied then .applied else .refused) beat)).heard.contains h = true := List.contains_iff_mem.mpr hheard
  rw [HstSt.answer, HstSt.respondTo, if_pos hsent]
  rfl

/-- A union command in its turn leaves the baseband that its judgement `f` left, and is answered with its status and detail. -/
theorem State.unionCmd_judged {s s' : State} {h : HostRef} (ht : s.unionTurn h) {f : State → State × Half × Word} {st : Half}
    {detail : Word} (hf : f (s.taken h) = (s', st, detail)) (op : Half) :
    (s.unionCmd h op f).gns = s'.gns ∧ (h ∈ s'.hst.heard → (s.unionCmd h op f).lastAnswer st detail) := by
  have hturn : s.unionCmd h op f = { s' with hst := s'.hst.answer h op s.beat.n st detail } := by
    rw [State.unionCmd_turn ht, ← State.taken, hf]
  rw [hturn]
  refine ⟨rfl, fun hheard => ?_⟩
  have hresp := HstSt.answer_responses hheard op s.beat.n st detail
  exact ⟨_, (congrArg List.getLast? hresp).trans List.getLast?_concat, rfl, rfl⟩

/-! Suspicion (R189). -/

@[simp] theorem GnsSt.spoof_setSpoof (g : GnsSt) (b : Bool) (x : SpoofSt) : (g.setSpoof b x).spoof b = x := by
  cases b <;> rfl
@[simp] theorem GnsSt.spoof_setSpoof_other (g : GnsSt) (b : Bool) (x : SpoofSt) : (g.setSpoof b x).spoof (!b) = g.spoof (!b) := by
  cases b <;> rfl

theorem exec_spoofClear_suspected {s : State} {b : Bool} {tab : GnsTable} (htab : s.gns.table = some tab)
    (hsus : (s.gns.spoof b).suspected = true) :
    ∃ t, exec (.spoofClear b) s = .next t ∧
      t.gns = if tab.spoofClear.toNat ≤ (s.gns.spoof b).clean then s.gns.setSpoof b SpoofSt.zero else s.gns := by
  refine ⟨_, rfl, ?_⟩
  simp only [htab, hsus, Bool.true_and, decide_eq_true_iff]
  split
  · exact State.raise_gns _ _
  · rfl

/-! Ambiguities (R191). -/

/-- A fix that names a satellite with a slip since the latch beat is STALE. -/
theorem GnsSt.fix_slipped {g : GnsSt} {l : Long} {sats : List Nat} {x : Nat} (hx : x ∈ sats) (hslip : l.toNat < Tab.get 0 g.att.slips x)
    (ints : List Int) (ls : List Latch) : g.fix l sats ints ls = (g, 1, 0) := by
  have hany : sats.any (fun k => decide (l.toNat < Tab.get 0 g.att.slips k)) = true :=
    List.any_eq_true.mpr ⟨x, hx, decide_eq_true hslip⟩
  unfold GnsSt.fix
  split
  · rfl
  · rw [if_pos hany]

theorem exec_gnssAmbRead_held {s : State} {h : HostRef} (hm : s.sessionMay h 0) :
    ∃ p, exec (.gnssAmbRead h s.pub.gns.att.latchBeat) s = .next (s.reply h 0x0016 stOk 0 p) := by
  refine ⟨(s.pub.gns.att.floats ++ s.pub.gns.att.cov).map wordI, (exec_of_localCmd hm rfl).trans ?_⟩
  exact congrArg Host.Outcome.next (if_pos rfl)

/-! The front ends (R170). -/

/-- A stream that is disabled for a readback that differs. -/
def GnsStream.feFault (x : GnsStream) : GnsStream := { x with feCfg := true, disabled := true }

/-- Both marks of a readback that differs. -/
def GnsStream.faulted (x : GnsStream) : Prop := x.feCfg = true ∧ x.disabled = true

/-- Streams from `base` on marked in order, each with its channels stopped. -/
def GnsSt.faultStreams (g : GnsSt) (base : Nat) (l : List Nat) : GnsSt :=
  l.foldl (fun g k => (g.setStrm (base + k) (g.strm (base + k)).feFault).stopStream (base + k)) g

theorem GnsSt.faultStreams_faulted (base : Nat) {l : List Nat} {g : GnsSt} {j : Nat}
    (h : (∃ k ∈ l, j = base + k) ∨ (g.strm j).faulted) : ((g.faultStreams base l).strm j).faulted := by
  induction l generalizing g with
  | nil => exact h.resolve_left nofun
  | cons k l ih =>
    refine ih ?_
    by_cases hj : j = base + k
    · right
      show ((g.setStrm (base + k) (g.strm (base + k)).feFault).strm j).faulted
      rw [hj, GnsSt.strm_setStrm]
      exact ⟨rfl, rfl⟩
    · rcases h with ⟨i, hi, hji⟩ | hold
      · left
        exact ⟨i, (List.mem_cons.mp hi).resolve_left (fun e => hj (e ▸ hji)), hji⟩
      · right
        show ((g.setStrm (base + k) (g.strm (base + k)).feFault).strm j).faulted
        rwa [GnsSt.strm_setStrm_other _ _ hj]

/-- The one verified entry of a port, against the value that the port reads back. -/
theorem spiMismatch_single (p : BitVec 2) (a : Half) (x v : Word) :
    spiMismatch p.toNat 0 [{ port := p.setWidth 8, verify := true, address := a, value := x }] [v] =
      if v = x then none else some (0, v) := by
  have hport : (p.setWidth 8).toNat = p.toNat := BitVec.toNat_setWidth_of_le (by decide)
  simp only [spiMismatch, hport, and_self, if_true]

theorem exec_frontEndReadback_single {s : State} {p : BitVec 2} {tab : GnsTable} {a : Half} {x : Word}
    (htab : s.gns.table = some tab) (hspi : tab.spi = [{ port := p.setWidth 8, verify := true, address := a, value := x }])
    (hpend : s.gns.spiPending = tab.spi) (v : Word) :
    let g : GnsSt := { s.gns with spiPending := [] }
    ∃ t, exec (.frontEndReadback p [v]) s = .next t ∧ t.gns = if v = x then g else g.faultStreams (4 * p.toNat) (List.range 4) := by
  have hport : (p.setWidth 8).toNat = p.toNat := BitVec.toNat_setWidth_of_le (by decide)
  refine ⟨_, rfl, ?_⟩
  simp only [hpend, hspi, htab, List.any_cons, List.any_nil, hport, decide_true, Bool.or_false, if_true, spiMismatch_single,
    List.filter_cons, List.filter_nil, ne_eq, not_true_eq_false, decide_false, Bool.false_eq_true, if_false]
  by_cases hv : v = x
  · simp only [hv, if_true]
  · simp only [hv, if_false, State.raise_gns]
    rfl

/-! Watch bursts (R192). -/

/-- Whether a burst runs, and whether the baseband is powered. -/
def State.burstPower (s : State) : Bool × Bool := (s.gns.burst, s.gns.powered)

theorem State.gnsCh_burstPower (s : State) (c : Nat) {f : GnsTable → SignalDef → GnsCh → State}
    (hf : ∀ t sd ch, (f t sd ch).burstPower = s.burstPower) : (s.gnsCh c f).burstPower = s.burstPower := by
  unfold State.gnsCh
  split
  · split
    · rfl
    · dsimp only
      split
      · rfl
      · exact hf _ _ _
  · rfl

theorem State.research_burstPower (s : State) (c : Nat) : (s.research c).burstPower = s.burstPower :=
  Prod.ext (GnsSt.queueAcq_burst _ _ _ _ _ _) (GnsSt.queueAcq_powered _ _ _ _ _ _)

/-- What the channels do at the start of a burst leaves the burst running and the baseband powered. -/
theorem State.burstChannels_burstPower (s : State) : s.burstChannels.burstPower = s.burstPower := by
  refine List.foldlRecOn (motive := fun a => State.burstPower a = s.burstPower) _ _ rfl fun a ha c _ => ?_
  rw [← ha]
  split
  · rfl
  · split
    · exact a.gnsCh_burstPower c fun _ _ _ => rfl
    · exact a.research_burstPower c

theorem exec_watchBurstStart_due {s : State} {tab : GnsTable} (htab : s.gns.table = some tab) (hrun : s.sch.running = true)
    (hlive : s.beat.live = true) (hwatch : s.sch.watch = true) (hidle : s.gns.burst = false) (hlen : tab.burstBeats ≠ 0)
    (hbeat : s.beat.n.toNat % 1000 = tab.burstBeat.toNat) :
    ∃ t, exec .watchBurstStart s = .next t ∧ t.burstPower = (true, true) := by
  refine ⟨_, rfl, ?_⟩
  simp only [htab, hrun, hlive, hwatch, hidle, hbeat, decide_eq_true hlen, Bool.not_false, Bool.and_self, decide_true, if_true]
  rw [State.burstChannels_burstPower]
  rfl

/-- A channel at the end of a burst, with its TRACK noted. -/
def GnsCh.noteTrack (ch : GnsCh) : GnsCh := { ch with wasTrack := decide (ch.state = .track) }

/-- The baseband off after a burst. -/
def GnsSt.burstEnded (g : GnsSt) : GnsSt :=
  { g with channels := Tab.mapVals GnsCh.zero g.channels GnsCh.noteTrack, powered := false, burst := false }

theorem GnsSt.burstEnded_wasTrack (g : GnsSt) (c : Nat) :
    (g.burstEnded.ch c).wasTrack = decide ((g.burstEnded.ch c).state = .track) :=
  Tab.get_mapVals_of (P := fun ch => ch.wasTrack = decide (ch.state = .track)) (d := GnsCh.zero) (f := GnsCh.noteTrack) rfl
    (fun _ => rfl) g.channels c

theorem exec_watchBurstEnd_running {s : State} (hrun : s.sch.running = true) (hlive : s.beat.live = true) (hburst : s.gns.burst = true) :
    ∃ a : State, exec .watchBurstEnd s = .next { a with gns := a.gns.burstEnded } := by
  have hend : (s.sch.running && s.beat.live && s.gns.burst) = true := by rw [hrun, hlive, hburst]; rfl
  exact ⟨s.latchGnss (s.beat.n.toNat * 1000000) true, congrArg Host.Outcome.next (if_pos hend)⟩

/-- Settles O25: each service by what it leaves of the baseband, and of the answers. -/
theorem basebandService : Obligations.BasebandService := by
  refine ⟨fun s k => ?_, fun s b tab htab hsus => ?_, fun s h ht => ⟨fun n e g => ?_, fun sv w => ?_, fun l sats ints x hx hslip => ?_⟩,
    fun s h hm => ?_, fun s p tab a x v htab hspi hpend => ?_, fun s tab htab hrun hlive =>
      ⟨fun hwatch hidle hlen hbeat => ?_, fun hburst => ?_⟩⟩
  · exact ⟨_, rfl, by rw [GnsSt.strm_setStrm], rfl⟩
  · obtain ⟨t, hexec, hgns⟩ := exec_spoofClear_suspected htab hsus
    refine ⟨t, hexec, ?_⟩
    rw [hgns]
    split
    · next hle =>
      rw [GnsSt.spoof_setSpoof, GnsSt.spoof_setSpoof_other]
      exact ⟨iff_of_true rfl hle, rfl⟩
    · next hgt => exact ⟨iff_of_false (ne_false_of_eq_true hsus) hgt, rfl⟩
  · refine ⟨_, rfl, ?_⟩
    rw [(State.unionCmd_judged ht rfl _).1]
    rfl
  · refine ⟨_, rfl, ?_⟩
    rw [(State.unionCmd_judged ht rfl _).1]
    exact ⟨Tab.get_set_same _ _ _ _, fun k hk => Tab.get_set_other _ _ _ hk⟩
  · exact ⟨_, rfl, State.unionCmd_judged (s' := s.taken h) ht (by simp only [GnsSt.fix_slipped (g := (s.taken h).gns) hx hslip]) _⟩
  · obtain ⟨p, hexec⟩ := exec_gnssAmbRead_held hm
    exact ⟨_, hexec, State.reply_lastAnswer _ _ _ _ _ _, State.reply_gns _ _ _ _ _ _⟩
  · obtain ⟨t, hexec, hgns⟩ := exec_frontEndReadback_single htab hspi hpend v
    refine ⟨t, hexec, ?_⟩
    have hfault (k : Nat) (hk : k < 4) : ((GnsSt.faultStreams { s.gns with spiPending := [] } (4 * p.toNat) (List.range 4)).strm
        (4 * p.toNat + k)).faulted := GnsSt.faultStreams_faulted _ (.inl ⟨k, List.mem_range.mpr hk, rfl⟩)
    by_cases hv : v = x
    · rw [hgns, if_pos hv]
      exact ⟨rfl, fun hne => absurd hv hne, fun _ => rfl⟩
    · rw [hgns, if_neg hv]
      exact ⟨rfl, fun _ => hfault, fun heq => absurd heq hv⟩
  · obtain ⟨t, hexec, hpower⟩ := exec_watchBurstStart_due htab hrun hlive hwatch hidle hlen hbeat
    exact ⟨t, hexec, congrArg Prod.fst hpower, congrArg Prod.snd hpower⟩
  · obtain ⟨a, hexec⟩ := exec_watchBurstEnd_running hrun hlive hburst
    exact ⟨_, hexec, rfl, rfl, a.gns.burstEnded_wasTrack⟩

end Sys2Proof.Machine
end

section
/-! SUPPORT. The operations of a problem (07_hawkmoth_solver.md R202 to R213, R218): the device's own work that leaves the solver
alone, the solver's arithmetic on a problem, what each operation leaves in the solver, and the statement on the four operations. -/

namespace Sys2Proof.Machine

open Sys2Proof

/-! The estimator, the navigation solution and the allocator leave the solver alone (R203). -/

@[simp] theorem State.measure_hwk (s : State) (src : TimeSource) (theta : Int) (atOnce : Bool) : (s.measure src theta atOnce).hwk = s.hwk :=
  State.raise_hwk _ _

@[simp] theorem State.disqualify_hwk (s : State) (src : TimeSource) (present : Bool) : (s.disqualify src present).hwk = s.hwk :=
  State.raise_hwk _ _

@[simp] theorem State.classSamples_hwk (s : State) (cls : RefClass) : (s.classSamples cls).hwk = s.hwk :=
  List.foldlRecOn (motive := fun a : State => a.hwk = s.hwk) (classSlots cls) _ rfl
    (fun _ ha _ _ => (State.raise_hwk _ _).trans ha)

@[simp] theorem State.classGroup_hwk (s : State) (cls : RefClass) : (s.classGroup cls).hwk = s.hwk :=
  State.raise_hwk _ _

@[simp] theorem State.followTarget_hwk (s : State) : s.followTarget.hwk = s.hwk := by
  unfold State.followTarget
  extract_lets b good t
  split <;> rfl

@[simp] theorem State.referenceTests_hwk (s : State) : s.referenceTests.hwk = s.hwk := by
  simp [State.referenceTests]

@[simp] theorem State.estimateUpdate_hwk (s : State) (f : ProbFlags) (w : List Int) : (s.estimateUpdate f w).hwk = s.hwk := by
  simp [State.estimateUpdate]

@[simp] theorem State.covarianceUpdate_hwk (s : State) (f : ProbFlags) (res : List Int) : (s.covarianceUpdate f res).hwk = s.hwk :=
  State.raise_hwk _ _

@[simp] theorem State.feedAllocator_hwk (s : State) (d : ProblemDesc) (data : ProblemData) : (s.feedAllocator d data).1.hwk = s.hwk := by
  unfold State.feedAllocator
  extract_lets dm a
  split <;> rfl

@[simp] theorem State.allocPost_hwk (s : State) (d : ProblemDesc) (r : ProbResult) (z l u : List Int) :
    (s.allocPost d r z l u).hwk = s.hwk :=
  State.raise_hwk _ _

@[simp] theorem State.navStore_hwk (s : State) (slot : Nat) : (s.navStore slot).hwk = s.hwk := by
  unfold State.navStore
  split
  · rfl
  · extract_lets code sideB ant all n own r first vis w r2 had offers _ e s1
    have h1 : s1.hwk = s.hwk := State.raise_hwk _ _
    clear_value s1
    repeat' split
    all_goals simp [h1]

@[simp] theorem State.consume_hwk (s : State) (slot : Nat) (d : ProblemDesc) (z l u : List Int) : (s.consume slot d z l u).hwk = s.hwk := by
  unfold State.consume
  extract_lets r s1 s2 s3
  have h1 : s1.hwk = s.hwk := by simp only [s1]; split <;> simp
  have h2 : s2.hwk = s.hwk := by simp only [s2]; split <;> simp [h1]
  have h3 : s3.hwk = s.hwk := by simp only [s3]; split <;> simp [h2]
  rw [State.navStore_hwk, h3]

@[simp] theorem State.withHwk_hwk (s : State) (qid : Half) (r : HwkSt × List Ev) : (s.withHwk qid r).hwk = r.1 :=
  State.raise_hwk _ _

/-! A problem put back in its slot. -/

theorem HwkSt.progress_of_putProblem {g h : HwkSt} {slot : Nat} {p : Problem} (hg : g = h.putProblem slot p) :
    Tab.get none g.progress slot = some p :=
  hg ▸ Tab.get_set_same none h.progress slot (some p)

/-! The start of a problem (R210). -/

/-- The start is warm just when the entry's key is the structure's, exactly one of the three kinds, and projected onto the box. -/
theorem loadProblem_start (desc : ProblemDesc) (data : ProblemData) (old : Praline) (table : Option ProjTable) (start : Nat) :
    let p := (loadProblem desc data old table start).1
    p.desc = desc ∧ p.phase = .loaded ∧ (p.flags.warm = true ↔ old.keySig = desc.structSig) ∧
      (if p.flags.warm then 1 else 0) + (if p.flags.mapped then 1 else 0) + (if p.flags.cold then 1 else 0) = 1 ∧
      p.resX = clampVec p.x p.data.lx p.data.ux := by
  unfold loadProblem
  by_cases hkey : old.keySig = desc.structSig
  · simp [hkey, ProbFlags.zero]
  · cases table <;> simp [hkey, ProbFlags.zero]

/-! The factorisation (R204, R205). -/

/-- A pivot in use is not below the threshold: one that was is replaced by ± DELTA. -/
theorem guardPivot_natAbs {desc : ProblemDesc} (hdelta : desc.pivotThr.toNat ≤ desc.delta.toNat) (k : Nat) (raw : Int) :
    desc.pivotThr.toNat ≤ (guardPivot desc k raw).1.natAbs := by
  unfold guardPivot
  split
  · have hsign : (if raw = 0 then expectedSign desc k else if raw < 0 then -1 else 1).natAbs = 1 := by
      unfold expectedSign
      repeat' split
      all_goals rfl
    rwa [Int.natAbs_mul, hsign, Nat.one_mul, Int.natAbs_natCast]
  · next hbig => exact Nat.le_of_not_lt hbig

/-- The factorisation adds one guarded pivot for each position. -/
theorem factorRun_pivots (desc : ProblemDesc) (data : ProblemData) (ks : List Nat) (acc : List Int × Nat × Option (Nat × Int)) :
    ∃ ds, (factorRun desc data ks acc).1 = acc.1 ++ ds ∧ ds.length = ks.length ∧ ∀ d ∈ ds, ∃ k raw, d = (guardPivot desc k raw).1 := by
  induction ks generalizing acc with
  | nil => exact ⟨[], (List.append_nil _).symm, rfl, nofun⟩
  | cons k ks ih =>
    obtain ⟨ds, hrun, hlen, hguard⟩ := ih _
    refine ⟨(guardPivot desc k (Config.pivotAt data acc.1 k)).1 :: ds, ?_, congrArg (· + 1) hlen, ?_⟩
    · rw [factorRun, hrun, List.append_assoc]
      rfl
    · exact List.forall_mem_cons.mpr ⟨⟨k, _, rfl⟩, hguard⟩

/-- FACTOR on a problem with a factor of its own. -/
theorem factorProblem_own (p : Problem) :
    let r := factorRun p.desc p.data (List.range (pivotCount p.desc)) ([], 0, none)
    (factorProblem p none).1 =
      { p with
        phase := .factored, factor := r.1, pivots := r.2.1, pivotFirst := r.2.2.map Prod.fst
        flags := { p.flags with pivotReg := decide (0 < r.2.1), sat := p.flags.sat || Config.solverSat 0x0202 p.data p.x } } := by
  extract_lets r
  unfold factorProblem
  dsimp only
  split <;> rfl

/-! The passes of ITERATE (R206 to R208). -/

/-- A pass keeps the data, is counted, and projects its iterate onto the box. -/
def ProjectedPass (f : Problem → Nat → Problem) : Prop :=
  ∀ q it, (f q it).data = q.data ∧ (f q it).iterDone = it ∧ (f q it).resX = clampVec (f q it).x q.data.lx q.data.ux

theorem admmStep_projected : ProjectedPass admmStep := fun _ _ => ⟨rfl, rfl, rfl⟩
theorem cgStep_projected : ProjectedPass cgStep := fun _ _ => ⟨rfl, rfl, rfl⟩

theorem ProjectedPass.data_passes {f : Problem → Nat → Problem} (hf : ProjectedPass f) (p : Problem) (k : Nat) :
    ((List.range k).foldl (fun q i => f q (i + 1)) p).data = p.data :=
  List.foldlRecOn (motive := fun q : Problem => q.data = p.data) (List.range k) _ rfl (fun q hq i _ => (hf q (i + 1)).1.trans hq)

/-- After `k` passes the last of them stands. -/
theorem ProjectedPass.last {f : Problem → Nat → Problem} (hf : ProjectedPass f) (p : Problem) {k : Nat} (hk : k ≠ 0) :
    let q := (List.range k).foldl (fun q i => f q (i + 1)) p
    q.iterDone = k ∧ q.resX = clampVec q.x p.data.lx p.data.ux := by
  obtain ⟨n, rfl⟩ := Nat.exists_eq_succ_of_ne_zero hk
  simp only [List.range_succ, List.foldl_append, List.foldl_cons, List.foldl_nil]
  obtain ⟨-, hdone, hres⟩ := hf ((List.range n).foldl (fun q i => f q (i + 1)) p) (n + 1)
  rw [hf.data_passes] at hres
  exact ⟨hdone, hres⟩

theorem iterateTo_last (p : Problem) {k : Nat} (hk : k ≠ 0) :
    (iterateTo p k).iterDone = k ∧ (iterateTo p k).resX = clampVec (iterateTo p k).x p.data.lx p.data.ux := by
  unfold iterateTo
  split
  · exact admmStep_projected.last p hk
  · exact cgStep_projected.last (cgBegin p) hk

/-- Without a pass the result buffer is as it was. -/
theorem iterateTo_zero_resX (p : Problem) : (iterateTo p 0).resX = p.resX := by
  unfold iterateTo
  split <;> rfl

theorem iterateProblem_phase (p : Problem) : (iterateProblem p).1.phase = .iterated := rfl
theorem iterateProblem_iterDone (p : Problem) : (iterateProblem p).1.iterDone = (iterateTo p p.desc.iter.toNat).iterDone := rfl
theorem iterateProblem_x (p : Problem) : (iterateProblem p).1.x = (iterateTo p p.desc.iter.toNat).x := rfl
theorem iterateProblem_resX (p : Problem) : (iterateProblem p).1.resX = (iterateTo p p.desc.iter.toNat).resX := rfl

/-- With RES_THR 0 no residual is too large (R208). -/
theorem iterateProblem_notConv {p : Problem} (h : p.desc.resThr = 0) : (iterateProblem p).1.flags.notConv = false := by
  simp [iterateProblem, h]

/-! What each operation leaves in the solver of a ready engine. -/

/-- The solver after LOAD of a descriptor with the data and the projection table that the device gives it. -/
def HwkSt.load (h : HwkSt) (d : ProblemDesc) (data : ProblemData) (table : Option ProjTable) (start : Nat) : HwkSt :=
  { h.putProblem d.slot.toNat (loadProblem d data (Tab.get Praline.zero h.praline d.slot.toNat) table start).1 with
    descs := Tab.set none h.descs d.slot.toNat (some d) }

theorem HwkSt.load_progress (h : HwkSt) (d : ProblemDesc) (data : ProblemData) (table : Option ProjTable) (start : Nat) :
    Tab.get none (h.load d data table start).progress d.slot.toNat =
      some (loadProblem d data (Tab.get Praline.zero h.praline d.slot.toNat) table start).1 :=
  Tab.get_set_same none h.progress d.slot.toNat (some _)

@[simp] theorem HwkSt.load_praline (h : HwkSt) (d : ProblemDesc) (data : ProblemData) (table : Option ProjTable) (start : Nat) :
    (h.load d data table start).praline = h.praline := rfl
@[simp] theorem HwkSt.load_results (h : HwkSt) (d : ProblemDesc) (data : ProblemData) (table : Option ProjTable) (start : Nat) :
    (h.load d data table start).results = h.results := rfl

theorem State.loadStep_hwk (s : State) (op : OpRun) (d : ProblemDesc) (data : ProblemData) :
    ∃ data' table, (s.loadStep op d data).hwk = s.hwk.load d data' table op.start.toNat := by
  unfold State.loadStep
  extract_lets slot s1 f old p
  have h1 : s1.hwk = s.hwk := by simp only [s1]; split <;> simp
  have h2 : f.1.hwk = s.hwk := by simp only [f]; split <;> simp [h1]
  exact ⟨f.2, f.1.projection old.keySig d.structSig,
    (State.withHwk_hwk _ _ _).trans (congrArg (HwkSt.load · d f.2 (f.1.projection old.keySig d.structSig) op.start.toNat) h2)⟩

theorem HwkSt.factor_loaded {h : HwkSt} {slot : Nat} {p : Problem} (hp : Tab.get none h.progress slot = some p) (hph : p.phase = .loaded) :
    (h.factor slot).1 = h.putProblem slot (factorProblem p (h.reused p.desc)).1 := by
  simp [HwkSt.factor, hp, hph]

theorem HwkSt.reused_own (h : HwkSt) {d : ProblemDesc} (hd : d.factorSrc = 0) : h.reused d = none := if_pos hd

theorem HwkSt.iterate_factored {h : HwkSt} {slot : Nat} {p : Problem} (hp : Tab.get none h.progress slot = some p)
    (hph : p.phase = .factored) : (h.iterate slot).1 = h.putProblem slot (iterateProblem p).1 := by
  simp [HwkSt.iterate, hp, hph]

/-- STORE frees the slot, and leaves the record and the Praline entry of the problem in it. -/
theorem HwkSt.store_held {h : HwkSt} {slot : Nat} {p : Problem} (hp : Tab.get none h.progress slot = some p) (beat stop : Nat) :
    Tab.get none (h.store slot beat stop).progress slot = none ∧
      Tab.get ProbResult.zero (h.store slot beat stop).results slot = resultOf p beat stop ∧
      Tab.get Praline.zero (h.store slot beat stop).praline slot = pralineOf p beat := by
  simp [HwkSt.store, hp]

/-- STORE of a problem is the solver's, and its completion event is raised. -/
theorem State.storeStep_held {s : State} {slot : Nat} {p : Problem} (hp : Tab.get none s.hwk.progress slot = some p) (op : OpRun) :
    (s.storeStep op slot).hwk = s.hwk.store slot s.beat.n.toNat op.complete.toNat ∧
      (Config.completionEvent slot).toNat ∈ (s.storeStep op slot).sch.events := by
  unfold State.storeStep
  rw [hp]
  exact ⟨State.consume_hwk _ _ _ _ _ _, SchSt.mem_signal.mpr (.inl rfl)⟩

section
variable {s : State} {op : OpRun} (h : s.engineReady op)
include h

theorem exec_loadOp_free {k : Nat} {x : Schedule} {d : ProblemDesc} (hx : s.sch.sched = some x) (hd : x.problems[k]? = some d)
    (hkind : d.kind ≠ 5) (hfree : Tab.get none s.hwk.progress d.slot.toNat = none) (data : ProblemData) :
    ∃ t data' table, exec (.loadOp op k data) s = .next t ∧ t.hwk = s.hwk.load d data' table op.start.toNat := by
  obtain ⟨v, hop⟩ := State.engineOp_ready h (fun a =>
    match a.sch.sched.bind (fun x => x.problems[k]?) with
    | none => a
    | some d => if d.kind = 5 ∨ (Tab.get none a.hwk.progress d.slot.toNat).isSome then a else a.loadStep op d data)
  have hdesc : (s.sch.advance op).sched.bind (fun x => x.problems[k]?) = some d := (congrArg (Option.bind · _) hx).trans hd
  have hgo : ¬ (d.kind = 5 ∨ (Tab.get none s.hwk.progress d.slot.toNat).isSome = true) := not_or.mpr ⟨hkind, by simp [hfree]⟩
  simp only [hdesc, if_neg hgo] at hop
  obtain ⟨data', table, hhwk⟩ := State.loadStep_hwk { s with svc := v, sch := s.sch.advance op } op d data
  exact ⟨_, data', table, congrArg Host.Outcome.next hop, hhwk⟩

theorem exec_factorOp_ready (slot : Byte) : ∃ t, exec (.factorOp op slot) s = .next t ∧ t.hwk = (s.hwk.factor slot.toNat).1 := by
  obtain ⟨v, hop⟩ := State.engineOp_ready h (fun a => a.withHwk (a.hwk.qidAcc slot.toNat) (a.hwk.factor slot.toNat))
  exact ⟨_, congrArg Host.Outcome.next hop, State.withHwk_hwk _ _ _⟩

theorem exec_iterateOp_ready (slot : Byte) : ∃ t, exec (.iterateOp op slot) s = .next t ∧ t.hwk = (s.hwk.iterate slot.toNat).1 := by
  obtain ⟨v, hop⟩ := State.engineOp_ready h (fun a => a.withHwk (a.hwk.qidAcc slot.toNat) (a.hwk.iterate slot.toNat))
  exact ⟨_, congrArg Host.Outcome.next hop, State.withHwk_hwk _ _ _⟩

theorem exec_storeOp_held {slot : Byte} {p : Problem} (hp : Tab.get none s.hwk.progress slot.toNat = some p) :
    ∃ t, exec (.storeOp op slot) s = .next t ∧ t.hwk = s.hwk.store slot.toNat s.beat.n.toNat op.complete.toNat ∧
      (Config.completionEvent slot.toNat).toNat ∈ t.sch.events := by
  obtain ⟨v, hop⟩ := State.engineOp_ready h (fun a => a.storeStep op slot.toNat)
  exact ⟨_, congrArg Host.Outcome.next hop, State.storeStep_held (s := { s with svc := v, sch := s.sch.advance op }) hp op⟩

end

/-- Settles O26: each operation by what it leaves in the solver, and the problem by the start, the guarded pivots, the last pass and
the stored result. -/
theorem solverOperations : Obligations.SolverOperations := by
  refine fun s op h => ⟨fun k x d data hx hd hkind hfree => ?_, fun slot p hp => ⟨fun hph hsrc _ hdelta => ?_, fun hph => ?_, ?_⟩⟩
  · obtain ⟨t, data', table, hexec, hhwk⟩ := exec_loadOp_free h hx hd hkind hfree data
    obtain ⟨hdesc, hphase, hwarm, hone, hbox⟩ :=
      loadProblem_start d data' (Tab.get Praline.zero s.hwk.praline d.slot.toNat) table op.start.toNat
    refine ⟨t, (loadProblem d data' (Tab.get Praline.zero s.hwk.praline d.slot.toNat) table op.start.toNat).1, hexec, ?_⟩
    rw [hhwk]
    exact ⟨HwkSt.load_progress _ _ _ _ _, hdesc, hphase, hwarm, hone, hbox, HwkSt.load_praline _ _ _ _ _, HwkSt.load_results _ _ _ _ _⟩
  · obtain ⟨t, hexec, hhwk⟩ := exec_factorOp_ready h slot
    rw [HwkSt.factor_loaded hp hph, HwkSt.reused_own _ hsrc, factorProblem_own] at hhwk
    obtain ⟨ds, hfactor, hlen, hguard⟩ := factorRun_pivots p.desc p.data (List.range (pivotCount p.desc)) ([], 0, none)
    rw [List.nil_append] at hfactor
    refine ⟨t, _, hexec, HwkSt.progress_of_putProblem hhwk, rfl, ?_, ?_, ?_, rfl⟩
    · rw [hfactor, hlen, List.length_range]
    · rw [hfactor]
      intro d hd
      obtain ⟨k, raw, rfl⟩ := hguard d hd
      exact guardPivot_natAbs hdelta k raw
    · exact decide_eq_true_iff.trans Nat.pos_iff_ne_zero
  · obtain ⟨t, hexec, hhwk⟩ := exec_iterateOp_ready h slot
    rw [HwkSt.iterate_factored hp hph] at hhwk
    refine ⟨t, _, hexec, HwkSt.progress_of_putProblem hhwk, iterateProblem_phase p, fun hiter => ?_, fun hiter => ?_,
      iterateProblem_notConv⟩
    · rw [iterateProblem_iterDone, iterateProblem_x, iterateProblem_resX]
      exact iterateTo_last p (fun hzero => hiter (BitVec.eq_of_toNat_eq hzero))
    · rw [iterateProblem_resX, hiter]
      exact iterateTo_zero_resX p
  · obtain ⟨t, hexec, hhwk, hevent⟩ := exec_storeOp_held h hp
    obtain ⟨hslot, hresult, hpraline⟩ := HwkSt.store_held hp s.beat.n.toNat op.complete.toNat
    rw [← hhwk] at hslot hresult hpraline
    exact ⟨t, hexec, hslot, hresult, congrArg Praline.keySig hpraline, congrArg Praline.x hpraline, hevent⟩

end Sys2Proof.Machine
end

section
/-! SUPPORT. The background job of a round (07_hawkmoth_solver.md R220, R221): what a slice leaves of it, and the statement on a
slice. -/

namespace Sys2Proof.Machine

open Sys2Proof

theorem State.slice_discarded {s : State} (hdisc : s.hwk.job.discarded = true) (slot n : Nat) : s.slice slot n = s := if_pos hdisc

/-- The first slice starts the job, which is whole at once where it has no other. -/
theorem State.slice_first {s : State} (hdisc : s.hwk.job.discarded = false) (hdone : s.hwk.job.done = 0) (slot n : Nat) :
    let j := (s.slice slot n).hwk.job
    j.done = 1 ∧ j.slices = n ∧ j.slot = slot ∧ (j.candidate.isSome = true ↔ n ≤ 1) := by
  unfold State.slice
  by_cases hn : n ≤ 1 <;> simp [hdisc, hdone, hn]

/-- A further slice of an unfinished job is one more of them done; the candidate comes with the last. -/
theorem State.slice_further {s : State} (hdisc : s.hwk.job.discarded = false) (hdone : s.hwk.job.done ≠ 0)
    (hleft : s.hwk.job.done < s.hwk.job.slices) (slot n : Nat) :
    let j := s.hwk.job
    let last := decide (j.done + 1 = j.slices)
    (s.slice slot n).hwk =
      { s.hwk with
        job := { j with done := j.done + 1, candidate := if last then some (Config.baCandidate j.snapshot j.slices) else none }
        jobs := if last then s.hwk.jobs + 1 else s.hwk.jobs } := by
  simp [State.slice, hdisc, hdone, Nat.not_le.mpr hleft]

/-- A slice on a ready engine is the slice of a device with the same solver. -/
theorem exec_baSlice_ready {s : State} {op : OpRun} (h : s.engineReady op) (slot : Byte) (n : Nat) :
    ∃ a : State, a.hwk = s.hwk ∧ exec (.baSlice op slot n) s = .next (a.slice slot.toNat n) := by
  obtain ⟨v, hop⟩ := State.engineOp_ready h (fun a => a.slice slot.toNat n)
  exact ⟨{ s with svc := v, sch := s.sch.advance op }, rfl, congrArg Host.Outcome.next hop⟩

/-- Settles O28: by the job's case, discarded, to be started or under way. -/
theorem backgroundJob : Obligations.BackgroundJob := by
  intro s op slot n h
  obtain ⟨a, hhwk, hexec⟩ := exec_baSlice_ready h slot n
  rw [← hhwk]
  refine ⟨_, hexec, fun hdisc => ?_, fun hdisc hdone => State.slice_first hdisc hdone _ _, fun hdisc hdone hleft => ?_⟩
  · rw [State.slice_discarded hdisc]
  · rw [State.slice_further hdisc hdone hleft]
    exact ⟨rfl, fun hlast => by simp [hlast], fun hmore => by simp [hmore]⟩

end Sys2Proof.Machine
end

section
/-! SUPPORT. Selection, origin and staleness of a reference (08_estimation.md R236, R240, R241): what a command on one reference keeps
of the estimator, and the statement on these commands. -/

namespace Sys2Proof.Machine

open Sys2Proof

/-- The estimator keeps its posterior, its history, every reference but `k`, and the origin of `k`. -/
def EstSt.keptBut (e e' : EstSt) (k : Nat) : Prop :=
  e'.xHat = e.xHat ∧ e'.history = e.history ∧ (∀ j, j ≠ k → e'.ref j = e.ref j) ∧ (e'.ref k).origin = (e.ref k).origin

theorem EstSt.keptBut_refl (e : EstSt) (k : Nat) : e.keptBut e k := ⟨rfl, rfl, fun _ _ => rfl, rfl⟩

theorem EstSt.keptBut_setRef (e : EstSt) {k : Nat} {r : RefSt} (horigin : r.origin = (e.ref k).origin) : e.keptBut (e.setRef k r) k :=
  ⟨rfl, rfl, fun _ hj => e.ref_setRef_other r hj, by rw [e.ref_setRef k r, horigin]⟩

theorem EstSt.deselect_enabled {e : EstSt} {k : Nat} (henabled : (e.ref k).state ≠ .disabled) :
    ((e.deselect k).ref k).state = .deselected ∧ e.keptBut (e.deselect k) k := by
  unfold EstSt.deselect
  split
  case h_1 hdisabled => exact absurd hdisabled henabled
  case h_2 hdeselected => exact ⟨hdeselected, e.keptBut_refl k⟩
  case h_3 => exact ⟨congrArg RefSt.state (e.ref_setRef k _), e.keptBut_setRef rfl⟩

theorem EstSt.select_deselected {e : EstSt} {k : Nat} (hdeselected : (e.ref k).state = .deselected) :
    e.select k = e.setRef k { e.ref k with state := .acquire, good := 0 } := by
  unfold EstSt.select
  rw [hdeselected]

/-- RESET_ORIGIN of a REL_POS reference, in any state but DISABLED (R241; log 54). -/
theorem EstSt.resetOrigin_relPos {e : EstSt} {k : Nat} (hkind : (e.entry k).kind = 2) (henabled : (e.ref k).state ≠ .disabled) :
    e.resetOrigin k = e.setRef k { e.ref k with state := .acquire, good := 0 } :=
  if_pos ⟨hkind, henabled⟩

/-- A reference put in ACQUIRE counts its passing samples from 0 and keeps its origin. -/
theorem EstSt.setRef_acquire (e : EstSt) (k : Nat) :
    let a := e.setRef k { e.ref k with state := .acquire, good := 0 }
    (a.ref k).state = .acquire ∧ (a.ref k).good = 0 ∧ e.keptBut a k :=
  ⟨congrArg RefSt.state (e.ref_setRef k _), congrArg RefSt.good (e.ref_setRef k _), e.keptBut_setRef rfl⟩

/-- A union command in its turn that changes the estimator alone leaves the estimator so changed (R404). -/
theorem State.unionCmd_est {s : State} {h : HostRef} (ht : s.unionTurn h) (op : Half) (f : EstSt → EstSt) :
    (s.unionCmd h op (fun a => applied { a with est := f a.est })).est = f s.est := by
  rw [State.unionCmd_turn ht]
  rfl

theorem exec_deselectRef_turn {s : State} {h : HostRef} (ht : s.unionTurn h) (slot : BitVec 6) :
    ∃ t, exec (.deselectRef h slot) s = .next t ∧ t.est = s.est.deselect slot.toNat :=
  ⟨_, rfl, State.unionCmd_est ht 0x0021 (fun e => e.deselect slot.toNat)⟩

theorem exec_selectRef_turn {s : State} {h : HostRef} (ht : s.unionTurn h) (slot : BitVec 6) :
    ∃ t, exec (.selectRef h slot) s = .next t ∧ t.est = s.est.select slot.toNat :=
  ⟨_, rfl, State.unionCmd_est ht 0x0021 (fun e => e.select slot.toNat)⟩

theorem exec_resetOrigin_turn {s : State} {h : HostRef} (ht : s.unionTurn h) (slot : BitVec 6) :
    ∃ t, exec (.resetOrigin h slot) s = .next t ∧ t.est = s.est.resetOrigin slot.toNat :=
  ⟨_, rfl, State.unionCmd_est ht 0x0021 (fun e => e.resetOrigin slot.toNat)⟩

/-- An observed reference without an applied sample for STALE_BEATS beats goes to STALE (Table 8.2). -/
theorem exec_referenceStale_due {s : State} {slot : BitVec 6}
    (hstate : (s.est.ref slot.toNat).state = .acquire ∨ (s.est.ref slot.toNat).state = .admitted ∨
      (s.est.ref slot.toNat).state = .rejected)
    (hlimit : (s.est.entry slot.toNat).staleBeats ≠ 0)
    (hdue : (s.est.entry slot.toNat).staleBeats.toNat ≤ (s.est.ref slot.toNat).stale) :
    ∃ t, exec (.referenceStale slot) s = .next t ∧
      t.est = s.est.setRef slot.toNat { s.est.ref slot.toNat with state := .stale } := by
  have hpos : (s.est.entry slot.toNat).staleBeats.toNat ≠ 0 := fun hzero => hlimit (BitVec.eq_of_toNat_eq hzero)
  exact ⟨_, congrArg Host.Outcome.next (if_pos ⟨hstate, hpos, hdue⟩), State.raise_est _ _⟩

theorem exec_initBeatsEnd_due {s : State} (hinit : s.est.initialised = true) (hflag : s.est.initFlag = true)
    (hleft : s.est.initLeft = 0) :
    exec .initBeatsEnd s = .next { s with est := { s.est with initFlag := false, flags := s.est.flags &&& 0xFDFF } } :=
  congrArg Host.Outcome.next (if_pos (by simp [hinit, hflag, hleft]))

/-- Settles O29: each command leaves one write to its reference, or clears INIT alone. -/
theorem referenceRows : Obligations.ReferenceRows := by
  intro s slot k kept
  refine ⟨fun h ht => ⟨fun henabled => ?_, fun hdeselected => ?_, fun hkind henabled => ?_⟩, fun hstate hlimit hdue => ?_,
    fun hinit hflag hleft => ⟨_, exec_initBeatsEnd_due hinit hflag hleft, rfl⟩⟩
  · obtain ⟨t, hexec, hest⟩ := exec_deselectRef_turn ht slot
    have hdesel := EstSt.deselect_enabled henabled
    rw [← hest] at hdesel
    exact ⟨t, hexec, hdesel⟩
  · obtain ⟨t, hexec, hest⟩ := exec_selectRef_turn ht slot
    have hacquire := s.est.setRef_acquire k
    rw [← EstSt.select_deselected hdeselected, ← hest] at hacquire
    exact ⟨t, hexec, hacquire⟩
  · obtain ⟨t, hexec, hest⟩ := exec_resetOrigin_turn ht slot
    have hacquire := s.est.setRef_acquire k
    rw [← EstSt.resetOrigin_relPos hkind henabled, ← hest] at hacquire
    exact ⟨t, hexec, hacquire⟩
  · obtain ⟨t, hexec, hest⟩ := exec_referenceStale_due hstate hlimit hdue
    have hkept := s.est.keptBut_setRef (k := k) (r := { s.est.ref k with state := .stale }) rfl
    have hstale := congrArg RefSt.state (s.est.ref_setRef k { s.est.ref k with state := .stale })
    rw [← hest] at hkept hstale
    exact ⟨t, hexec, hstale, hkept⟩

end Sys2Proof.Machine
end

section
/-! SUPPORT. One sample of a reference (08_estimation.md R231, R232, R236, R237, Tables 8.2 and 8.3): a late, a superseded and an applied
sample, and the statement on them. -/

namespace Sys2Proof.Machine

open Sys2Proof

/-! A failing test (Table 8.2). -/

/-- A failure restarts the passing count and writes what a rejection writes; all else of the reference stays. -/
theorem RefSt.fail_frame (r : RefSt) (slot : Nat) (why : Nat × Nat) :
    ∃ q c n u b, (r.fail slot why).1 =
      { r with good := 0, passed := false, state := q, reason := c, rejects := n, unadmitted := u, deselNow := b } := by
  unfold RefSt.fail
  split
  · exact ⟨_, _, _, _, _, rfl⟩
  · exact ⟨r.state, r.reason, r.rejects, r.unadmitted, r.deselNow, rfl⟩

@[simp] theorem RefSt.fail_superseded (r : RefSt) (slot : Nat) (why : Nat × Nat) : (r.fail slot why).1.superseded = r.superseded := by
  obtain ⟨q, c, n, u, b, h⟩ := r.fail_frame slot why; rw [h]
@[simp] theorem RefSt.fail_samples (r : RefSt) (slot : Nat) (why : Nat × Nat) : (r.fail slot why).1.samples = r.samples := by
  obtain ⟨q, c, n, u, b, h⟩ := r.fail_frame slot why; rw [h]
@[simp] theorem RefSt.fail_applied (r : RefSt) (slot : Nat) (why : Nat × Nat) : (r.fail slot why).1.applied = r.applied := by
  obtain ⟨q, c, n, u, b, h⟩ := r.fail_frame slot why; rw [h]
@[simp] theorem RefSt.fail_stale (r : RefSt) (slot : Nat) (why : Nat × Nat) : (r.fail slot why).1.stale = r.stale := by
  obtain ⟨q, c, n, u, b, h⟩ := r.fail_frame slot why; rw [h]
@[simp] theorem RefSt.fail_lastD (r : RefSt) (slot : Nat) (why : Nat × Nat) : (r.fail slot why).1.lastD = r.lastD := by
  obtain ⟨q, c, n, u, b, h⟩ := r.fail_frame slot why; rw [h]
@[simp] theorem RefSt.fail_passed (r : RefSt) (slot : Nat) (why : Nat × Nat) : (r.fail slot why).1.passed = false := by
  obtain ⟨q, c, n, u, b, h⟩ := r.fail_frame slot why; rw [h]
@[simp] theorem RefSt.fail_good (r : RefSt) (slot : Nat) (why : Nat × Nat) : (r.fail slot why).1.good = 0 := by
  obtain ⟨q, c, n, u, b, h⟩ := r.fail_frame slot why; rw [h]

/-- An ADMITTED reference that fails is REJECTED, with the reason, a count and event 0x0701. -/
theorem RefSt.fail_admitted {r : RefSt} (hadm : r.state = .admitted) (slot : Nat) (why : Nat × Nat) :
    r.fail slot why =
      ({ r with good := 0, passed := false, state := .rejected, reason := BitVec.ofNat 4 why.1, rejects := r.rejects + 1,
                unadmitted := 0, deselNow := false },
       [(0x0701, [BitVec.ofNat 32 slot, BitVec.ofNat 32 why.1, satWordU why.2])]) := by
  simp [RefSt.fail, hadm]

/-- Another reference, but one deselected in this beat, has its passing count restarted and nothing else. -/
theorem RefSt.fail_unadmitted {r : RefSt} (hadm : r.state ≠ .admitted) (hdesel : r.deselNow = false) (slot : Nat) (why : Nat × Nat) :
    r.fail slot why = ({ r with good := 0, passed := false }, []) := by
  simp [RefSt.fail, hadm, hdesel]

/-- A sample with the REJECT flag fails with reason SOURCE (R237). -/
theorem singleTest_reject {sm : RefSample} (hreject : sm.reject = true) (cls : RefClass) (en : EstEntry) (r : RefSt) (x : Innov)
    (pe : Option Nat) : singleTest cls en r sm x pe = (8, 0) := by
  simp [singleTest, hreject]

/-! What a sample does to its reference. -/

/-- A sample of slot `k` is late for beat `n`: it lies further back than MAX_D, or than the history (R231). -/
def EstSt.lateFor (e : EstSt) (k n : Nat) (sm : RefSample) : Prop :=
  (e.entry k).maxD.toNat < delayOf n sm.instant ∨ (0 < delayOf n sm.instant ∧ e.history.length < delayOf n sm.instant)

/-- PE_THR as the prediction-error test of slot `k` takes it: for position and heading alone, and while the test is in force (R240). -/
def EstSt.predErrLimit (e : EstSt) (k : Nat) : Option Nat :=
  if (refClass k = .position ∨ refClass k = .heading) ∧ e.peOn = true then e.table.map (fun t => t.peThr.toNat) else none

/-- The verdict of Table 8.3 on an applied sample. -/
def EstSt.sampleVerdict (e : EstSt) (par : List Int) (k n : Nat) (sm : RefSample) : Nat × Nat :=
  singleTest (refClass k) (e.entry k) (e.ref k) sm (e.innovation par k n (delayOf n sm.instant) sm) (e.predErrLimit k)

/-- The reference with an applied sample observed, before the verdict: a STALE one acquires again (Table 8.2). -/
def EstSt.observed (e : EstSt) (par : List Int) (k n : Nat) (sm : RefSample) : RefSt :=
  let x := e.innovation par k n (delayOf n sm.instant) sm
  let r := e.ref k
  { (if r.state = .stale then { r with state := .acquire, good := 0 } else r).observe (e.entry k) sm (delayOf n sm.instant) x with
    tryOrigin := if (e.entry k).kind = 2 then some (x.pred.getD 0 0 - x.moved.getD 0 0, x.pred.getD 1 0 - x.moved.getD 1 0) else none }

/-- Observing counts the sample and keeps what the verdict is on. -/
theorem EstSt.observed_counts (e : EstSt) (par : List Int) (k n : Nat) (sm : RefSample) :
    let o := e.observed par k n sm
    o.samples = (e.ref k).samples + 1 ∧ o.applied = true ∧ o.stale = 0 ∧ o.lastD = BitVec.ofNat 4 (delayOf n sm.instant) ∧
      o.rejects = (e.ref k).rejects ∧ o.reason = (e.ref k).reason ∧ o.deselNow = (e.ref k).deselNow := by
  unfold EstSt.observed
  by_cases hstale : (e.ref k).state = .stale <;> simp [hstale, RefSt.observe, RefSt.note]

theorem EstSt.observed_admitted_iff (e : EstSt) (par : List Int) (k n : Nat) (sm : RefSample) :
    (e.observed par k n sm).state = .admitted ↔ (e.ref k).state = .admitted := by
  unfold EstSt.observed
  by_cases hstale : (e.ref k).state = .stale <;> simp [hstale, RefSt.observe, RefSt.note]

section
variable {e : EstSt} {k n : Nat} {sm : RefSample} (hkind : (e.entry k).kind ≠ 0)
include hkind

/-- A late sample is counted and does nothing else to its reference. -/
theorem EstSt.offer_late (hlate : e.lateFor k n sm) (par : List Int) (b : Bool) :
    e.offer par k n sm b =
      ({ (e.setRef k { e.ref k with late := (e.ref k).late + 1 }) with lateNow := e.lateNow + 1, flLate := true }, true, []) := by
  unfold EstSt.lateFor at hlate
  simp only [EstSt.offer, hkind, if_false, Bool.or_eq_true, Bool.and_eq_true, decide_eq_true_eq, hlate, if_true]

/-- A superseded sample is counted, goes by FREEZE and JUMP, and is not applied (R232). -/
theorem EstSt.offer_superseded (hlate : ¬ e.lateFor k n sm) (par : List Int) :
    let r := (e.offer par k n sm true).1.ref k
    r.superseded = (e.ref k).superseded + 1 ∧ r.samples = (e.ref k).samples := by
  unfold EstSt.lateFor at hlate
  simp only [EstSt.offer, hkind, if_false, Bool.or_eq_true, Bool.and_eq_true, decide_eq_true_eq, hlate, if_true]
  split
  · simp [EstSt.ref, EstSt.setRef, RefSt.note]
  · rw [EstSt.ref_setRef]
    exact ⟨rfl, rfl⟩

/-- A sample that is applied is observed and judged. -/
theorem EstSt.offer_applied (hlate : ¬ e.lateFor k n sm) (par : List Int) :
    let f := (e.observed par k n sm).fail k (e.sampleVerdict par k n sm)
    e.offer par k n sm false =
      if (e.sampleVerdict par k n sm).1 ≠ 0 then ({ (e.setRef k f.1) with flRejected := e.flRejected || !f.2.isEmpty }, false, f.2)
      else (e.setRef k { e.observed par k n sm with passed := true }, false, []) := by
  unfold EstSt.lateFor at hlate
  simp only [EstSt.offer, EstSt.sampleVerdict, EstSt.predErrLimit, hkind, if_false, Bool.or_eq_true, Bool.and_eq_true, decide_eq_true_eq,
    hlate]
  rfl

/-- A passing sample marks its reference and raises nothing. -/
theorem EstSt.offer_passing (hlate : ¬ e.lateFor k n sm) (par : List Int) (hpass : (e.sampleVerdict par k n sm).1 = 0) :
    (e.offer par k n sm false).1.ref k = { e.observed par k n sm with passed := true } ∧ (e.offer par k n sm false).2.2 = [] := by
  rw [EstSt.offer_applied hkind hlate, if_neg (not_not_intro hpass)]
  exact ⟨EstSt.ref_setRef _ _ _, rfl⟩

/-- A failing sample fails its reference, and a rejection is flagged. -/
theorem EstSt.offer_failing (hlate : ¬ e.lateFor k n sm) (par : List Int) (hfail : (e.sampleVerdict par k n sm).1 ≠ 0) :
    let f := (e.observed par k n sm).fail k (e.sampleVerdict par k n sm)
    (e.offer par k n sm false).1.ref k = f.1 ∧ (e.offer par k n sm false).2.2 = f.2 ∧
      (e.offer par k n sm false).1.flRejected = (e.flRejected || !f.2.isEmpty) := by
  rw [EstSt.offer_applied hkind hlate, if_pos hfail]
  exact ⟨EstSt.ref_setRef e k _, rfl, rfl⟩

/-- An applied sample is counted, with its delay, whatever the verdict. -/
theorem EstSt.offer_counts (hlate : ¬ e.lateFor k n sm) (par : List Int) :
    let r := (e.offer par k n sm false).1.ref k
    r.samples = (e.ref k).samples + 1 ∧ r.applied = true ∧ r.stale = 0 ∧ r.lastD = BitVec.ofNat 4 (delayOf n sm.instant) := by
  obtain ⟨hsamples, happlied, hstale, hlastD, -⟩ := e.observed_counts par k n sm
  by_cases hpass : (e.sampleVerdict par k n sm).1 = 0
  · rw [(EstSt.offer_passing hkind hlate par hpass).1]
    exact ⟨hsamples, happlied, hstale, hlastD⟩
  · rw [(EstSt.offer_failing hkind hlate par hpass).1]
    simp [hsamples, happlied, hstale, hlastD]

end

/-- Settles O30: a late, a superseded, a passing and a failing sample. -/
theorem referenceSamples : Obligations.ReferenceSamples := by
  intro e par k n sm hkind
  refine ⟨fun hlate b => ?_, fun hlate => ?_⟩
  · rw [EstSt.offer_late hkind hlate par b]
    exact ⟨rfl, EstSt.ref_setRef e k _, rfl, rfl⟩
  obtain ⟨hsuper, hsame⟩ := EstSt.offer_superseded hkind hlate par
  obtain ⟨hsamples, happlied, hstale, hlastD⟩ := EstSt.offer_counts hkind hlate par
  refine ⟨hsuper, hsame, hsamples, happlied, hstale, hlastD, fun hreject => congrArg Prod.fst (singleTest_reject hreject _ _ _ _ _),
    fun hpass => ?_, fun hfail => ?_⟩
  · obtain ⟨href, hev⟩ := EstSt.offer_passing hkind hlate par hpass
    exact ⟨congrArg RefSt.passed href, hev⟩
  obtain ⟨href, hev, hflag⟩ := EstSt.offer_failing hkind hlate par hfail
  obtain ⟨-, -, -, -, hrejects, hreason, hdesel⟩ := e.observed_counts par k n sm
  rw [href, hev, hflag]
  refine ⟨RefSt.fail_passed _ _ _, RefSt.fail_good _ _ _, fun hadm => ?_, fun hadm hnow => ?_⟩
  · rw [RefSt.fail_admitted ((e.observed_admitted_iff par k n sm).mpr hadm)]
    exact ⟨rfl, rfl, congrArg (· + 1) hrejects, by simp, _, rfl⟩
  · rw [RefSt.fail_unadmitted (fun h => hadm ((e.observed_admitted_iff par k n sm).mp h)) (hdesel.trans hnow)]
    exact ⟨rfl, hreason⟩

end Sys2Proof.Machine
end

section
/-! SUPPORT. Posterior, covariance step and health of a beat (08_estimation.md R231, R234, R245, R246, Table 8.5), and the statement on
them. -/

namespace Sys2Proof.Machine

open Sys2Proof

/-! The update (R234 step 6, R246). -/

/-- A lost result is published with NO_UPDATE (bit 0) and DEADLINE (bit 4). -/
theorem updateFlags_lost {f : ProbFlags} (hlost : (f.dlLoad || f.dlFactor) = true) :
    (BitVec.ofNat 16 (updateFlags f)).getLsbD 0 = true ∧ (BitVec.ofNat 16 (updateFlags f)).getLsbD 4 = true := by
  have hbit : Nat.testBit 16 4 = true := rfl
  simp only [BitVec.getLsbD_ofNat, updateFlags, hlost, Nat.testBit_or]
  simp [hbit]

/-- A lost result leaves the prior, sets its flags and raises event 0x0707. -/
theorem EstSt.update_lost {f : ProbFlags} (hlost : (f.dlLoad || f.dlFactor) = true) (e : EstSt) (par w : List Int) :
    let u := (e.update par f w).1
    u.xHat = e.prior ∧ u.jAcc = e.jAcc ∧ u.flags.getLsbD 0 = true ∧ u.flags.getLsbD 4 = true ∧ u.flNoUpdate = true ∧
      (e.update par f w).2 = [(0x0707, [0, BitVec.ofNat 32 f.code])] := by
  obtain ⟨hnoUpdate, hdeadline⟩ := updateFlags_lost hlost
  have hflags : (e.update par f w).1.flags = e.flags ||| BitVec.ofNat 16 (updateFlags f) := rfl
  intro u
  rw [hflags, BitVec.getLsbD_or, BitVec.getLsbD_or, hnoUpdate, hdeadline]
  simp [u, EstSt.update, hlost]

/-- The result of an initialised estimator is combined with the prior. -/
theorem EstSt.update_combines {e : EstSt} {f : ProbFlags} (hlost : (f.dlLoad || f.dlFactor) = false) (hon : e.updates = true)
    (par w : List Int) :
    (e.update par f w).1.xHat = Config.estCombine par e.prior e.factor w ∧ (e.update par f w).2 = [] := by
  simp [EstSt.update, hlost, hon]

/-- The posterior is the newest of at most eight entries, before initialisation too (R231; log 104), and s_f stays. -/
theorem EstSt.update_history (e : EstSt) (par : List Int) (f : ProbFlags) (w : List Int) :
    let u := (e.update par f w).1
    u.history = (u.xHat :: e.history).take 8 ∧ u.history.length ≤ 8 ∧ u.factor = e.factor :=
  ⟨rfl, List.length_take_le 8 _, rfl⟩

/-! The covariance step (R234 step 7, R246). -/

theorem EstSt.covariance_lost {f : ProbFlags} (hlost : (f.dlLoad || f.dlFactor || f.dlIter) = true) (e : EstSt) (par w : List Int) :
    (e.covariance par f w).1 = { e with covLost := e.covLost + 1 } := by
  simp [EstSt.covariance, hlost]

theorem EstSt.covariance_stored {f : ProbFlags} (hlost : (f.dlLoad || f.dlFactor || f.dlIter) = false) (e : EstSt) (par w : List Int) :
    (e.covariance par f w).1 = { e with nextFactor := some (Config.covStep par e.factor e.jAcc w), jAcc := [] } := by
  simp [EstSt.covariance, hlost]

/-! Health (R245). -/

/-- A value that is the number of the first row that applies, read back row by row. -/
theorem firstRow_iff {p q r : Prop} [Decidable p] [Decidable q] [Decidable r] {h : BitVec 2}
    (hrow : h = if p then 0 else if q then 1 else if r then 2 else 3) :
    (h = 0 ↔ p) ∧ (h = 1 ↔ h ≠ 0 ∧ q) ∧ (h = 2 ↔ h ≠ 0 ∧ ¬ q ∧ r) := by
  by_cases hp : p
  · simp [hrow, hp]
  by_cases hq : q
  · simp [hrow, hp, hq]
  by_cases hr : r <;> simp [hrow, hp, hq, hr]

/-- The first row of Table 8.5, INVALID: uninitialised, INIT set, no heading reference, or dead reckoning for more than `limit` of
its `dr` beats. -/
abbrev EstSt.invalid (e : EstSt) (limit dr : Nat) : Prop :=
  e.initialised = false ∨ e.initFlag = true ∨ e.admittedCount .heading = 0 ∨ (limit ≠ 0 ∧ limit < dr)

section
variable {e : EstSt} {t : EstTable} (htable : e.table = some t) (watch : Bool)
include htable

/-- HEALTH by the rows of Table 8.5 in their order: INVALID, DR, DEGRADED and FULL. -/
theorem EstSt.healthStep_health :
    let h := (e.healthStep watch).1
    h.health = if e.invalid (if watch then t.drLimitWatch.toNat else t.drLimit.toNat) h.drBeats then 0
      else if e.admittedCount .position = 0 then 1 else if e.flags &&& 0x003F ≠ 0 then 2 else 3 := by
  simp [EstSt.healthStep, htable, EstSt.invalid, or_assoc]

/-- A beat of dead reckoning is counted up to the counter's end; any other starts the count again. -/
theorem EstSt.healthStep_drBeats :
    let h := (e.healthStep watch).1
    h.drBeats = 0 ∨ h.drBeats = min 0xFFFF (e.drBeats + 1) := by
  simp only [EstSt.healthStep, htable]
  split
  · exact .inl rfl
  · exact .inr rfl

end

/-- Settles O31: the update, the covariance result, and the first row of Table 8.5 that applies. -/
theorem estimatorResult : Obligations.EstimatorResult := by
  intro e par f w u lost
  obtain ⟨hhistory, hlength, hfactor⟩ := e.update_history par f w
  have hlost : lost ↔ (f.dlLoad || f.dlFactor) = true := (Bool.or_eq_true _ _).to_iff.symm
  have hcov : (lost ∨ f.dlIter = true) ↔ (f.dlLoad || f.dlFactor || f.dlIter) = true := by
    rw [Bool.or_eq_true, Bool.or_eq_true]
  refine ⟨fun h => EstSt.update_lost (hlost.mp h) e par w,
    fun h hon => EstSt.update_combines (Bool.eq_false_iff.mpr (mt hlost.mpr h)) hon par w, hhistory, hlength, hfactor,
    ⟨fun h => EstSt.covariance_lost (hcov.mp h) e par w, fun h => ?_⟩, fun t watch htable => ?_⟩
  · rw [EstSt.covariance_stored (Bool.eq_false_iff.mpr (mt hcov.mpr h))]
    exact ⟨rfl, rfl, rfl⟩
  · obtain ⟨hinvalid, hreckoning, hdegraded⟩ := firstRow_iff (EstSt.healthStep_health htable watch)
    exact ⟨hinvalid, hreckoning, hdegraded, EstSt.healthStep_drBeats htable watch⟩

end Sys2Proof.Machine
end

section
/-! SUPPORT. Target bindings and the calibration of the sensors (09_luna_grid_tracks.md R268 to R273): what a command leaves of the LUN
block, the boundary of one sensor and of all, and the statement on them. -/

namespace Sys2Proof.Machine

open Sys2Proof

/-! Union commands on the LUN block (R404). -/

/-- A union command in its turn leaves the LUN block that its judgement `f` leaves. -/
theorem State.unionCmd_lun {s : State} {h : HostRef} (ht : s.unionTurn h) (op : Half) (f : State → CmdR) :
    (s.unionCmd h op f).lun = (f (s.taken h)).1.lun := by
  rw [State.unionCmd_turn ht]
  rfl

/-! Bindings (R268, R270). -/

theorem State.bind_ok {s : State} {k : Nat} {track : BitVec 12} {gen : Half} {slot : BitVec 4}
    (hok : s.lun.bindOk k track gen slot (s.est.takesTarget slot.toNat) = true) :
    (s.bind k track gen slot).1.lun =
      { s.lun with
        bindings := Tab.set Binding.zero s.lun.bindings k
          { Tab.get Binding.zero s.lun.bindings k with bound := true, track := track, gen := gen, slot := slot } } := by
  rw [State.bind, if_pos hok]
  exact State.raise_lun _ _

theorem State.bind_refused {s : State} {k : Nat} {track : BitVec 12} {gen : Half} {slot : BitVec 4}
    (hok : s.lun.bindOk k track gen slot (s.est.takesTarget slot.toNat) = false) :
    (s.bind k track gen slot).1.lun = { s.lun with flBindRefused := true } := by
  rw [State.bind, if_neg (Bool.eq_false_iff.mp hok)]
  rfl

/-! Commands that wait for the boundary (R273). -/

theorem LunSt.calQueue_cal (l : LunSt) (m : Byte) (c : CalCmd) : (l.calQueue m c).cal = l.cal :=
  List.foldlRecOn (motive := fun a : LunSt => a.cal = l.cal) _ _ rfl (fun _ ha _ _ => ha)

/-- The command of one sensor of the mask. -/
def LunSt.queueOne (c : CalCmd) (l : LunSt) (s : Nat) : LunSt :=
  { l with
    pending := Tab.set CalCmd.none l.pending s c
    superseded := if Tab.get CalCmd.none l.pending s = .none then l.superseded else l.superseded + 1 }

theorem LunSt.foldl_queueOne_pending (c : CalCmd) (ks : List Nat) (l : LunSt) (k : Nat) :
    Tab.get CalCmd.none (ks.foldl (LunSt.queueOne c) l).pending k = if k ∈ ks then c else Tab.get CalCmd.none l.pending k := by
  induction ks generalizing l with
  | nil => rfl
  | cons j ks ih =>
    rw [List.foldl_cons, ih]
    by_cases hj : k = j <;> simp [LunSt.queueOne, Tab.get_set, hj]

/-- A sensor of the mask has the new command waiting, in place of an earlier one, and any other keeps its own. -/
theorem LunSt.calQueue_pending (l : LunSt) (m : Byte) (c : CalCmd) {k : Nat} (hk : k < 8) :
    Tab.get CalCmd.none (l.calQueue m c).pending k = if m.getLsbD k then c else Tab.get CalCmd.none l.pending k := by
  refine (LunSt.foldl_queueOne_pending c _ l k).trans ?_
  simp [hk]

/-- A calibration command in its turn waits (R273). -/
theorem State.unionCmd_calCommand {s : State} {h : HostRef} (ht : s.unionTurn h) (m : Byte) {c : CalCmd} (hc : c ≠ .none) :
    let t := s.unionCmd h 0x0021 (fun a => a.calCommand m c)
    t.lun.cal = s.lun.cal ∧
      ∀ k, k < 8 → Tab.get CalCmd.none t.lun.pending k = if m.getLsbD k then c else Tab.get CalCmd.none s.lun.pending k := by
  have hlun : (s.unionCmd h 0x0021 (fun a => a.calCommand m c)).lun = s.lun.calQueue m c := by
    rw [State.unionCmd_lun ht]
    cases c with
    | none => exact absurd rfl hc
    | freeze => rfl
    | unfreeze => rfl
    | accept => rfl
    | reset => rfl
  intro t
  rw [hlun]
  exact ⟨s.lun.calQueue_cal m c, fun k hk => s.lun.calQueue_pending m c hk⟩

/-! The boundary (R272, R273), sensor by sensor. -/

theorem getLsbD_bit {w : Nat} (s k : Nat) (hk : k < w) : (BitVec.ofNat w (2 ^ s)).getLsbD k = decide (s = k) := by
  rw [BitVec.getLsbD_ofNat, Nat.testBit_two_pow, decide_eq_true hk, Bool.true_and]

theorem setBit_getLsbD {w : Nat} (m : BitVec w) (s : Nat) {k : Nat} (hk : k < w) :
    (setBit m s).getLsbD k = (m.getLsbD k || decide (s = k)) := by
  rw [setBit, BitVec.getLsbD_or, getLsbD_bit s k hk]

theorem clrBit_getLsbD {w : Nat} (m : BitVec w) (s : Nat) {k : Nat} (hk : k < w) :
    (clrBit m s).getLsbD k = (m.getLsbD k && !decide (s = k)) := by
  rw [clrBit, BitVec.getLsbD_and, BitVec.getLsbD_not, getLsbD_bit s k hk, decide_eq_true hk, Bool.true_and]

/-- What the block holds of one sensor: the command that waits, its three sets and its frozen mark. -/
structure SensorCal where
  cmd      : CalCmd
  baseline : List Int
  accepted : List Int
  learned  : List Int
  frozen   : Bool

def LunSt.sensorCal (l : LunSt) (k : Nat) : SensorCal :=
  { cmd := Tab.get CalCmd.none l.pending k, baseline := Tab.get [] l.cal.baseline k, accepted := Tab.get [] l.cal.accepted k,
    learned := Tab.get [] l.cal.learned k, frozen := l.cal.frozen.getLsbD k }

/-- `y` is what a boundary may leave of a sensor `x` (R273). -/
def SensorCal.Settled (x y : SensorCal) : Prop :=
  y.cmd = .none ∧
    (x.cmd = .reset → y.learned = x.baseline ∧ y.accepted = x.baseline) ∧
    (x.cmd = .freeze → y.frozen = true ∧ y.learned = x.learned) ∧
    (x.cmd = .unfreeze → y.frozen = false) ∧
    (x.cmd = .accept → y.accepted = y.learned) ∧
    (x.cmd = .none → y.accepted = x.accepted)

/-- The BASELINE sets stay, and the other sets and the frozen mark of every sensor but `s`. -/
def CalSets.KeptBut (s : Nat) (c d : CalSets) : Prop :=
  d.baseline = c.baseline ∧ ∀ k, k < 8 → k ≠ s →
    Tab.get [] d.accepted k = Tab.get [] c.accepted k ∧ Tab.get [] d.learned k = Tab.get [] c.learned k ∧ d.frozen.getLsbD k = c.frozen.getLsbD k

theorem CalSets.KeptBut.refl (s : Nat) (c : CalSets) : c.KeptBut s c := ⟨rfl, fun _ _ _ => ⟨rfl, rfl, rfl⟩⟩

theorem CalSets.KeptBut.trans {s : Nat} {c d e : CalSets} (hcd : c.KeptBut s d) (hde : d.KeptBut s e) : c.KeptBut s e := by
  obtain ⟨hbase, hkept⟩ := hcd
  obtain ⟨hbase', hkept'⟩ := hde
  refine ⟨hbase'.trans hbase, fun k hk hne => ?_⟩
  obtain ⟨hacc, hlearned, hfrozen⟩ := hkept k hk hne
  obtain ⟨hacc', hlearned', hfrozen'⟩ := hkept' k hk hne
  exact ⟨hacc'.trans hacc, hlearned'.trans hlearned, hfrozen'.trans hfrozen⟩

/-- RESET, FREEZE and UNFREEZE of sensor `s`, which come before its candidate. -/
def CalSets.before (c : CalSets) (s : Nat) : CalCmd → CalSets
  | .reset => { c with learned := Tab.set [] c.learned s (Tab.get [] c.baseline s), accepted := Tab.set [] c.accepted s (Tab.get [] c.baseline s) }
  | .freeze => { c with frozen := setBit c.frozen s }
  | .unfreeze => { c with frozen := clrBit c.frozen s }
  | _ => c

theorem CalSets.before_keptBut (c : CalSets) (s : Nat) (cmd : CalCmd) : c.KeptBut s (c.before s cmd) := by
  cases cmd with
  | none => exact .refl s c
  | accept => exact .refl s c
  | freeze => exact ⟨rfl, fun k hk hne => ⟨rfl, rfl, by simp [CalSets.before, setBit_getLsbD _ _ hk, hne.symm]⟩⟩
  | unfreeze => exact ⟨rfl, fun k hk hne => ⟨rfl, rfl, by simp [CalSets.before, clrBit_getLsbD _ _ hk, hne.symm]⟩⟩
  | reset => exact ⟨rfl, fun k _ hne => ⟨Tab.get_set_other _ _ _ hne, Tab.get_set_other _ _ _ hne, rfl⟩⟩

/-- ACCEPT of sensor `s`, which comes after its candidate. -/
def CalSets.after (c : CalSets) (s : Nat) (cmd : CalCmd) : CalSets :=
  if cmd = .accept then { c with accepted := Tab.set [] c.accepted s (Tab.get [] c.learned s) } else c

theorem CalSets.after_keptBut (c : CalSets) (s : Nat) (cmd : CalCmd) : c.KeptBut s (c.after s cmd) := by
  unfold CalSets.after
  split
  · exact ⟨rfl, fun k _ hne => ⟨Tab.get_set_other _ _ _ hne, rfl, rfl⟩⟩
  · exact .refl s c

/-- The candidate of sensor `s` moves its LEARNED. -/
def CalSets.move (b : CalBaseline) (s : Nat) (c : CalSets) : Option (List Int) → CalSets
  | none => c
  | some d => { c with learned := Tab.set [] c.learned s (calSensor b s (Tab.get [] c.learned s) (Tab.get [] c.accepted s) d).1 }

theorem LunSt.calOne_pending (b : CalBaseline) (cand : Option (List Int)) (a : LunSt × List Ev × List Nat × List Nat × Bool) (s : Nat) :
    (LunSt.calOne b cand a s).1.pending = Tab.set CalCmd.none a.1.pending s .none := rfl

@[simp] theorem CalSets.move_accepted (b : CalBaseline) (s : Nat) (c : CalSets) (delta : Option (List Int)) :
    (c.move b s delta).accepted = c.accepted := by
  cases delta <;> rfl

@[simp] theorem CalSets.move_frozen (b : CalBaseline) (s : Nat) (c : CalSets) (delta : Option (List Int)) :
    (c.move b s delta).frozen = c.frozen := by
  cases delta <;> rfl

theorem CalSets.move_keptBut (b : CalBaseline) (s : Nat) (c : CalSets) (delta : Option (List Int)) : c.KeptBut s (c.move b s delta) := by
  cases delta with
  | none => exact .refl s c
  | some d => exact ⟨rfl, fun k _ hne => ⟨rfl, by simp [CalSets.move, Tab.get_set, hne], rfl⟩⟩

/-- The boundary of one sensor: RESET, FREEZE or UNFREEZE, then its candidate, if it is neither frozen nor reset, then ACCEPT (R273). -/
theorem LunSt.calOne_cal (b : CalBaseline) (cand : Option (List Int)) (a : LunSt × List Ev × List Nat × List Nat × Bool) (s : Nat) :
    let cmd := Tab.get CalCmd.none a.1.pending s
    let c := a.1.cal.before s cmd
    ∃ delta, (LunSt.calOne b cand a s).1.cal = (c.move b s delta).after s cmd ∧
      (c.frozen.getLsbD s = true ∨ cmd = .reset → delta = none) := by
  obtain ⟨l, ev, resets, accepts, changed⟩ := a
  dsimp only
  cases hcmd : Tab.get CalCmd.none l.pending s
  all_goals
    cases cand with
    | none => exact ⟨none, by simp only [LunSt.calOne, hcmd]; rfl, fun _ => rfl⟩
    | some x =>
      simp only [LunSt.calOne, hcmd, CalSets.before, CalSets.after, reduceCtorEq, ↓reduceIte]
      split
      · exact ⟨none, rfl, fun _ => rfl⟩
      · exact ⟨some _, rfl, fun h => by simp_all⟩

section
variable (b : CalBaseline) (cand : Option (List Int)) (a : LunSt × List Ev × List Nat × List Nat × Bool)

theorem LunSt.calOne_keptBut (s : Nat) : a.1.cal.KeptBut s (LunSt.calOne b cand a s).1.cal := by
  obtain ⟨delta, hcal, -⟩ := LunSt.calOne_cal b cand a s
  rw [hcal]
  exact ((CalSets.before_keptBut _ _ _).trans (CalSets.move_keptBut _ _ _ _)).trans (CalSets.after_keptBut _ _ _)

/-- The boundary of one sensor leaves every other sensor alone. -/
theorem LunSt.calOne_other {s k : Nat} (hk : k < 8) (hne : k ≠ s) : (LunSt.calOne b cand a s).1.sensorCal k = a.1.sensorCal k := by
  obtain ⟨hbase, hkept⟩ := LunSt.calOne_keptBut b cand a s
  obtain ⟨hacc, hlearned, hfrozen⟩ := hkept k hk hne
  rw [LunSt.sensorCal, LunSt.calOne_pending, Tab.get_set_other _ _ _ hne, hbase, hacc, hlearned, hfrozen, ← LunSt.sensorCal]

/-- The boundary of one sensor settles it (R273). -/
theorem LunSt.calOne_settled {s : Nat} (hs : s < 8) : (a.1.sensorCal s).Settled ((LunSt.calOne b cand a s).1.sensorCal s) := by
  obtain ⟨delta, hcal, hdelta⟩ := LunSt.calOne_cal b cand a s
  simp only [LunSt.sensorCal, hcal, LunSt.calOne_pending, SensorCal.Settled, Tab.get_set_same, true_and]
  cases hcmd : Tab.get CalCmd.none a.1.pending s with
  | none => simp [CalSets.before, CalSets.after]
  | accept => simp [CalSets.after]
  | unfreeze => simp [CalSets.before, CalSets.after, clrBit_getLsbD _ _ hs]
  | freeze =>
    have hnone : delta = none := hdelta (.inl (by simp [hcmd, CalSets.before, setBit_getLsbD _ _ hs]))
    simp [CalSets.before, CalSets.move, CalSets.after, hnone, setBit_getLsbD _ _ hs]
  | reset =>
    have hnone : delta = none := hdelta (.inr hcmd)
    simp [CalSets.before, CalSets.move, CalSets.after, hnone]

theorem LunSt.foldl_calOne_baseline (ks : List Nat) : (ks.foldl (LunSt.calOne b cand) a).1.cal.baseline = a.1.cal.baseline :=
  List.foldlRecOn (motive := fun x => x.1.cal.baseline = a.1.cal.baseline) ks _ rfl
    (fun x hx s _ => (LunSt.calOne_keptBut b cand x s).1.trans hx)

theorem LunSt.foldl_calOne_other {ks : List Nat} {k : Nat} (hk : k < 8) (hnot : k ∉ ks) :
    (ks.foldl (LunSt.calOne b cand) a).1.sensorCal k = a.1.sensorCal k :=
  List.foldlRecOn (motive := fun x => x.1.sensorCal k = a.1.sensorCal k) ks _ rfl
    (fun x hx _ hs => (LunSt.calOne_other b cand x hk (fun e => hnot (e ▸ hs))).trans hx)

/-- Each sensor of the list is settled once: those before it and after it leave it alone. -/
theorem LunSt.foldl_calOne_settled {ks : List Nat} (hnodup : ks.Nodup) {k : Nat} (hk : k < 8) (hmem : k ∈ ks) :
    (a.1.sensorCal k).Settled ((ks.foldl (LunSt.calOne b cand) a).1.sensorCal k) := by
  obtain ⟨pre, post, rfl⟩ := List.append_of_mem hmem
  obtain ⟨-, hpost, hpre⟩ := List.nodup_append.mp hnodup
  have hbefore : k ∉ pre := fun h => hpre k h k List.mem_cons_self rfl
  have hafter : k ∉ post := (List.nodup_cons.mp hpost).1
  rw [List.foldl_append, List.foldl_cons, LunSt.foldl_calOne_other b cand _ hk hafter,
    ← LunSt.foldl_calOne_other b cand a hk hbefore]
  exact LunSt.calOne_settled b cand _ hk

end

/-- The MRAM record leaves the commands and the sets in force as they are (R274). -/
theorem LunSt.calSave_frame (l : LunSt) : l.calSave.cal = l.cal ∧ l.calSave.pending = l.pending := by
  unfold LunSt.calSave
  dsimp only
  split <;> exact ⟨rfl, rfl⟩

/-- The boundary settles every sensor and keeps the BASELINE sets. -/
theorem LunSt.calApply_settled {l : LunSt} {b : CalBaseline} (hb : l.baseline = some b) (cand : Option (List Int)) :
    (l.calApply cand).1.cal.baseline = l.cal.baseline ∧
      ∀ k, k < 8 → (l.sensorCal k).Settled ((l.calApply cand).1.sensorCal k) := by
  have hfold : (l.calApply cand).1.cal = ((List.range 8).foldl (LunSt.calOne b cand) (l, [], [], [], false)).1.cal ∧
      (l.calApply cand).1.pending = ((List.range 8).foldl (LunSt.calOne b cand) (l, [], [], [], false)).1.pending := by
    simp only [LunSt.calApply, hb]
    split
    · exact LunSt.calSave_frame _
    · exact ⟨rfl, rfl⟩
  obtain ⟨hcal, hpending⟩ := hfold
  refine ⟨hcal ▸ LunSt.foldl_calOne_baseline b cand (l, [], [], [], false) _, fun k hk => ?_⟩
  have hsensor : (l.calApply cand).1.sensorCal k = ((List.range 8).foldl (LunSt.calOne b cand) (l, [], [], [], false)).1.sensorCal k := by
    rw [LunSt.sensorCal, hcal, hpending, ← LunSt.sensorCal]
  rw [hsensor]
  exact LunSt.foldl_calOne_settled b cand (l, [], [], [], false) List.nodup_range hk (List.mem_range.mpr hk)

theorem exec_calibrationApply_boundary {s : State} (hs : s.atBoundary = true) :
    ∃ t, exec .calibrationApply s = .next t ∧ t.lun = (s.lun.calApply s.hwk.job.candidate).1 :=
  ⟨_, congrArg Host.Outcome.next (if_pos hs), State.raise_lun _ _⟩

/-! One parameter of a candidate (R272). -/

theorem clampI_bounds {lo hi : Int} (h : lo ≤ hi) (a : Int) : lo ≤ clampI lo hi a ∧ clampI lo hi a ≤ hi := by
  unfold clampI
  omega

/-- The new value is LEARNED moved by at most STEP and then held within DEV of ACCEPTED. -/
theorem calStep_bounds (step dev : Nat) (learned accepted delta : Int) :
    let v := (calStep step dev false learned accepted delta).1
    v - accepted ≤ dev ∧ accepted - v ≤ dev ∧ ((learned - accepted).natAbs ≤ dev → (v - learned).natAbs ≤ step) := by
  have hstep := clampI_bounds (show -(step : Int) ≤ step by omega) delta
  have hv : (calStep step dev false learned accepted delta).1 =
    accepted + clampI (-dev) dev (learned + clampI (-step) step delta - accepted) := rfl
  rw [hv]
  generalize clampI (-step) step delta = d at hstep ⊢
  have hdev := clampI_bounds (show -(dev : Int) ≤ dev by omega) (learned + d - accepted)
  refine ⟨by omega, by omega, fun hnear => ?_⟩
  unfold clampI
  omega

/-- Settles O34: the bindings and the commands as they wait, the boundary sensor by sensor, and one parameter's step. -/
theorem targetsAndCalibration : Obligations.TargetsAndCalibration := by
  refine ⟨fun s h ht => ⟨fun b track gen slot => ⟨_, rfl, fun hok => ?_, fun hok => ?_⟩, fun b => ⟨_, rfl, ?_⟩, fun m => ?_⟩,
    fun s b hs hb => ?_, calStep_bounds⟩
  · rw [State.unionCmd_lun ht, State.bind_ok (s := s.taken h) hok]
    simp [State.taken]
  · rw [State.unionCmd_lun ht, State.bind_refused (s := s.taken h) hok]
    rfl
  · rw [State.unionCmd_lun ht]
    exact congrArg Binding.bound (Tab.get_set_same _ _ _ _)
  · exact ⟨⟨_, rfl, State.unionCmd_calCommand ht m nofun⟩, ⟨_, rfl, State.unionCmd_calCommand ht m nofun⟩,
      ⟨_, rfl, State.unionCmd_calCommand ht m nofun⟩, ⟨_, rfl, State.unionCmd_calCommand ht m nofun⟩⟩
  · obtain ⟨t, hexec, hlun⟩ := exec_calibrationApply_boundary hs
    obtain ⟨hbaseline, hsettled⟩ := LunSt.calApply_settled hb s.hwk.job.candidate
    rw [← hlun] at hbaseline hsettled
    exact ⟨t, hexec, hbaseline, hsettled⟩

end Sys2Proof.Machine
end

section
/-! SUPPORT. FUSE, TRACK and the layers of LUNA_OP (09_luna_grid_tracks.md R261 to R267): what each leaves of the grid and of the tracks
where the tables keep the canonical form (log 6), and a grid out of that form, on which the statement fails. -/

namespace Sys2Proof

/-! Tables in the canonical form: every key is listed once. -/

theorem Tab.canonFrom_sorted {α : Type} [DecidableEq α] {d : α} {t : Tab α} {lo : Option Nat} (h : Tab.canonFrom d lo t = true) :
    (Tab.keys t).Pairwise (· < ·) ∧ ∀ a, lo = some a → ∀ k ∈ Tab.keys t, a < k := by
  induction t generalizing lo with
  | nil => simp [Tab.keys]
  | cons p t ih =>
    obtain ⟨j, v⟩ := p
    have hrest : Tab.canonFrom d (some j) t = true ∧ ∀ a, lo = some a → a < j := by
      cases lo <;> simp_all [Tab.canonFrom]
    obtain ⟨htail, hlo⟩ := hrest
    obtain ⟨hsorted, habove⟩ := ih htail
    refine ⟨List.pairwise_cons.mpr ⟨habove j rfl, hsorted⟩, fun a ha k hk => ?_⟩
    rcases List.mem_cons.mp hk with rfl | hk
    · exact hlo a ha
    · exact Nat.lt_trans (hlo a ha) (habove j rfl k hk)

theorem Tab.mem_keys {α : Type} {t : Tab α} {k : Nat} {v : α} (hmem : (k, v) ∈ t) : k ∈ Tab.keys t := List.mem_map_of_mem hmem

theorem Tab.keys_nodup {α : Type} [DecidableEq α] {d : α} {t : Tab α} (h : Tab.canon d t = true) : (Tab.keys t).Nodup :=
  (Tab.canonFrom_sorted h).1.imp (fun hlt => Nat.ne_of_lt hlt)

theorem Tab.get_of_mem {α : Type} {d : α} {t : Tab α} (hnodup : (Tab.keys t).Nodup) {k : Nat} {v : α} (hmem : (k, v) ∈ t) :
    Tab.get d t k = v := by
  induction t with
  | nil => cases hmem
  | cons p t ih =>
    obtain ⟨j, w⟩ := p
    obtain ⟨hnot, hrest⟩ := List.nodup_cons.mp hnodup
    rw [Tab.get_cons]
    rcases List.mem_cons.mp hmem with heq | hmem
    · cases heq
      exact if_pos rfl
    · have hne : ¬ j = k := fun e => hnot (e ▸ Tab.mem_keys hmem)
      rw [if_neg hne]
      exact ih hrest hmem

/-- A change of every listed entry is a change of every entry, where it keeps the default. -/
theorem Tab.get_modifyAll_keys {α : Type} [DecidableEq α] {d : α} {t : Tab α} (h : Tab.canon d t = true) {f : Nat → α → α}
    {k : Nat} (hd : f k d = d) : Tab.get d (Tab.modifyAll d t (Tab.keys t) f) k = f k (Tab.get d t k) := by
  by_cases hk : k ∈ Tab.keys t
  · exact Tab.get_modifyAll d t _ f hk (Tab.keys_nodup h)
  · have hdefault : Tab.get d t k = d :=
      (Tab.get_eq_or_mem d t k).resolve_right (fun hmem => hk (Tab.mem_keys hmem))
    rw [Tab.get_modifyAll_other d t _ f hk, hdefault, hd]

end Sys2Proof

namespace Sys2Proof.Machine

open Sys2Proof

/-! FUSE (R263). -/

theorem fuseValue_bounds (g : Nat) (f u : Int) : -128 ≤ fuseValue g f u ∧ fuseValue g f u ≤ 127 := by
  simp only [fuseValue, clampI]
  omega

/-- A tile after its ageing: an applied one stays, any other is a beat older and, beyond AGE_MAX, reads 0. -/
theorem ageTile_applied (m : Nat) {t : GridTile} (h : t.applied = true) : ageTile m t = t := if_pos h

theorem ageTile_untouched (m : Nat) {t : GridTile} (h : t.applied = false) :
    let a := min (t.age + 1) 65535
    (ageTile m t).age = a ∧ (m < a → (ageTile m t).cells = []) ∧ (a ≤ m → (ageTile m t).cells = t.cells) := by
  simp only [ageTile, h, Bool.false_eq_true, if_false]
  split
  · exact ⟨rfl, fun _ => rfl, by omega⟩
  · exact ⟨rfl, by omega, fun _ => rfl⟩

theorem ageTile_zero (m : Nat) : ageTile m GridTile.zero = GridTile.zero := by
  exact ite_self (c := 65535 > m) GridTile.zero

/-- The tile of a tile item (R262). -/
abbrev tileOf (i : Item) : Nat := bits (i.payload.getD 0 0) 15 0

/-- An item writes its tile or nothing. -/
theorem LunSt.fuseItem_cases (l : LunSt) (i : Item) :
    l.fuseItem i = l ∨ ∃ v, l.fuseItem i = { l with grid := Tab.set GridTile.zero l.grid (tileOf i) v } := by
  unfold LunSt.fuseItem
  split
  · exact .inl rfl
  · dsimp only
    split
    · exact .inr ⟨_, rfl⟩
    · exact .inl rfl

/-- An item leaves the block as it is but for a grid in the canonical form, and in it every other tile. -/
theorem LunSt.fuseItem_frame {l : LunSt} (h : Tab.canon GridTile.zero l.grid = true) (i : Item) :
    ∃ g, l.fuseItem i = { l with grid := g } ∧ Tab.canon GridTile.zero g = true ∧
      ∀ k, tileOf i ≠ k → Tab.get GridTile.zero g k = Tab.get GridTile.zero l.grid k := by
  rcases l.fuseItem_cases i with hsame | ⟨v, hset⟩
  · exact ⟨l.grid, hsame, h, fun _ _ => rfl⟩
  · exact ⟨_, hset, Tab.canon_set _ _ _ h, fun k hne => Tab.get_set_other _ _ _ hne.symm⟩

/-- An item on a tile of the grid moves its values by the source's gain and clears its age. -/
theorem LunSt.fuseItem_same {l : LunSt} {x : LunaTable} (hx : l.table = some x) {i : Item} (htile : tileOf i < 256) :
    let t := Tab.get GridTile.zero (l.fuseItem i).grid (tileOf i)
    t.applied = true ∧ t.age = 0 ∧
      t.cells = List.zipWith (fuseValue (x.gain.getD (bits (i.payload.getD 0 0) 23 16) 0).toNat) (Tab.get GridTile.zero l.grid (tileOf i)).values
        (tileItemCells i.payload) := by
  simp only [LunSt.fuseItem, hx, if_pos htile, Tab.get_set_same, and_self]

/-- The items of a union leave the block as it is but for a grid in the canonical form, and in it every tile that none of them names. -/
theorem LunSt.foldl_fuseItem (items : List Item) {l : LunSt} (h : Tab.canon GridTile.zero l.grid = true) :
    ∃ g, items.foldl LunSt.fuseItem l = { l with grid := g } ∧ Tab.canon GridTile.zero g = true ∧
      ∀ k, (∀ i ∈ items, tileOf i ≠ k) → Tab.get GridTile.zero g k = Tab.get GridTile.zero l.grid k := by
  induction items generalizing l with
  | nil => exact ⟨l.grid, rfl, h, fun _ _ => rfl⟩
  | cons i items ih =>
    obtain ⟨g, hitem, hcanon, hother⟩ := LunSt.fuseItem_frame h i
    rw [List.foldl_cons, hitem]
    obtain ⟨g', hfold, hcanon', hother'⟩ := ih (l := { l with grid := g }) hcanon
    exact ⟨g', hfold, hcanon', fun k hk =>
      (hother' k (fun j hj => hk j (List.mem_cons_of_mem i hj))).trans (hother k (hk i List.mem_cons_self))⟩

/-- The block with no tile marked as applied, as FUSE starts. -/
def LunSt.unmarked (l : LunSt) : LunSt :=
  { l with grid := Tab.modifyAll GridTile.zero l.grid (Tab.keys l.grid) (fun _ v => { v with applied := false }) }

/-- The tile items of a union. -/
abbrev tileItems (union : List Item) : List Item := union.filter (fun i => decide (i.kind = 4))

section
variable {l : LunSt} {x : LunaTable} (hx : l.table = some x) (h : Tab.canon GridTile.zero l.grid = true) (union : List Item)
include h

theorem LunSt.unmarked_get (k : Nat) :
    Tab.get GridTile.zero l.unmarked.grid k = { Tab.get GridTile.zero l.grid k with applied := false } :=
  Tab.get_modifyAll_keys h rfl

theorem LunSt.unmarked_canon : Tab.canon GridTile.zero l.unmarked.grid = true := Tab.canon_modifyAll _ _ _ h

include hx

/-- FUSE applies the items to the unmarked grid and then ages every tile. -/
theorem LunSt.fuse_grid :
    ∃ g, l.fuse union = { l with grid := g } ∧
      ∀ k, Tab.get GridTile.zero g k =
        ageTile x.ageMax.toNat (Tab.get GridTile.zero ((tileItems union).foldl LunSt.fuseItem l.unmarked).grid k) := by
  obtain ⟨g, hfold, hcanon, -⟩ := LunSt.foldl_fuseItem (tileItems union) (LunSt.unmarked_canon h)
  refine ⟨Tab.modifyAll GridTile.zero g (Tab.keys g) (fun _ v => ageTile x.ageMax.toNat v), ?_, fun k => ?_⟩
  · have hfuse : l.fuse union =
        let m := (tileItems union).foldl LunSt.fuseItem l.unmarked
        { m with grid := Tab.modifyAll GridTile.zero m.grid (Tab.keys m.grid) (fun _ v => ageTile x.ageMax.toNat v) } := by
      simp only [LunSt.fuse, hx, LunSt.unmarked]
    rw [hfuse, hfold]
    rfl
  · rw [hfold]
    exact Tab.get_modifyAll_keys hcanon (ageTile_zero _)

/-- A tile that no item names grows older. -/
theorem LunSt.fuse_untouched {k : Nat} (hk : ∀ i ∈ union, i.kind = 4 → tileOf i ≠ k) :
    let t := Tab.get GridTile.zero l.grid k
    let u := Tab.get GridTile.zero (l.fuse union).grid k
    let a := min (t.age + 1) 65535
    u.age = a ∧ (x.ageMax.toNat < a → u.cells = []) ∧ (a ≤ x.ageMax.toNat → u.cells = t.cells) := by
  obtain ⟨g, hfuse, hget⟩ := LunSt.fuse_grid hx h union
  obtain ⟨g', hfold, -, hother⟩ := LunSt.foldl_fuseItem (tileItems union) (LunSt.unmarked_canon h)
  have hnone : ∀ i ∈ tileItems union, tileOf i ≠ k := fun i hi =>
    hk i (List.mem_filter.mp hi).1 (of_decide_eq_true (List.mem_filter.mp hi).2)
  rw [hfuse, hget k, hfold, hother k hnone, LunSt.unmarked_get h]
  exact ageTile_untouched _ rfl

/-- The tile of a union's one tile item is fused and of age 0. -/
theorem LunSt.fuse_applied {i : Item} (hi : tileItems union = [i]) (htile : tileOf i < 256) :
    let u := Tab.get GridTile.zero (l.fuse union).grid (tileOf i)
    u.age = 0 ∧ u.cells = List.zipWith (fuseValue (x.gain.getD (bits (i.payload.getD 0 0) 23 16) 0).toNat)
      (Tab.get GridTile.zero l.grid (tileOf i)).values (tileItemCells i.payload) := by
  obtain ⟨g, hfuse, hget⟩ := LunSt.fuse_grid hx h union
  obtain ⟨happlied, hage, hcells⟩ := LunSt.fuseItem_same (l := l.unmarked) hx htile
  rw [hfuse, hget, hi, List.foldl_cons, List.foldl_nil, ageTile_applied _ happlied]
  rw [LunSt.unmarked_get h] at hcells
  exact ⟨hage, hcells⟩

end

/-! TRACK (R265 to R267). -/

/-- The numbers of the tracks that are not free. -/
def liveNumbers (tr : Tab Track) : List Nat := (tr.filter (fun (p : Nat × Track) => decide (p.2.state ≠ .free))).map Prod.fst

/-- A table of tracks in the canonical form in which track `n` is free. -/
structure FreeAt (n : Nat) (tr : Tab Track) : Prop where
  canon : Tab.canon Track.zero tr = true
  free  : (Tab.get Track.zero tr n).state = .free

section
variable {tr : Tab Track} {n : Nat}

theorem mem_liveNumbers (hlive : (Tab.get Track.zero tr n).state ≠ .free) : n ∈ liveNumbers tr := by
  rcases Tab.get_eq_or_mem Track.zero tr n with hdefault | hmem
  · exact absurd (congrArg Track.state hdefault) hlive
  · exact List.mem_map_of_mem (List.mem_filter.mpr ⟨hmem, decide_eq_true hlive⟩)

theorem liveNumbers_nodup (h : Tab.canon Track.zero tr = true) : (liveNumbers tr).Nodup :=
  (List.filter_sublist.map Prod.fst).nodup (Tab.keys_nodup h)

/-- A listed track that is not free is another one. -/
theorem FreeAt.ne_of_mem (h : FreeAt n tr) {m : Nat} {k : Track} (hmem : (m, k) ∈ tr) (hlive : k.state ≠ .free) : n ≠ m := by
  rintro rfl
  exact hlive (Tab.get_of_mem (Tab.keys_nodup h.canon) hmem ▸ h.free)

theorem FreeAt.not_live (h : FreeAt n tr) : n ∉ liveNumbers tr := by
  intro hn
  obtain ⟨⟨m, k⟩, hmem, rfl⟩ := List.mem_map.mp hn
  obtain ⟨hmem, hlive⟩ := List.mem_filter.mp hmem
  exact h.ne_of_mem hmem (of_decide_eq_true hlive) rfl

theorem FreeAt.set (h : FreeAt n tr) {m : Nat} (hne : n ≠ m) (k : Track) : FreeAt n (Tab.set Track.zero tr m k) :=
  ⟨Tab.canon_set _ _ _ h.canon, by rw [Tab.get_set_other _ _ _ hne]; exact h.free⟩

/-- Releasing a list of tracks frees each of them. -/
theorem freeAt_release (h : Tab.canon Track.zero tr = true) {ks : List Nat} (hks : ks.Nodup) (hn : n ∈ ks) :
    FreeAt n (Tab.modifyAll Track.zero tr ks (fun _ k => k.release)) :=
  ⟨Tab.canon_modifyAll _ _ _ h, by rw [Tab.get_modifyAll _ _ _ _ hn hks]; rfl⟩

theorem FreeAt.modifyAll (h : FreeAt n tr) {ks : List Nat} (hn : n ∉ ks) (f : Nat → Track → Track) :
    FreeAt n (Tab.modifyAll Track.zero tr ks f) :=
  ⟨Tab.canon_modifyAll _ _ _ h.canon, by rw [Tab.get_modifyAll_other _ _ _ _ hn]; exact h.free⟩

end

/-- The tracks after the prediction: those that leave the grid are released, the others' variance grows (R265). -/
def LunSt.predicted (l : LunSt) (t : LunaTable) (pose : Int × Int × Int) : Tab Track :=
  let busy := liveNumbers l.tracks
  let left := busy.filter (fun n => (trackCell t pose (Tab.get Track.zero l.tracks n)).isNone)
  Tab.modifyAll Track.zero (Tab.modifyAll Track.zero l.tracks left (fun _ k => k.release)) (busy.filter (fun n => !(left.contains n)))
    (fun _ k => { k with var := k.var + t.qTrack.toNat })

/-- A track that leaves the grid is free after the prediction. -/
theorem LunSt.predicted_freeAt {l : LunSt} (h : Tab.canon Track.zero l.tracks = true) {t : LunaTable} {pose : Int × Int × Int} {n : Nat}
    (hlive : (Tab.get Track.zero l.tracks n).state ≠ .free) (hout : trackCell t pose (Tab.get Track.zero l.tracks n) = none) :
    FreeAt n (l.predicted t pose) := by
  have hleft : n ∈ (liveNumbers l.tracks).filter (fun n => (trackCell t pose (Tab.get Track.zero l.tracks n)).isNone) :=
    List.mem_filter.mpr ⟨mem_liveNumbers hlive, by rw [hout]; rfl⟩
  refine (freeAt_release h ((liveNumbers_nodup h).filter _) hleft).modifyAll (fun hstay => ?_) _
  have hnot := (List.mem_filter.mp hstay).2
  rw [List.contains_iff_mem.mpr hleft] at hnot
  cases hnot

/-- A fold that keeps its candidate or takes the next element ends with an element of the list. -/
theorem foldl_best_mem {α : Type} (f : Option α → α → Option α) (hf : ∀ b p, f b p = some p ∨ f b p = b) (l : List α) {p : α}
    (hp : l.foldl f none = some p) : p ∈ l := by
  refine List.foldlRecOn (motive := fun b => ∀ q, b = some q → q ∈ l) l f (by simp) (fun b hb x hx q hq => ?_) p hp
  rcases hf b x with h | h
  · rw [h] at hq
    exact Option.some.inj hq ▸ hx
  · exact hb q (h ▸ hq)

/-- The track created for a detection that lies in no track's gate (R266). -/
def newTrack (t : LunaTable) (beat : Word) (d : Detection) (gen : Half) : Track :=
  { state := .candidate, gen := gen, cls := BitVec.ofNat 8 d.cls, north := d.north, east := d.east, var := (t.detSig.toNat : Int) ^ 2,
    hits := 1, window := 1, consec := 0, misses := 0, born := beat }

/-- An association step writes no track, or one listed as not free, or one that was free at the start (R266). -/
theorem assocStep_cases (t : LunaTable) (beat : Word) (a : Assoc) (d : Detection) :
    (assocStep t beat a d).tracks = a.tracks ∨
      ∃ m k, (assocStep t beat a d).tracks = Tab.set Track.zero a.tracks m k ∧
        ((∃ old, (m, old) ∈ a.tracks ∧ old.state ≠ .free) ∨ m ∉ a.busy) := by
  unfold assocStep
  dsimp only
  split
  · next m old hbest =>
    have hopen : (m, old) ∈ _ := foldl_best_mem _ (fun b p => by
      cases b with
      | none => exact .inl rfl
      | some c => exact (Decidable.em (closer t d p.2 c.2 = true)).imp (fun hc => if_pos hc) (fun hc => if_neg hc)) _ hbest
    obtain ⟨hgated, -⟩ := List.mem_filter.mp hopen
    obtain ⟨hlive, -⟩ := List.mem_filter.mp hgated
    obtain ⟨hmem, hstate⟩ := List.mem_filter.mp hlive
    exact .inr ⟨m, _, rfl, .inl ⟨old, hmem, of_decide_eq_true hstate⟩⟩
  · split
    · split
      · exact .inl rfl
      · next m hfind =>
        refine .inr ⟨m, newTrack t beat d ((Tab.get Track.zero a.tracks m).gen + 1), rfl, .inr (fun hbusy => ?_)⟩
        have hfree := List.find?_some hfind
        rw [List.contains_iff_mem.mpr hbusy] at hfree
        cases hfree
    · exact .inl rfl

theorem assocStep_busy (t : LunaTable) (beat : Word) (a : Assoc) (d : Detection) : (assocStep t beat a d).busy = a.busy := by
  unfold assocStep
  dsimp only
  repeat' split
  all_goals rfl

/-- A free track that was in use at the start stays free. -/
theorem assocStep_freeAt {t : LunaTable} {beat : Word} {a : Assoc} {n : Nat} (h : FreeAt n a.tracks) (hbusy : n ∈ a.busy) (d : Detection) :
    FreeAt n (assocStep t beat a d).tracks := by
  rcases assocStep_cases t beat a d with hsame | ⟨m, k, hset, hm⟩
  · exact hsame ▸ h
  · rw [hset]
    refine h.set ?_ k
    rcases hm with ⟨old, hmem, hlive⟩ | hfree
    · exact h.ne_of_mem hmem hlive
    · exact fun e => hfree (e ▸ hbusy)

theorem foldl_assocStep_freeAt {t : LunaTable} {beat : Word} {a : Assoc} {n : Nat} (h : FreeAt n a.tracks) (hbusy : n ∈ a.busy)
    (ds : List Detection) : FreeAt n (ds.foldl (assocStep t beat) a).tracks :=
  (List.foldlRecOn (motive := fun a : Assoc => FreeAt n a.tracks ∧ n ∈ a.busy) ds _ ⟨h, hbusy⟩
    (fun a ha d _ => ⟨assocStep_freeAt ha.1 ha.2 d, assocStep_busy t beat a d ▸ ha.2⟩)).1

/-- Table 9.3 for one track of the list, with the events so far. -/
def advanceOne (t : LunaTable) (opps : List Nat) (a : Assoc) (acc : Tab Track × List Ev) (n : Nat) : Tab Track × List Ev :=
  let r := (Tab.get Track.zero acc.1 n).advance t n (opps.contains n) (a.assigned.any (fun q => decide (q.1 = n))) (a.created.contains n)
  (Tab.set Track.zero acc.1 n r.1, acc.2 ++ r.2)

theorem foldl_advanceOne_freeAt {t : LunaTable} {opps : List Nat} {a : Assoc} {n : Nat} {ns : List Nat} (hn : n ∉ ns)
    {acc : Tab Track × List Ev} (h : FreeAt n acc.1) : FreeAt n (ns.foldl (advanceOne t opps a) acc).1 :=
  List.foldlRecOn (motive := fun acc : Tab Track × List Ev => FreeAt n acc.1) ns _ h
    (fun _ hacc _ hm => hacc.set (fun e => hn (e ▸ hm)) _)

theorem LunSt.checkBindings_frame (l : LunSt) : ∃ b, l.checkBindings.1 = { l with bindings := b } := by
  refine List.foldlRecOn (motive := fun a : LunSt × List Ev => ∃ b, a.1 = { l with bindings := b }) _ _ ⟨l.bindings, rfl⟩
    (fun a ha k _ => ?_)
  obtain ⟨b, hb⟩ := ha
  dsimp only
  split
  · exact ⟨_, by rw [hb]⟩
  · exact ⟨b, hb⟩

/-- The association's working state after the prediction. -/
def LunSt.assocStart (l : LunSt) (t : LunaTable) (pose : Int × Int × Int) : Assoc :=
  { tracks := l.predicted t pose, assigned := [], busy := liveNumbers l.tracks, created := [], refused := 0, dups := 0 }

/-- TRACK: the prediction, the association of some detections and the states of Table 9.3; the grid and the calibration stay. -/
theorem LunSt.track_phases {l : LunSt} {t : LunaTable} (ht : l.table = some t) (pose : Int × Int × Int) (beat : Word) :
    (l.track pose beat).1.grid = l.grid ∧ (l.track pose beat).1.cal = l.cal ∧
      ∃ (ds : List Detection) (opps : List Nat),
        let a := ds.foldl (assocStep t beat) (l.assocStart t pose)
        (l.track pose beat).1.tracks = ((liveNumbers a.tracks).foldl (advanceOne t opps a) (a.tracks, [])).1 := by
  unfold LunSt.track
  rw [ht]
  dsimp only
  generalize hm : LunSt.checkBindings _ = m
  obtain ⟨b, hb⟩ := LunSt.checkBindings_frame _
  rw [hm] at hb
  rw [hb]
  exact ⟨rfl, rfl, _, _, rfl⟩

/-- A track whose predicted cell lies outside the grid is free after TRACK (R265). -/
theorem LunSt.track_outside {l : LunSt} {t : LunaTable} (ht : l.table = some t) (h : Tab.canon Track.zero l.tracks = true)
    {pose : Int × Int × Int} {n : Nat} (hlive : (Tab.get Track.zero l.tracks n).state ≠ .free)
    (hout : trackCell t pose (Tab.get Track.zero l.tracks n) = none) (beat : Word) :
    (Tab.get Track.zero (l.track pose beat).1.tracks n).state = .free := by
  obtain ⟨-, -, ds, opps, htracks⟩ := LunSt.track_phases ht pose beat
  have hassoc := foldl_assocStep_freeAt (t := t) (beat := beat) (a := l.assocStart t pose) (LunSt.predicted_freeAt h hlive hout)
    (mem_liveNumbers hlive) ds
  rw [htracks]
  exact (foldl_advanceOne_freeAt hassoc.not_live hassoc).free

/-! LUNA_OP on a ready engine. -/

section
variable {s : State} {op : OpRun} (h : s.engineReady op)
include h

theorem exec_fuse_ready : ∃ t, exec (.lunaOp op .fuse) s = .next t ∧ t.lun = s.lun.fuse s.beat.union := by
  obtain ⟨v, hop⟩ := State.engineOp_ready h (fun a => { a with lun := a.lun.fuse a.beat.union })
  exact ⟨_, congrArg Host.Outcome.next hop, rfl⟩

theorem exec_track_ready :
    let r := (s.lun.track (s.est.prevPose.getD 0 0, s.est.prevPose.getD 1 0, s.est.prevPose.getD 2 0) (wordN s.beat.n.toNat)).1
    ∃ t, exec (.lunaOp op .track) s = .next t ∧ t.lun.cal = r.cal ∧ t.lun.grid = r.grid ∧ t.lun.tracks = r.tracks := by
  obtain ⟨v, hop⟩ := State.engineOp_ready h State.trackStep
  refine ⟨_, congrArg Host.Outcome.next hop, ?_, ?_, ?_⟩ <;>
    · rw [State.trackStep, State.raise_lun]

theorem exec_layers_zero (source : BitVec 3) : ∃ t, exec (.lunaOp op (.layers source 0)) s = .next t ∧ t.lun = s.lun := by
  obtain ⟨v, hop⟩ := State.engineOp_ready h (fun a => a.layers source.toNat 0)
  exact ⟨_, congrArg Host.Outcome.next hop, rfl⟩

end

/-- What O33 says of LUNA_OP holds of every state whose grid and tracks keep the canonical form that log 6 chooses for each table. -/
theorem lunaOperations_of_canon (s : State) (op : OpRun) (x : LunaTable) (hop : s.engineReady op) (hx : s.lun.table = some x)
    (hgrid : Tab.canon GridTile.zero s.lun.grid = true) (htracks : Tab.canon Track.zero s.lun.tracks = true) :
    (∃ t, exec (.lunaOp op .fuse) s = .next t ∧ t.lun.cal = s.lun.cal ∧ t.lun.tracks = s.lun.tracks ∧
      (∀ k, (∀ i ∈ s.beat.union, i.kind = 4 → tileOf i ≠ k) →
        let v := Tab.get GridTile.zero s.lun.grid k
        let u := Tab.get GridTile.zero t.lun.grid k
        let a := min (v.age + 1) 65535
        u.age = a ∧ (x.ageMax.toNat < a → u.cells = []) ∧ (a ≤ x.ageMax.toNat → u.cells = v.cells)) ∧
      (∀ i, tileItems s.beat.union = [i] → tileOf i < 256 →
        let u := Tab.get GridTile.zero t.lun.grid (tileOf i)
        u.age = 0 ∧ u.cells = List.zipWith (fuseValue (x.gain.getD (bits (i.payload.getD 0 0) 23 16) 0).toNat)
          (Tab.get GridTile.zero s.lun.grid (tileOf i)).values (tileItemCells i.payload))) ∧
    (∃ t, exec (.lunaOp op .track) s = .next t ∧ t.lun.cal = s.lun.cal ∧ t.lun.grid = s.lun.grid ∧
      ∀ n, (Tab.get Track.zero s.lun.tracks n).state ≠ .free →
        trackCell x (s.est.prevPose.getD 0 0, s.est.prevPose.getD 1 0, s.est.prevPose.getD 2 0) (Tab.get Track.zero s.lun.tracks n) = none →
        (Tab.get Track.zero t.lun.tracks n).state = .free) ∧
    (∀ (g : Nat) (f u : Int), -128 ≤ fuseValue g f u ∧ fuseValue g f u ≤ 127) ∧
    (∀ source : BitVec 3, ∃ t, exec (.lunaOp op (.layers source 0)) s = .next t ∧ t.lun = s.lun) := by
  refine ⟨?_, ?_, fuseValue_bounds, exec_layers_zero hop⟩
  · obtain ⟨t, hexec, hlun⟩ := exec_fuse_ready hop
    obtain ⟨g, hfuse, -⟩ := LunSt.fuse_grid hx hgrid s.beat.union
    refine ⟨t, hexec, by rw [hlun, hfuse], by rw [hlun, hfuse], fun k hk => ?_, fun i hi htile => ?_⟩
    · rw [hlun]
      exact LunSt.fuse_untouched hx hgrid _ hk
    · rw [hlun]
      exact LunSt.fuse_applied hx hgrid _ hi htile
  · obtain ⟨t, hexec, hcal, hkept, hnew⟩ := exec_track_ready hop
    obtain ⟨hgrid', hcal', -⟩ := LunSt.track_phases hx
      (s.est.prevPose.getD 0 0, s.est.prevPose.getD 1 0, s.est.prevPose.getD 2 0) (wordN s.beat.n.toNat)
    refine ⟨t, hexec, hcal.trans hcal', hkept.trans hgrid', fun n hlive hout => ?_⟩
    rw [hnew]
    exact LunSt.track_outside hx htracks hlive hout _

/-! The grid out of the canonical form. -/

/-- A table that keeps a tile's values up to an age of 100 beats. -/
def agingTable : LunaTable :=
  { magic := 0x44524758, format := 1, cell := 0, nClass := 1, gridX0 := 0, gridY0 := 0, ageMax := 100, detCh := 0, detThr := 1, ofsXCh := 1
    ofsYCh := 2, classCh := 3, birthN := 1, birthM := 1, confK := 1, missMax := 1, gate := 1, detSig := 1, qTrack := 0, confSig := 1
    waterline := 0, gain := [], frameBeats := [], quota := [], cameras := [], lidars := [] }

/-- An operation of engine 1. -/
def fuseOp : OpRun := { engine := 1, pair := false, opIndex := 0, issue := 0, start := 0, stall := 0, complete := 0 }

/-- A running device whose grid lists tile 3 twice. No write brings a table into this form (`Tab.canon_set`). -/
def tileListedTwice : State :=
  let tile : GridTile := { age := 0, cells := [], instant := 0, applied := false }
  { State.reset with
    sch := { SchSt.reset with running := true }
    lun := { LunSt.reset with table := some agingTable, grid := [(3, tile), (3, tile)] } }

/-- FUSE without items ages a tile that is listed twice by two beats. -/
theorem tileListedTwice_fuse : (Tab.get GridTile.zero (tileListedTwice.lun.fuse tileListedTwice.beat.union).grid 3).age = 2 := by decide

/-- Refutes O33: the statement ranges over grids that list a tile twice, and there FUSE ages the tile once for each entry, from 0 to 2 and
not to 1. It holds where the tables keep the canonical form: `lunaOperations_of_canon`. -/
theorem not_lunaOperations : ¬ Obligations.LunaOperations := by
  intro h
  have hready : tileListedTwice.engineReady fuseOp := by decide
  obtain ⟨⟨t, hexec, -, -, huntouched, -⟩, -⟩ := h tileListedTwice fuseOp agingTable hready rfl
  obtain ⟨t', hexec', hlun⟩ := exec_fuse_ready hready
  obtain rfl : t = t' := Host.Outcome.next.inj (hexec.symm.trans hexec')
  have hage : (Tab.get GridTile.zero t.lun.grid 3).age = 1 := (huntouched 3 (fun i hi => by cases hi)).1
  rw [hlun, tileListedTwice_fuse] at hage
  cases hage

end Sys2Proof.Machine
end

section
/-! SUPPORT. Host commands on thrust devices, sectors and variants (10_thrust_allocation.md R284, R286, R290, R293, Table 10.4): what each
leaves of the ALC block, and the statement on them. -/

namespace Sys2Proof.Machine

open Sys2Proof

/-- A union command in its turn leaves the ALC block that its judgement `f` leaves (R404). -/
theorem State.unionCmd_alc {s : State} {h : HostRef} (ht : s.unionTurn h) (op : Half) (f : State → CmdR) :
    (s.unionCmd h op f).alc = (f (s.taken h)).1.alc := by
  rw [State.unionCmd_turn ht]
  rfl

/-- What a configured device's state reads as in the table of devices. -/
theorem AlcSt.dev_state_of_configured {a : AlcSt} {k : Nat} (hconf : a.stateOf k ≠ .unused) : (a.dev k).state = a.stateOf k := by
  unfold AlcSt.stateOf at hconf ⊢
  split at hconf
  · exact absurd rfl hconf
  · split at hconf
    · next hk => exact (if_pos hk).symm
    · exact absurd rfl hconf

section
variable {s : State} {h : HostRef} {k : Nat}

/-! OUT. -/

/-- OUT of a device that is not configured is refused (R286). -/
theorem State.deviceOut_unused (hunused : s.alc.stateOf k = .unused) :
    (s.deviceOut k).1.alc = { s.alc with sticky := s.alc.sticky ||| 512 } := by
  simp only [State.deviceOut, hunused]
  rfl

/-- OUT of a lost device makes HOST its reason. -/
theorem State.deviceOut_lost (hlost : s.alc.stateOf k = .lost) :
    (s.deviceOut k).1.alc = s.alc.setDev k { s.alc.dev k with reason := 3 } := by
  simp only [State.deviceOut, hlost]
  rfl

/-- OUT of an available or locked device loses it. -/
theorem State.deviceOut_inService (hconf : s.alc.stateOf k ≠ .unused) (hlost : s.alc.stateOf k ≠ .lost) :
    (s.deviceOut k).1.alc = { s.alc.setDev k ((s.alc.dev k).lose k 3).1 with sticky := s.alc.sticky ||| 1 } := by
  unfold State.deviceOut
  split
  case h_1 hunused => exact absurd hunused hconf
  case h_2 h => exact absurd h hlost
  case h_3 => exact State.raise_alc _ _

theorem State.deviceOut_others {j : Nat} (hj : j ≠ k) : (s.deviceOut k).1.alc.dev j = s.alc.dev j := by
  by_cases hunused : s.alc.stateOf k = .unused
  · rw [State.deviceOut_unused hunused]
    rfl
  by_cases hlost : s.alc.stateOf k = .lost
  · rw [State.deviceOut_lost hlost]
    exact s.alc.dev_setDev_other _ hj
  · rw [State.deviceOut_inService hunused hlost]
    exact s.alc.dev_setDev_other ((s.alc.dev k).lose k 3).1 hj

/-- OUT leaves a configured device LOST with reason HOST, and counts the loss of one in service. -/
theorem State.deviceOut_configured (hconf : s.alc.stateOf k ≠ .unused) :
    let a := (s.deviceOut k).1.alc
    (a.dev k).state = .lost ∧ (a.dev k).reason = 3 ∧
      (s.alc.stateOf k ≠ .lost → (a.dev k).losses = (s.alc.dev k).losses + 1 ∧ a.sticky.getLsbD 0 = true) := by
  intro a
  by_cases hlost : s.alc.stateOf k = .lost
  · have hdev : a.dev k = { s.alc.dev k with reason := 3 } := by simp only [a, State.deviceOut_lost hlost, AlcSt.dev_setDev]
    rw [hdev]
    exact ⟨(AlcSt.dev_state_of_configured hconf).trans hlost, rfl, absurd hlost⟩
  · have halc : a = _ := State.deviceOut_inService hconf hlost
    have hdev : a.dev k = ((s.alc.dev k).lose k 3).1 := by
      rw [halc]
      exact s.alc.dev_setDev k ((s.alc.dev k).lose k 3).1
    rw [hdev, halc]
    exact ⟨rfl, rfl, fun _ => ⟨rfl, by simp⟩⟩

/-! IN and UNLOCK. -/

/-- The conditions of Table 10.4 for IN: a lost device that the start did not lose, with its status and feedback well in this beat. -/
def State.mayReturn (s : State) (k : Nat) : Prop :=
  s.alc.stateOf k = .lost ∧ (s.alc.dev k).reason ≠ 4 ∧ (s.alc.dev k).healthy = true ∧ (s.alc.dev k).fbNow = true ∧
    (s.alc.dev k).eventNow = false

theorem State.deviceIn_returns (hmay : s.mayReturn k) :
    (s.deviceIn k).1.alc = s.alc.setDev k { s.alc.dev k with state := .available, reason := 0, thrust := 0, mismatch := 0 } := by
  obtain ⟨hlost, hreason, hhealthy, hfb, hevent⟩ := hmay
  rw [State.deviceIn, if_pos ⟨hlost, hreason, hhealthy, hfb, Bool.eq_false_iff.mp hevent⟩]
  exact State.raise_alc _ _

theorem State.deviceIn_refused (hmay : ¬ s.mayReturn k) : (s.deviceIn k).1.alc = { s.alc with sticky := s.alc.sticky ||| 512 } := by
  rw [State.deviceIn, if_neg (fun ⟨hlost, hreason, hhealthy, hfb, hevent⟩ =>
    hmay ⟨hlost, hreason, hhealthy, hfb, Bool.eq_false_iff.mpr hevent⟩)]
  rfl

theorem State.deviceIn_others {j : Nat} (hj : j ≠ k) : (s.deviceIn k).1.alc.dev j = s.alc.dev j := by
  by_cases hmay : s.mayReturn k
  · rw [State.deviceIn_returns hmay]
    exact s.alc.dev_setDev_other _ hj
  · rw [State.deviceIn_refused hmay]
    rfl

section
variable {c : AlcDevCfg}

theorem State.deviceUnlock_unlocks (hcfg : s.alc.devCfg k = some c) (hlocked : s.alc.stateOf k = .locked)
    (hhealthy : (s.alc.dev k).healthy = true) (hfb : (s.alc.dev k).fbNow = true) (hevent : (s.alc.dev k).eventNow = false)
    (hnear : angleDist (s.alc.dev k).fbAngle (s.alc.dev k).dLock ≤ c.lockTol.toNat) :
    (s.deviceUnlock k).1.alc = s.alc.setDev k { s.alc.dev k with state := .available, reason := 0, mismatch := 0 } := by
  simp only [State.deviceUnlock, hcfg]
  rw [if_pos ⟨hlocked, hhealthy, hfb, hnear, Bool.eq_false_iff.mp hevent⟩]
  exact State.raise_alc _ _

theorem State.deviceUnlock_refused (hcfg : s.alc.devCfg k = some c)
    (hnot : s.alc.stateOf k ≠ .locked ∨ c.lockTol.toNat < angleDist (s.alc.dev k).fbAngle (s.alc.dev k).dLock) :
    (s.deviceUnlock k).1.alc = { s.alc with sticky := s.alc.sticky ||| 512 } := by
  simp only [State.deviceUnlock, hcfg]
  rw [if_neg (fun ⟨hlocked, _, _, hnear, _⟩ => hnot.elim (absurd hlocked) (Nat.not_lt.mpr hnear))]
  rfl

theorem State.deviceUnlock_others (hcfg : s.alc.devCfg k = some c) {j : Nat} (hj : j ≠ k) :
    (s.deviceUnlock k).1.alc.dev j = s.alc.dev j := by
  simp only [State.deviceUnlock, hcfg]
  split
  case isTrue =>
    refine (congrArg (AlcSt.dev · j) (State.raise_alc _ _)).trans ?_
    exact s.alc.dev_setDev_other { s.alc.dev k with state := .available, reason := 0, mismatch := 0 } hj
  case isFalse => rfl

end

/-! Sectors and variants. -/

theorem State.sectorWrite_configured (hconf : s.alc.stateOf k ≠ .unused) (mask : BitVec 4) :
    (s.sectorWrite k mask).1.alc = s.alc.setDev k { s.alc.dev k with enabled := mask } := by
  unfold State.sectorWrite
  split
  case h_1 hunused => exact absurd hunused hconf
  case h_2 => rfl

/-- The variant of the active bank that an override names. -/
def State.variantNamed (s : State) (v : BitVec 12) : Option VariantEntry :=
  s.variants.find? (fun e => decide (e.id = v.setWidth 16))

theorem State.overrideWrite_usable {v : BitVec 12} {x : VariantEntry} (hx : s.variantNamed v = some x) (husable : s.alc.usable x = true) :
    (s.overrideWrite v true).1.alc = { s.alc with override := some x.id, ovrReg := v.setWidth 16 ||| 0x8000 } := by
  unfold State.variantNamed at hx
  simp only [State.overrideWrite, hx, husable]
  rfl

/-- An override of no variant of the bank, or of one that is not usable, is refused. -/
theorem State.overrideWrite_refused {v : BitVec 12} (hnone : ∀ x, s.variantNamed v = some x → s.alc.usable x = false) :
    (s.overrideWrite v true).1.alc = { s.alc with sticky := s.alc.sticky ||| 256 } := by
  unfold State.variantNamed at hnone
  simp only [State.overrideWrite, Bool.not_true, Bool.false_eq_true, if_false]
  split
  case h_1 x hx =>
    rw [if_neg (Bool.eq_false_iff.mp (hnone x hx))]
    exact State.raise_alc _ _
  case h_2 => exact State.raise_alc _ _

/-! The commands in their turn. -/

theorem exec_deviceOut_turn (ht : s.unionTurn h) (device : BitVec 6) :
    ∃ t, exec (.deviceOut h device) s = .next t ∧ t.alc = ((s.taken h).deviceOut device.toNat).1.alc :=
  ⟨_, rfl, State.unionCmd_alc ht _ _⟩

theorem exec_deviceIn_turn (ht : s.unionTurn h) (device : BitVec 6) :
    ∃ t, exec (.deviceIn h device) s = .next t ∧ t.alc = ((s.taken h).deviceIn device.toNat).1.alc :=
  ⟨_, rfl, State.unionCmd_alc ht _ _⟩

theorem exec_deviceUnlock_turn (ht : s.unionTurn h) (device : BitVec 6) :
    ∃ t, exec (.deviceUnlock h device) s = .next t ∧ t.alc = ((s.taken h).deviceUnlock device.toNat).1.alc :=
  ⟨_, rfl, State.unionCmd_alc ht _ _⟩

theorem exec_sectorEnable_turn (ht : s.unionTurn h) (device : BitVec 6) (mask : BitVec 4) :
    ∃ t, exec (.sectorEnable h device mask) s = .next t ∧ t.alc = ((s.taken h).sectorWrite device.toNat mask).1.alc :=
  ⟨_, rfl, State.unionCmd_alc ht _ _⟩

theorem exec_variantOverride_turn (ht : s.unionTurn h) (v : BitVec 12) (enable : Bool) :
    ∃ t, exec (.variantOverride h v enable) s = .next t ∧ t.alc = ((s.taken h).overrideWrite v enable).1.alc :=
  ⟨_, rfl, State.unionCmd_alc ht _ _⟩

end

/-- Settles O35: each command leaves one write to its device or to the override, or a sticky flag alone. -/
theorem deviceCommands : Obligations.DeviceCommands := by
  intro s h device ht k d others
  refine ⟨?_, ?_, fun c hcfg => ?_, fun m hconf => ?_, fun v => ⟨fun x hx husable => ?_, fun hnone => ?_, ?_⟩⟩
  · obtain ⟨t, hexec, halc⟩ := exec_deviceOut_turn ht device
    refine ⟨t, hexec, ?_⟩
    simp only [others]
    rw [halc]
    refine ⟨fun j => State.deviceOut_others (s := s.taken h), fun hunused => ?_, State.deviceOut_configured (s := s.taken h)⟩
    rw [State.deviceOut_unused (s := s.taken h) hunused]
    exact ⟨rfl, rfl⟩
  · obtain ⟨t, hexec, halc⟩ := exec_deviceIn_turn ht device
    refine ⟨t, hexec, ?_⟩
    simp only [others]
    rw [halc]
    refine ⟨fun j => State.deviceIn_others (s := s.taken h), fun hmay => ?_, fun hmay => ?_⟩
    · rw [State.deviceIn_returns (s := s.taken h) hmay, AlcSt.dev_setDev]
      exact ⟨rfl, rfl, rfl⟩
    · rw [State.deviceIn_refused (s := s.taken h) hmay]
      exact ⟨rfl, rfl⟩
  · obtain ⟨t, hexec, halc⟩ := exec_deviceUnlock_turn ht device
    refine ⟨t, hexec, ?_⟩
    simp only [others]
    rw [halc]
    refine ⟨fun j => State.deviceUnlock_others (s := s.taken h) hcfg, fun ⟨hlocked, hhealthy, hfb, hevent, hnear⟩ => ?_, fun hnot => ?_⟩
    · rw [State.deviceUnlock_unlocks (s := s.taken h) hcfg hlocked hhealthy hfb hevent hnear, AlcSt.dev_setDev]
      exact ⟨rfl, rfl⟩
    · rw [State.deviceUnlock_refused (s := s.taken h) hcfg hnot]
      exact ⟨rfl, rfl⟩
  · obtain ⟨t, hexec, halc⟩ := exec_sectorEnable_turn ht device m
    rw [State.sectorWrite_configured (s := s.taken h) hconf] at halc
    exact ⟨t, hexec, fun j hj => halc ▸ s.alc.dev_setDev_other _ hj, halc ▸ s.alc.dev_setDev k _⟩
  · obtain ⟨t, hexec, halc⟩ := exec_variantOverride_turn ht v true
    rw [State.overrideWrite_usable (s := s.taken h) hx husable] at halc
    exact ⟨t, hexec, congrArg AlcSt.override halc, (congrArg AlcSt.devices halc).trans rfl⟩
  · obtain ⟨t, hexec, halc⟩ := exec_variantOverride_turn ht v true
    exact ⟨t, hexec, halc.trans (State.overrideWrite_refused (s := s.taken h) hnone)⟩
  · obtain ⟨t, hexec, halc⟩ := exec_variantOverride_turn ht v false
    exact ⟨t, hexec, congrArg AlcSt.override halc⟩

end Sys2Proof.Machine
end

section
/-! SUPPORT. The allocator's rules for devices and variants (10_thrust_allocation.md R284, R285, R291, R292, R295): step 1 of a beat on one
device, the clamps of its thrust, the variant selected, and the statement on them. -/

namespace Sys2Proof.Machine

open Sys2Proof

/-! Step 1 of a beat (R284, R285). -/

/-- The beat's status says that the device is healthy, or the device has no status field (R285). -/
def statusHealthy (c : AlcDevCfg) (read : FieldReader) : Bool :=
  if c.statusField = 0 then true else (read c.statusField c.fbSide).any (fun v => v.1.testBit 0 && !v.1.testBit 1)

/-- The beat holds the device's feedback, or the device has no feedback field (R285). -/
def feedbackPresent (c : AlcDevCfg) (read : FieldReader) : Bool :=
  decide (c.fbField = 0) || (read c.fbField c.fbSide).isSome

section
variable {d : AlcDev} {k : Nat} {c : AlcDevCfg} {read : FieldReader}

theorem statusHealthy_fault {v : Nat × Nat} (hfield : c.statusField ≠ 0) (hstatus : read c.statusField c.fbSide = some v)
    (hfault : v.1.testBit 1 = true) : statusHealthy c read = false := by
  rw [statusHealthy, if_neg hfield, hstatus, Option.any_some, hfault, Bool.not_true, Bool.and_false]

theorem statusHealthy_iff (hfield : c.statusField ≠ 0) : statusHealthy c read = true ↔
    ∃ v, read c.statusField c.fbSide = some v ∧ v.1.testBit 0 = true ∧ v.1.testBit 1 = false := by
  simp only [statusHealthy, if_neg hfield, Option.any_eq_true, Bool.and_eq_true, Bool.not_eq_true']

theorem feedbackPresent_of_noField (hfb : c.fbField = 0) : feedbackPresent c read = true := by
  rw [feedbackPresent, decide_eq_true hfb, Bool.true_or]

/-- A LOST device returns where the start lost it and its status and feedback are well, and not else (R284). -/
theorem AlcDev.update_lost (hlost : d.state = .lost) : (d.update k c read).1.state =
    if d.reason = 4 ∧ statusHealthy c read = true ∧ feedbackPresent c read = true then .available else .lost := by
  unfold AlcDev.update
  simp only [hlost]
  refine (apply_ite (fun r : AlcDev × List Ev => r.1.state) _ _ _).trans
    (if_congr (and_congr_right fun _ => and_congr (Eq.congr_left ?_) (Eq.congr_left ?_)) rfl rfl)
  · unfold statusHealthy
    split
    case isTrue => rfl
    case isFalse => cases read c.statusField c.fbSide <;> rfl
  · unfold feedbackPresent
    split
    case isTrue hfb => rw [decide_eq_true hfb, Bool.true_or, Bool.true_or]
    case isFalse => rfl

/-- A status with FAULT loses a device in service (R284). -/
theorem AlcDev.update_fault {v : Nat × Nat} (hfield : c.statusField ≠ 0) (hstatus : read c.statusField c.fbSide = some v)
    (hfault : v.1.testBit 1 = true) (hservice : d.state = .available ∨ d.state = .locked) :
    (d.update k c read).1.state = .lost ∧ (d.update k c read).1.reason = 1 ∧
      (d.update k c read).2 = [(0x0901, [wordN k, 1, wordN d.state.code])] := by
  unfold AlcDev.update
  rcases hservice with hstate | hstate <;> simp only [hfield, hstatus, hfault, hstate, if_false, if_true] <;> exact ⟨rfl, rfl, rfl⟩

end

/-! The clamps of the thrust (R295). -/

section
variable {d : AlcDev} {c : AlcDevCfg}

/-- A clamped thrust lies inside the limits and within the rate of a last output that lies inside the limits. -/
theorem clampThrust_bounds {t : Int} (hrev : -(devRev c) ≤ t) (hfull : t ≤ one31) (hrate : 0 ≤ devDt c) (v : Int) :
    -(devRev c) ≤ (clampThrust c t v).1 ∧ (clampThrust c t v).1 ≤ one31 ∧ ((clampThrust c t v).1 - t).natAbs ≤ (devDt c).natAbs := by
  have hwindow : max (-(devRev c)) (t - devDt c) ≤ min one31 (t + devDt c) := by omega
  obtain ⟨hlow, hhigh⟩ := clampI_bounds hwindow (clampI (-(devRev c)) one31 v)
  have hthrust : (clampThrust c t v).1 = clampI (max (-(devRev c)) (t - devDt c)) (min one31 (t + devDt c)) (clampI (-(devRev c)) one31 v) := rfl
  rw [hthrust]
  omega

theorem postDevice_lost (hlost : d.state = .lost) (inV : DevState) (x : List Int) (pin : Bool) :
    postDevice d c inV x pin = { d with thrust := 0, prevAngle := d.angle, dflags := if pin then 1 else 0 } :=
  if_pos hlost

theorem holdDevice_lost (hlost : d.state = .lost) (pin : Bool) :
    holdDevice d c pin = { d with thrust := 0, prevAngle := d.angle, dflags := if pin then 1 else 0 } :=
  if_pos hlost

/-- Post-processing clamps the thrust of every device that is not LOST, whatever the result gives for it. -/
theorem postDevice_thrust (hlost : d.state ≠ .lost) (inV : DevState) (x : List Int) (pin : Bool) :
    ∃ v, (postDevice d c inV x pin).thrust = (clampThrust c d.thrust v).1 := by
  unfold postDevice
  dsimp only
  rw [if_neg hlost]
  split
  case isTrue =>
    split <;> split <;> exact ⟨_, rfl⟩
  case isFalse =>
    split <;> exact ⟨_, rfl⟩

/-- A held output is the last one, or a pinned device's, clamped on its way to 0. -/
theorem holdDevice_thrust (hlost : d.state ≠ .lost) (pin : Bool) :
    (holdDevice d c pin).thrust = if pin then (clampThrust c d.thrust 0).1 else d.thrust := by
  unfold holdDevice
  dsimp only
  rw [if_neg hlost]
  split <;> rfl

end

/-! The selection (R291). -/

section
variable {a : AlcSt} {v : VariantEntry}

/-- Variant 0 holds every device AVAILABLE, at or below any state. -/
theorem AlcSt.usable_of_noMask (hloss : v.lossMask = 0) (hlock : v.lockMask = 0) : a.usable v = true := by
  refine List.all_eq_true.mpr fun p _ => decide_eq_true ?_
  have havail : variantState v p.1 = .available := by simp [variantState, hloss, hlock]
  rw [havail]
  exact Nat.zero_le _

theorem AlcSt.usable_of_matches (hexact : a.matches v = a.cfgs.length) : a.usable v = true := by
  have hall := List.length_filter_eq_length_iff.mp hexact
  refine List.all_eq_true.mpr fun p hp => decide_eq_true ?_
  rw [of_decide_eq_true (hall p hp)]

/-- A fold that keeps one of its two candidates at each step ends with a member of a list that is not empty. -/
theorem foldl_keepsOne_mem {α : Type} {f : Option α → α → Option α} (hfirst : ∀ v, f none v = some v)
    (hnext : ∀ w v, f (some w) v = some v ∨ f (some w) v = some w) {l : List α} (hl : l ≠ []) : ∃ v ∈ l, l.foldl f none = some v := by
  obtain ⟨w, l, rfl⟩ := List.exists_cons_of_ne_nil hl
  rw [List.foldl_cons, hfirst]
  refine List.foldlRecOn (motive := fun b => ∃ v ∈ w :: l, b = some v) l f ⟨w, List.mem_cons_self, rfl⟩ ?_
  rintro _ ⟨v, hv, rfl⟩ x hx
  obtain hnew | hold := hnext v x
  · exact ⟨x, List.mem_cons_of_mem w hx, hnew⟩
  · exact ⟨v, hv, hold⟩

/-- An override of a usable variant is selected; any other leaves the selection as it is without an override. -/
theorem AlcSt.select_override (a : AlcSt) (vs : List VariantEntry) :
    (∃ v ∈ vs, a.usable v = true ∧ (a.select vs).1 = v.id) ∨ a.select vs = ({ a with override := none } : AlcSt).select vs := by
  cases hover : a.override with
  | none =>
    unfold AlcSt.select
    rw [hover]
    exact .inr rfl
  | some o =>
    unfold AlcSt.select
    simp only [hover]
    split
    case h_1 v hnamed =>
      split
      case isTrue husable =>
        have hid : v.id = o := by simpa using List.find?_some hnamed
        exact .inl ⟨v, List.mem_of_find?_eq_some hnamed, husable, hid.symm⟩
      case isFalse => exact .inr rfl
    case h_2 => exact .inr rfl

/-- Without an override the selection is a variant that matches every device, or the best of the usable ones; where some variant is
usable, so is either. -/
theorem AlcSt.select_noOverride (hover : a.override = none) {vs : List VariantEntry} (hv : v ∈ vs) (husable : a.usable v = true) :
    ∃ w ∈ vs, a.usable w = true ∧ (a.select vs).1 = w.id := by
  cases hexact : vs.find? (fun w => decide (a.matches w = a.cfgs.length)) with
  | some w =>
    have hall : a.matches w = a.cfgs.length := by simpa using List.find?_some hexact
    refine ⟨w, List.mem_of_find?_eq_some hexact, AlcSt.usable_of_matches hall, ?_⟩
    simp only [AlcSt.select, hover, hexact]
  | none =>
    simp only [AlcSt.select, hover, hexact]
    generalize hbest : List.foldl _ none (vs.filter a.usable) = best
    have hmem : ∃ w ∈ vs.filter a.usable, best = some w := by
      rw [← hbest]
      refine foldl_keepsOne_mem (fun _ => rfl) (fun w x => ?_) (List.ne_nil_of_mem (List.mem_filter.mpr ⟨hv, husable⟩))
      dsimp only
      split
      · exact .inl rfl
      · exact ite_eq_or_eq _ _ _
    obtain ⟨w, hw, rfl⟩ := hmem
    obtain ⟨hwmem, hwusable⟩ := List.mem_filter.mp hw
    exact ⟨w, hwmem, hwusable, rfl⟩

/-- Where some variant is usable, the selection is a usable variant (R291). -/
theorem AlcSt.select_usable {vs : List VariantEntry} (hv : v ∈ vs) (husable : a.usable v = true) :
    ∃ w ∈ vs, a.usable w = true ∧ (a.select vs).1 = w.id := by
  obtain hoverride | hsel := a.select_override vs
  · exact hoverride
  · rw [hsel]
    exact AlcSt.select_noOverride (a := { a with override := none }) rfl hv husable

end

/-- Settles O36: by the device's state, by the clamps of its thrust, and by the three ways to a selection. -/
theorem allocationRules : Obligations.AllocationRules := by
  refine ⟨fun d k c read => ⟨fun v hfield hstatus hfault => ⟨AlcDev.update_fault hfield hstatus hfault, fun hlost => ?_⟩,
    fun hlost hreason => ?_, fun hlost hreason hfield hfb => ?_⟩, fun d c inV x pin => ⟨fun hlost => ?_, fun hlost hrev hfull hrate => ?_⟩,
    fun a vs hzero => ?_⟩
  · rw [AlcDev.update_lost hlost, statusHealthy_fault hfield hstatus hfault, if_neg (fun h => Bool.false_ne_true h.2.1)]
  · rw [AlcDev.update_lost hlost, if_neg (fun h => hreason h.1)]
  · rw [AlcDev.update_lost hlost, ← statusHealthy_iff hfield]
    simp [hreason, feedbackPresent_of_noField hfb]
  · rw [postDevice_lost hlost, holdDevice_lost hlost]
    exact ⟨rfl, rfl, rfl⟩
  · obtain ⟨v, hpost⟩ := postDevice_thrust (c := c) hlost inV x pin
    rw [hpost, holdDevice_thrust hlost]
    refine ⟨clampThrust_bounds hrev hfull hrate v, ?_⟩
    split
    · exact (clampThrust_bounds hrev hfull hrate 0).2.2
    · simp
  · obtain ⟨v, hv, -, hloss, hlock⟩ := hzero
    obtain ⟨w, hw, husable, hid⟩ := AlcSt.select_usable hv (AlcSt.usable_of_noMask (a := a) hloss hlock)
    exact ⟨w, hw, hid.symm, husable⟩

end Sys2Proof.Machine
end

section
/-! SUPPORT. The safety island (16_safety_functions.md R458 to R472) and what every command keeps (logs 1 and 3): the queue, and each latch
but for a reset and another SAFETY_CFG, and the statements on the step, on completion and on a lock-out. -/

namespace Sys2Proof.Machine

open Sys2Proof

/-! Masks. -/

theorem maskOf_getLsbD {w : Nat} (l : List Nat) {k : Nat} (hk : k < w) : (maskOf w l).getLsbD k = decide (k ∈ l) := by
  suffices h : ∀ m : BitVec w, (l.foldl setBit m).getLsbD k = (m.getLsbD k || decide (k ∈ l)) by simpa [maskOf] using h 0
  induction l with
  | nil => simp
  | cons i l ih => intro m; simp [List.foldl_cons, ih, setBit_getLsbD m i hk, Bool.or_assoc, eq_comm, Bool.decide_or]

theorem maskBit_maskWhere {w n k : Nat} (f : Nat → Bool) (hk : k < w) : maskBit (maskWhere w n f) k = (decide (k < n) && f k) := by
  simp [maskBit, maskWhere, maskOf_getLsbD _ hk]

theorem maskBit_setBit_same {w : Nat} (m : BitVec w) {k : Nat} (hk : k < w) : maskBit (setBit m k) k = true := by
  simp [maskBit, setBit_getLsbD m k hk]

theorem maskBit_setBit_other {w : Nat} (m : BitVec w) {j k : Nat} (h : j ≠ k) : maskBit (setBit m k) j = maskBit m j := by
  by_cases hj : j < w
  · simp [maskBit, setBit_getLsbD m k hj, h.symm]
  · simp [maskBit, BitVec.getLsbD_of_ge _ _ (Nat.le_of_not_lt hj)]

theorem maskBit_clrBit_same {w : Nat} (m : BitVec w) (k : Nat) : maskBit (clrBit m k) k = false := by
  by_cases hk : k < w
  · simp [maskBit, clrBit_getLsbD m k hk]
  · simp [maskBit, BitVec.getLsbD_of_ge _ _ (Nat.le_of_not_lt hk)]

theorem maskBit_clrBit_other {w : Nat} (m : BitVec w) {j k : Nat} (h : j ≠ k) : maskBit (clrBit m k) j = maskBit m j := by
  by_cases hj : j < w
  · simp [maskBit, clrBit_getLsbD m k hj, h.symm]
  · simp [maskBit, BitVec.getLsbD_of_ge _ _ (Nat.le_of_not_lt hj)]

theorem maskBit_or {w : Nat} (a b : BitVec w) (k : Nat) : maskBit (a ||| b) k = (maskBit a k || maskBit b k) := BitVec.getLsbD_or

theorem maskBit_and {w : Nat} (a b : BitVec w) (k : Nat) : maskBit (a &&& b) k = (maskBit a k && maskBit b k) := BitVec.getLsbD_and

theorem maskBit_lt {w : Nat} {m : BitVec w} {k : Nat} (h : maskBit m k = true) : k < w := BitVec.lt_of_getLsbD h

/-- No bit of `a` lies outside `b`. -/
theorem and_not_eq_zero_iff {w : Nat} (a b : BitVec w) : a &&& ~~~ b = 0 ↔ ∀ k, k < w → maskBit a k = true → maskBit b k = true := by
  constructor
  · intro h k hk ha
    have := congrArg (fun m => maskBit m k) h
    simpa [maskBit, hk, show a.getLsbD k = true from ha] using this
  · intro h
    refine BitVec.eq_of_getLsbD_eq fun k hk => ?_
    have := h k hk
    cases ha : a.getLsbD k <;> simp_all [maskBit]

theorem zero_of_and_eq_zero {w : Nat} {a b : BitVec w} (h : a &&& b = 0) {k : Nat} (ha : maskBit a k = true) : maskBit b k = false := by
  have := congrArg (fun m => maskBit m k) h
  simpa [maskBit, show a.getLsbD k = true from ha] using this

/-! What latching and switching leave (R461, R467, R468). -/

section
variable (v : SafSt)

@[simp] theorem SafR.of_saf (l : List Ev) : (SafR.of v l).saf = v := rfl
@[simp] theorem SafR.then_saf (r : SafR) (f : SafSt → SafR) : (r.then_ f).saf = (f r.saf).saf := rfl

theorem SafSt.last_eq (l : List Ev) : v.last l = { v with lastCode := (v.last l).lastCode } := by
  unfold SafSt.last
  split <;> rfl

@[simp] theorem SafSt.writeLock_latched (p : Byte) (g : Bool) : (v.writeLock p g).latched = p := by
  simp [SafSt.latched, SafSt.writeLock, LockRec.pairsOf]

@[simp] theorem SafSt.writeLock_globalLock (p : Byte) (g : Bool) : (v.writeLock p g).globalLock = g := by
  simp [SafSt.globalLock, SafSt.writeLock, LockRec.globalOf]

/-- Latching writes the latch, a flag, the trip count and the pending events, and nothing else. -/
theorem SafSt.latch_eq (p : Byte) (flag : Nat) (ev : Byte → Ev) :
    (v.latch p flag ev).saf = { v with
      lockA := (v.latch p flag ev).saf.lockA, lockB := (v.latch p flag ev).saf.lockB, flags := (v.latch p flag ev).saf.flags
      trips := (v.latch p flag ev).saf.trips, pendEvs := (v.latch p flag ev).saf.pendEvs } := by
  unfold SafSt.latch
  dsimp only [SafR.of_saf]
  split <;> rfl

@[simp] theorem SafSt.latch_latched (p : Byte) (flag : Nat) (ev : Byte → Ev) : (v.latch p flag ev).saf.latched = v.latched ||| (p &&& v.used) := by
  unfold SafSt.latch
  dsimp only [SafR.of_saf]
  split
  next h => simp [h, SafSt.latched]
  next => exact v.writeLock_latched _ _

@[simp] theorem SafSt.latch_globalLock (p : Byte) (flag : Nat) (ev : Byte → Ev) : (v.latch p flag ev).saf.globalLock = v.globalLock := by
  unfold SafSt.latch
  dsimp only [SafR.of_saf]
  split
  next => rfl
  next => exact v.writeLock_globalLock _ _

/-- A flush switches the pairs, takes the pending events and sets the trip line, and nothing else. -/
theorem SafSt.flush_eq :
    v.flush.saf = { v with
      pendEvs := [], lastCode := v.flush.saf.lastCode, released := v.flush.saf.released, soOn := v.flush.saf.soOn, tripLine := v.flush.saf.tripLine } := by
  unfold SafSt.flush SafSt.switch
  dsimp only [SafR.of_saf]
  rw [SafSt.last_eq]

end

/-! What an evaluation leaves: the configuration, the outputs and the reset procedure; and no latch ends in it (R469). -/

/-- What the reset procedure reads, the configuration and the outputs. -/
structure IslandProcedure where
  cfg : Option SafetyCfg
  island : IslandPhase
  soOn : Byte
  arm : Option SafArm
  sack : Bool
  sackGood : Bool
  sackBeats : Nat

def SafSt.procedure (v : SafSt) : IslandProcedure :=
  { cfg := v.cfg, island := v.island, soOn := v.soOn, arm := v.arm, sack := v.sack, sackGood := v.sackGood, sackBeats := v.sackBeats }

/-- Every latch of `v` stands in `w`. -/
def SafSt.LatchKept (v w : SafSt) : Prop := ∀ k, maskBit v.latched k = true → maskBit w.latched k = true

theorem SafSt.LatchKept.refl (v : SafSt) : v.LatchKept v := fun _ h => h

theorem SafSt.LatchKept.trans {u v w : SafSt} (h : u.LatchKept v) (h' : v.LatchKept w) : u.LatchKept w := fun k hk => h' k (h k hk)

theorem SafSt.LatchKept.of_latched {v w : SafSt} (h : w.latched = v.latched) : v.LatchKept w := fun _ hk => h ▸ hk

theorem SafSt.LatchKept.of_or {v w : SafSt} {p : Byte} (h : w.latched = v.latched ||| p) : v.LatchKept w :=
  fun k hk => by rw [h, maskBit_or, hk, Bool.true_or]

theorem SafSt.latch_kept (v : SafSt) (p : Byte) (flag : Nat) (ev : Byte → Ev) : v.LatchKept (v.latch p flag ev).saf :=
  .of_or (v.latch_latched p flag ev)

/-- What an evaluation step does. -/
structure SafSt.Evaluates (v w : SafSt) : Prop where
  same : w.procedure = v.procedure
  kept : v.LatchKept w

namespace SafSt.Evaluates
variable {u v w : SafSt}

theorem refl (v : SafSt) : v.Evaluates v := ⟨rfl, .refl v⟩

theorem trans (h : u.Evaluates v) (h' : v.Evaluates w) : u.Evaluates w := ⟨h'.same.trans h.same, h.kept.trans h'.kept⟩

theorem cfg (h : v.Evaluates w) : w.cfg = v.cfg := congrArg IslandProcedure.cfg h.same
theorem island (h : v.Evaluates w) : w.island = v.island := congrArg IslandProcedure.island h.same
theorem soOn (h : v.Evaluates w) : w.soOn = v.soOn := congrArg IslandProcedure.soOn h.same
theorem arm (h : v.Evaluates w) : w.arm = v.arm := congrArg IslandProcedure.arm h.same
theorem sack (h : v.Evaluates w) : w.sack = v.sack := congrArg IslandProcedure.sack h.same
theorem sackGood (h : v.Evaluates w) : w.sackGood = v.sackGood := congrArg IslandProcedure.sackGood h.same
theorem sackBeats (h : v.Evaluates w) : w.sackBeats = v.sackBeats := congrArg IslandProcedure.sackBeats h.same

theorem writeLock (h : v.Evaluates w) (p : Byte) (g : Bool) : v.Evaluates (w.writeLock (w.latched ||| p) g) :=
  h.trans ⟨rfl, .of_or (w.writeLock_latched _ g)⟩

end SafSt.Evaluates

/-- A step that writes no latch and nothing of the procedure, and then latches. -/
theorem SafSt.evaluates_latch (v : SafSt) {w : SafSt} (hs : w.procedure = v.procedure) (hl : w.latched = v.latched) (p : Byte) (flag : Nat)
    (ev : Byte → Ev) : v.Evaluates (w.latch p flag ev).saf :=
  .trans ⟨hs, .of_latched hl⟩ ⟨by rw [w.latch_eq]; rfl, w.latch_kept p flag ev⟩

/-- What each action of a list keeps, and what one of them settles and the others keep. -/
theorem SafR.each_inv {P : SafSt → Prop} {f : Nat → SafSt → SafR} (h : ∀ k v, P v → P (f k v).saf) (l : List Nat) (r : SafR) (hr : P r.saf) :
    P (r.each l f).saf := by
  unfold SafR.each
  induction l generalizing r with
  | nil => exact hr
  | cons k l ih => exact ih _ (h k _ hr)

theorem SafR.each_mem {Q : Nat → SafSt → Prop} {f : Nat → SafSt → SafR} (hset : ∀ k v, Q k (f k v).saf) (hkeep : ∀ j k v, Q j v → Q j (f k v).saf)
    (l : List Nat) (r : SafR) : ∀ j ∈ l, Q j (r.each l f).saf := by
  induction l generalizing r with
  | nil => exact fun _ h => absurd h List.not_mem_nil
  | cons k l ih =>
    intro j hj
    rcases List.mem_cons.1 hj with rfl | hj
    · exact SafR.each_inv (P := Q j) (fun k v => hkeep j k v) l _ (hset j _)
    · exact ih _ j hj

theorem SafR.each_evaluates {f : Nat → SafSt → SafR} (h : ∀ k (v : SafSt), v.Evaluates (f k v).saf) (l : List Nat) (r : SafR) : r.saf.Evaluates (r.each l f).saf :=
  SafR.each_inv (P := r.saf.Evaluates) (fun k v hv => hv.trans (h k v)) l r (.refl r.saf)

/-! The evaluation of an input pair, an encoder, a sensing entry and a function, case by case. -/

section
variable {v : SafSt} {k : Nat}

/-- An input pair takes what its channels show (R459). -/
def SafSt.inputTaken (v : SafSt) (k : Nat) (e : SiCfg) : SafSt :=
  let on := (v.shows k e).1 && (v.shows k e).2
  let dis := decide ((v.shows k e).1 ≠ (v.shows k e).2)
  { v with
    siOn := if on then setBit v.siOn k else clrBit v.siOn k
    disRun := Tab.set 0 v.disRun k (if dis then Tab.get 0 v.disRun k + 1 else 0)
    siDisc := if dis then v.siDisc else clrBit v.siDisc k
    siPulse := if on then v.siPulse else clrBit v.siPulse k }

theorem SafSt.evalSi_skip (h : ∀ e, v.si k = some e → e.mode = 3) : v.evalSi k = .of v [] := by
  unfold SafSt.evalSi
  split
  next => rfl
  next e he => rw [if_pos (h e he)]

theorem SafSt.evalSi_input {e : SiCfg} (he : v.si k = some e) (hm : e.mode ≠ 3) :
    v.evalSi k =
      if maskBit v.siOn k ∧ !((v.shows k e).1 && (v.shows k e).2) ∧ v.stopPairs k &&& v.used ≠ 0 then
        (v.inputTaken k e).latch (v.stopPairs k) 0 (fun p => (0x0F02, [wordN k, wordN p.toNat]))
      else .of (v.inputTaken k e) [] := by
  unfold SafSt.evalSi
  rw [he]
  exact if_neg hm

theorem SafSt.evalSi_evaluates (v : SafSt) (k : Nat) : v.Evaluates (v.evalSi k).saf := by
  by_cases h : ∀ e, v.si k = some e → e.mode = 3
  · rw [SafSt.evalSi_skip h]; exact .refl v
  · obtain ⟨e, he, hm⟩ : ∃ e, v.si k = some e ∧ e.mode ≠ 3 := by simpa using h
    rw [SafSt.evalSi_input he hm]
    split
    · apply v.evaluates_latch <;> rfl
    · exact ⟨rfl, fun _ h => h⟩

theorem SafSt.evalEnc_evaluates (enc : List (Int × Bool)) (k : Nat) (v : SafSt) : v.Evaluates (v.evalEnc enc k).saf := by
  unfold SafSt.evalEnc
  split
  next => exact .refl v
  next =>
    split
    next => exact .refl v
    next =>
      extract_lets x was w
      split
      · apply v.evaluates_latch <;> rfl
      · exact ⟨rfl, fun _ h => h⟩

theorem SafSt.evalSense_evaluates (cnd : Nat → Option Int) (k : Nat) (v : SafSt) : v.Evaluates (v.evalSense cnd k).saf := by
  unfold SafSt.evalSense
  split
  next => exact .refl v
  next =>
    extract_lets a b bad dis was w
    split
    · apply v.evaluates_latch <;> rfl
    · exact ⟨rfl, fun _ h => h⟩

/-- A function judged on the values of its sources (R464). -/
def SafSt.broken (v : SafSt) (f : FuncCfg) : Bool := v.fnEnabled f && ((v.values_ f).map (fnBreaks f)).any (fun x => x.2)

def SafSt.judgedValue (v : SafSt) (k : Nat) (f : FuncCfg) : Int :=
  match ((v.values_ f).map (fnBreaks f)).find? (fun x => x.2) with
  | some x => x.1
  | none => (((v.values_ f).map (fnBreaks f)).headD (Tab.get 0 v.values k, false)).1

def SafSt.judged (v : SafSt) (k : Nat) (f : FuncCfg) : SafSt :=
  { v with
    enabled := if v.fnEnabled f then setBit v.enabled k else clrBit v.enabled k
    violated := if v.broken f then setBit v.violated k else clrBit v.violated k
    values := Tab.set 0 v.values k (v.judgedValue k f) }

theorem SafSt.evalFn_unused (h : v.func k = none) : v.evalFn k = .of v [] := by
  unfold SafSt.evalFn
  rw [h]

theorem SafSt.evalFn_func {f : FuncCfg} (hf : v.func k = some f) :
    v.evalFn k =
      if v.broken f ∧ !maskBit v.violated k then
        ({ v.judged k f with fnTrips := Tab.set 0 v.fnTrips k (Tab.get 0 v.fnTrips k + 1) } : SafSt).latch f.soMask 0
          (fun p => (0x0F01, [wordN k, wordN p.toNat, valueWord (decide (f.kind = 4)) (v.judgedValue k f)]))
      else if v.broken f then
        .of (if f.soMask &&& v.used &&& ~~~ v.latched = 0 then v.judged k f
          else (v.judged k f).writeLock (v.latched ||| (f.soMask &&& v.used)) v.globalLock) []
      else .of (v.judged k f) [] := by
  unfold SafSt.evalFn
  rw [hf]
  rfl

theorem SafSt.evalFn_evaluates (k : Nat) (v : SafSt) : v.Evaluates (v.evalFn k).saf := by
  cases hf : v.func k with
  | none => rw [SafSt.evalFn_unused hf]; exact .refl v
  | some f =>
    have hj : v.Evaluates (v.judged k f) := ⟨rfl, fun _ h => h⟩
    rw [SafSt.evalFn_func hf]
    split
    · apply v.evaluates_latch <;> rfl
    · split
      · dsimp only [SafR.of_saf]
        split
        · exact hj
        · exact hj.writeLock _ _
      · exact hj

theorem SafSt.readback_evaluates (v : SafSt) (k : Nat) : v.Evaluates (v.readback k).saf := by
  unfold SafSt.readback
  split
  next => exact .refl v
  next =>
    split
    · exact .refl v
    · apply v.evaluates_latch <;> rfl

theorem SafSt.evalReadback_evaluates (bad : Byte) (k : Nat) (v : SafSt) : v.Evaluates (v.evalReadback bad k).saf := by
  unfold SafSt.evalReadback
  split
  · exact v.readback_evaluates k
  · exact ⟨rfl, fun _ h => h⟩

theorem SafSt.discrepancy_evaluates (v : SafSt) (k : Nat) : v.Evaluates (v.discrepancy k).saf := by
  unfold SafSt.discrepancy
  split
  next => exact .refl v
  next =>
    split
    · apply v.evaluates_latch <;> rfl
    · exact .refl v

theorem SafSt.plausibility_evaluates (v : SafSt) (k : Nat) : v.Evaluates (v.plausibility k).saf := by
  unfold SafSt.plausibility
  split
  next => exact .refl v
  next =>
    split
    · apply v.evaluates_latch <;> rfl
    · exact .refl v

theorem SafSt.testPulse_evaluates (v : SafSt) (k : Nat) (seen : Byte) : v.Evaluates (v.testPulse k seen).saf := by
  unfold SafSt.testPulse
  split
  next =>
    refine SafR.each_evaluates (fun i q => ?_) _ (SafR.of v [])
    split
    next =>
      split
      next =>
        split
        next => exact ⟨rfl, fun _ h => h⟩
        next =>
          split
          · exact .refl q
          · apply q.evaluates_latch <;> rfl
      next => exact .refl q
    next => exact .refl q
  next => exact .refl v

/-- The stages of an evaluation: the input pairs; then the encoders and the sensing entries; then the functions; then the readbacks. -/
def SafSt.inputsRead (v : SafSt) (inp : IslandIn) : SafR := (SafR.of (v.sampleAll inp.samples) []).each (List.range 8) SafSt.evalSi

def SafR.sensed (r : SafR) (inp : IslandIn) (cnd : Nat → Option Int) : SafR :=
  (r.each (List.range 8) (SafSt.evalEnc inp.encoder)).each (List.range 16) (SafSt.evalSense cnd)

def SafR.functions (r : SafR) : SafR := r.each (List.range 16) SafSt.evalFn

def SafR.readbacks (r : SafR) (inp : IslandIn) : SafR := r.each (List.range 8) (SafSt.evalReadback inp.readBad)

/-- The evaluation of an edge up to SACK. -/
def SafSt.evaluated (v : SafSt) (inp : IslandIn) (cnd : Nat → Option Int) : SafSt := ((((v.inputsRead inp).sensed inp cnd).functions).readbacks inp).saf

theorem SafSt.evaluate_saf (v : SafSt) (c : SafetyCfg) (inp : IslandIn) (cnd : Nat → Option Int) :
    (v.evaluate c inp cnd).saf = ((v.evaluated inp cnd).sackEdge (decide (inp.sack ≠ c.sackLow))).saf := by
  unfold SafSt.evaluate SafSt.evaluated SafR.readbacks SafR.functions SafR.sensed SafSt.inputsRead
  rw [SafR.then_saf]

theorem SafSt.inputsRead_evaluates (v : SafSt) (inp : IslandIn) : v.Evaluates (v.inputsRead inp).saf :=
  .trans (v := v.sampleAll inp.samples) ⟨rfl, fun _ h => h⟩ (SafR.each_evaluates (fun k w => w.evalSi_evaluates k) _ (SafR.of _ []))

theorem SafR.sensed_evaluates (r : SafR) (inp : IslandIn) (cnd : Nat → Option Int) : r.saf.Evaluates (r.sensed inp cnd).saf :=
  (SafR.each_evaluates (SafSt.evalEnc_evaluates _) _ r).trans (SafR.each_evaluates (SafSt.evalSense_evaluates _) _ _)

theorem SafR.functions_evaluates (r : SafR) : r.saf.Evaluates r.functions.saf := SafR.each_evaluates SafSt.evalFn_evaluates _ r

theorem SafR.readbacks_evaluates (r : SafR) (inp : IslandIn) : r.saf.Evaluates (r.readbacks inp).saf :=
  SafR.each_evaluates (SafSt.evalReadback_evaluates _) _ r

theorem SafSt.evaluated_evaluates (v : SafSt) (inp : IslandIn) (cnd : Nat → Option Int) : v.Evaluates (v.evaluated inp cnd) :=
  (((v.inputsRead_evaluates inp).trans (SafR.sensed_evaluates _ inp cnd)).trans (SafR.functions_evaluates _)).trans (SafR.readbacks_evaluates _ inp)

end

/-! The reset procedure (R469, R470), the edge, faults and resets of the island: which latches each leaves. -/

section
variable {v : SafSt} {k : Nat}

/-- A pair without cause is named by no violated function, has no readback fault, and its demanding inputs are ON (R469). -/
theorem SafSt.causeOf_of_violated (h : maskBit v.violPairs k = true) : v.causeOf k = true := by simp [SafSt.causeOf, h]

theorem SafSt.causeOf_of_fault (hk : k < 8) (h : maskBit v.soFault k = true) : v.causeOf k = true := by
  have hx : (List.range 8).any (fun i => (maskBit (v.siDisc ||| v.siPulse) i && maskBit (v.faultPairs 1 i) k) ||
      (maskBit v.encBad i && maskBit (v.faultPairs 2 i) k) || (maskBit v.soFault i && decide (i = k))) = true :=
    List.any_eq_true.2 ⟨k, List.mem_range.2 hk, by simp [h]⟩
  rw [SafSt.causeOf, hx, Bool.or_true, Bool.true_or]

theorem SafSt.causeOf_of_demand {e : SoCfg} {j : Nat} (he : v.so k = some e) (hj : j < 8) (hs : maskBit e.siStop j = true)
    (ho : maskBit v.siOn j = false) : v.causeOf k = true := by
  have hx : e.siStop &&& ~~~ v.siOn ≠ 0 := fun h => by
    have := (and_not_eq_zero_iff _ _).1 h j hj hs
    simp [ho] at this
  rw [SafSt.causeOf]
  simp only [he, decide_eq_true hx, Bool.or_true, Bool.true_or]

theorem SafSt.clearable_pair (hk : k < 8) (mask : BitVec 9) :
    maskBit (v.clearable mask) k = (maskBit mask k && (maskBit v.latched k && !v.causeOf k)) := by
  rw [SafSt.clearable, maskBit_maskWhere _ (by omega), if_neg (by omega), decide_eq_true (by omega), Bool.true_and]

/-- A valid pulse writes the latch, ends the arm, and counts. -/
theorem SafSt.pulse_eq (a : SafArm) :
    (v.pulse a).saf = { v with
      lockA := (v.pulse a).saf.lockA, lockB := (v.pulse a).saf.lockB, arm := none, resets := (v.pulse a).saf.resets
      flags := (v.pulse a).saf.flags, lastCode := (v.pulse a).saf.lastCode } := by
  unfold SafSt.pulse
  dsimp only [SafR.of_saf]
  rw [SafSt.last_eq]
  split <;> rfl

/-- R469: a valid pulse clears the masked pairs without a cause and no other. -/
theorem SafSt.pulse_latched (hk : k < 8) (a : SafArm) :
    maskBit (v.pulse a).saf.latched k = (maskBit v.latched k && !(maskBit a.mask k && !v.causeOf k)) := by
  have hc := SafSt.clearable_pair (v := v) hk a.mask
  unfold SafSt.pulse
  dsimp only [SafR.of_saf]
  rw [SafSt.last_eq]
  split
  next h =>
    have hz : maskBit (0 : BitVec 9) k = false := by simp [maskBit]
    rw [h, hz] at hc
    change maskBit v.latched k = _
    cases hl : maskBit v.latched k with
    | false => rfl
    | true => rw [hl, Bool.true_and] at hc; rw [← hc]; rfl
  next =>
    change maskBit (v.writeLock (v.latched &&& ~~~ (BitVec.setWidth 8 (v.clearable a.mask))) _).latched k = _
    rw [SafSt.writeLock_latched, maskBit_and]
    have : maskBit (~~~ (BitVec.setWidth 8 (v.clearable a.mask))) k = !maskBit (v.clearable a.mask) k := by
      simp [maskBit, hk]
    rw [this, hc]
    cases maskBit v.latched k <;> simp

theorem SafSt.badPulse_eq (v : SafSt) : ∃ b f c, v.badPulse = { v with sackBad := b, flags := f, sackCounted := c } := by
  unfold SafSt.badPulse
  split
  · exact ⟨v.sackBad, v.flags, v.sackCounted, rfl⟩
  · exact ⟨_, _, _, rfl⟩

/-- R469: while SACK is active the pulse is measured, and no latch ends. -/
theorem SafSt.sackEdge_active (v : SafSt) :
    ∃ n g c b f, (v.sackEdge true).saf = { v with sack := true, sackBeats := n, sackGood := g, sackCounted := c, sackBad := b, flags := f } := by
  unfold SafSt.sackEdge
  rw [if_pos rfl]
  dsimp only [SafR.of_saf]
  cases hs : v.sack with
  | false =>
    rw [if_neg Bool.false_ne_true, if_neg Bool.false_ne_true, if_neg (by omega)]
    exact ⟨_, _, _, v.sackBad, v.flags, rfl⟩
  | true =>
    rw [if_pos rfl, if_pos rfl]
    split
    · obtain ⟨b, f, c, h⟩ := SafSt.badPulse_eq { v with sack := true, sackBeats := v.sackBeats + 1 }
      exact ⟨_, v.sackGood, c, b, f, h⟩
    · exact ⟨_, v.sackGood, v.sackCounted, v.sackBad, v.flags, rfl⟩

/-- The arm under which a pulse that ends now is good (R469). -/
def SafSt.goodPulse (v : SafSt) (a : SafArm) : Prop :=
  v.sack = true ∧ v.arm = some a ∧ v.sackGood = true ∧ 100 ≤ v.sackBeats + 1 ∧ v.sackBeats + 1 ≤ 2000 ∧ 0 < a.left

/-- R469: SACK that is inactive without the end of a good pulse ends no latch. -/
theorem SafSt.sackEdge_inactive {v : SafSt} (h : ∀ a, ¬ v.goodPulse a) :
    ∃ n c b f, (v.sackEdge false).saf = { v with sack := false, sackBeats := n, sackCounted := c, sackBad := b, flags := f } := by
  unfold SafSt.sackEdge
  rw [if_neg Bool.false_ne_true]
  cases hs : v.sack with
  | false => exact ⟨v.sackBeats, v.sackCounted, v.sackBad, v.flags, by rw [if_neg Bool.false_ne_true]; cases v; cases hs; rfl⟩
  | true =>
    rw [if_pos rfl]
    dsimp only
    split
    next =>
      obtain ⟨b, f, c, hb⟩ := SafSt.badPulse_eq { v with sack := false, sackBeats := 0 }
      exact ⟨_, c, b, f, hb⟩
    next hw =>
      have hq : (match v.arm with
          | some a => if v.sackGood = true ∧ 0 < a.left then ({ v with sack := false, sackBeats := 0 } : SafSt).pulse a
            else .of { v with sack := false, sackBeats := 0 } []
          | none => .of { v with sack := false, sackBeats := 0 } []) = SafR.of { v with sack := false, sackBeats := 0 } [] := by
        split
        next a ha => exact if_neg fun hg => h a ⟨hs, ha, hg.1, by omega, by omega, hg.2⟩
        next => rfl
      exact ⟨0, v.sackCounted, v.sackBad, v.flags, congrArg SafR.saf hq⟩

/-- R469: a good pulse ends. -/
theorem SafSt.sackEdge_pulse {v : SafSt} {a : SafArm} (h : v.goodPulse a) : v.sackEdge false = ({ v with sack := false, sackBeats := 0 } : SafSt).pulse a := by
  obtain ⟨hs, ha, hg, hlo, hhi, hl⟩ := h
  unfold SafSt.sackEdge
  rw [if_neg Bool.false_ne_true, if_pos hs]
  dsimp only
  rw [if_neg (by omega), ha]
  exact if_pos ⟨hg, hl⟩

/-- The island without what SACK writes (R469, R470). -/
def SafSt.besideSack (v : SafSt) : SafSt :=
  { v with
    lockA := LockRec.zero, lockB := LockRec.zero, arm := none, sack := false, sackBeats := 0, sackGood := false, sackCounted := false, lastCode := 0
    flags := 0, resets := 0, sackBad := 0 }

/-- A SACK edge writes nothing else, and it ends a latch only at the end of a good pulse whose arm names the pair, without a cause. -/
theorem SafSt.sackEdge_spec (v : SafSt) (active : Bool) :
    (v.sackEdge active).saf.besideSack = v.besideSack ∧ (v.sackEdge active).saf.sack = active ∧
      ∀ k, k < 8 → maskBit v.latched k = true → maskBit (v.sackEdge active).saf.latched k = false →
        active = false ∧ ∃ a, v.goodPulse a ∧ maskBit a.mask k = true ∧ v.causeOf k = false := by
  cases active with
  | true =>
    obtain ⟨n, g, c, b, f, h⟩ := v.sackEdge_active
    rw [h]
    exact ⟨rfl, rfl, fun k _ hl hu => absurd (hl.symm.trans hu) (by decide)⟩
  | false =>
    by_cases hg : ∃ a, v.goodPulse a
    · obtain ⟨a, ha⟩ := hg
      rw [SafSt.sackEdge_pulse ha]
      refine ⟨by rw [SafSt.pulse_eq]; rfl, by rw [SafSt.pulse_eq], fun k hk hl hu => ⟨rfl, a, ha, ?_⟩⟩
      rw [SafSt.pulse_latched hk] at hu
      have hl' : maskBit ({ v with sack := false, sackBeats := 0 } : SafSt).latched k = true := hl
      have hc : ({ v with sack := false, sackBeats := 0 } : SafSt).causeOf k = v.causeOf k := rfl
      simpa [hl', hc] using hu
    · obtain ⟨n, c, b, f, h⟩ := SafSt.sackEdge_inactive fun a ha => hg ⟨a, ha⟩
      rw [h]
      exact ⟨rfl, rfl, fun k _ hl hu => absurd (hl.symm.trans hu) (by decide)⟩

end

/-! The edge, the faults and the resets of the island (R458, R467, R470 to R472). -/

section
variable (v : SafSt)

@[simp] theorem SafSt.flush_latched : v.flush.saf.latched = v.latched := by rw [SafSt.flush_eq]; rfl
@[simp] theorem SafSt.flush_globalLock : v.flush.saf.globalLock = v.globalLock := by rw [SafSt.flush_eq]; rfl
@[simp] theorem SafSt.last_latched (l : List Ev) : (v.last l).latched = v.latched := by rw [SafSt.last_eq]; rfl

/-- R467: a global fault locks every pair. -/
theorem SafSt.globalFault_latched (d : Nat) (w : Word) : (v.globalFault d w).saf.latched = 0xFF := by
  unfold SafSt.globalFault
  rw [SafSt.flush_latched]
  exact v.writeLock_latched _ _

theorem SafSt.globalFault_kept (d : Nat) (w : Word) : v.LatchKept (v.globalFault d w).saf := fun k hk => by
  rw [SafSt.globalFault_latched]
  have : ∀ i < 8, maskBit (0xFF : Byte) i = true := by decide
  exact this k (maskBit_lt hk)

/-- The edge before the evaluation: the decisions of the last edge have taken effect (R458). -/
def SafSt.flushed (inp : IslandIn) (beatRuns : Bool) : SafSt :=
  (({ v with
    started := v.started || beatRuns, rephased := v.rephased || v.started || inp.rephase
    arm := v.arm.map (fun (a : SafArm) => { a with left := a.left - 1 }) } : SafSt).flush).saf

variable (inp : IslandIn) (cnd : Nat → Option Int) (beatRuns : Bool)

theorem SafSt.cycle_rephased (h : inp.rephase = true ∧ (v.rephased || v.started) = true) :
    ∃ d w, (v.cycle inp cnd beatRuns).saf = ((v.flushed inp beatRuns).globalFault d w).saf := by
  unfold SafSt.cycle
  extract_lets late r
  rw [if_pos h]
  exact ⟨_, _, rfl⟩

theorem SafSt.cycle_unconfigured (h : ¬ (inp.rephase = true ∧ (v.rephased || v.started) = true)) (hc : v.cfg = none) :
    (v.cycle inp cnd beatRuns).saf = v.flushed inp beatRuns := by
  unfold SafSt.cycle
  extract_lets late r
  rw [if_neg h]
  split
  next => rfl
  next c hs => rw [hc] at hs; contradiction

theorem SafSt.cycle_runs {c : SafetyCfg} (h : ¬ (inp.rephase = true ∧ (v.rephased || v.started) = true)) (hc : v.cfg = some c) (hr : v.island = .run) :
    (v.cycle inp cnd beatRuns).saf = (((v.flushed inp beatRuns).evaluated inp cnd).sackEdge (decide (inp.sack ≠ c.sackLow))).saf := by
  unfold SafSt.cycle
  extract_lets late r
  rw [if_neg h]
  split
  next hs => rw [hc] at hs; contradiction
  next d hs =>
    obtain rfl : c = d := Option.some.inj (hc.symm.trans hs)
    rw [if_pos hr, SafR.then_saf, SafSt.evaluate_saf]
    rfl

theorem SafSt.cycle_halted {c : SafetyCfg} (h : ¬ (inp.rephase = true ∧ (v.rephased || v.started) = true)) (hc : v.cfg = some c) (hr : v.island ≠ .run) :
    (v.cycle inp cnd beatRuns).saf = ((v.flushed inp beatRuns).sackEdge (decide (inp.sack ≠ c.sackLow))).saf := by
  unfold SafSt.cycle
  extract_lets late r
  rw [if_neg h]
  split
  next hs => rw [hc] at hs; contradiction
  next d hs =>
    obtain rfl : c = d := Option.some.inj (hc.symm.trans hs)
    rw [if_neg hr, SafR.then_saf]
    rfl

/-- What the flush of an edge leaves of the reset procedure. -/
theorem SafSt.flushed_eq :
    v.flushed inp beatRuns = { v with
      started := v.started || beatRuns, rephased := v.rephased || v.started || inp.rephase, released := (v.flushed inp beatRuns).released
      arm := v.arm.map (fun (a : SafArm) => { a with left := a.left - 1 }), pendEvs := [], lastCode := (v.flushed inp beatRuns).lastCode
      soOn := (v.flushed inp beatRuns).soOn, tripLine := (v.flushed inp beatRuns).tripLine } := by
  unfold SafSt.flushed
  rw [SafSt.flush_eq]

theorem SafSt.flushed_latched : (v.flushed inp beatRuns).latched = v.latched := SafSt.flush_latched _

variable {v inp cnd beatRuns} {k : Nat}

/-- R469, R470: what must hold of an edge that ends the latch of pair k. -/
structure SafSt.ResetAt (v w : SafSt) (k : Nat) : Prop where
  run : v.island = .run
  armed : ∃ a, v.arm = some a ∧ maskBit a.mask k = true ∧ 1 < a.left
  rose : v.sack = true ∧ v.sackGood = true
  width : 100 ≤ v.sackBeats + 1 ∧ v.sackBeats + 1 ≤ 2000
  fell : w.sack = false
  cfg : w.cfg = v.cfg
  noCause : w.causeOf k = false

/-- R469, R470: a SACK edge that ends a latch, after the flush of the edge and an evaluation. -/
theorem SafSt.sackEdge_resets {u : SafSt} {active : Bool} (hu : (v.flushed inp beatRuns).Evaluates u) (hk : k < 8) (hl : maskBit v.latched k = true)
    (hn : maskBit (u.sackEdge active).saf.latched k = false) : v.ResetAt (u.sackEdge active).saf k := by
  obtain ⟨hbeside, hfell, hreset⟩ := u.sackEdge_spec active
  obtain ⟨rfl, b, ⟨hs, hb, hg, hlo, hhi, hleft⟩, hm, hc⟩ := hreset k hk (hu.kept k (by rwa [SafSt.flushed_latched])) hn
  have hf := v.flushed_eq inp beatRuns
  have hcfg : u.cfg = v.cfg := by rw [hu.cfg, hf]
  have hrun : u.island = .run := by
    by_contra h
    simp [SafSt.causeOf, h] at hc
  rw [hu.arm, hf] at hb
  obtain ⟨a, ha, rfl⟩ := Option.map_eq_some_iff.1 hb
  rw [hu.sack, hf] at hs
  rw [hu.sackGood, hf] at hg
  rw [hu.sackBeats, hf] at hlo hhi
  exact {
    run := by rw [hu.island, hf] at hrun; exact hrun
    armed := ⟨a, ha, hm, by simpa using Nat.add_lt_of_lt_sub hleft⟩
    rose := ⟨hs, hg⟩
    width := ⟨hlo, hhi⟩
    fell := hfell
    cfg := (congrArg SafSt.cfg hbeside).trans hcfg
    noCause := (congrArg (SafSt.causeOf · k) hbeside).trans hc }

/-- R469, R470: an edge ends a latch only as a reset. -/
theorem SafSt.cycle_unlatches (hk : k < 8) (hl : maskBit v.latched k = true) (hn : maskBit (v.cycle inp cnd beatRuns).saf.latched k = false) :
    v.ResetAt (v.cycle inp cnd beatRuns).saf k := by
  have hl' : maskBit (v.flushed inp beatRuns).latched k = true := by rwa [SafSt.flushed_latched]
  by_cases hre : inp.rephase = true ∧ (v.rephased || v.started) = true
  · obtain ⟨d, w, h⟩ := v.cycle_rephased inp cnd beatRuns hre
    rw [h] at hn
    exact absurd (hn.symm.trans (SafSt.globalFault_kept _ d w k hl')) (by decide)
  · cases hc : v.cfg with
    | none =>
      rw [v.cycle_unconfigured inp cnd beatRuns hre hc] at hn
      exact absurd (hn.symm.trans hl') (by decide)
    | some c =>
      by_cases hr : v.island = .run
      · rw [v.cycle_runs inp cnd beatRuns hre hc hr] at hn ⊢
        exact SafSt.sackEdge_resets (SafSt.evaluated_evaluates _ inp cnd) hk hl hn
      · rw [v.cycle_halted inp cnd beatRuns hre hc hr] at hn ⊢
        exact SafSt.sackEdge_resets (.refl _) hk hl hn

end

/-! The latch across the other actions of the island (R468, R470 to R472). -/

section
variable (v : SafSt)

theorem SafSt.armExpired_kept : v.LatchKept v.armExpired.saf := by
  unfold SafSt.armExpired
  split
  next =>
    split
    · exact .of_latched (SafSt.last_latched _ _)
    · exact .refl v
  next => exact .refl v

theorem SafSt.tested_kept (us : Word) : v.LatchKept (v.tested us).saf := by
  unfold SafSt.tested
  split
  · exact .refl v
  · exact .of_latched ((SafSt.last_latched _ _).trans rfl)

theorem SafSt.onReset_kept (counts : Bool) : v.LatchKept (v.onReset counts) := by
  unfold SafSt.onReset
  cases counts <;> exact fun _ h => h

theorem SafSt.lowPower_kept : v.LatchKept v.lowPower.saf := .of_latched (SafSt.flush_latched _)

/-- A copy that fails its CRC counts as fully latched (R468). -/
theorem LockRec.pairsOf_revoked (l : LockRec) (bad : Bool) (k : Nat) (h : maskBit l.pairsOf k = true) :
    maskBit ({ l with valid := l.valid && !bad } : LockRec).pairsOf k = true := by
  have hff : maskBit (0xFF : Byte) k = true := (by decide : ∀ i < 8, maskBit (0xFF : Byte) i = true) k (maskBit_lt h)
  cases bad with
  | false => simpa [LockRec.pairsOf] using h
  | true => simpa [LockRec.pairsOf] using hff

theorem SafSt.start_kept (kind bad : BitVec 2) : v.LatchKept (v.start kind bad).saf := fun k hk => by
  unfold SafSt.start
  dsimp only [SafR.of_saf]
  rw [SafSt.last_latched]
  rw [SafSt.latched, maskBit_or, Bool.or_eq_true] at hk ⊢
  exact hk.imp (LockRec.pairsOf_revoked _ _ _) (LockRec.pairsOf_revoked _ _ _)

theorem SafSt.used_bit {k : Nat} (hk : k < 8) : maskBit v.used k = (v.so k).isSome := by
  rw [SafSt.used, maskBit_maskWhere _ hk, decide_eq_true hk, Bool.true_and]

/-- Keeping the latches of the used pairs only (R472). -/
theorem SafSt.used_latches_kept {k : Nat} (hk : k < 8) (hu : maskBit v.used k = true) (hl : maskBit v.latched k = true) :
    maskBit (if v.latched &&& ~~~ v.used = 0 then v else v.writeLock (v.latched &&& v.used) v.globalLock).latched k = true := by
  split
  · exact hl
  · rw [SafSt.writeLock_latched, maskBit_and, hl, hu]; rfl

/-- The island under another SAFETY_CFG, before its pairs switch (R472). -/
def SafSt.reconfigured (v : SafSt) (c : SafetyCfg) : SafSt :=
  let w := { v.clearRun with cfg := some c, island := .selftest, testKind := 2, flags := setBit v.flags 5, fnTrips := [] }
  if w.latched &&& ~~~ w.used = 0 then w else w.writeLock (w.latched &&& w.used) w.globalLock

theorem SafSt.reconfigured_kept (c : SafetyCfg) {k : Nat} (hk : k < 8) (hl : maskBit v.latched k = true)
    (hu : maskBit (v.reconfigured c).used k = true) : maskBit (v.reconfigured c).latched k = true := by
  have hused : (v.reconfigured c).used = ({ v with cfg := some c } : SafSt).used := by
    unfold SafSt.reconfigured
    extract_lets w
    split <;> rfl
  rw [hused] at hu
  exact SafSt.used_latches_kept _ hk hu hl

theorem SafSt.compare_cases (c : SafetyCfg) :
    (v.compare c).saf.latched = v.latched ∨ ∃ e, (v.compare c).saf = ((v.reconfigured c).flush.saf.last e) := by
  unfold SafSt.compare
  split
  next => exact .inl rfl
  next =>
    split
    next => exact .inl rfl
    next =>
      extract_lets e
      exact .inr ⟨e, rfl⟩

/-- R472: another SAFETY_CFG ends only the latches of pairs that it does not use. -/
theorem SafSt.compare_unlatches (c : SafetyCfg) {k : Nat} (hk : k < 8) (hl : maskBit v.latched k = true)
    (hn : maskBit (v.compare c).saf.latched k = false) : (v.compare c).saf.so k = none := by
  rcases v.compare_cases c with h | ⟨e, h⟩
  · rw [h, hl] at hn; contradiction
  · have hso : ((v.reconfigured c).flush.saf.last e).so k = (v.reconfigured c).so k := by rw [SafSt.last_eq, SafSt.flush_eq]; rfl
    rw [h, SafSt.last_latched, SafSt.flush_latched] at hn
    rw [h, hso, ← Option.not_isSome_iff_eq_none, ← SafSt.used_bit _ hk]
    exact fun hu => absurd (hn.symm.trans (v.reconfigured_kept c hk hl hu)) (by decide)

end

/-! Every command completes and leaves the queue (logs 1 and 3), and every command but two leaves each latch of the island (R468). -/

/-- What a command keeps: the queue and every latch. -/
structure State.Keeps (s t : State) : Prop where
  queue : t.pending = s.pending
  latch : s.saf.LatchKept t.saf

namespace State.Keeps
variable {s t u : State}

theorem of_eq (hp : t.pending = s.pending) (hs : t.saf = s.saf) : s.Keeps t := ⟨hp, .of_latched (congrArg SafSt.latched hs)⟩

theorem refl (s : State) : s.Keeps s := .of_eq rfl rfl

theorem trans (h : s.Keeps t) (h' : t.Keeps u) : s.Keeps u := ⟨h'.queue.trans h.queue, h.latch.trans h'.latch⟩

theorem ite {p : Prop} [Decidable p] (ht : s.Keeps t) (hu : s.Keeps u) : s.Keeps (if p then t else u) := by split <;> assumption

theorem raise (h : s.Keeps t) (l : List Ev) : s.Keeps (t.raise l) := h.trans (.of_eq (by simp) (by simp))

theorem reply (h : s.Keeps t) (r : HostRef) (op st : Half) (d : Word) (p : List Word) : s.Keeps (t.reply r op st d p) :=
  h.trans (.of_eq (by simp) (by simp))

theorem foldl {β : Type} {f : State → β → State} (h : ∀ (a : State) x, a.Keeps (f a x)) (l : List β) (s : State) : s.Keeps (l.foldl f s) := by
  induction l generalizing s with
  | nil => exact .refl s
  | cons x l ih => exact (h s x).trans (ih _)

theorem localCmd {f : State → State} (r : HostRef) (least : Nat) (h : s.Keeps (f s)) : s.Keeps (s.localCmd r least f) :=
  .ite h (.refl s)

theorem unionCmd {f : State → State × Half × Word} (h : ∀ a : State, a.Keeps (f a).1) (r : HostRef) (op : Half) : s.Keeps (s.unionCmd r op f) := by
  unfold State.unionCmd
  split
  next => exact .refl s
  next g _ =>
    dsimp only
    split
    · exact .of_eq rfl rfl
    · split
      · exact .of_eq rfl rfl
      · exact .trans (.of_eq rfl rfl : s.Keeps { s with hst := g }) ((h _).trans (.of_eq rfl rfl))

theorem engineOp {f : State → State} (h : ∀ a : State, a.Keeps (f a)) (op : OpRun) : s.Keeps (s.engineOp op f) := by
  by_cases hr : s.engineReady op
  · obtain ⟨v, hv⟩ := State.engineOp_ready hr f
    rw [hv]
    exact .trans (.of_eq rfl rfl : s.Keeps { s with svc := v, sch := s.sch.advance op }) (h _)
  · rw [State.engineOp_idle hr]
    exact .refl s

theorem linkFrame {f : State → State} (h : ∀ a : State, a.Keeps (f a)) (hd : LinkHdr) : s.Keeps (s.linkFrame hd f) := by
  unfold State.linkFrame
  split
  · extract_lets r a
    split
    · exact .trans (.of_eq rfl rfl : s.Keeps { s with pai := r.2 }) ((h _).trans (.of_eq rfl rfl))
    · exact .of_eq rfl rfl
  · exact .refl s

theorem gnsCh {f : GnsTable → SignalDef → GnsCh → State} (h : ∀ t d c, s.Keeps (f t d c)) (c : Nat) : s.Keeps (s.gnsCh c f) := by
  unfold State.gnsCh
  split
  · split
    · exact .refl s
    · dsimp only
      split
      · exact .refl s
      · exact h _ _ _
  · exact .refl s

theorem cameraFrame {f : CameraCfg → State} (h : ∀ c, s.Keeps (f c)) (p : BitVec 2) (vc dt : Byte) : s.Keeps (s.cameraFrame p vc dt f) := by
  unfold State.cameraFrame
  split
  · exact .refl s
  · split
    · exact .refl s
    · split
      · exact h _
      · exact .of_eq rfl rfl

theorem busChan {f : ChanCfg → State} (h : ∀ g, s.Keeps (f g)) (ch : Nat) : s.Keeps (s.busChan ch f) := by
  unfold State.busChan
  split
  · split
    · exact .refl s
    · exact h _
  · exact .refl s

theorem withGns (s : State) (g : GnsSt) : s.Keeps { s with gns := g } := .of_eq rfl rfl

end State.Keeps

/-! The operations that reach the island. -/

section
variable (s : State)

theorem State.writeService_kept {s t : State} {who : Who} {b ofs : Nat} {w : Word} (h : s.writeService who b ofs w = some t) :
    s.saf.LatchKept t.saf := by
  unfold State.writeService at h
  repeat' (first | split at h | extract_lets at h)
  all_goals first | contradiction | (obtain rfl := Option.some.inj h; first | exact fun _ h => h | exact .of_latched (by simp))

theorem State.writeEngines_saf {s t : State} {who : Who} {b ofs : Nat} {w : Word} (h : s.writeEngines who b ofs w = some t) : t.saf = s.saf := by
  unfold State.writeEngines at h
  repeat' (first | split at h | extract_lets at h)
  all_goals first | contradiction | (obtain rfl := Option.some.inj h; first | rfl | simp)

theorem State.writeBuses_saf {s t : State} {who : Who} {b ofs : Nat} {w : Word} (h : s.writeBuses who b ofs w = some t) : t.saf = s.saf := by
  unfold State.writeBuses at h
  extract_lets at h
  repeat' (first | split at h | extract_lets at h)
  all_goals first | contradiction | (obtain rfl := Option.some.inj h; first | rfl | simp +zetaDelta [apply_ite State.saf])

theorem State.directWrite_kept {s t : State} {who : Who} {a w : Word} (h : s.directWrite who a w = some t) : s.saf.LatchKept t.saf := by
  unfold State.directWrite at h
  extract_lets at h
  repeat' split at h
  · obtain rfl := Option.some.inj h
    exact .of_latched (by simp)
  · exact .of_latched (congrArg SafSt.latched (State.writeEngines_saf h))
  · exact .of_latched (congrArg SafSt.latched (State.writeBuses_saf h))
  · exact State.writeService_kept h

theorem State.directWrite_keeps {s t : State} {who : Who} {a w : Word} (h : s.directWrite who a w = some t) : s.Keeps t :=
  ⟨State.directWrite_pending h, State.directWrite_kept h⟩

theorem State.writeReg_keeps (who : Who) (a w : Word) : s.Keeps (s.writeReg who a w) := by
  unfold State.writeReg
  extract_lets b ofs s1 s2
  split
  · exact .of_eq (by simp) (by simp)
  · have h1 : s.Keeps s1 := .of_eq (by simp [s1]) (by simp [s1])
    have h2 : s.Keeps s2 := h1.trans (.of_eq (by simp [s2]) (by simp [s2]))
    split
    · split
      · cases hd : s2.directWrite who a w with
        | none => exact h2
        | some t => exact h2.trans (State.directWrite_keeps hd)
      · exact h2
    · split
      next t hd => exact h1.trans (State.directWrite_keeps hd)
      next => exact h1.trans (.of_eq rfl rfl)

theorem State.runSlot_keeps (k : Nat) : s.Keeps (s.runSlot k) := by
  unfold State.runSlot
  repeat' split
  all_goals exact .of_eq (by simp) (by simp)

theorem State.latchGnss_keeps (edge : Nat) (trackOnly : Bool) : s.Keeps (s.latchGnss edge trackOnly) := .of_eq (by simp) (by simp)

theorem exec_watchBurstEnd_eq :
    exec .watchBurstEnd s = .next (if s.sch.running && s.beat.live && s.gns.burst then
      { s.latchGnss (s.beat.n.toNat * 1000000) true with gns := (s.latchGnss (s.beat.n.toNat * 1000000) true).gns.burstEnded } else s) := rfl

theorem State.readRegs_keeps (who : Who) (l : List Word) : s.Keeps (s.readRegs who l).1 := by
  induction l generalizing s with
  | nil => exact .refl s
  | cons x l ih => exact .trans (.of_eq (s.readReg_pending who x) (s.readReg_saf who x)) (ih _)

theorem State.unionWrite_keeps (r : HostRef) (own : Bool) (p : Word × Word) : s.Keeps (s.unionWrite r own p).1 := by
  unfold State.unionWrite
  extract_lets who b sel here r
  have hr : s.Keeps r.1 := .of_eq (by simp [r]) (by simp [r])
  split
  · split
    · split
      · exact hr
      · exact .refl s
    · split
      · exact hr.trans (State.writeReg_keeps _ _ _ _)
      · exact hr
  · exact .ite (s.writeReg_keeps _ _ _) (.refl s)

theorem State.unionWrites_keeps (r : HostRef) (own : Bool) (l : List (Word × Word)) : s.Keeps (s.unionWrites r own l).1 := by
  induction l generalizing s with
  | nil => exact .refl s
  | cons p l ih =>
    unfold State.unionWrites
    dsimp only
    split
    · exact (s.unionWrite_keeps r own p).trans (ih _)
    · exact .refl s

theorem State.writePairs_keeps (r : HostRef) (own : Bool) (l : List (Word × Word)) : s.Keeps (s.writePairs r own l).1 := by
  have h := s.unionWrites_keeps r own l
  unfold State.writePairs
  split
  next t he => rw [he] at h; exact h
  next p st d _ =>
    dsimp only
    split
    · exact .refl s
    · exact s.unionWrite_keeps r own p

theorem State.applySaf_keeps (r : SafR) (h : s.saf.LatchKept r.saf) : s.Keeps (s.applySaf r) :=
  ⟨by simp, by unfold State.applySaf; rw [State.raise_saf]; exact h⟩

theorem State.onIsland_keeps {f : SafSt → SafR} (h : ∀ v : SafSt, v.LatchKept (f v).saf) : s.Keeps (s.onIsland f) :=
  .ite (s.applySaf_keeps _ (h _)) (.refl s)

theorem State.diagnose_keeps {f : SafSt → SafR} (h : ∀ v : SafSt, v.LatchKept (f v).saf) : s.Keeps (s.diagnose f) :=
  s.onIsland_keeps fun v => by
    split
    · exact h v
    · exact .refl v

theorem State.publish_keeps : s.Keeps s.publish := ⟨by simp, fun _ h => h⟩

theorem State.beatRestart_keeps (counted : Bool) : s.Keeps (s.beatRestart counted) :=
  ⟨by simp, by unfold State.beatRestart; simpa using s.saf.onReset_kept false⟩

theorem State.imageReset_keeps (cause : ResetCause) (session : Word) : s.Keeps (s.imageReset cause session) :=
  ⟨by simp, by unfold State.imageReset; simpa using s.saf.onReset_kept true⟩

theorem State.coldReset_keeps (cocoon : Bool) : s.Keeps (s.coldReset cocoon) :=
  ⟨by simp, by unfold State.coldReset; rw [State.raise_saf]; exact .of_latched rfl⟩

theorem State.powerOn_keeps (cocoon : Bool) (straps : BitVec 4) (sideB : Bool) (bad : BitVec 2) : s.Keeps (s.powerOn cocoon straps sideB bad) :=
  ⟨by simp, by unfold State.powerOn; rw [State.raise_saf]; exact s.saf.start_kept _ bad⟩

end
theorem State.enterLowPower_saf (s : State) (e : PendEntry) : (s.enterLowPower e).saf = s.saf.lowPower.saf := by
  unfold State.enterLowPower
  extract_lets n beat a o b c d p f g
  have ha : a.saf = s.saf := by simp [a]
  have hb : b.saf = s.saf.lowPower.saf := by rw [← ha]; simp only [b, State.applySaf, State.raise_saf]
  have hc : c.saf = b.saf := by simp [c]
  have hd : d.saf = c.saf := by simp [d]
  have hf : f.saf = d.saf := by simp [f]
  have hg : g.saf = f.saf := by simp only [g, State.stopClocks_saf]
  have hgs : g.saf = s.saf.lowPower.saf := hg.trans (hf.trans (hd.trans (hc.trans hb)))
  clear_value g
  split <;> exact hgs

theorem State.enterLowPower_keeps (s : State) (e : PendEntry) : s.Keeps (s.enterLowPower e) :=
  ⟨s.enterLowPower_pending e, by rw [State.enterLowPower_saf]; exact s.saf.lowPower_kept⟩

/-- A command that answers `t` with the queue and the latches kept. -/
theorem answers_keeping {c : Instr} {s t : State} (h : exec c s = .next t) (hk : s.Keeps t) :
    ∃ t, exec c s = .next t ∧ t.pending = s.pending ∧ ((∃ inp, c = .islandCycle inp) ∨ c = .sectionsDelivered ∨ s.saf.LatchKept t.saf) :=
  ⟨t, h, hk.queue, .inr (.inr hk.latch)⟩

/-- Logs 1 and 3: every command answers a state with the same queue; R468: only an edge of the island and the delivery of sections can end a latch. -/
theorem exec_keeps (c : Instr) (s : State) :
    ∃ t, exec c s = .next t ∧ t.pending = s.pending ∧ ((∃ inp, c = .islandCycle inp) ∨ c = .sectionsDelivered ∨ s.saf.LatchKept t.saf) := by
  cases c with
  | endOp | waitCycle | signalOp | captureOp | factorOp | iterateOp | storeOp | baSlice | solverDeadline | selfTestOp | bankLoadAbort | bankSwitch |
  ppsOutPulseEnd | alarmReached | notchRelease | targetBind | calFreeze | calUnfreeze | calAccept | calReset | deviceOut | deviceIn | deviceUnlock |
  sectorEnable | variantOverride | setPoint | goPos | goPsi | winchModeRequest | stabEnable | holdLimitExpire | transmitWindowOpen | frameSent |
  arbitrationLost | windowAbort | busOffRecovered | nvmWrite | nvmErase | linkCapture | linkCommit | joinReq | joinAccept | joinRefuse | linkPage |
  linkFast | linkAdopt | adoptEnd | linkDemote | linkHealth | provingComplete | powerRun | powerWatch | powerChrysalis | powerCocoon | nvmAccessComplete =>
    exact answers_keeping rfl (.of_eq (by simp) (by simp))
  | timeStepArm | gnssAid | gnssEph | deselectRef | selectRef | resetOrigin | targetClear | setTarget | keepalive | joinBlock | joinAllow =>
    exact answers_keeping rfl (.unionCmd (fun _ => .of_eq rfl rfl) _ _)
  | waitRelease | lunaOp | beatRestartResume | bankVerifyDone | bankLoadTimeout | bankSwitchApply | fusesRead | nresetOutRelease | nvmReadStall |
  firstBeat | nresetInRelease | ppsInTimeout | leapSecond | learnedRateSave | chainSample | sourceStuck | cndFreeze | srcReturn | cndCtrlApply |
  acqRecordDone | initBeatsEnd | calibrationApply | setMode | coefApply | holdTimeout | outputRelease | hostValueWrite | vlcdFault | canFrameReceive |
  forceActive | recover | renegotiate | bufferHeadRead | bufferEndRead | windowCopyWrite | winSwitch | windowSwitchApply | replyTimeout | ringReset |
  pairActInEdge | claimArmExpire | linkTrained | linkDown | linkRetry | tokenDeadline | commitDeadline | signatureCompare | activeClaimStop | swapClaim
  | eventRaise | recordWrite | bucketRefill | recorderScan | deferredEventRelease | opsecSave | recordWindowLock | recordWindowRelease |
  domainIdleExpire | handshakeTimeout | wakePortMatch | wakePin | padReleaseDirect | padReleaseAnn | requestRaise | arbiterDecision | holdLimitCut |
  pairLowRead | samplePreload | idcode | bypass | dbgChallenge | dbgAuth | jtagTrst | debugAuthTimeout | counterCollection | tagComplete | tagWindowLock
  | tagWindowRelease | linkIdle =>
    refine answers_keeping rfl ?_
    split <;> exact .of_eq (by simp) (by simp)
  | provisionalApply | imageReadDone | armExpired | timeStepApply | spoofClear | joyTimeout | targetLoss | serialRateDetect | xhpRequest | xhpResponse |
  openSession | pairActInSilent | handshakeAnswer | chrysalisFirstBeat | extest | otpProg =>
    refine answers_keeping rfl ?_
    dsimp only
    repeat' split
    all_goals exact .of_eq (by simp) (by simp)
  | islandCycle inp =>
    exact ⟨_, rfl, by simp, .inl ⟨inp, rfl⟩⟩
  | sectionsDelivered =>
    refine ⟨_, rfl, ?_, .inr (.inl rfl)⟩
    repeat' split
    all_goals simp
  | schOvrCfgWrite | peakClear =>
    refine answers_keeping rfl ?_
    exact s.writeReg_keeps _ _ _
  | arbCfgWrite | counterConfigWrite | registerWrite | tagSeedWrite | taggerEnable =>
    refine answers_keeping rfl (.ite ?_ (.refl s))
    exact s.writeReg_keeps _ _ _
  | dbgAccess a d w =>
    refine answers_keeping rfl (.ite ?_ (.refl s))
    extract_lets j b
    have hb : s.Keeps b := .of_eq rfl rfl
    refine hb.trans (.ite (.ite ?_ ?_) (.of_eq rfl rfl))
    · exact (b.writeReg_keeps Who.debug a d).trans (.of_eq rfl rfl)
    · exact .of_eq (b.readReg_pending Who.debug a) (b.readReg_saf Who.debug a)
  | writeReg h pairs =>
    refine answers_keeping rfl (.ite (.unionCmd (fun a => a.writePairs_keeps _ _ _) _ _) (.localCmd _ _ ?_))
    exact .reply (.foldl (fun b p => b.writeReg_keeps _ _ _) pairs s) _ _ _ _ _
  | beatFault =>
    refine answers_keeping rfl (.ite (.refl s) (.ite (s.imageReset_keeps _ _) ?_))
    exact .trans (.of_eq (by simp) (by simp)) (State.beatRestart_keeps _ _)
  | overrunCheck =>
    refine answers_keeping rfl (.ite (.refl s) (.ite ?_ ?_))
    · exact .trans (.of_eq (by simp) (by simp)) (State.imageReset_keeps _ _ _)
    · exact .trans (.of_eq (by simp) (by simp)) (State.beatRestart_keeps _ _)
  | nresetInAssert =>
    refine answers_keeping rfl (.ite ?_ (.refl s))
    exact .trans (.of_eq rfl rfl : s.Keeps { s with img := { s.img with nresetIn := true } }) (State.imageReset_keeps _ _ _)
  | resetImage =>
    exact answers_keeping rfl (.localCmd _ _ (s.imageReset_keeps _ _))
  | powerGood =>
    refine answers_keeping rfl (.ite (.ite ?_ (.refl s)) (.ite (.refl s) (s.powerOn_keeps _ _ _ _)))
    exact (s.coldReset_keeps true).trans (State.powerOn_keeps _ _ _ _ _)
  | supplyTrip =>
    exact answers_keeping rfl (.ite (s.coldReset_keeps _) (.refl s))
  | publishOp op =>
    exact answers_keeping rfl (.engineOp State.publish_keeps op)
  | lowPowerEntry =>
    refine answers_keeping rfl (.ite ?_ (.refl s))
    split
    · exact s.enterLowPower_keeps _
    · exact .refl s
  | siDiscrepancy p =>
    exact answers_keeping rfl (s.diagnose_keeps fun v => (v.discrepancy_evaluates _).kept)
  | soTestPulse p seen =>
    exact answers_keeping rfl (s.diagnose_keeps fun v => (v.testPulse_evaluates _ seen).kept)
  | soReadbackFault p =>
    exact answers_keeping rfl (s.diagnose_keeps fun v => (v.readback_evaluates _).kept)
  | plausibilityTimeout n =>
    exact answers_keeping rfl (s.diagnose_keeps fun v => (v.plausibility_evaluates _).kept)
  | globalFault d w =>
    refine answers_keeping rfl (s.onIsland_keeps fun v => ?_)
    split
    · exact v.globalFault_kept _ w
    · exact .refl v
  | safResetArm h mask =>
    have ha : s.Keeps { s with saf := s.saf.armReset mask h.session } := ⟨rfl, fun _ h => h⟩
    exact answers_keeping rfl (.localCmd _ _ (.ite (.of_eq rfl rfl) (ha.reply _ _ _ _ _)))
  | safArmExpired =>
    exact answers_keeping rfl (s.onIsland_keeps SafSt.armExpired_kept)
  | islandSelfTestDone us =>
    exact answers_keeping rfl (s.onIsland_keeps fun v => v.tested_kept us)
  | correlatorDump | pullInDone | pullInTimeout | trackLowCn0 | coastExpired | acqHandoff =>
    refine answers_keeping rfl (.gnsCh (fun _ _ _ => ?_) _)
    split <;> exact .of_eq (by simp) (by simp)
  | refSilent | busError =>
    refine answers_keeping rfl (.busChan (fun _ => ?_) _)
    dsimp only
    split <;> exact .of_eq (by simp) (by simp)
  | linkSignature =>
    refine answers_keeping rfl (.linkFrame (fun _ => ?_) _)
    split <;> exact .of_eq rfl rfl
  | linkToken =>
    refine answers_keeping rfl (.linkFrame (fun _ => ?_) _)
    dsimp only
    repeat' split
    all_goals exact .of_eq (by simp) (by simp)
  | gnssAmbFix =>
    refine answers_keeping rfl (.unionCmd (fun _ => ?_) _ _)
    dsimp only
    split <;> exact .of_eq (by simp) (by simp)
  | pairSwap | pairDemote =>
    refine answers_keeping rfl (.unionCmd (fun _ => ?_) _ _)
    split <;> exact .of_eq (by simp) (by simp)
  | gnssAmbRead | bankLoadBegin | bankLoadData | streamAdd | streamRemove | ringRead | bankLoadEnd | otpRevoke =>
    refine answers_keeping rfl (.localCmd _ _ ?_)
    dsimp only
    repeat' split
    all_goals exact .of_eq (by simp) (by simp)
  | waitEvent | loadOp =>
    refine answers_keeping rfl (.engineOp (fun _ => ?_) _)
    repeat' split
    all_goals exact .of_eq (by simp) (by simp)
  | compensatorOp op step =>
    refine answers_keeping rfl (.engineOp (fun a => ?_) op)
    cases step with
    | begin_ | advance | law => exact .of_eq (by simp) (by simp)
    | runSlots l => exact .foldl State.runSlot_keeps l a
    | loops => exact .of_eq (by simp) (by simp)
  | beatEdge | sessionIdle =>
    refine answers_keeping rfl ?_
    repeat' split
    all_goals exact .of_eq (by simp) (by simp)
  | nvmDiscovery =>
    refine answers_keeping rfl (.ite ?_ (.refl s))
    extract_lets found any g0 g a
    have ha : s.Keeps a := by
      refine .trans (.of_eq rfl rfl : s.Keeps { s with img := g }) (.foldl (fun x b => .ite (.refl x) ?_) s.img.order _)
      exact .of_eq (by simp) (by simp)
    exact .ite ha (ha.trans (.of_eq rfl rfl))
  | adoptionDeadline | arpIcmpEcho | ethLinkChange | frontEndReadback | lockExpired | ppsInEdge | programSwitch | ptpMasterSend | ptpMessageReceive | referenceStale | regionWrite | sentenceComplete | watchBurstStart =>
    refine answers_keeping rfl ?_
    dsimp only
    repeat' split
    all_goals exact .of_eq (by simp) (by simp)
  | acqSearchDone peak =>
    refine answers_keeping rfl ?_
    split
    · refine .ite (.refl s) ?_
      extract_lets g a c
      refine .trans (.of_eq rfl rfl : s.Keeps a) (.ite (.refl a) (.gnsCh (fun _ _ _ => ?_) c))
      repeat' split
      all_goals exact .of_eq (by simp) (by simp)
    · exact .refl s
  | csiFrameStart port vc dt t =>
    refine answers_keeping rfl (.trans (.of_eq rfl rfl : s.Keeps (s.reach t)) (.cameraFrame (fun _ => ?_) _ _ _))
    dsimp only
    split <;> exact .of_eq (by simp) (by simp)
  | csiFrameEnd port vc dt e x data t =>
    refine answers_keeping rfl (.trans (.of_eq rfl rfl : s.Keeps (s.reach t)) (.cameraFrame (fun _ => ?_) _ _ _))
    dsimp only
    repeat' split
    all_goals exact .of_eq (by simp) (by simp)
  | lidarDatagram =>
    refine answers_keeping rfl ?_
    dsimp only
    repeat' split
    all_goals exact .of_eq (by simp) (by simp)
  | ethSensorDatagram port g u lines t =>
    refine answers_keeping rfl (.ite (.trans (.of_eq rfl rfl : s.Keeps (s.reach t)) (.ite (.of_eq rfl rfl) ?_)) (.refl s))
    exact .foldl (fun _ _ => .of_eq (by simp) (by simp)) lines _
  | closeSession h =>
    have hu : s.Keeps (s.unionCmd h 0x0002 applied) := .unionCmd (fun _ => .of_eq rfl rfl) h _
    exact answers_keeping rfl (.ite (hu.trans (.of_eq (by simp) (by simp))) hu)
  | otpMinSecver | readRecorder | readSnapshot | ringWrite =>
    refine answers_keeping rfl (.localCmd _ _ ?_)
    repeat' split
    all_goals exact .of_eq (by simp) (by simp)
  | readReg h l =>
    refine answers_keeping rfl (.localCmd _ _ (.ite (.of_eq rfl rfl) ?_))
    exact (s.readRegs_keeps (s.whoOf h) l).trans (.of_eq rfl rfl)
  | watchBurstEnd =>
    exact answers_keeping (exec_watchBurstEnd_eq s) (.ite (.trans (s.latchGnss_keeps _ true) (.withGns _ _)) (.refl s))

/-! R97, R472: the delivery of sections reaches the latch only with the SAFETY_CFG of an Image reset. -/

theorem State.deliverSections_unlatches (s : State) (img : ImageDesc) (x : Schedule) {k : Nat} (hk : k < 8) (hl : maskBit s.saf.latched k = true)
    (hn : maskBit (s.deliverSections img x).saf.latched k = false) :
    s.img.kind = .image ∧ (s.deliverSections img x).saf.so k = none := by
  unfold State.deliverSections at hn ⊢
  extract_lets isImage a cal lun out o b at hn ⊢
  have hb : b.saf = s.saf := by simp [b, a]
  clear_value b
  split at hn
  next c hc =>
    split at hn
    next hi =>
      refine ⟨of_decide_eq_true hi, ?_⟩
      have hs : (b.applySaf (b.saf.compare c)).saf = (s.saf.compare c).saf := by rw [State.applySaf, State.raise_saf, hb]
      rw [if_pos hi, hs]
      rw [hs] at hn
      exact s.saf.compare_unlatches c hk hl hn
    next =>
      have : (b.saf.load c).latched = s.saf.latched := by rw [hb]; rfl
      exact absurd (hn.symm.trans (this ▸ hl)) (by decide)
  next => exact absurd (hn.symm.trans (hb ▸ hl)) (by decide)

theorem exec_sectionsDelivered_unlatches (s t : State) (h : exec .sectionsDelivered s = .next t) {k : Nat} (hk : k < 8)
    (hl : maskBit s.saf.latched k = true) (hn : maskBit t.saf.latched k = false) : s.img.kind = .image ∧ t.saf.so k = none := by
  obtain rfl := Host.Outcome.next.inj h
  have hstay : maskBit s.saf.latched k ≠ false := by simp [hl]
  split at hn
  next hp =>
    rw [if_pos hp]
    split at hn
    next img _ =>
      split at hn
      next x _ =>
        dsimp only at hn ⊢
        rw [State.revertChanges_saf] at hn ⊢
        exact s.deliverSections_unlatches img x hk hl hn
      next => exact absurd hn hstay
    next => exact absurd hn hstay
  next => exact absurd hn hstay

/-- Settles O1: `step` takes the command at the front of the queue. -/
theorem stepRunsFront : Obligations.StepRunsFront := by
  refine ⟨fun s c rest h => ?_, fun s h => ?_⟩
  · simp only [step, h]
  · simp only [step, h]

/-- Settles O2: no command answers anything but a next state, and none reaches the queue. -/
theorem everyCommandCompletes : Obligations.EveryCommandCompletes := fun c s =>
  have ⟨t, ht, hq, _⟩ := exec_keeps c s
  ⟨t, ht, hq⟩

theorem exec_islandCycle_saf (s : State) (inp : IslandIn) (h : s.islandOn = true) :
    ∃ t, exec (.islandCycle inp) s = .next t ∧ t.saf = (s.saf.cycle inp s.cndValue s.exchanging).saf :=
  ⟨_, rfl, by rw [State.onIsland, if_pos h, State.applySaf, State.raise_saf]⟩

theorem exec_islandCycle_off (s : State) (inp : IslandIn) (h : s.islandOn ≠ true) : exec (.islandCycle inp) s = .next s :=
  congrArg Host.Outcome.next (if_neg h)

/-- Settles O55: only an edge and the delivery of sections can end a latch, an edge by the reset procedure alone. -/
theorem lockoutCleared : Obligations.LockoutCleared := by
  intro c s t k hk ht hl hn
  obtain ⟨t', ht', _, h⟩ := exec_keeps c s
  obtain rfl : t = t' := by rw [ht] at ht'; exact Host.Outcome.next.inj ht'
  rcases h with ⟨inp, rfl⟩ | rfl | h
  · left
    by_cases hon : s.islandOn = true
    · obtain ⟨u, hu, hsaf⟩ := exec_islandCycle_saf s inp hon
      obtain rfl : t = u := by rw [ht] at hu; exact Host.Outcome.next.inj hu
      rw [hsaf] at hn ⊢
      obtain ⟨hrun, ⟨a, harm, hmask, hleft⟩, ⟨hsack, hgood⟩, ⟨hlo, hhi⟩, hfell, hcfg, hcause⟩ := SafSt.cycle_unlatches hk hl hn
      refine ⟨inp, a, rfl, hrun, harm, hmask, hleft, hsack, hgood, hlo, hhi, hfell, ?_, ?_, fun e j he hj hstop => ?_⟩
      · exact eq_false_of_ne_true fun hv => absurd (hcause.symm.trans (SafSt.causeOf_of_violated hv)) (by decide)
      · exact eq_false_of_ne_true fun hv => absurd (hcause.symm.trans (SafSt.causeOf_of_fault hk hv)) (by decide)
      · have he' : (s.saf.cycle inp s.cndValue s.exchanging).saf.so k = some e := by unfold SafSt.so at he ⊢; rw [hcfg]; exact he
        exact eq_true_of_ne_false fun ho => absurd (hcause.symm.trans (SafSt.causeOf_of_demand he' hj hstop ho)) (by decide)
    · rw [exec_islandCycle_off s inp hon] at ht
      obtain rfl := Host.Outcome.next.inj ht
      exact absurd (hn.symm.trans hl) (by decide)
  · exact .inr ⟨rfl, exec_sectionsDelivered_unlatches s t ht hk hl hn⟩
  · exact absurd (hn.symm.trans (h k hl)) (by decide)

end Sys2Proof.Machine
end

section
/-! SUPPORT. The edge of the safety island and its diagnostics, bit by bit (16_safety_functions.md R459 to R471): what an evaluation shows, demands and
judges, what a fault latches, and the statements on an edge and on the safety commands. -/

namespace Sys2Proof.Machine

open Sys2Proof

/-! The pairs of functions and faults, bit by bit (R461, Table 16.2). -/

section
variable (v : SafSt)

/-- A fold that may add bit `k` at each number. -/
theorem foldl_maskBit {g : Byte → Nat → Byte} {q : Nat → Prop} {k : Nat} (hg : ∀ m i, maskBit (g m i) k = true ↔ maskBit m k = true ∨ q i)
    (l : List Nat) (m : Byte) : maskBit (l.foldl g m) k = true ↔ maskBit m k = true ∨ ∃ i ∈ l, q i := by
  induction l generalizing m with
  | nil => simp
  | cons i l ih => rw [List.foldl_cons, ih, hg, List.exists_mem_cons_iff, or_assoc]

theorem SafSt.violPairs_bit (k : Nat) :
    maskBit v.violPairs k = true ↔ ∃ i f, i < 16 ∧ v.func i = some f ∧ maskBit v.violated i = true ∧ maskBit f.soMask k = true := by
  unfold SafSt.violPairs
  refine (foldl_maskBit (q := fun i => ∃ f, v.func i = some f ∧ maskBit v.violated i = true ∧ maskBit f.soMask k = true) (fun m i => ?_) _ _).trans ?_
  · split
    next c hf => cases hq : maskBit v.violated i <;> simp [hf, maskBit_or]
    next hf => simp [hf]
  · simp [maskBit]

theorem SafSt.fnPairs_bit (q : FuncCfg → Bool) (k : Nat) :
    maskBit (v.fnPairs q) k = true ↔ ∃ i f, i < 16 ∧ v.func i = some f ∧ q f = true ∧ maskBit f.soMask k = true := by
  unfold SafSt.fnPairs
  refine (foldl_maskBit (q := fun i => ∃ f, v.func i = some f ∧ q f = true ∧ maskBit f.soMask k = true) (fun m i => ?_) _ _).trans ?_
  · split
    next c hf => cases hq : q c <;> simp [hf, hq, maskBit_or]
    next hf => simp [hf]
  · simp [maskBit]

variable {v}

theorem SafSt.stopPairs_bit {k j : Nat} {x : SoCfg} (hk : k < 8) (hx : v.so k = some x) : maskBit (v.stopPairs j) k = maskBit x.siStop j := by
  rw [SafSt.stopPairs, maskBit_maskWhere _ hk, decide_eq_true hk, hx, Bool.true_and]

theorem SafSt.used_of_so {k : Nat} (hk : k < 8) (hx : (v.so k).isSome = true) : maskBit v.used k = true := by rw [v.used_bit hk, hx]

/-- Latching reaches every used pair of its mask (R467). -/
theorem SafSt.latch_reaches {p : Byte} {k : Nat} (hk : k < 8) (hp : maskBit p k = true) (hx : (v.so k).isSome = true) (flag : Nat) (ev : Byte → Ev) :
    maskBit (v.latch p flag ev).saf.latched k = true := by
  rw [SafSt.latch_latched, maskBit_or, maskBit_and, hp, SafSt.used_of_so hk hx, Bool.and_self, Bool.or_true]

/-- R461, R102: the pairs that a flush switches on. -/
theorem SafSt.wanted_bit (hi : v.island = .run) (hr : v.released = true) {k : Nat} (hk : k < 8) :
    maskBit v.wanted k = true ↔ ∃ e, v.so k = some e ∧ v.globalLock = false ∧ maskBit v.latched k = false ∧ maskBit v.violPairs k = false ∧
      (∀ j, j < 8 → maskBit e.siStop j = true → maskBit v.siOn j = true) ∧ (e.reqKind = 0 ∨ maskBit v.onReq k = true) := by
  have hff : maskBit (0xFF : Byte) k = true := (by decide : ∀ i < 8, maskBit (0xFF : Byte) i = true) k hk
  have hlocked : maskBit v.locked k = false ↔ v.globalLock = false ∧ maskBit v.latched k = false := by
    unfold SafSt.locked
    cases v.globalLock with
    | false => simp
    | true => rw [if_pos rfl, hff]; simp
  rw [SafSt.wanted, if_pos ⟨hi, hr⟩, maskBit_maskWhere _ hk, decide_eq_true hk, Bool.true_and]
  cases v.so k with
  | none => simp
  | some e =>
    simp only [Option.some.injEq, exists_eq_left', Bool.and_eq_true, Bool.not_eq_true', hlocked, decide_eq_true_eq, Bool.or_eq_true,
      and_not_eq_zero_iff, and_assoc]

end

/-! What the stages of an evaluation leave of the inputs and the functions (R458 to R464). -/

/-- The inputs that the functions and the demands read. -/
def SafSt.inputs (v : SafSt) : Tab SiChan × Byte × Byte × Byte := (v.channels, v.siOn, v.siDisc, v.siPulse)

/-- The inputs and the functions' states. -/
def SafSt.judgement (v : SafSt) : (Tab SiChan × Byte × Byte × Byte) × Half := (v.inputs, v.violated)

section
variable (v : SafSt) (k : Nat)

theorem SafSt.latch_judgement (p : Byte) (flag : Nat) (ev : Byte → Ev) : (v.latch p flag ev).saf.judgement = v.judgement := by
  rw [v.latch_eq]; rfl

theorem SafSt.latch_fields (p : Byte) (flag : Nat) (ev : Byte → Ev) :
    (v.latch p flag ev).saf.soOn = v.soOn ∧ (v.latch p flag ev).saf.siDisc = v.siDisc ∧ (v.latch p flag ev).saf.senseLate = v.senseLate ∧
      (v.latch p flag ev).saf.soFault = v.soFault ∧ (v.latch p flag ev).saf.siOn = v.siOn ∧ (v.latch p flag ev).saf.siPulse = v.siPulse := by
  rw [v.latch_eq]
  exact ⟨rfl, rfl, rfl, rfl, rfl, rfl⟩

theorem SafSt.evalEnc_judgement (enc : List (Int × Bool)) : (v.evalEnc enc k).saf.judgement = v.judgement := by
  unfold SafSt.evalEnc
  split
  next => rfl
  next =>
    split
    next => rfl
    next =>
      extract_lets x was w
      split
      · exact (SafSt.latch_judgement _ _ _ _).trans rfl
      · rfl

theorem SafSt.evalSense_judgement (cnd : Nat → Option Int) : (v.evalSense cnd k).saf.judgement = v.judgement := by
  unfold SafSt.evalSense
  split
  next => rfl
  next =>
    extract_lets a b bad dis was w
    split
    · exact (SafSt.latch_judgement _ _ _ _).trans rfl
    · rfl

theorem SafSt.readback_judgement : (v.readback k).saf.judgement = v.judgement := by
  unfold SafSt.readback
  split
  next => rfl
  next =>
    split
    · rfl
    · exact (SafSt.latch_judgement _ _ _ _).trans rfl

theorem SafSt.evalReadback_judgement (bad : Byte) : (v.evalReadback bad k).saf.judgement = v.judgement := by
  unfold SafSt.evalReadback
  split
  · exact v.readback_judgement k
  · rfl

/-- A used input pair after its evaluation (R459). -/
theorem SafSt.evalSi_taken {e : SiCfg} (he : v.si k = some e) (hm : e.mode ≠ 3) :
    (v.evalSi k).saf.inputs = (v.inputTaken k e).inputs := by
  rw [SafSt.evalSi_input he hm]
  split
  · exact congrArg Prod.fst (SafSt.latch_judgement _ _ _ _)
  · rfl

theorem SafSt.inputTaken_siOn_other (e : SiCfg) {j : Nat} (hj : j ≠ k) : maskBit (v.inputTaken k e).siOn j = maskBit v.siOn j := by
  unfold SafSt.inputTaken
  dsimp only
  split
  · exact maskBit_setBit_other _ hj
  · exact maskBit_clrBit_other _ hj

theorem SafSt.inputTaken_siOn_same (e : SiCfg) (hk : k < 8) : maskBit (v.inputTaken k e).siOn k = ((v.shows k e).1 && (v.shows k e).2) := by
  unfold SafSt.inputTaken
  dsimp only
  split
  next h => rw [h]; exact maskBit_setBit_same _ hk
  next h => rw [eq_false_of_ne_true h]; exact maskBit_clrBit_same _ _

/-- The evaluation of a pair reads the channels and leaves them, and the state of every other pair. -/
theorem SafSt.evalSi_others : (v.evalSi k).saf.channels = v.channels ∧ ∀ j, j ≠ k → maskBit (v.evalSi k).saf.siOn j = maskBit v.siOn j := by
  by_cases h : ∀ e, v.si k = some e → e.mode = 3
  · rw [SafSt.evalSi_skip h]
    exact ⟨rfl, fun _ _ => rfl⟩
  · obtain ⟨e, he, hm⟩ : ∃ e, v.si k = some e ∧ e.mode ≠ 3 := by simpa using h
    have hin := v.evalSi_taken k he hm
    exact ⟨congrArg Prod.fst hin, fun j hj =>
      (congrArg (fun x => maskBit x.2.1 j) hin).trans (v.inputTaken_siOn_other k e hj)⟩

/-- R459: the state of an input pair is what its channels show. -/
def SafSt.ShowsState (v : SafSt) (k : Nat) : Prop :=
  k < 8 → ∀ e, v.si k = some e → e.mode ≠ 3 → maskBit v.siOn k = ((v.shows k e).1 && (v.shows k e).2)

/-- R461: a pair that was ON and is OFF has latched the used pairs that name it in SI_STOP. -/
def SafSt.Demanded (was v : SafSt) : Prop :=
  ∀ j k x, k < 8 → maskBit was.siOn j = true → maskBit v.siOn j = false → v.so k = some x → maskBit x.siStop j = true →
    maskBit v.latched k = true

/-- R464: a violated function is enabled, and its used pairs are latched. -/
def SafSt.Answered (v : SafSt) (i : Nat) : Prop :=
  ∀ f, v.func i = some f → maskBit v.violated i = true →
    v.fnEnabled f = true ∧ ∀ k, k < 8 → maskBit f.soMask k = true → (v.so k).isSome = true → maskBit v.latched k = true

end

section
variable {v w : SafSt} {k : Nat}

theorem SafSt.Evaluates.si (h : v.Evaluates w) (k : Nat) : w.si k = v.si k := by unfold SafSt.si; rw [h.cfg]
theorem SafSt.Evaluates.so (h : v.Evaluates w) (k : Nat) : w.so k = v.so k := by unfold SafSt.so; rw [h.cfg]
theorem SafSt.Evaluates.func (h : v.Evaluates w) (k : Nat) : w.func k = v.func k := by unfold SafSt.func; rw [h.cfg]

theorem SafSt.ShowsState.of_inputs (hv : v.ShowsState k) (h : v.Evaluates w) (hch : w.channels = v.channels) (hon : maskBit w.siOn k = maskBit v.siOn k) :
    w.ShowsState k := fun hk e he hm => by
  rw [h.si] at he
  have hs : w.shows k e = v.shows k e := by unfold SafSt.shows; rw [hch]
  rw [hon, hs]
  exact hv hk e he hm

theorem SafSt.evalSi_shows (v : SafSt) (k : Nat) : (v.evalSi k).saf.ShowsState k := fun hk e he hm => by
  have hev := v.evalSi_evaluates k
  rw [hev.si] at he
  have hs : (v.evalSi k).saf.shows k e = v.shows k e := by unfold SafSt.shows; rw [(v.evalSi_others k).1]
  rw [hs]
  exact (congrArg (fun x => maskBit x.2.1 k) (v.evalSi_taken k he hm)).trans (v.inputTaken_siOn_same k e hk)

theorem SafSt.Demanded.of_siOn {was : SafSt} (hv : was.Demanded v) (h : v.Evaluates w) (hon : w.siOn = v.siOn) : was.Demanded w :=
  fun j k x hk hj ho hx hs => h.kept k (hv j k x hk hj (by rwa [hon] at ho) (by rwa [h.so] at hx) hs)

/-- R461: the evaluation of a pair that goes OFF latches for it. -/
theorem SafSt.Demanded.evalSi {was : SafSt} (hv : was.Demanded v) (i : Nat) : was.Demanded (v.evalSi i).saf := by
  intro j k x hk hj ho hx hs
  have hev := v.evalSi_evaluates i
  rw [hev.so] at hx
  by_cases hji : j = i
  · subst hji
    by_cases hon : maskBit v.siOn j = true
    · by_cases hskip : ∀ e, v.si j = some e → e.mode = 3
      · rw [SafSt.evalSi_skip hskip] at ho
        exact absurd (ho.symm.trans hon) (by decide)
      · obtain ⟨e, he, hm⟩ : ∃ e, v.si j = some e ∧ e.mode ≠ 3 := by simpa using hskip
        have hstop : maskBit (v.stopPairs j) k = true := by rw [SafSt.stopPairs_bit hk hx, hs]
        have hused := SafSt.used_of_so hk (show (v.so k).isSome = true by rw [hx]; rfl)
        have hoff : ((v.shows j e).1 && (v.shows j e).2) = false :=
          (v.inputTaken_siOn_same j e (maskBit_lt hon)).symm.trans ((congrArg (fun x => maskBit x.2.1 j) (v.evalSi_taken j he hm)).symm.trans ho)
        have hany : v.stopPairs j &&& v.used ≠ 0 := fun hz => absurd (hused.symm.trans (zero_of_and_eq_zero hz hstop)) (by decide)
        rw [SafSt.evalSi_input he hm, if_pos ⟨hon, by rw [hoff]; rfl, hany⟩]
        exact SafSt.latch_reaches (v := v.inputTaken j e) hk hstop (show (v.so k).isSome = true by rw [hx]; rfl) _ _
    · exact hev.kept k (hv j k x hk hj (eq_false_of_ne_true hon) hx hs)
  · rw [(v.evalSi_others i).2 j hji] at ho
    exact hev.kept k (hv j k x hk hj ho hx hs)

theorem SafSt.fnEnabled_of_inputs (h : w.inputs = v.inputs) (f : FuncCfg) : w.fnEnabled f = v.fnEnabled f := by
  obtain ⟨-, h⟩ := Prod.mk.inj h
  obtain ⟨hon, h⟩ := Prod.mk.inj h
  obtain ⟨hdisc, hpulse⟩ := Prod.mk.inj h
  unfold SafSt.fnEnabled
  rw [hon, hdisc, hpulse]

theorem SafSt.Answered.of_judgement {i : Nat} (hv : v.Answered i) (h : v.Evaluates w) (hin : w.inputs = v.inputs)
    (hviol : maskBit w.violated i = maskBit v.violated i) : w.Answered i := fun f hf hw => by
  rw [h.func] at hf
  rw [hviol] at hw
  obtain ⟨hen, hl⟩ := hv f hf hw
  exact ⟨(SafSt.fnEnabled_of_inputs hin f).trans hen, fun k hk hm hs => h.kept k (hl k hk hm (by rwa [h.so] at hs))⟩

/-- A function's evaluation judges it on the inputs (R464). -/
theorem SafSt.evalFn_judged {i : Nat} {f : FuncCfg} (hf : v.func i = some f) :
    (v.evalFn i).saf.inputs = v.inputs ∧ (v.evalFn i).saf.violated = (v.judged i f).violated := by
  rw [SafSt.evalFn_func hf]
  split
  · have hj := SafSt.latch_judgement { v.judged i f with fnTrips := Tab.set 0 v.fnTrips i (Tab.get 0 v.fnTrips i + 1) } f.soMask 0
      (fun p => (0x0F01, [wordN i, wordN p.toNat, valueWord (decide (f.kind = 4)) (v.judgedValue i f)]))
    exact ⟨congrArg Prod.fst hj, congrArg Prod.snd hj⟩
  · split
    · dsimp only [SafR.of_saf]
      split <;> exact ⟨rfl, rfl⟩
    · exact ⟨rfl, rfl⟩

theorem SafSt.judged_violated_same (v : SafSt) {i : Nat} (f : FuncCfg) (hi : i < 16) : maskBit (v.judged i f).violated i = v.broken f := by
  unfold SafSt.judged
  cases v.broken f with
  | false => exact maskBit_clrBit_same _ _
  | true => exact maskBit_setBit_same _ hi

theorem SafSt.judged_violated_other (v : SafSt) {i j : Nat} (f : FuncCfg) (hj : j ≠ i) :
    maskBit (v.judged i f).violated j = maskBit v.violated j := by
  unfold SafSt.judged
  cases v.broken f with
  | false => exact maskBit_clrBit_other _ hj
  | true => exact maskBit_setBit_other _ hj

/-- A function's evaluation reads the inputs, and writes its own violation alone. -/
theorem SafSt.evalFn_others (v : SafSt) (i : Nat) :
    (v.evalFn i).saf.inputs = v.inputs ∧ ∀ j, j ≠ i → maskBit (v.evalFn i).saf.violated j = maskBit v.violated j := by
  cases hf : v.func i with
  | none =>
    rw [SafSt.evalFn_unused hf]
    exact ⟨rfl, fun _ _ => rfl⟩
  | some f =>
    obtain ⟨hin, hviol⟩ := SafSt.evalFn_judged hf
    exact ⟨hin, fun j hj => by rw [hviol, SafSt.judged_violated_other _ _ hj]⟩

/-- R464, R467: a function found violated is enabled, and its used pairs are latched from then on. -/
theorem SafSt.evalFn_latches {i : Nat} {f : FuncCfg} (hf : v.func i = some f) (hb : v.broken f = true) {k : Nat} (hk : k < 8)
    (hm : maskBit f.soMask k = true) (hs : (v.so k).isSome = true) : maskBit (v.evalFn i).saf.latched k = true := by
  have hu := SafSt.used_of_so hk hs
  rw [SafSt.evalFn_func hf]
  split
  · exact SafSt.latch_reaches (v := { v.judged i f with fnTrips := _ }) hk hm hs _ _
  · rw [SafR.of_saf]
    split
    next hz =>
      have := (and_not_eq_zero_iff _ _).1 hz k hk (by rw [maskBit_and, hm, hu]; rfl)
      exact this
    next => rw [SafSt.writeLock_latched, maskBit_or, maskBit_and, hm, hu, Bool.and_self, Bool.or_true]

theorem SafSt.evalFn_answered (v : SafSt) (i : Nat) : (v.evalFn i).saf.Answered i := fun f hf hw => by
  have hev := SafSt.evalFn_evaluates i v
  rw [hev.func] at hf
  obtain ⟨hin, hviol⟩ := SafSt.evalFn_judged hf
  have hb : v.broken f = true := by
    rw [← v.judged_violated_same f (maskBit_lt hw), ← hviol]
    exact hw
  have hen : v.fnEnabled f = true := (Bool.and_eq_true_iff.1 hb).1
  exact ⟨(SafSt.fnEnabled_of_inputs hin f).trans hen, fun k hk hm hs => SafSt.evalFn_latches hf hb hk hm (by rwa [hev.so] at hs)⟩

end

/-! An edge of the running island (R458). -/

section
variable {v : SafSt} {inp : IslandIn} {cnd : Nat → Option Int}

/-- The stages after the inputs leave the inputs, and the readbacks leave the functions too. -/
theorem SafR.sensed_judgement (r : SafR) (inp : IslandIn) (cnd : Nat → Option Int) : (r.sensed inp cnd).saf.judgement = r.saf.judgement :=
  have hEnc := SafR.each_inv (P := fun w => w.judgement = r.saf.judgement) (f := SafSt.evalEnc inp.encoder)
    (fun k w h => (w.evalEnc_judgement k _).trans h) (List.range 8) r rfl
  SafR.each_inv (P := fun w => w.judgement = r.saf.judgement) (fun k w h => (w.evalSense_judgement k cnd).trans h) (List.range 16) _ hEnc

theorem SafR.functions_inputs (r : SafR) : r.functions.saf.inputs = r.saf.inputs :=
  SafR.each_inv (P := fun w => w.inputs = r.saf.inputs) (fun k w h => (w.evalFn_others k).1.trans h) (List.range 16) r rfl

theorem SafR.readbacks_judgement (r : SafR) (inp : IslandIn) : (r.readbacks inp).saf.judgement = r.saf.judgement :=
  SafR.each_inv (P := fun w => w.judgement = r.saf.judgement) (fun k w h => (w.evalReadback_judgement k _).trans h) (List.range 8) r rfl

/-- What an evaluation leaves of the inputs that its first stage read. -/
theorem SafSt.evaluated_inputs (v : SafSt) (inp : IslandIn) (cnd : Nat → Option Int) : (v.evaluated inp cnd).inputs = (v.inputsRead inp).saf.inputs :=
  (congrArg Prod.fst (SafR.readbacks_judgement _ inp)).trans
    ((SafR.functions_inputs _).trans (congrArg Prod.fst (SafR.sensed_judgement (v.inputsRead inp) inp cnd)))

theorem SafSt.evaluated_of_inputsRead (v : SafSt) (inp : IslandIn) (cnd : Nat → Option Int) : (v.inputsRead inp).saf.Evaluates (v.evaluated inp cnd) :=
  ((SafR.sensed_evaluates _ inp cnd).trans (SafR.functions_evaluates _)).trans (SafR.readbacks_evaluates _ inp)

/-- R459: after an evaluation each used input pair is what its channels show. -/
theorem SafSt.evaluated_shows (v : SafSt) (inp : IslandIn) (cnd : Nat → Option Int) {k : Nat} (hk : k < 8) : (v.evaluated inp cnd).ShowsState k := by
  have hread : (v.inputsRead inp).saf.ShowsState k :=
    SafR.each_mem (Q := fun j w => w.ShowsState j) (fun j w => w.evalSi_shows j)
      (fun j i w hw => by
        by_cases hji : j = i
        · exact hji ▸ w.evalSi_shows j
        · exact hw.of_inputs (w.evalSi_evaluates i) (w.evalSi_others i).1 ((w.evalSi_others i).2 j hji))
      (List.range 8) _ k (List.mem_range.2 hk)
  obtain ⟨hch, h⟩ := Prod.mk.inj (v.evaluated_inputs inp cnd)
  exact hread.of_inputs (v.evaluated_of_inputsRead inp cnd) hch (by rw [(Prod.mk.inj h).1])

/-- R461: after an evaluation every demand has latched. -/
theorem SafSt.evaluated_demanded (v : SafSt) (inp : IslandIn) (cnd : Nat → Option Int) : v.Demanded (v.evaluated inp cnd) := by
  have hstart : v.Demanded (v.sampleAll inp.samples) := fun j k x _ hj ho _ _ => absurd (ho.symm.trans hj) (by decide)
  have hread : v.Demanded (v.inputsRead inp).saf :=
    SafR.each_inv (P := v.Demanded) (fun i w hw => hw.evalSi i) (List.range 8) _ hstart
  obtain ⟨-, h⟩ := Prod.mk.inj (v.evaluated_inputs inp cnd)
  exact hread.of_siOn (v.evaluated_of_inputsRead inp cnd) (Prod.mk.inj h).1

/-- R464: after an evaluation every violated function is enabled and has latched. -/
theorem SafSt.evaluated_answered (v : SafSt) (inp : IslandIn) (cnd : Nat → Option Int) {i : Nat} (hi : i < 16) : (v.evaluated inp cnd).Answered i := by
  have hfn : ((v.inputsRead inp).sensed inp cnd).functions.saf.Answered i :=
    SafR.each_mem (Q := fun j w => w.Answered j) (fun j w => w.evalFn_answered j)
      (fun j k w hw => by
        by_cases hjk : j = k
        · exact hjk ▸ w.evalFn_answered j
        · exact hw.of_judgement (SafSt.evalFn_evaluates k w) (w.evalFn_others k).1 ((w.evalFn_others k).2 j hjk))
      (List.range 16) _ i (List.mem_range.2 hi)
  obtain ⟨hin, hviol⟩ := Prod.mk.inj (SafR.readbacks_judgement ((v.inputsRead inp).sensed inp cnd).functions inp)
  exact hfn.of_judgement (SafR.readbacks_evaluates _ inp) hin (by rw [SafSt.evaluated, hviol])

/-- A SACK edge keeps the latch of a pair with a cause (R469). -/
theorem SafSt.sackEdge_caused {active : Bool} {k : Nat} (hk : k < 8) (hc : v.causeOf k = true) (hl : maskBit v.latched k = true) :
    maskBit (v.sackEdge active).saf.latched k = true := by
  by_contra h
  obtain ⟨-, a, -, -, hn⟩ := (v.sackEdge_spec active).2.2 k hk hl (eq_false_of_ne_true h)
  exact absurd (hn.symm.trans hc) (by decide)

end

/-! The statement on an edge of the island. -/

section
variable {v : SafSt}

theorem SafSt.flush_soOn (v : SafSt) : v.flush.saf.soOn = ({ v with released := v.flush.saf.released } : SafSt).wanted := by
  unfold SafSt.flush SafSt.switch
  dsimp only [SafR.of_saf]
  rw [SafSt.last_eq]
  rfl

theorem SafSt.flush_released (h : v.released = true) : v.flush.saf.released = true := by
  unfold SafSt.flush SafSt.switch
  dsimp only [SafR.of_saf]
  rw [SafSt.last_eq]
  change (v.released || _) = true
  rw [h, Bool.true_or]

theorem SafSt.flush_soOn_bit (hi : v.island = .run) (hr : v.released = true) {k : Nat} (hk : k < 8) :
    maskBit v.flush.saf.soOn k = true ↔ ∃ e, v.so k = some e ∧ v.globalLock = false ∧ maskBit v.latched k = false ∧
      maskBit v.violPairs k = false ∧ (∀ j, j < 8 → maskBit e.siStop j = true → maskBit v.siOn j = true) ∧ (e.reqKind = 0 ∨ maskBit v.onReq k = true) := by
  rw [SafSt.flush_soOn]
  exact SafSt.wanted_bit (v := { v with released := v.flush.saf.released }) hi (SafSt.flush_released hr) hk

/-- R461, R102: the pairs that are on after the flush of an edge. -/
theorem SafSt.flushed_soOn (hi : v.island = .run) (hr : v.released = true) (inp : IslandIn) (beatRuns : Bool) {k : Nat} (hk : k < 8) :
    maskBit (v.flushed inp beatRuns).soOn k = true ↔ ∃ e, v.so k = some e ∧ v.globalLock = false ∧ maskBit v.latched k = false ∧
      maskBit v.violPairs k = false ∧ (∀ j, j < 8 → maskBit e.siStop j = true → maskBit v.siOn j = true) ∧ (e.reqKind = 0 ∨ maskBit v.onReq k = true) :=
  SafSt.flush_soOn_bit (v := { v with
    started := v.started || beatRuns, rephased := v.rephased || v.started || inp.rephase
    arm := v.arm.map (fun (a : SafArm) => { a with left := a.left - 1 }) }) hi hr hk

/-- No violated function names the pair. -/
theorem SafSt.violPairs_clear (v : SafSt) (k : Nat) :
    maskBit v.violPairs k = false ↔ ∀ i f, i < 16 → v.func i = some f → maskBit v.violated i = true → maskBit f.soMask k = false := by
  rw [← Bool.not_eq_true, SafSt.violPairs_bit]
  constructor
  · exact fun h i f hi hf hv => eq_false_of_ne_true fun hm => h ⟨i, f, hi, hf, hv, hm⟩
  · rintro h ⟨i, f, hi, hf, hv, hm⟩
    rw [h i f hi hf hv] at hm
    contradiction

/-- What a SACK edge leaves of the inputs, the functions and the outputs. -/
theorem SafSt.sackEdge_leaves (v : SafSt) (active : Bool) :
    (v.sackEdge active).saf.island = v.island ∧ (v.sackEdge active).saf.soOn = v.soOn ∧ (v.sackEdge active).saf.inputs = v.inputs ∧
      (v.sackEdge active).saf.violated = v.violated :=
  have h := (v.sackEdge_spec active).1
  ⟨(congrArg SafSt.island h :), (congrArg SafSt.soOn h :), (congrArg SafSt.inputs h :), (congrArg SafSt.violated h :)⟩

/-- R459: the state of a pair by the levels of its channels. -/
theorem SafSt.shows_iff (v : SafSt) (k : Nat) (e : SiCfg) :
    ((v.shows k e).1 && (v.shows k e).2) = true ↔ (Tab.get SiChan.zero v.channels (2 * k)).level = true ∧
      (Tab.get SiChan.zero v.channels (2 * k + 1)).level = decide (e.mode ≠ 2) := by
  unfold SafSt.shows
  dsimp only
  by_cases hm : e.mode = 2
  · rw [if_pos hm, decide_eq_false (not_not.2 hm), Bool.and_eq_true, Bool.not_eq_true']
  · rw [if_neg hm, decide_eq_true hm, Bool.and_eq_true]

theorem SafSt.globalFault_state (v : SafSt) (d : Nat) (w : Word) :
    (v.globalFault d w).saf.island = .fault ∧ (v.globalFault d w).saf.globalLock = true ∧ (v.globalFault d w).saf.soOn = 0 ∧
      (v.globalFault d w).saf.testedSince = false := by
  unfold SafSt.globalFault
  refine ⟨by rw [SafSt.flush_eq], by rw [SafSt.flush_globalLock]; exact v.writeLock_globalLock _ _, ?_, by rw [SafSt.flush_eq]⟩
  rw [SafSt.flush_soOn]
  exact if_neg fun h => by simpa using h.1

end

/-- Settles O52: the flush of the edge decides the outputs, its evaluation the inputs, the functions and the latches; a re-phase out of place
is a global fault. -/
theorem islandEdge : Obligations.IslandEdge := by
  refine fun s inp hon => ⟨fun c hc hrun hrel hre => ?_, fun hre hlate => ?_⟩
  · obtain ⟨t, hexec, hsaf⟩ := exec_islandCycle_saf s inp hon
    have hplace : ¬ (inp.rephase = true ∧ (s.saf.rephased || s.saf.started) = true) := by
      rintro ⟨hp, hl⟩
      rcases hre with h | ⟨h1, h2⟩
      · rw [h] at hp; contradiction
      · rw [h1, h2] at hl; contradiction
    rw [s.saf.cycle_runs inp s.cndValue s.exchanging hplace hc hrun] at hsaf
    have hev := SafSt.evaluated_evaluates (s.saf.flushed inp s.exchanging) inp s.cndValue
    have hshows := fun k => SafSt.evaluated_shows (s.saf.flushed inp s.exchanging) inp s.cndValue (k := k)
    have hdemand := SafSt.evaluated_demanded (s.saf.flushed inp s.exchanging) inp s.cndValue
    have hanswer := fun i => SafSt.evaluated_answered (s.saf.flushed inp s.exchanging) inp s.cndValue (i := i)
    have hfl := s.saf.flushed_eq inp s.exchanging
    generalize (s.saf.flushed inp s.exchanging).evaluated inp s.cndValue = u at *
    have hcfg : u.cfg = s.saf.cfg := by rw [hev.cfg, hfl]
    have hso : ∀ k, u.so k = s.saf.so k := fun k => by unfold SafSt.so; rw [hcfg]
    have hsi : ∀ k, u.si k = s.saf.si k := fun k => by unfold SafSt.si; rw [hcfg]
    have hfunc : ∀ k, u.func k = s.saf.func k := fun k => by unfold SafSt.func; rw [hcfg]
    obtain ⟨hisl, hout, hin, hviol⟩ := u.sackEdge_leaves (decide (inp.sack ≠ c.sackLow))
    obtain ⟨hch, hsion⟩ := Prod.mk.inj hin
    obtain ⟨hsion, -⟩ := Prod.mk.inj hsion
    refine ⟨t, hexec, ?_, fun k hk => ?_, fun k e hk he hm => ?_, fun i f hi hf hv => ?_, fun j e k x hj hk he hm hwas hnow hx hstop => ?_⟩
    · rw [hsaf, hisl, hev.island, hfl]
      exact hrun
    · rw [hsaf, hout, hev.soOn, SafSt.flushed_soOn hrun hrel inp _ hk]
      simp only [SafSt.violPairs_clear]
    · rw [hsaf, hch, hsion, hshows k hk hk e (by rwa [hsi]) hm]
      exact u.shows_iff k e
    · rw [hsaf, hviol] at hv
      obtain ⟨hen, hl⟩ := hanswer i hi f (by rwa [hfunc]) hv
      rw [hsaf]
      refine ⟨(SafSt.fnEnabled_of_inputs hin f).trans hen, fun k hk hm hs => ?_⟩
      refine SafSt.sackEdge_caused hk (SafSt.causeOf_of_violated ?_) (hl k hk hm (by rwa [hso]))
      exact (u.violPairs_bit k).2 ⟨i, f, hi, by rwa [hfunc], hv, hm⟩
    · rw [hsaf, hsion] at hnow
      rw [hsaf]
      exact SafSt.sackEdge_caused hk (SafSt.causeOf_of_demand (by rwa [hso]) hj hstop hnow)
        (hdemand j k x hk (by rw [hfl]; exact hwas) hnow (by rwa [hso]) hstop)
  · obtain ⟨t, hexec, hsaf⟩ := exec_islandCycle_saf s inp hon
    obtain ⟨d, w, h⟩ := s.saf.cycle_rephased inp s.cndValue s.exchanging ⟨hre, by simpa using hlate⟩
    obtain ⟨hisl, hglob, hout, -⟩ := (s.saf.flushed inp s.exchanging).globalFault_state d w
    exact ⟨t, hexec, by rw [hsaf, h, hisl], by rw [hsaf, h, hglob], by rw [hsaf, h, hout]⟩

/-! Diagnostics, faults, the reset's arm and the self-test (R459 to R471). -/

section
variable {s : State} {v : SafSt}

theorem State.onIsland_saf (h : s.islandOn = true) (f : SafSt → SafR) : (s.onIsland f).saf = (f s.saf).saf := by
  rw [State.onIsland, if_pos h, State.applySaf, State.raise_saf]

theorem State.diagnose_saf (h : s.islandOn = true) (hr : s.saf.island = .run) (f : SafSt → SafR) : (s.diagnose f).saf = (f s.saf).saf := by
  rw [State.diagnose, State.onIsland_saf h, if_pos hr]

/-- The pairs that a faulted input pair and a faulted entry affect (Table 16.2). -/
theorem SafSt.faultPairs_input {k j : Nat} {x : SoCfg} (hk : k < 8) (hx : v.so k = some x)
    (h : maskBit x.siStop j = true ∨ ∃ i f, i < 16 ∧ v.func i = some f ∧ f.enableSi.toNat = j ∧ maskBit f.soMask k = true) :
    maskBit (v.faultPairs 1 j) k = true := by
  change maskBit (v.stopPairs j ||| v.fnPairs (fun c => decide (c.enableSi.toNat = j))) k = true
  rw [maskBit_or, Bool.or_eq_true, SafSt.stopPairs_bit hk hx, SafSt.fnPairs_bit]
  simpa only [decide_eq_true_eq] using h

theorem SafSt.faultPairs_entry {k n i : Nat} {f : FuncCfg} (hi : i < 16) (hf : v.func i = some f) (hn : f.sense.toNat = n ∨ f.sense2.toNat = n)
    (hm : maskBit f.soMask k = true) : maskBit (v.faultPairs 3 n) k = true := by
  change maskBit (v.fnPairs (fun c => decide (c.sense.toNat = n) || decide (c.sense2.toNat = n))) k = true
  rw [SafSt.fnPairs_bit]
  exact ⟨i, f, hi, hf, by simpa using hn, hm⟩

theorem SafSt.faultPairs_output (v : SafSt) {k j : Nat} (hj : j < 8) : maskBit (v.faultPairs 4 k) j = decide (j = k) := by
  change maskBit (maskWhere 8 8 (fun j => decide (j = k))) j = _
  rw [maskBit_maskWhere _ hj, decide_eq_true hj, Bool.true_and]

/-- R459: a pair that disagrees beyond DISC_MS is faulted, and the used pairs it affects are latched. -/
theorem SafSt.discrepancy_fault {p : Nat} {e : SiCfg} (he : v.si p = some e) (hm : e.mode ≠ 3) (hd : e.discMs.toNat < Tab.get 0 v.disRun p)
    (hn : maskBit v.siDisc p = false) :
    (v.discrepancy p).saf.siDisc = setBit v.siDisc p ∧ (v.discrepancy p).saf.soOn = v.soOn ∧
      ∀ k, k < 8 → (v.so k).isSome = true → maskBit (v.faultPairs 1 p) k = true → maskBit (v.discrepancy p).saf.latched k = true := by
  unfold SafSt.discrepancy
  rw [he]
  dsimp only
  rw [if_pos ⟨hm, hd, by rw [hn]; rfl⟩]
  obtain ⟨hon, hdisc, -⟩ := SafSt.latch_fields { v with siDisc := setBit v.siDisc p } (v.faultPairs 1 p) 1 (fun q => (0x0F03, [1, wordN p, wordN q.toNat]))
  exact ⟨hdisc, hon, fun k hk hs hb => SafSt.latch_reaches (v := { v with siDisc := setBit v.siDisc p }) hk hb hs _ _⟩

/-- R463: an entry beyond PLAUS_TOL longer than PLAUS_MS is faulted, and the used pairs of its functions are latched. -/
theorem SafSt.plausibility_fault {n : Nat} {e : SenseCfg} (he : v.sense n = some e) (hd : e.plausMs.toNat < Tab.get 0 v.senseRun n)
    (hn : maskBit v.senseLate n = false) :
    (v.plausibility n).saf.senseLate = setBit v.senseLate n ∧ (v.plausibility n).saf.soOn = v.soOn ∧
      ∀ k, k < 8 → (v.so k).isSome = true → maskBit (v.faultPairs 3 n) k = true → maskBit (v.plausibility n).saf.latched k = true := by
  unfold SafSt.plausibility
  rw [he]
  dsimp only
  rw [if_pos ⟨hd, by rw [hn]; rfl⟩]
  obtain ⟨hon, -, hlate, -⟩ := SafSt.latch_fields { v with senseLate := setBit v.senseLate n } (v.faultPairs 3 n) 1
    (fun q => (0x0F03, [3, wordN n, wordN q.toNat]))
  exact ⟨hlate, hon, fun k hk hs hb => SafSt.latch_reaches (v := { v with senseLate := setBit v.senseLate n }) hk hb hs _ _⟩

/-- R462: a used pair whose readback disagrees is faulted and latched. -/
theorem SafSt.readback_fault {p : Nat} (hp : p < 8) (hs : (v.so p).isSome = true) (hn : maskBit v.soFault p = false) :
    (v.readback p).saf.soFault = setBit v.soFault p ∧ (v.readback p).saf.soOn = v.soOn ∧ (v.readback p).saf.latched = setBit v.latched p := by
  obtain ⟨x, hx⟩ := Option.isSome_iff_exists.1 hs
  unfold SafSt.readback
  rw [hx]
  dsimp only
  rw [if_neg (ne_true_of_eq_false hn)]
  obtain ⟨hon, -, -, hfault, -⟩ := SafSt.latch_fields { v with soFault := setBit v.soFault p } (v.faultPairs 4 p) 1
    (fun q => (0x0F03, [4, wordN p, wordN q.toNat]))
  refine ⟨hfault, hon, ?_⟩
  rw [SafSt.latch_latched]
  refine BitVec.eq_of_getLsbD_eq fun k hk => ?_
  change maskBit (v.latched ||| (v.faultPairs 4 p &&& v.used)) k = maskBit (setBit v.latched p) k
  rw [maskBit_or, maskBit_and, v.faultPairs_output hk]
  by_cases hkp : k = p
  · rw [hkp, SafSt.used_of_so hp hs, maskBit_setBit_same _ hp]; simp
  · rw [maskBit_setBit_other _ hkp]; simp [hkp]

/-- The input pairs that expect the test pulse of an output pair, and are ON (R459). -/
def SafSt.expectsPulse (v : SafSt) (p i : Nat) : Bool :=
  (v.si i).any (fun e => decide (e.tpSo.toNat = p) && decide (e.mode ≠ 3)) && maskBit v.siOn i

/-- R459: one pair at a test pulse. -/
def SafSt.pulsed (p : Nat) (seen : Byte) (i : Nat) (q : SafSt) : SafR :=
  match q.si i with
  | some e =>
    if e.tpSo.toNat = p ∧ e.mode ≠ 3 ∧ maskBit q.siOn i then
      if maskBit seen i then .of { q with siPulse := clrBit q.siPulse i } []
      else if maskBit q.siPulse i then .of q []
      else ({ q with siPulse := setBit q.siPulse i }).latch (q.faultPairs 1 i) 1 (fun p => (0x0F03, [1, wordN i, wordN p.toNat]))
    else .of q []
  | none => .of q []

theorem SafSt.testPulse_on {p : Nat} (h : maskBit v.soOn p = true) (seen : Byte) :
    v.testPulse p seen = (SafR.of v []).each (List.range 8) (SafSt.pulsed p seen) := by
  unfold SafSt.testPulse
  rw [if_pos h]
  rfl

theorem SafSt.pulsed_spec (p : Nat) (seen : Byte) (i : Nat) (q : SafSt) :
    ((SafSt.pulsed p seen i q).saf.cfg = q.cfg ∧ (SafSt.pulsed p seen i q).saf.siOn = q.siOn ∧ (SafSt.pulsed p seen i q).saf.soOn = q.soOn) ∧
      (∀ j, j ≠ i → maskBit (SafSt.pulsed p seen i q).saf.siPulse j = maskBit q.siPulse j) ∧
      (i < 8 → maskBit (SafSt.pulsed p seen i q).saf.siPulse i = if q.expectsPulse p i then !maskBit seen i else maskBit q.siPulse i) := by
  unfold SafSt.pulsed
  split
  next e he =>
    have hexp : q.expectsPulse p i = true ↔ e.tpSo.toNat = p ∧ e.mode ≠ 3 ∧ maskBit q.siOn i = true := by
      simp only [SafSt.expectsPulse, he, Option.any_some, Bool.and_eq_true, decide_eq_true_eq, and_assoc]
    split
    next h =>
      rw [if_pos (hexp.2 h)]
      split
      next hs =>
        exact ⟨⟨rfl, rfl, rfl⟩, fun j hj => maskBit_clrBit_other _ hj, fun _ => by rw [hs]; exact maskBit_clrBit_same _ _⟩
      next hs =>
        rw [eq_false_of_ne_true hs]
        split
        next hp => exact ⟨⟨rfl, rfl, rfl⟩, fun _ _ => rfl, fun _ => hp⟩
        next =>
          rw [SafSt.latch_eq]
          exact ⟨⟨rfl, rfl, rfl⟩, fun j hj => maskBit_setBit_other _ hj, fun hi => maskBit_setBit_same _ hi⟩
    next h =>
      rw [if_neg fun hx => h (hexp.1 hx)]
      exact ⟨⟨rfl, rfl, rfl⟩, fun _ _ => rfl, fun _ => rfl⟩
  next he =>
    have hexp : q.expectsPulse p i = false := by rw [SafSt.expectsPulse, he]; rfl
    rw [hexp, if_neg Bool.false_ne_true]
    exact ⟨⟨rfl, rfl, rfl⟩, fun _ _ => rfl, fun _ => rfl⟩

theorem SafSt.pulses_spec (p : Nat) (seen : Byte) : ∀ (l : List Nat) (r : SafR), l.Nodup → (∀ i ∈ l, i < 8) →
    ((r.each l (SafSt.pulsed p seen)).saf.siOn = r.saf.siOn ∧ (r.each l (SafSt.pulsed p seen)).saf.soOn = r.saf.soOn) ∧
      (∀ j, j ∉ l → maskBit (r.each l (SafSt.pulsed p seen)).saf.siPulse j = maskBit r.saf.siPulse j) ∧
      ∀ i ∈ l, maskBit (r.each l (SafSt.pulsed p seen)).saf.siPulse i = if r.saf.expectsPulse p i then !maskBit seen i else maskBit r.saf.siPulse i
  | [], _, _, _ => ⟨⟨rfl, rfl⟩, fun _ _ => rfl, fun _ h => absurd h List.not_mem_nil⟩
  | k :: l, r, hn, h8 => by
    obtain ⟨hk, hl⟩ := List.nodup_cons.1 hn
    obtain ⟨⟨hcfg, hon, hso⟩, hother, hsame⟩ := SafSt.pulsed_spec p seen k r.saf
    obtain ⟨⟨hon', hso'⟩, hother', hset'⟩ := SafSt.pulses_spec p seen l (r.then_ (SafSt.pulsed p seen k)) hl fun i hi => h8 i (List.mem_cons_of_mem k hi)
    rw [SafR.then_saf] at hon' hso' hother' hset'
    refine ⟨⟨hon'.trans hon, hso'.trans hso⟩, fun j hj => ?_, fun i hi => ?_⟩
    · exact (hother' j fun h => hj (List.mem_cons_of_mem k h)).trans (hother j fun h => hj (h ▸ List.mem_cons_self))
    · rcases List.mem_cons.1 hi with rfl | hi
      · exact (hother' i hk).trans (hsame (h8 i List.mem_cons_self))
      · have hik : i ≠ k := fun h => hk (h ▸ hi)
        have hexp : (SafSt.pulsed p seen k r.saf).saf.expectsPulse p i = r.saf.expectsPulse p i := by
          unfold SafSt.expectsPulse SafSt.si
          rw [hcfg, hon]
        have h := hset' i hi
        rw [hexp, hother i hik] at h
        exact h

/-- R462, R463: the test pulse of a pair that is on. -/
theorem SafSt.testPulse_seen {p : Nat} (h : maskBit v.soOn p = true) (seen : Byte) :
    (v.testPulse p seen).saf.soOn = v.soOn ∧ (v.testPulse p seen).saf.siOn = v.siOn ∧
      ∀ i, i < 8 → maskBit (v.testPulse p seen).saf.siPulse i = if v.expectsPulse p i then !maskBit seen i else maskBit v.siPulse i := by
  rw [SafSt.testPulse_on h]
  obtain ⟨⟨hon, hso⟩, -, hset⟩ := SafSt.pulses_spec p seen (List.range 8) (SafR.of v []) List.nodup_range fun i hi => List.mem_range.1 hi
  exact ⟨hso, hon, fun i hi => hset i (List.mem_range.2 hi)⟩

/-- R467: a global fault is the last event of the island. -/
theorem SafSt.globalFault_last (v : SafSt) (d : Nat) (w : Word) : (v.globalFault d w).saf.lastCode = 0x0F04 := by
  unfold SafSt.globalFault SafSt.flush SafSt.switch
  dsimp only [SafR.of_saf]
  unfold SafSt.last
  rw [List.getLast?_concat]

/-- R470: an arm that ran out is cancelled. -/
theorem SafSt.armExpired_over {a : SafArm} (ha : v.arm = some a) (hl : a.left ≤ 1) :
    v.armExpired.saf = { v with arm := none, flags := setBit v.flags 3, lastCode := 0x0F06 } := by
  unfold SafSt.armExpired
  rw [ha]
  dsimp only
  rw [if_pos hl]
  rfl

/-- R471: the self-test passes. -/
theorem SafSt.tested_passed (h : v.island ≠ .run) (us : Word) :
    (v.tested us).saf.island = .run ∧ (v.tested us).saf.testedSince = true ∧ (v.tested us).saf.siOn = 0 ∧ (v.tested us).saf.lastCode = 0x0F07 ∧
      (v.tested us).saf.lockA = v.lockA ∧ (v.tested us).saf.lockB = v.lockB := by
  unfold SafSt.tested
  rw [if_neg h]
  exact ⟨rfl, rfl, rfl, rfl, rfl, rfl⟩

/-- R469: SAF_RESET_ARM of an Engineer. -/
theorem exec_safResetArm_zero {h : HostRef} (hm : s.sessionMay h 2) :
    exec (.safResetArm h 0) s = .next (s.reply h opSafResetArm stBadRequest 0 []) :=
  congrArg Host.Outcome.next (State.localCmd_may hm _)

theorem exec_safResetArm_armed {h : HostRef} (hm : s.sessionMay h 2) {mask : BitVec 9} (hz : mask ≠ 0) :
    exec (.safResetArm h mask) s = .next ({ s with saf := s.saf.armReset mask h.session }.reply h opSafResetArm stApplied 0 []) :=
  congrArg Host.Outcome.next ((State.localCmd_may hm _).trans (if_neg hz))

end

/-- Settles O53: each diagnostic, the global fault, the arm and its end, and the self-test, by what they leave of the island. -/
theorem safetyCommands : Obligations.SafetyCommands := by
  refine ⟨fun s hon hrun => ⟨fun p e he hm hd hn => ?_, fun n e he hd hn => ?_, fun p hs hn => ?_, fun p seen hp => ?_⟩,
    fun s d w hon hlo hhi => ?_, fun s h mask hm => ?_, fun s a hon ha hl => ⟨_, rfl, ?_⟩, fun s us hon hr => ⟨_, rfl, ?_⟩⟩
  · obtain ⟨hdisc, hout, hlatch⟩ := SafSt.discrepancy_fault he hm hd hn
    refine ⟨_, rfl, ?_⟩
    rw [State.diagnose_saf hon hrun, hdisc, hout]
    exact ⟨maskBit_setBit_same _ p.isLt, rfl, fun k x hk hx hf => hlatch k hk (by rw [hx]; rfl) (SafSt.faultPairs_input hk hx hf)⟩
  · obtain ⟨hlate, hout, hlatch⟩ := SafSt.plausibility_fault he hd hn
    refine ⟨_, rfl, ?_⟩
    rw [State.diagnose_saf hon hrun, hlate, hout]
    exact ⟨maskBit_setBit_same _ n.isLt, rfl, fun k i f hs hi hf hx hb hk => hlatch k hk hs (SafSt.faultPairs_entry hi hf hx hb)⟩
  · refine ⟨_, rfl, ?_⟩
    rw [State.diagnose_saf hon hrun]
    exact SafSt.readback_fault p.isLt hs hn
  · refine ⟨_, rfl, ?_⟩
    rw [State.diagnose_saf hon hrun]
    exact SafSt.testPulse_seen hp seen
  · refine ⟨_, rfl, ?_⟩
    rw [State.onIsland_saf hon, if_pos ⟨hlo, hhi⟩]
    obtain ⟨hisl, hglob, hout, htested⟩ := s.saf.globalFault_state d.toNat w
    exact ⟨hisl, hout, s.saf.globalFault_latched d.toNat w, hglob, htested, s.saf.globalFault_last d.toNat w⟩
  · by_cases hz : mask = 0
    · subst hz
      exact ⟨_, exec_safResetArm_zero hm, fun _ => ⟨rfl, State.reply_lastAnswer _ _ _ _ _ _⟩, fun h => absurd rfl h⟩
    · exact ⟨_, exec_safResetArm_armed hm hz, fun h => absurd h hz, fun _ => ⟨rfl, State.reply_lastAnswer _ _ _ _ _ _⟩⟩
  · rw [State.onIsland_saf hon]
    exact SafSt.armExpired_over ha hl
  · rw [State.onIsland_saf hon]
    exact SafSt.tested_passed hr us

end Sys2Proof.Machine
end

section
/-! SUPPORT. Laws of the control loop (11_positioning_loop.md R307 to R320): entry to a mode, its requests, setpoints and ramps, and the
statements on requests, on setpoints and on the work of a beat. -/

namespace Sys2Proof.Machine

open Sys2Proof

/-! Union commands of the control loop (R404). -/

/-- The control loop that a union command in its turn leaves is the one its judgement left. -/
theorem State.unionCmd_ctl {s : State} {h : HostRef} (ht : s.unionTurn h) (op : Half) (f : State → CmdR) :
    (s.unionCmd h op f).ctl = (f (s.taken h)).1.ctl := by
  rw [State.unionCmd_turn ht]
  rfl

theorem State.unionCmd_est_of {s : State} {h : HostRef} (ht : s.unionTurn h) (op : Half) (f : State → CmdR) :
    (s.unionCmd h op f).est = (f (s.taken h)).1.est := by
  rw [State.unionCmd_turn ht]
  rfl

/-! Entry to a mode and requests (R315 to R317). -/

section
variable (c : CtlSt) (m : DpMode) (e : EstView)

/-- A preload sets histories of slots and nothing else. -/
theorem CtlSt.preload_eq (d : Nat) : ∃ sl, c.preload d = { c with slots := sl } := by
  unfold CtlSt.preload
  refine List.foldlRecOn (motive := fun x : CtlSt => ∃ sl, x = { c with slots := sl }) _ _ ⟨c.slots, rfl⟩ ?_
  rintro _ ⟨sl, rfl⟩ k -
  split
  · exact ⟨sl, rfl⟩
  · split
    · exact ⟨_, rfl⟩
    · exact ⟨sl, rfl⟩

/-- The position references of a mode that is entered (R317). -/
def CtlSt.enterPos (c : CtlSt) (m : DpMode) (e : EstView) : CtlSt :=
  if posAuto m && !(decide (m = .autoPosition) && decide (c.mode = .followTarget)) then
    let v := rotScaled e.heading e.velU e.velV 65536 10
    { c with refN := e.posN * 65536, refE := e.posE * 65536, spN := e.posN, spE := e.posE, vrefN := v.1, vrefE := v.2, posRamp := none }
  else if m = .autoPosition then { c with spN := c.spPubN, spE := c.spPubE }
  else c

/-- The heading references of a mode that is entered (R317). -/
def CtlSt.enterPsi (c c1 : CtlSt) (m : DpMode) (e : EstView) : CtlSt :=
  if psiAuto m && !psiAuto c.mode then
    { c1 with refPsi := (e.heading.toNat : Int) * 65536, refR := e.yawRate * 65536, psiRamp := none, spPsi := e.heading }
  else c1

/-- Entering a mode sets its references, histories of slots and the mode (R317). -/
theorem CtlSt.enter_eq : ∃ sl n o l, c.enter m e = { c.enterPsi (c.enterPos m e) m e with slots := sl, mode := m, offsetN := n, offsetE := o, lostBeats := l } := by
  obtain ⟨sl, h⟩ : ∃ sl, (List.range 3).foldl (fun (x : CtlSt) d => if autoIn m d && !autoIn c.mode d then x.preload d else x)
      (c.enterPsi (c.enterPos m e) m e) = { c.enterPsi (c.enterPos m e) m e with slots := sl } := by
    refine List.foldlRecOn (motive := fun x : CtlSt => ∃ sl, x = { c.enterPsi (c.enterPos m e) m e with slots := sl }) _ _ ⟨(c.enterPsi (c.enterPos m e) m e).slots, rfl⟩ ?_
    rintro _ ⟨sl, rfl⟩ d -
    split
    · obtain ⟨sl', h⟩ := CtlSt.preload_eq { c.enterPsi (c.enterPos m e) m e with slots := sl } d
      exact ⟨sl', h⟩
    · exact ⟨sl, rfl⟩
  have hc : c.enter m e = if m = .followTarget then
      { ({ c.enterPsi (c.enterPos m e) m e with slots := sl } : CtlSt) with mode := m, offsetN := e.tgtN, offsetE := e.tgtE, lostBeats := 0 }
      else { ({ c.enterPsi (c.enterPos m e) m e with slots := sl } : CtlSt) with mode := m } := by
    rw [← h]
    rfl
  rw [hc]
  split
  · exact ⟨sl, _, _, _, rfl⟩
  · exact ⟨sl, _, _, _, rfl⟩

@[simp] theorem CtlSt.enter_mode : (c.enter m e).mode = m := by
  obtain ⟨sl, n, o, l, h⟩ := c.enter_eq m e
  rw [h]

/-- What entering a mode leaves of the loop. -/
theorem CtlSt.enter_keeps : (c.enter m e).refused = c.refused ∧ (c.enter m e).winches = c.winches := by
  obtain ⟨sl, n, o, l, h⟩ := c.enter_eq m e
  have hpos : (c.enterPos m e).refused = c.refused ∧ (c.enterPos m e).winches = c.winches := by
    unfold CtlSt.enterPos
    split
    · exact ⟨rfl, rfl⟩
    · split <;> exact ⟨rfl, rfl⟩
  rw [h]
  unfold CtlSt.enterPsi
  split <;> exact hpos

/-- A position that becomes automatic, but for AUTO_POSITION out of FOLLOW_TARGET, starts at the estimated position (R317). -/
theorem CtlSt.enter_position (hp : posAuto m = true) (hm : ¬ (m = .autoPosition ∧ c.mode = .followTarget)) :
    (c.enter m e).refN = e.posN * 65536 ∧ (c.enter m e).refE = e.posE * 65536 ∧ (c.enter m e).spN = e.posN ∧ (c.enter m e).posRamp = none := by
  obtain ⟨sl, n, o, l, h⟩ := c.enter_eq m e
  have hpos : (posAuto m && !(decide (m = .autoPosition) && decide (c.mode = .followTarget))) = true := by
    simp only [hp, Bool.true_and, Bool.not_eq_true', Bool.and_eq_false_iff, decide_eq_false_iff_not]
    exact not_and_or.1 hm
  rw [h]
  unfold CtlSt.enterPsi CtlSt.enterPos
  rw [if_pos hpos]
  split <;> exact ⟨rfl, rfl, rfl, rfl⟩

/-- AUTO_POSITION out of FOLLOW_TARGET keeps the reference (R317). -/
theorem CtlSt.enter_position_kept (ht : c.mode = .followTarget) :
    (c.enter .autoPosition e).refN = c.refN ∧ (c.enter .autoPosition e).vrefN = c.vrefN := by
  obtain ⟨sl, n, o, l, h⟩ := c.enter_eq .autoPosition e
  have hpos : (c.enterPos .autoPosition e).refN = c.refN ∧ (c.enterPos .autoPosition e).vrefN = c.vrefN := by
    unfold CtlSt.enterPos
    rw [if_neg (by simp [ht]), if_pos rfl]
    exact ⟨rfl, rfl⟩
  rw [h]
  unfold CtlSt.enterPsi
  split <;> exact hpos

/-- A heading that becomes automatic starts at the estimated heading (R317). -/
theorem CtlSt.enter_heading (hp : psiAuto m = true) (ho : psiAuto c.mode = false) :
    (c.enter m e).refPsi = (e.heading.toNat : Int) * 65536 ∧ (c.enter m e).spPsi = e.heading := by
  obtain ⟨sl, n, o, l, h⟩ := c.enter_eq m e
  have hpsi : (psiAuto m && !psiAuto c.mode) = true := by rw [hp, ho]; rfl
  rw [h]
  unfold CtlSt.enterPsi
  rw [if_pos hpsi]
  exact ⟨rfl, rfl⟩

variable {c m}

/-- A request whose permissive is met, outside WATCH, or of STANDBY, enters its mode (R315). -/
theorem CtlSt.request_entered {watch : Bool} (session : Word) (hm : m ≠ c.mode) (h : m = .standby ∨ (watch = false ∧ c.unmet.getD m.code 0 = 0)) :
    (c.request m session e watch).1 = c.enter m e := by
  have hcause : (if m = .standby then 0 else if watch then 6 else c.unmet.getD m.code 0) = 0 := by
    rcases h with rfl | ⟨rfl, hu⟩
    · rfl
    · rw [hu]; split <;> rfl
  unfold CtlSt.request
  rw [if_neg hm]
  dsimp only
  rw [if_pos hcause]

/-- A request whose permissive is not met, or in WATCH, is refused and counted (R316). -/
theorem CtlSt.request_refused {watch : Bool} (session : Word) (hm : m ≠ c.mode) (hs : m ≠ .standby) (h : watch = true ∨ c.unmet.getD m.code 0 ≠ 0) :
    (c.request m session e watch).1 = { c with flags := c.flags ||| 64, sticky := c.sticky ||| 1, refused := c.refused + 1 } := by
  unfold CtlSt.request
  rw [if_neg hm]
  dsimp only
  rw [if_neg hs, if_neg]
  rcases h with rfl | hu
  · simp
  · split
    · decide
    · exact hu

end

/-! The requests of mode, winch, stabiliser and coefficients (R307, R314 to R323). -/

section
variable {s : State} {h : HostRef}

theorem DpMode.ofCode_le {n : Nat} {m : DpMode} (hm : DpMode.ofCode n = some m) : n ≤ 4 := by
  unfold DpMode.ofCode at hm
  split at hm
  case h_6 => contradiction
  all_goals omega

/-- SET_MODE of a mode of Table 11.5 is judged as a request (R315). -/
theorem State.modeRequest_mode (a : State) {n : Nat} {m : DpMode} (hm : DpMode.ofCode n = some m) (ses : Word) :
    (a.modeRequest n ses).1.ctl = (a.ctl.request m ses a.estView a.sch.watch).1 ∧ (a.modeRequest n ses).1.est = a.est := by
  unfold State.modeRequest
  rw [hm]
  dsimp only
  split <;> exact ⟨by simp [applied], by simp [applied]⟩

theorem exec_setMode_request (ht : s.unionTurn h) {code : Byte} {m : DpMode} (hm : DpMode.ofCode code.toNat = some m) :
    ∃ t, exec (.setMode h code) s = .next t ∧ t.ctl = (s.ctl.request m (refWord h) s.estView s.sch.watch).1 ∧ t.est = s.est := by
  obtain ⟨hctl, hest⟩ := State.modeRequest_mode (s.taken h) hm (refWord h)
  have hle : ¬ 4 < code.toNat := Nat.not_lt.2 (DpMode.ofCode_le hm)
  refine ⟨_, rfl, ?_, ?_⟩
  · rw [State.unionCmd_ctl ht, if_neg hle]
    exact hctl
  · rw [State.unionCmd_est_of ht, if_neg hle]
    exact hest

theorem exec_setMode_standby (ht : s.unionTurn h) : ∃ t, exec (.setMode h 0) s = .next t ∧ t.ctl.mode = .standby ∧ t.ctl.refused = s.ctl.refused := by
  obtain ⟨t, hexec, hctl, -⟩ := exec_setMode_request ht (code := 0) (m := .standby) rfl
  refine ⟨t, hexec, ?_⟩
  rw [hctl]
  by_cases hm : DpMode.standby = s.ctl.mode
  · unfold CtlSt.request
    rw [if_pos hm]
    exact ⟨hm.symm, rfl⟩
  · rw [CtlSt.request_entered _ _ hm (.inl rfl)]
    exact ⟨CtlSt.enter_mode _ _ _, (CtlSt.enter_keeps _ _ _).1⟩

/-- R315: a request whose permissive is met enters its mode. -/
theorem exec_setMode_met (ht : s.unionTurn h) {code : Byte} {m : DpMode} (hc : DpMode.ofCode code.toNat = some m) (hm : m ≠ s.ctl.mode)
    (hw : s.sch.watch = false) (hu : s.ctl.unmet.getD m.code 0 = 0) :
    ∃ t, exec (.setMode h code) s = .next t ∧ t.ctl = s.ctl.enter m s.estView ∧ t.est = s.est := by
  obtain ⟨t, hexec, hctl, hest⟩ := exec_setMode_request ht hc
  exact ⟨t, hexec, hctl.trans (CtlSt.request_entered _ _ hm (.inr ⟨hw, hu⟩)), hest⟩

/-- R316: a request whose permissive is not met is refused. -/
theorem exec_setMode_unmet (ht : s.unionTurn h) {code : Byte} {m : DpMode} (hc : DpMode.ofCode code.toNat = some m) (hm : m ≠ s.ctl.mode)
    (hs : m ≠ .standby) (hw : s.sch.watch = true ∨ s.ctl.unmet.getD m.code 0 ≠ 0) :
    ∃ t, exec (.setMode h code) s = .next t ∧ t.est = s.est ∧
      t.ctl = { s.ctl with flags := s.ctl.flags ||| 64, sticky := s.ctl.sticky ||| 1, refused := s.ctl.refused + 1 } := by
  obtain ⟨t, hexec, hctl, hest⟩ := exec_setMode_request ht hc
  exact ⟨t, hexec, hest, hctl.trans (CtlSt.request_refused _ _ hm hs hw)⟩

theorem State.winchWrite_ctl (a : State) (w mode : Nat) (ses : Word) :
    (a.winchWrite w mode ses).1.ctl = (a.ctl.winchRequest w (.ofCode mode) ses a.estView.motionLost).1 := by
  unfold State.winchWrite
  dsimp only
  split <;> simp [applied, refusedCmd]

theorem exec_winchModeRequest_ctl (ht : s.unionTurn h) (w : BitVec 5) (mode : BitVec 2) :
    ∃ t, exec (.winchModeRequest h w mode) s = .next t ∧
      t.ctl = (s.ctl.winchRequest w.toNat (.ofCode mode.toNat) (refWord h) s.estView.motionLost).1 :=
  ⟨_, rfl, by rw [State.unionCmd_ctl ht]; exact State.winchWrite_ctl _ _ _ _⟩

/-- R321: STOP is always met. -/
theorem CtlSt.winchRequest_stop (c : CtlSt) {x : CtlTable} {f : WinchCfg} {w : Nat} (hx : c.table = some x) (hf : x.winches[w]? = some f)
    (ses : Word) (lost : Bool) : (Tab.get WinchSt.zero (c.winchRequest w .stop ses lost).1.winches w).mode = .stop := by
  have hcfg : c.table.bind (fun (t : CtlTable) => t.winches[w]?) = some f := by rw [hx]; exact hf
  unfold CtlSt.winchRequest
  simp only [hcfg, if_true, Tab.get_modify]

/-- R321: AHC is refused while motion is lost. -/
theorem CtlSt.winchRequest_lost (c : CtlSt) {x : CtlTable} {f : WinchCfg} {w : Nat} (hx : c.table = some x) (hf : x.winches[w]? = some f)
    (ses : Word) : (c.winchRequest w .ahc ses true).1 = { c with refused := c.refused + 1 } := by
  have hcfg : c.table.bind (fun (t : CtlTable) => t.winches[w]?) = some f := by rw [hx]; exact hf
  unfold CtlSt.winchRequest
  simp [hcfg]

theorem exec_stabEnable_stab (ht : s.unionTurn h) {k : BitVec 3} {x : CtlTable} {f : StabCfg} (hx : s.ctl.table = some x)
    (hf : x.stabs[k.toNat]? = some f) (on : Bool) :
    ∃ t, exec (.stabEnable h k on) s = .next t ∧
      Tab.get StabSt.zero t.ctl.stabs k.toNat = { Tab.get StabSt.zero s.ctl.stabs k.toNat with enabled := on } := by
  have hcfg : (s.taken h).ctl.table.bind (fun (t : CtlTable) => t.stabs[k.toNat]?) = some f := by
    change s.ctl.table.bind _ = _
    rw [hx]; exact hf
  refine ⟨_, rfl, ?_⟩
  rw [State.unionCmd_ctl ht, State.stabWrite, hcfg]
  change Tab.get StabSt.zero (Tab.modify StabSt.zero s.ctl.stabs k.toNat (fun v => { v with enabled := on })) k.toNat = _
  rw [Tab.get_modify, if_pos rfl]

/-- The coefficients that R307 refuses: b3 or a3 of an ORDER 2 slot. -/
def CtlSt.badShadow (c : CtlSt) (k : Nat) (cfg : SlotCfg) : Prop :=
  cfg.order = 2 ∧ ((c.slot k).shadow.b.getD 3 0 ≠ 0 ∨ (c.slot k).shadow.a.getD 2 0 ≠ 0)

theorem CtlSt.applyCoefs_bad {c : CtlSt} {k : Nat} {cfg : SlotCfg} (hc : c.slotCfg k = some cfg) (hb : c.badShadow k cfg) (ses : Word) :
    (c.applyCoefs k ses).1 = { c with sticky := c.sticky ||| 128 } := by
  unfold CtlSt.applyCoefs
  rw [hc]
  exact congrArg Prod.fst (if_pos hb)

theorem CtlSt.applyCoefs_good {c : CtlSt} {k : Nat} {cfg : SlotCfg} (hc : c.slotCfg k = some cfg) (hb : ¬ c.badShadow k cfg) (ses : Word) :
    (c.applyCoefs k ses).1 = c.setSlot k { c.slot k with coefs := (c.slot k).shadow } := by
  unfold CtlSt.applyCoefs
  rw [hc]
  exact congrArg Prod.fst (if_neg hb)

theorem State.slotIsPair_tag {k : Nat} {c : SlotCfg} (hc : s.ctl.slotCfg k = some c) : s.slotIsPair k = decide (c.tag = 1) := by
  unfold State.slotIsPair
  rw [hc]

theorem exec_coefApply_pair (ht : s.unionTurn h) {k : BitVec 11} {c : SlotCfg} (hc : s.ctl.slotCfg k.toNat = some c) (hp : c.tag = 1) (who : Who) :
    ∃ t, exec (.coefApply who h k) s = .next t ∧ t.ctl = (s.ctl.applyCoefs k.toNat (refWord h)).1 := by
  refine ⟨_, rfl, ?_⟩
  rw [State.slotIsPair_tag hc, if_pos (decide_eq_true hp), State.unionCmd_ctl ht]
  unfold State.coefsNow
  dsimp only
  split <;> simp only [applied, refusedCmd, State.countGain, State.raise_ctl] <;> rfl

theorem State.accessed_ctl (a : State) (who : Who) (b o : Nat) : (a.accessed who b o).ctl = a.ctl := rfl

/-- APPLY of a LOCAL slot waits for the edge (R307). -/
theorem State.coefWrite_local {a : State} {k : Nat} {c : SlotCfg} (hc : a.ctl.slotCfg k = some c) (hp : c.tag ≠ 1) (ses : Word) :
    (a.coefWrite k 0x803C 1 ses).1.ctl = a.ctl.setSlot k { a.ctl.slot k with pendApply := some ses } := by
  have hb : (!bitOf (1 : Word) 0) = true ↔ False := by decide
  unfold State.coefWrite
  rw [if_pos rfl, if_neg hb.1, State.slotIsPair_tag hc, if_neg (by simpa using hp)]
  rfl

theorem exec_coefApply_local {k : BitVec 11} {c : SlotCfg} (hc : s.ctl.slotCfg k.toNat = some c) (hp : c.tag ≠ 1) (who : Who) (h : HostRef) :
    ∃ t, exec (.coefApply who h k) s = .next t ∧
      t.ctl = s.ctl.setSlot k.toNat { s.ctl.slot k.toNat with pendApply := some (Who.sessionWord who) } := by
  refine ⟨_, rfl, ?_⟩
  rw [State.slotIsPair_tag hc, if_neg (by simpa using hp), State.coefWrite_local (c := c) (by rw [State.accessed_ctl]; exact hc) hp,
    State.accessed_ctl]

end

theorem getLsbD_or_of_right {w : Nat} (x : BitVec w) {m : BitVec w} {k : Nat} (h : m.getLsbD k = true) : (x ||| m).getLsbD k = true := by
  rw [BitVec.getLsbD_or, h, Bool.or_true]

/-- Settles O38: each request by what it leaves of the control loop. -/
theorem controlRequests : Obligations.ControlRequests := by
  refine fun s h ht => ⟨exec_setMode_standby ht, fun code m hc hs hm => ?_, fun b => ?_, fun w x f hx hf => ⟨?_, fun hlost => ?_⟩,
    fun k on x f hx hf => exec_stabEnable_stab ht hx hf on, fun who k c hc => ⟨fun hp => ?_, fun hp => ?_⟩⟩
  · by_cases hw : s.sch.watch = true ∨ s.ctl.unmet.getD m.code 0 ≠ 0
    · obtain ⟨t, hexec, hest, hctl⟩ := exec_setMode_unmet ht hc hm hs hw
      refine ⟨t, hexec, by rw [hctl], hest, fun hf hu => ?_, fun _ => ?_⟩
      · exact absurd hw (not_or.2 ⟨ne_true_of_eq_false hf, not_not.2 hu⟩)
      · rw [hctl]
        exact ⟨rfl, rfl, rfl, rfl, rfl, getLsbD_or_of_right _ (by decide)⟩
    · obtain ⟨hwatch, hunmet⟩ := not_or.1 hw
      obtain ⟨t, hexec, hctl, hest⟩ := exec_setMode_met ht hc hm (eq_false_of_ne_true hwatch) (not_not.1 hunmet)
      refine ⟨t, hexec, by rw [hctl, (CtlSt.enter_keeps _ _ _).2], hest, fun _ _ => ?_, fun hx => absurd hx hw⟩
      rw [hctl]
      refine ⟨CtlSt.enter_mode _ _ _, fun hp hf => CtlSt.enter_position _ _ _ hp fun hx => hf hx.2, fun ha hf => ?_,
        fun hp ho => CtlSt.enter_heading _ _ _ hp ho⟩
      rw [ha]
      exact CtlSt.enter_position_kept _ _ hf
  · exact ⟨_, rfl, State.unionCmd_ctl ht _ _⟩
  · obtain ⟨t, hexec, hctl⟩ := exec_winchModeRequest_ctl ht w 0
    exact ⟨t, hexec, by rw [hctl]; exact CtlSt.winchRequest_stop _ hx hf _ _⟩
  · obtain ⟨t, hexec, hctl⟩ := exec_winchModeRequest_ctl ht w 2
    exact ⟨t, hexec, by rw [hctl, hlost]; exact CtlSt.winchRequest_lost _ hx hf _⟩
  · obtain ⟨t, hexec, hctl⟩ := exec_coefApply_pair ht hc hp who
    refine ⟨t, hexec, fun hbad => ?_, fun hgood => ?_⟩
    · rw [hctl, CtlSt.applyCoefs_bad hc hbad]
      exact ⟨rfl, getLsbD_or_of_right _ (by decide)⟩
    · rw [hctl, CtlSt.applyCoefs_good hc hgood, CtlSt.slot_setSlot]
  · obtain ⟨t, hexec, hctl⟩ := exec_coefApply_local hc hp who h
    refine ⟨t, hexec, ?_⟩
    rw [hctl, CtlSt.slot_setSlot]
    exact ⟨rfl, rfl⟩

/-! Setpoints (R318 to R320). -/

section
variable (c : CtlSt) (n e : Int)

/-- A position setpoint leaves the mode, the position reference and the heading's setpoint. -/
theorem CtlSt.goPos_keeps :
    (c.goPos n e).mode = c.mode ∧ (c.goPos n e).refN = c.refN ∧ (c.goPos n e).refE = c.refE ∧ (c.goPos n e).spPsi = c.spPsi := by
  unfold CtlSt.goPos
  by_cases hf : c.mode = .followTarget
  · rw [if_pos hf]
    dsimp only
    split
    · split <;> exact ⟨rfl, rfl, rfl, rfl⟩
    · exact ⟨rfl, rfl, rfl, rfl⟩
  · rw [if_neg hf]
    dsimp only
    split
    · split <;> exact ⟨rfl, rfl, rfl, rfl⟩
    · exact ⟨rfl, rfl, rfl, rfl⟩

/-- Outside automatic position control the setpoint is stored and no ramp starts (R318). -/
theorem CtlSt.goPos_off {c : CtlSt} (h : posAuto c.mode = false) : c.goPos n e = { c with spN := n, spE := e } := by
  have hf : c.mode ≠ .followTarget := fun hm => by rw [hm] at h; contradiction
  unfold CtlSt.goPos
  rw [if_neg hf]
  exact if_neg (ne_true_of_eq_false h)

/-- In AUTO_POSITION a ramp starts from the reference to the goal, superseding a ramp that runs (R318 to R320). -/
theorem CtlSt.goPos_auto {c : CtlSt} (h : c.mode = .autoPosition) :
    c.goPos n e = if c.posRamp.isSome then ({ c with spN := n, spE := e } : CtlSt).startPos.supersede else ({ c with spN := n, spE := e } : CtlSt).startPos := by
  have hf : ¬ c.mode = .followTarget := fun hm => by rw [h] at hm; contradiction
  have ha : posAuto ({ c with spN := n, spE := e } : CtlSt).mode = true := congrArg posAuto h
  unfold CtlSt.goPos
  rw [if_neg hf]
  exact if_pos ha

theorem CtlSt.startPos_ramp {c : CtlSt} (h : c.mode = .autoPosition) :
    ∃ r, c.startPos.posRamp = some r ∧ r.startN = c.refN ∧ r.startE = c.refE ∧ r.goalN = c.spN * 65536 ∧ r.goalE = c.spE * 65536 ∧ r.s = 0 := by
  have hg : c.goal = (c.spN, c.spE) := if_neg (by rw [h]; decide)
  unfold CtlSt.startPos
  rw [hg]
  exact ⟨_, rfl, rfl, rfl, rfl, rfl, rfl⟩

theorem CtlSt.goPos_auto_ramp {c : CtlSt} (h : c.mode = .autoPosition) :
    (c.goPos n e).spN = n ∧ (c.goPos n e).spE = e ∧
      (∃ r, (c.goPos n e).posRamp = some r ∧ r.startN = c.refN ∧ r.startE = c.refE ∧ r.goalN = n * 65536 ∧ r.goalE = e * 65536 ∧ r.s = 0) ∧
      (c.goPos n e).superseded = c.superseded + (if c.posRamp.isSome then 1 else 0) := by
  rw [CtlSt.goPos_auto n e h]
  have hr := CtlSt.startPos_ramp (c := { c with spN := n, spE := e }) h
  split
  · exact ⟨rfl, rfl, hr, rfl⟩
  · exact ⟨rfl, rfl, hr, (BitVec.add_zero _).symm⟩

/-- In FOLLOW_TARGET the setpoint is the offset to the target (R318). -/
theorem CtlSt.goPos_follow {c : CtlSt} (h : c.mode = .followTarget) :
    (c.goPos n e).offsetN = n ∧ (c.goPos n e).offsetE = e ∧ (c.goPos n e).spN = c.spN := by
  unfold CtlSt.goPos
  rw [if_pos h]
  dsimp only
  split
  · split <;> exact ⟨rfl, rfl, rfl⟩
  · exact ⟨rfl, rfl, rfl⟩

/-- The heading ramp reaches the setpoint in the direction asked for, 0 the shorter way (R318, R319). -/
theorem CtlSt.startPsi_ramp (turn : Nat) :
    ∃ r, (c.startPsi turn).psiRamp = some r ∧ r.start = c.refPsi % 2 ^ 48 ∧ 0 ≤ r.len ∧
      (r.start + r.dir * r.len - (c.spPsi.toNat : Int) * 65536) % 2 ^ 48 = 0 ∧
      (turn = 0 → 2 * r.len ≤ 2 ^ 48) ∧ (turn = 1 → r.dir = 1) ∧ (turn = 2 → r.dir = -1) := by
  unfold CtlSt.startPsi
  generalize (c.spPsi.toNat : Int) * 65536 = g
  refine ⟨_, rfl, rfl, ?_⟩
  dsimp only
  split
  · refine ⟨?_, ?_, ?_, ?_, ?_⟩ <;> omega
  · split
    · refine ⟨?_, ?_, ?_, ?_, ?_⟩ <;> omega
    · split <;> refine ⟨?_, ?_, ?_, ?_, ?_⟩ <;> omega

theorem CtlSt.goPsi_keeps (w : Word) (turn : Nat) : (c.goPsi w turn).spPsi = w ∧ (c.goPsi w turn).posRamp = c.posRamp := by
  unfold CtlSt.goPsi
  dsimp only
  split
  · split <;> exact ⟨rfl, rfl⟩
  · exact ⟨rfl, rfl⟩

theorem CtlSt.goPsi_ramp {c : CtlSt} (h : psiAuto c.mode = true) (w : Word) (turn : Nat) :
    (c.goPsi w turn).psiRamp = (({ c with spPsi := w } : CtlSt).startPsi turn).psiRamp := by
  unfold CtlSt.goPsi
  dsimp only
  rw [if_pos h]
  split <;> rfl

end

section
variable {s : State} {h : HostRef}

/-- A commit of the position alone, and of the heading alone (R318). -/
theorem State.setpointGo_pos (a : State) {turn : Nat} (ht : turn ≠ 3) : (a.setpointGo true false turn).1.ctl = a.ctl.goPos a.ctl.regN a.ctl.regE := by
  unfold State.setpointGo
  rw [if_neg ht]
  rfl

theorem State.setpointGo_psi (a : State) {turn : Nat} (ht : turn ≠ 3) : (a.setpointGo false true turn).1.ctl = a.ctl.goPsi a.ctl.regPsi turn := by
  unfold State.setpointGo
  rw [if_neg ht]
  rfl

theorem State.setPoint_turn3 (a : State) (n e : Int) (w : Word) (p q : Bool) : (a.setPoint n e w p q 3).1.ctl = a.ctl := rfl

theorem exec_setPoint_position (ht : s.unionTurn h) (n e : Int) (psi : Word) :
    ∃ t, exec (.setPoint h n e psi true false 0) s = .next t ∧ t.ctl = ({ s.ctl with regN := n, regE := e, regPsi := psi } : CtlSt).goPos n e := by
  refine ⟨_, rfl, ?_⟩
  rw [State.unionCmd_ctl ht]
  unfold State.setPoint
  rw [if_neg (by decide)]
  exact State.setpointGo_pos _ (by decide)

/-- R310: without an entry for JOY_TIMEOUT beats the axes are 0. -/
theorem exec_joyTimeout_missed {x : CtlTable} (hx : s.ctl.table = some x) (hj : x.joyField ≠ 0 ∧ ∀ m, s.ctl.joyMiss = some m → x.joyTimeout.toNat ≤ m) :
    exec .joyTimeout s = .next { s with ctl := { s.ctl with joy := [0, 0, 0], flags := s.ctl.flags ||| 4, sticky := s.ctl.sticky ||| 32 } } := by
  change Host.Outcome.next _ = _
  rw [hx]
  exact congrArg _ (if_pos hj)

/-- R315: a target lost for TGT_LOSS_BEATS beats. -/
theorem exec_targetLoss_lost {x : CtlTable} (hx : s.ctl.table = some x) (hl : s.ctl.mode = .followTarget ∧ x.tgtLossBeats.toNat ≤ s.ctl.lostBeats) :
    exec .targetLoss s = .next ({ s with ctl := (s.ctl.targetLost s.estView).1 }.raise (s.ctl.targetLost s.estView).2) := by
  change Host.Outcome.next _ = _
  rw [hx]
  exact congrArg _ (if_pos hl)

end

/-- Settles O39: each setpoint by what it leaves of the loop, and the losses of joystick and target. -/
theorem setpointsAndLosses : Obligations.SetpointsAndLosses := by
  refine ⟨fun s h ht => ⟨fun n e psi p q => ⟨_, rfl, ?_⟩, fun n e psi => ?_, fun hp => ⟨_, rfl, ?_⟩, fun turn h3 => ⟨_, rfl, ?_⟩⟩,
    fun s x hx => ⟨fun hj hm => ⟨_, exec_joyTimeout_missed hx ⟨hj, hm⟩, rfl, ?_, ?_, rfl⟩, fun hf hl => ?_⟩⟩
  · rw [State.unionCmd_ctl ht]
    exact State.setPoint_turn3 _ n e psi p q
  · obtain ⟨t, hexec, hctl⟩ := exec_setPoint_position ht n e psi
    obtain ⟨hmode, hn, he, hpsi⟩ := CtlSt.goPos_keeps { s.ctl with regN := n, regE := e, regPsi := psi } n e
    refine ⟨t, hexec, by rw [hctl, hmode], by rw [hctl, hn], by rw [hctl, he], by rw [hctl, hpsi], fun ha => ?_, fun ho => ?_, fun hf => ?_⟩
    · rw [hctl]
      exact CtlSt.goPos_auto_ramp n e (c := { s.ctl with regN := n, regE := e, regPsi := psi }) ha
    · rw [hctl, CtlSt.goPos_off n e (c := { s.ctl with regN := n, regE := e, regPsi := psi }) ho]
      exact ⟨rfl, rfl, rfl, rfl⟩
    · rw [hctl]
      exact CtlSt.goPos_follow n e (c := { s.ctl with regN := n, regE := e, regPsi := psi }) hf
  · rw [State.unionCmd_ctl ht, State.setpointGo_pos _ (by decide)]
    exact CtlSt.goPos_off _ _ (c := s.ctl) hp
  · have hturn : turn.toNat ≠ 3 := fun hn => h3 (BitVec.eq_of_toNat_eq hn)
    rw [State.unionCmd_ctl ht, State.setpointGo_psi _ hturn]
    obtain ⟨hsp, hpos⟩ := CtlSt.goPsi_keeps s.ctl s.ctl.regPsi turn.toNat
    refine ⟨hsp, hpos, fun ha => ?_⟩
    obtain ⟨r, hr, hstart, hlen, hgoal, h0, h1, h2⟩ := CtlSt.startPsi_ramp { s.ctl with spPsi := s.ctl.regPsi } turn.toNat
    exact ⟨r, (CtlSt.goPsi_ramp ha _ _).trans hr, hstart, hlen, hgoal, fun ht => h0 (by rw [ht]; rfl), fun ht => h1 (by rw [ht]; rfl),
      fun ht => h2 (by rw [ht]; rfl)⟩
  · exact getLsbD_or_of_right _ (by decide)
  · exact getLsbD_or_of_right _ (by decide)
  · refine ⟨_, exec_targetLoss_lost hx ⟨hf, hl⟩, ?_⟩
    rw [State.raise_ctl]
    exact ⟨rfl, rfl, rfl, rfl, rfl, rfl, rfl⟩

/-- With V_MAX = −1 the limits of the speed cross: a ramp at rest at its goal steps to speed 1, outside 0. -/
theorem rampStep_crossed_limits : (rampStep 0 0 0 (-1) 1000 0).2.1 = 1 := by decide

/-- Refutes O37: the ramp clause speaks of every V_MAX, and no speed keeps inside a negative one; at rest at the goal with V_MAX = −1 a step
gives speed 1. -/
theorem not_compensatorWork : ¬ Obligations.CompensatorWork := fun h => by
  obtain ⟨-, hspeed⟩ := h.2 0 0 0 (-1) 1000 0 (by decide)
  rw [rampStep_crossed_limits] at hspeed
  exact absurd (hspeed (by decide)) (by decide)

end Sys2Proof.Machine
end

section
/-! SUPPORT. Laws of the direct outputs (12_outputs_annunciator.md R334 to R349): the managed outputs one by one, hold, commit, trip and scaling,
and the statements on them. -/

namespace Sys2Proof.Machine

open Sys2Proof

/-! Work on the managed outputs, one by one. -/

section
variable {o : OutBlk}

theorem OutBlk.mem_managed {k : Nat} {c : OutCfg} : (k, c) ∈ o.managed ↔ k < 112 ∧ o.entry k = some c ∧ managedKind c = true := by
  unfold OutBlk.managed
  simp only [List.mem_filterMap, List.mem_range]
  constructor
  · rintro ⟨j, hj, h⟩
    split at h
    next => contradiction
    next d hd =>
      split at h
      next hm =>
        obtain ⟨rfl, rfl⟩ := Prod.mk.inj (Option.some.inj h)
        exact ⟨hj, hd, hm⟩
      next => contradiction
  · rintro ⟨hk, he, hm⟩
    refine ⟨k, hk, ?_⟩
    rw [he]
    exact if_pos hm

theorem OutBlk.managed_nodup (o : OutBlk) : (o.managed.map Prod.fst).Nodup := by
  have hs : (o.managed.map Prod.fst).Sublist (List.range 112) := by
    unfold OutBlk.managed
    generalize List.range 112 = l
    induction l with
    | nil => exact .slnil
    | cons k l ih =>
      rw [List.filterMap_cons]
      split
      next => exact ih.cons k
      next p hp =>
        have : p.1 = k := by
          split at hp
          · contradiction
          · split at hp
            · exact (Prod.mk.inj (Option.some.inj hp)).1.symm
            · contradiction
        rw [List.map_cons, this]
        exact ih.cons_cons k
  exact hs.nodup List.nodup_range

/-- A step that takes output `p.1` through `f` and leaves the others. -/
def OutBlk.SetsBy (f : Nat × OutCfg → OutSt → OutSt) (g : OutBlk → Nat × OutCfg → OutBlk) : Prop :=
  ∀ a p, (g a p).out p.1 = f p (a.out p.1) ∧ ∀ j, j ≠ p.1 → (g a p).out j = a.out j

theorem OutBlk.setsBy_setOut (f : Nat × OutCfg → OutSt → OutSt) : OutBlk.SetsBy f (fun a p => a.setOut p.1 (f p (a.out p.1))) :=
  fun a _ => ⟨a.out_setOut _ _, fun _ hj => a.out_setOut_other _ hj⟩

/-- Only the outputs that meet `q` are set. -/
theorem OutBlk.setsBy_ite (q : Nat × OutCfg → OutSt → Prop) [∀ p s, Decidable (q p s)] (f : Nat × OutCfg → OutSt → OutSt) :
    OutBlk.SetsBy (fun p s => if q p s then f p s else s) (fun a p => if q p (a.out p.1) then a.setOut p.1 (f p (a.out p.1)) else a) := by
  intro a p
  dsimp only
  split
  · exact OutBlk.setsBy_setOut f a p
  · exact ⟨rfl, fun _ _ => rfl⟩

/-- Such steps over outputs of different numbers take each of them through `f` once. -/
theorem OutBlk.SetsBy.foldl {f : Nat × OutCfg → OutSt → OutSt} {g : OutBlk → Nat × OutCfg → OutBlk} (hg : OutBlk.SetsBy f g) :
    ∀ (l : List (Nat × OutCfg)) (o : OutBlk), (l.map Prod.fst).Nodup →
      (∀ p ∈ l, (l.foldl g o).out p.1 = f p (o.out p.1)) ∧ ∀ k, (∀ p ∈ l, p.1 ≠ k) → (l.foldl g o).out k = o.out k
  | [], o, _ => ⟨fun _ h => absurd h List.not_mem_nil, fun _ _ => rfl⟩
  | p :: l, o, hn => by
    obtain ⟨hp, hl⟩ := List.nodup_cons.1 hn
    obtain ⟨hset, hkeep⟩ := hg o p
    obtain ⟨hset', hkeep'⟩ := OutBlk.SetsBy.foldl hg l (g o p) hl
    rw [List.foldl_cons]
    refine ⟨fun q hq => ?_, fun k hk => ?_⟩
    · rcases List.mem_cons.1 hq with rfl | hq
      · rw [hkeep' q.1 fun r hr he => hp (he ▸ List.mem_map_of_mem hr), hset]
      · rw [hset' q hq, hkeep q.1 fun he => hp (he ▸ List.mem_map_of_mem hq)]
    · rw [hkeep' k fun r hr => hk r (List.mem_cons_of_mem p hr), hkeep k fun he => hk p List.mem_cons_self he.symm]

end

/-! Hold, commit, trip and its end (Table 12.3). -/

section
variable {o : OutBlk} {k : Nat} {c : OutCfg}

/-- An output in NORMAL enters HOLD (R338). -/
def OutSt.held (s : OutSt) : OutSt := if s.state = .normal then { s with state := .hold, flags := s.flags ||| 4 } else s

theorem OutSt.held_normal {s : OutSt} (h : s.state = .normal) : s.held = { s with state := .hold, flags := s.flags ||| 4 } := if_pos h

theorem OutSt.held_pin (s : OutSt) : s.held.pin = s.pin := by
  unfold OutSt.held
  split <;> rfl

theorem OutBlk.startHold_idle (h : o.domain ≠ .run) (beat : Long) (now cause : Nat) : o.startHold beat now cause = (o, []) := if_neg h

/-- R338: what the start of hold does to the domain and to each output. -/
theorem OutBlk.startHold_run (h : o.domain = .run) (beat : Long) (now cause : Nat) :
    let r := (o.startHold beat now cause).1
    (r.domain = .hold ∧ r.fallback = true ∧ r.holdBeat = beat ∧ r.holds = o.holds + 1 ∧ r.flags = o.flags ||| 1) ∧
      (∀ p ∈ o.managed, r.out p.1 = (o.out p.1).held) ∧ ∀ j, (r.out j).pin = (o.out j).pin := by
  unfold OutBlk.startHold
  rw [if_pos h]
  dsimp only
  obtain ⟨hset, hkeep⟩ := OutBlk.SetsBy.foldl (OutBlk.setsBy_ite (fun _ s => s.state = .normal)
    (fun _ s => { s with state := .hold, flags := s.flags ||| 4 })) o.managed o o.managed_nodup
  refine ⟨⟨rfl, rfl, rfl, rfl, rfl⟩, hset, fun j => ?_⟩
  by_cases hj : ∃ p ∈ o.managed, p.1 = j
  · obtain ⟨p, hp, rfl⟩ := hj
    exact (congrArg OutSt.pin (hset p hp)).trans (OutSt.held_pin _)
  · exact congrArg OutSt.pin (hkeep j fun p hp he => hj ⟨p, hp, he⟩)

/-- R338: an edge without a token in a configured domain. -/
theorem OutBlk.edge_untokened (hc : o.cfg ≠ none) (ht : o.token = false) (beat : Long) (now : Nat) (gpio : Long) :
    o.edge beat now gpio = ({ o with gpioIn := gpio } : OutBlk).startHold beat now 1 := by
  unfold OutBlk.edge
  dsimp only
  rw [if_neg hc, if_neg (ne_true_of_eq_false ht)]

/-- R338: an edge with a token commits each managed output, and the domain runs. -/
theorem OutBlk.edge_tokened (hc : o.cfg ≠ none) (ht : o.token = true) (beat : Long) (now : Nat) (gpio : Long) :
    let r := (o.edge beat now gpio).1
    (r.domain = .run ∧ r.fallback = false ∧ r.token = false) ∧ ∀ p ∈ o.managed, r.out p.1 = (commitOut p.1 p.2 (o.out p.1)).1 := by
  let b : OutBlk := { o with gpioIn := gpio }
  let g := fun (a : OutBlk) (p : Nat × OutCfg) => a.setOut p.1 (commitOut p.1 p.2 (a.out p.1)).1
  have hfold : (b.managed.foldl (fun (a : OutBlk × List Ev) p =>
      let x := commitOut p.1 p.2 (a.1.out p.1)
      (a.1.setOut p.1 x.1, a.2 ++ x.2)) (b, [])).1 = b.managed.foldl g b :=
    (List.foldl_hom Prod.fst fun _ _ => rfl).symm
  obtain ⟨hset, -⟩ := OutBlk.SetsBy.foldl (OutBlk.setsBy_setOut fun p s => (commitOut p.1 p.2 s).1) b.managed b b.managed_nodup
  rw [← hfold] at hset
  unfold OutBlk.edge
  dsimp only
  rw [if_neg hc, if_pos ht]
  split
  · exact ⟨⟨rfl, rfl, rfl⟩, hset⟩
  · exact ⟨⟨rfl, rfl, rfl⟩, hset⟩

/-- An output trips (R341). -/
def OutSt.tripped (c : OutCfg) (s : OutSt) : OutSt :=
  { s with state := .trip, latched := false, release := none, pin := failPin c false, flags := s.flags ||| 16, fails := s.fails + 1 }

/-- R341: a trip of pairs reaches the managed outputs linked to one of them, not yet in TRIP, and no other. -/
theorem OutBlk.trip_out (pairs : Byte) (hm : (k, c) ∈ o.managed) :
    (o.trip pairs).1.out k = if c.safeLink &&& pairs ≠ 0 ∧ (o.out k).state ≠ .trip then (o.out k).tripped c else o.out k := by
  have hn : ((o.managed.filter (fun p => decide (p.2.safeLink &&& pairs ≠ 0) && decide ((o.out p.1).state ≠ .trip))).map Prod.fst).Nodup :=
    (List.filter_sublist.map Prod.fst).nodup o.managed_nodup
  obtain ⟨hset, hkeep⟩ := OutBlk.SetsBy.foldl (OutBlk.setsBy_setOut fun p s => s.tripped p.2) _ o hn
  split
  next h => exact hset (k, c) (List.mem_filter.2 ⟨hm, by simpa using h⟩)
  next h =>
    refine hkeep k fun p hp he => h ?_
    obtain ⟨hp, hx⟩ := List.mem_filter.1 hp
    obtain ⟨j, d⟩ := p
    obtain rfl : j = k := he
    obtain rfl : d = c := Option.some.inj ((OutBlk.mem_managed.1 hp).2.1.symm.trans (OutBlk.mem_managed.1 hm).2.1)
    simpa using hx

/-- Table 12.3: an output in TRIP with no tripped pair left is in FAIL. -/
theorem OutBlk.tripClear_out (pairs : Byte) (hm : (k, c) ∈ o.managed) (hs : (o.out k).state = .trip)
    (hl : c.safeLink &&& (o.tripped &&& ~~~pairs) = 0) : (o.tripClear pairs).out k = { o.out k with state := .fail, latched := c.latchFail } := by
  obtain ⟨hset, -⟩ := OutBlk.SetsBy.foldl (OutBlk.setsBy_ite (fun p s => s.state = .trip ∧ p.2.safeLink &&& (o.tripped &&& ~~~pairs) = 0)
    (fun p s => { s with state := .fail, latched := p.2.latchFail })) o.managed o o.managed_nodup
  exact (hset (k, c) hm).trans (if_pos ⟨hs, hl⟩)

/-! Table 12.3's commit rows of one output. -/

variable {s : OutSt} {v : PinVal}

theorem commitOut_driven (hv : s.staged = some v) (h : s.state = .normal ∨ s.state = .hold) :
    (commitOut k c s).1 = { s with state := .normal, pin := v, staged := none, skip := false } := by
  unfold commitOut
  rw [hv]
  rcases h with h | h <;> rw [h]

theorem commitOut_trip (hv : s.staged = some v) (h : s.state = .trip) : (commitOut k c s).1 = { s with staged := none, skip := false } := by
  unfold commitOut
  rw [hv, h]

theorem commitOut_fail (hv : s.staged = some v) (h : s.state = .fail) :
    (commitOut k c s).1 =
      if s.skip then { s with skip := false, staged := none }
      else if c.latchFail = true ∧ (s.release = none ∨ s.latched = false) then { s with latched := true, staged := none }
      else if c.latchFail = true then { s with state := .normal, latched := false, release := none, pin := v, staged := none }
      else { s with state := .normal, pin := v, staged := none } := by
  unfold commitOut
  rw [hv, h]
  cases s.skip <;> cases c.latchFail <;> cases s.release <;> cases s.latched <;> rfl

/-! The scaling of R334. -/

theorem scaleCode_bounds (prev : Option Int) (x : Int) (h : c.minCode.toNat ≤ c.maxCode.toNat) :
    (c.minCode.toNat : Int) ≤ (scaleCode c prev x).1 ∧ (scaleCode c prev x).1 ≤ c.maxCode.toNat :=
  clampI_bounds (by omega) _

/-- A code clamped to a window around one inside the limits stays inside that window when it is clamped to the limits. -/
theorem clampI_near {lo hi p d : Int} (hd : 0 ≤ d) (hlo : lo ≤ p) (hhi : p ≤ hi) (a : Int) : (clampI lo hi (clampI (p - d) (p + d) a) - p).natAbs ≤ d.toNat := by
  unfold clampI
  omega

theorem scaleCode_slew {p : Int} (x : Int) (hs : c.slew ≠ 0) (hlo : (c.minCode.toNat : Int) ≤ p) (hhi : p ≤ c.maxCode.toNat) :
    ((scaleCode c (some p) x).1 - p).natAbs ≤ c.slew.toNat := by
  unfold scaleCode
  dsimp only
  rw [if_neg hs]
  exact clampI_near (Int.natCast_nonneg _) hlo hhi _

end

/-- Settles O40: the edge without and with a token, a trip and its end, and the scaling. -/
theorem outputStates : Obligations.OutputStates := by
  refine ⟨fun o beat now gpio hc => ⟨fun ht hd => ?_, fun ht => ?_⟩, fun o pairs k c hk he hm => ?_, fun c prev v hmm => ?_⟩
  · rw [OutBlk.edge_untokened hc ht]
    obtain ⟨⟨hdom, hfb, hbeat, hholds, -⟩, hset, hpin⟩ := OutBlk.startHold_run (o := { o with gpioIn := gpio }) hd beat now 1
    refine ⟨hdom, hfb, hbeat, hholds, fun k c hk he hm => ⟨hpin k, fun hn => ?_, fun hn => ?_⟩⟩
    · have hout := (hset (k, c) (OutBlk.mem_managed.2 ⟨hk, he, hm⟩)).trans (OutSt.held_normal hn)
      exact ⟨congrArg OutSt.state hout, (congrArg (fun x => x.flags.getLsbD 2) hout).trans (getLsbD_or_of_right _ (by decide))⟩
    · exact (hset (k, c) (OutBlk.mem_managed.2 ⟨hk, he, hm⟩)).trans (if_neg hn)
  · obtain ⟨⟨hdom, hfb, htok⟩, hset⟩ := OutBlk.edge_tokened hc ht beat now gpio
    refine ⟨hdom, hfb, htok, fun k c v hk he hm hv => ?_⟩
    rw [hset (k, c) (OutBlk.mem_managed.2 ⟨hk, he, hm⟩)]
    refine ⟨fun hs => ?_, fun hs => ?_, fun hs => ⟨fun hk => ?_, fun hk hl => ?_, fun hk hl hr => ?_, fun hk hl hr hla => ?_⟩⟩
    · rw [commitOut_driven hv hs]
      exact ⟨rfl, rfl⟩
    · rw [commitOut_trip hv hs]
      exact ⟨hs, rfl⟩
    · rw [commitOut_fail hv hs, if_pos hk]
      exact ⟨hs, rfl, rfl⟩
    · rw [commitOut_fail hv hs, hk, hl]
      exact ⟨rfl, rfl⟩
    · rw [commitOut_fail hv hs, if_neg (ne_true_of_eq_false hk), if_pos ⟨hl, hr⟩]
      exact ⟨hs, rfl, rfl⟩
    · rw [commitOut_fail hv hs, if_neg (ne_true_of_eq_false hk), if_neg (by simp [hr, hla]), if_pos hl]
      exact ⟨rfl, rfl, rfl⟩
  · have hmem := OutBlk.mem_managed.2 ⟨hk, he, hm⟩
    refine ⟨fun hl hs => ?_, fun hl => ?_, fun hs hl => ?_⟩
    · rw [OutBlk.trip_out pairs hmem, if_pos ⟨hl, hs⟩]
      exact ⟨rfl, rfl, rfl⟩
    · rw [OutBlk.trip_out pairs hmem, if_neg fun h => h.1 hl]
    · rw [OutBlk.tripClear_out pairs hmem hs hl]
      exact ⟨rfl, rfl, rfl⟩
  · obtain ⟨hlo, hhi⟩ := scaleCode_bounds prev v hmm
    refine ⟨hlo, hhi, fun p hp hs hpl hph => ?_⟩
    rw [hp]
    exact scaleCode_slew v hs hpl hph

/-! HOLD_TIMEOUT, HOLD_LIMIT_EXPIRE, OUTPUT_RELEASE and HOST_VALUE_WRITE (R336, R338, R340). -/

section
variable {s : State}

theorem exec_holdTimeout_due {t : Nat} (ha : s.awake = true) (hd : s.beat.n.toNat * 1000000 + 1100000 ≤ t) :
    ∃ u, exec (.holdTimeout t) s = .next u ∧ u.out = (s.out.startHold s.beat.n t 2).1 := by
  have hdue : (s.awake && decide (s.beat.n.toNat * 1000000 + 1100000 ≤ t)) = true := by rw [ha, decide_eq_true hd]; rfl
  refine ⟨_, congrArg Host.Outcome.next (if_pos hdue), ?_⟩
  unfold State.withOut
  rw [State.raise_out]
  rfl

theorem exec_holdLimitExpire_out (k : BitVec 7) (atEdge : Bool) :
    ∃ u, exec (.holdLimitExpire k atEdge) s = .next u ∧ u.out = (s.out.expire k.toNat atEdge).1 :=
  ⟨_, rfl, by rw [State.withOut, State.raise_out]⟩

/-- R338: HOLD_LIMIT runs out for an output in HOLD alone. -/
theorem OutBlk.expire_hold {o : OutBlk} {k : Nat} {c : OutCfg} (he : o.entry k = some c) (hm : managedKind c = true) (hs : (o.out k).state = .hold)
    (atEdge : Bool) :
    ((o.expire k atEdge).1.out k).state = .fail ∧ ((o.expire k atEdge).1.out k).pin = failPin c false ∧ ((o.expire k atEdge).1.out k).skip = atEdge ∧
      ((o.expire k atEdge).1.out k).fails = (o.out k).fails + 1 ∧ ∀ j, j ≠ k → (o.expire k atEdge).1.out j = o.out j := by
  unfold OutBlk.expire
  rw [he]
  dsimp only
  rw [if_pos ⟨hs, hm⟩]
  have hk := o.out_setOut k { o.out k with
    state := .fail, latched := false, release := none, pin := failPin c (decide (1 = 2)), skip := atEdge, flags := (o.out k).flags ||| 8
    fails := (o.out k).fails + 1 }
  refine ⟨congrArg OutSt.state hk, congrArg OutSt.pin hk, congrArg OutSt.skip hk, congrArg OutSt.fails hk, fun j hj => o.out_setOut_other _ hj⟩

theorem OutBlk.expire_other {o : OutBlk} {k : Nat} (hs : (o.out k).state ≠ .hold) (atEdge : Bool) : (o.expire k atEdge).1 = o := by
  unfold OutBlk.expire
  split
  · rfl
  · rw [if_neg fun h => hs h.1]

theorem State.accessed_out (a : State) (who : Who) (b o : Nat) : (a.accessed who b o).out = a.out := rfl

theorem exec_outputRelease_awake (ha : s.awake = true) (who : Who) (k : BitVec 7) :
    ∃ u, exec (.outputRelease who k) s = .next u ∧ u.out = s.out.releaseWrite k.toNat (Who.sessionWord who) :=
  ⟨_, congrArg Host.Outcome.next (if_pos ha), by dsimp only; rw [State.accessed_out]⟩

/-- R340: a RELEASE waits for the commit or is refused. -/
theorem OutBlk.releaseWrite_out (o : OutBlk) (k : Nat) (ses : Word) :
    (o.releaseWrite k ses).out k =
      if (o.out k).state = .fail ∧ (o.out k).latched = true ∧ o.domain = .run then { o.out k with release := some ses }
      else { o.out k with flags := (o.out k).flags ||| 64 } := by
  unfold OutBlk.releaseWrite
  dsimp only
  split <;> exact o.out_setOut _ _

theorem exec_hostValueWrite_awake (ha : s.awake = true) (who : Who) (k : BitVec 7) (v : Word) :
    ∃ u, exec (.hostValueWrite who k v) s = .next u ∧ u.out = s.out.setOut k.toNat { s.out.out k.toNat with host := v } :=
  ⟨_, congrArg Host.Outcome.next (if_pos ha), by dsimp only; rw [State.accessed_out]; rfl⟩

theorem exec_vlcdFault_pumped {c : OutTable} (ha : s.awake = true) (hc : s.out.cfg = some c) (hb : c.annBias = 2) :
    ∃ u, exec .vlcdFault s = .next u ∧ u.out = { s.out with flags := s.out.flags ||| 16 } := by
  have hv : (s.awake && s.out.cfg.any (fun t => decide (t.annBias = 2))) = true := by
    rw [ha, hc]
    exact decide_eq_true hb
  exact ⟨_, congrArg Host.Outcome.next (if_pos hv), by rw [State.raise_out]⟩

end

/-- Settles O41: hold at 1,100 µs, the hold limit, RELEASE, a host value, and the panel's supply. -/
theorem outputCommands : Obligations.OutputCommands := by
  refine fun s => ⟨fun t ha hr hd => ?_, fun k atEdge => ⟨fun c he hm hs => ?_, fun hs => ?_⟩, fun who k ha => ?_, fun who k v ha => ?_,
    fun c ha hc hb => exec_vlcdFault_pumped ha hc hb⟩
  · obtain ⟨u, hexec, hout⟩ := exec_holdTimeout_due ha hd
    obtain ⟨⟨hdom, -, -, hholds, hflags⟩, -, hpin⟩ := OutBlk.startHold_run hr s.beat.n t 2
    refine ⟨u, hexec, ?_⟩
    rw [hout]
    exact ⟨hdom, hholds, by rw [hflags]; exact getLsbD_or_of_right _ (by decide), hpin⟩
  · obtain ⟨u, hexec, hout⟩ := exec_holdLimitExpire_out (s := s) k atEdge
    exact ⟨u, hexec, by rw [hout]; exact OutBlk.expire_hold he hm hs atEdge⟩
  · obtain ⟨u, hexec, hout⟩ := exec_holdLimitExpire_out (s := s) k atEdge
    exact ⟨u, hexec, by rw [hout, OutBlk.expire_other hs]⟩
  · obtain ⟨u, hexec, hout⟩ := exec_outputRelease_awake ha who k
    refine ⟨u, hexec, ?_⟩
    rw [hout, OutBlk.releaseWrite_out]
    split
    next h => exact ⟨rfl, rfl, fun _ => rfl, fun hn => absurd h hn⟩
    next h => exact ⟨rfl, rfl, fun hy => absurd hy h, fun _ => rfl⟩
  · obtain ⟨u, hexec, hout⟩ := exec_hostValueWrite_awake ha who k v
    refine ⟨u, hexec, ?_⟩
    rw [hout]
    exact ⟨s.out.out_setOut _ _, fun j hj => s.out.out_setOut_other _ hj⟩

end Sys2Proof.Machine
end

section
/-! SUPPORT. Proofs of the arbiter (19_service_fabric.md): O59. -/

namespace Sys2Proof.Machine

open Sys2Proof

/-! The highest raised request (R517). -/

/-- By rank the grant goes to the highest input that waits. -/
theorem pickRank_highest (p : Nat × Nat) (l : List (Nat × Nat)) :
    ∃ r ∈ p :: l, pickRank (p :: l) = some r.1 ∧ ∀ q ∈ p :: l, q.1 ≤ r.1 := by
  induction l generalizing p with
  | nil => exact ⟨p, by simp, rfl, by simp⟩
  | cons q l ih =>
    obtain ⟨r, hr, hpick, hhigh⟩ := ih (if p.1 ≤ q.1 then q else p)
    have hm := hhigh _ List.mem_cons_self
    refine ⟨r, mem_of_mem_ite_cons hr, (pickRank_cons_cons p q l).trans hpick, fun x hx => ?_⟩
    rcases List.mem_cons.mp hx with rfl | hx
    · split at hm <;> omega
    · rcases List.mem_cons.mp hx with rfl | hx
      · split at hm <;> omega
      · exact hhigh x (List.mem_cons_of_mem _ hx)

/-- A grant that is not reserved goes to the highest input raised in time. -/
theorem SvcSt.choose_highest {v : SvcSt} {upTo k c : Nat} (hres : (v.grantNo + 1) % v.arbN.toNat ≠ 0) (hmem : (k, some c) ∈ v.raised)
    (hc : c ≤ upTo) (hhigh : ∀ j d, (j, some d) ∈ v.raised → d ≤ upTo → j ≤ k) : v.choose upTo none = some k := by
  have hkc : (k, c) ∈ v.waiting upTo := SvcSt.mem_waiting.mpr ⟨hmem, hc⟩
  have hall : (v.waiting upTo).filter (fun p => decide (some p.1 ≠ none)) = v.waiting upTo := by simp
  have hr : reservedGrant (v.grantNo + 1) v.arbN.toNat = false := by simp [reservedGrant, hres]
  simp only [SvcSt.choose, hall, hr, Bool.false_eq_true, if_false]
  cases hw : v.waiting upTo with
  | nil => simp [hw] at hkc
  | cons p l =>
    obtain ⟨⟨j, d⟩, hjd, hpick, hbest⟩ := pickRank_highest p l
    rw [← hw] at hjd hbest
    obtain ⟨hj, hd⟩ := SvcSt.mem_waiting.mp hjd
    have hjk : j = k := Nat.le_antisymm (hhigh j d hj hd) (hbest _ hkc)
    rw [hpick, hjk]

/-- The words of a grant are counted in its holder's counter alone (R529). -/
theorem SvcSt.grantWords_counter_other (v : SvcSt) (k words : Nat) {key : Nat} (h : key ≠ counterKey 0x12 k) :
    Tab.get Counter.zero (v.grantWords k words).counters key = Tab.get Counter.zero v.counters key :=
  Tab.get_set_other Counter.zero v.counters _ h

/-- The fabric whose grant in progress, when there is one, has its words counted. -/
def SvcSt.grantCounted (v : SvcSt) (words : Nat) : SvcSt :=
  match v.grant with
  | none => v
  | some g => v.grantWords g.holder.toNat words

theorem SvcSt.grantCounted_same (v : SvcSt) (words : Nat) : v.SameButCounters (v.grantCounted words) := by
  unfold SvcSt.grantCounted
  split
  · exact .refl v
  · exact .setCounter v _ _

theorem SvcSt.grantCounted_counter (v : SvcSt) (words : Nat) {key : Nat}
    (h : ∀ g, v.grant = some g → key ≠ counterKey 0x12 g.holder.toNat) :
    Tab.get Counter.zero (v.grantCounted words).counters key = Tab.get Counter.zero v.counters key := by
  unfold SvcSt.grantCounted
  split
  · rfl
  · next g hg => exact SvcSt.grantWords_counter_other v _ words (h g hg)

theorem SvcSt.decision_eq (v : SvcSt) (cycle wordStart words : Nat) :
    v.decision cycle wordStart words =
      (v.grantCounted words).decide_ cycle (if v.grant = none then cycle else wordStart) none := by
  unfold SvcSt.decision SvcSt.grantCounted
  split <;> rename_i hg <;> simp [hg]

/-- Settles O59: by rank the decision goes to the highest input that waits, and all it writes is the grant, its number, the request it
serves and the word count of the grant that ended. -/
theorem arbiterGrants : Obligations.ArbiterGrants := by
  unfold Obligations.ArbiterGrants
  intro s cycle wordStart words k c h upTo hres hmem hc hhigh
  obtain ⟨d, hd⟩ := SvcSt.grantCounted_same s.svc words
  have hcount := fun key => SvcSt.grantCounted_counter s.svc words (key := key)
  rw [hd] at hcount
  have hchoose : ({ s.svc with counters := d } : SvcSt).choose upTo none = some k :=
    SvcSt.choose_highest (v := { s.svc with counters := d }) hres hmem hc hhigh
  have hdec : s.svc.decision cycle wordStart words =
      { s.svc with
        counters := d
        grant := some { holder := BitVec.ofNat 4 k, start := cycle + 1, limit := s.svc.holdLimit.toNat }
        grantNo := s.svc.grantNo + 1, raised := Tab.set none s.svc.raised k none } := by
    rw [SvcSt.decision_eq, hd]
    exact SvcSt.decide_some hchoose
  refine ⟨_, next_if_awake h, ?_⟩
  rw [hdec]
  exact ⟨rfl, Tab.get_set_same none _ k none, fun j hj => Tab.get_set_other none _ none hj, rfl, hcount⟩

end Sys2Proof.Machine
end

section
/-! SUPPORT. Proofs of the host protocol (14_host_protocol.md): O45, O47. -/

namespace Sys2Proof.Machine

open Sys2Proof

/-! Reads, rings and stream destinations of a host (R383 to R386, R413 to R416, R491). -/

@[simp] theorem HstSt.respond_dests (g : HstSt) (r : Response) : (g.respond r).dests = g.dests := rfl
@[simp] theorem HstSt.respond_snapshots (g : HstSt) (r : Response) : (g.respond r).snapshots = g.snapshots := rfl

theorem HstSt.respond_getLast (g : HstSt) (r : Response) : r ∈ (g.respond r).responses.getLast? := by simp [HstSt.respond]

section
variable {s : State} {h : HostRef}

/-- A local request of a session that may is exec of its work. -/
theorem next_localCmd {least : Nat} (hm : s.sessionMay h least) (f : State → State) :
    Host.Outcome.next (s.localCmd h least f) = (.next (f s) : Host.Outcome State Fault Refusal) :=
  congrArg Host.Outcome.next (State.localCmd_may hm f)

/-! READ_SNAPSHOT (R413). -/

section
variable {g : HstSt} {beat : Long} {new old : PubRec} (hnew : g.snapshots.getLast? = some new) (hold : g.snapshots.head? = some old)
include hnew hold

theorem HstSt.snapshotOf_newest : g.snapshotOf 0 = .ok new := by
  simp [HstSt.snapshotOf, hnew, hold]

theorem HstSt.snapshotOf_kept {r : PubRec} (hb : beat ≠ 0) (hr : g.snapshots.find? (fun q => decide (q.beat = beat)) = some r) :
    g.snapshotOf beat = .ok r := by
  simp only [HstSt.snapshotOf, hnew, hold, if_neg hb, hr]

theorem HstSt.snapshotOf_notYet (hb : beat ≠ 0) (hr : g.snapshots.find? (fun q => decide (q.beat = beat)) = none)
    (hlt : new.beat.toNat < beat.toNat) : g.snapshotOf beat = .error (stNotYet, lowOf new.beat) := by
  simp only [HstSt.snapshotOf, hnew, hold, if_neg hb, hr, if_pos hlt]

theorem HstSt.snapshotOf_gone (hb : beat ≠ 0) (hr : g.snapshots.find? (fun q => decide (q.beat = beat)) = none)
    (hle : beat.toNat ≤ new.beat.toNat) : g.snapshotOf beat = .error (stSnapGone, lowOf old.beat) := by
  simp only [HstSt.snapshotOf, hnew, hold, if_neg hb, hr, if_neg (Nat.not_lt.mpr hle)]
end

/-- What READ_SNAPSHOT answers. -/
def State.answerSnapshot (s : State) (h : HostRef) (ext : List (Half × Half)) : Except (Half × Word) PubRec → State
  | .error (st, d) => s.reply h 0x0010 st d []
  | .ok r =>
    if 16 < ext.length ∨ 1400 < (ext.map (fun e => e.2.toNat)).sum ∨
        ext.any (fun e => decide (4 * r.words.length < e.1.toNat + e.2.toNat)) then
      s.reply h 0x0010 stBadRequest 0 []
    else { s with hst := s.hst.respond (localResponse h 0x0010 r.beat stOk 0 (packBytes (extentBytes r ext))) }

theorem exec_readSnapshot (hm : s.sessionMay h 0) (beat : Long) (ext : List (Half × Half)) :
    exec (.readSnapshot h beat ext) s = .next (s.answerSnapshot h ext (s.hst.snapshotOf beat)) := by
  refine (next_localCmd hm _).trans (congrArg Host.Outcome.next ?_)
  split <;> rename_i heq <;> rw [heq] <;> rfl

theorem State.answerSnapshot_only (s : State) (h : HostRef) (ext : List (Half × Half)) (x : Except (Half × Word) PubRec) :
    s.answerSnapshot h ext x = { s with hst := (s.answerSnapshot h ext x).hst } ∧
      (s.answerSnapshot h ext x).hst.snapshots = s.hst.snapshots := by
  unfold State.answerSnapshot
  split
  · exact ⟨rfl, rfl⟩
  · split <;> exact ⟨rfl, rfl⟩

theorem State.answerSnapshot_ok (s : State) (h : HostRef) {ext : List (Half × Half)} {r : PubRec} (hlen : ext.length ≤ 16)
    (hsum : (ext.map (fun e => e.2.toNat)).sum ≤ 1400) (hin : ∀ e ∈ ext, e.1.toNat + e.2.toNat ≤ 4 * r.words.length) :
    ∃ a ∈ (s.answerSnapshot h ext (.ok r)).hst.responses.getLast?, a.status = stOk ∧ a.beat = r.beat ∧
      a.payload = packBytes (extentBytes r ext) := by
  have hany : ¬ ext.any (fun e => decide (4 * r.words.length < e.1.toNat + e.2.toNat)) = true := by
    rw [List.any_eq_true]
    rintro ⟨e, he, hlt⟩
    exact absurd (of_decide_eq_true hlt) (Nat.not_lt.mpr (hin e he))
  have hok : ¬ (16 < ext.length ∨ 1400 < (ext.map (fun e => e.2.toNat)).sum ∨
      ext.any (fun e => decide (4 * r.words.length < e.1.toNat + e.2.toNat)) = true) :=
    not_or.mpr ⟨Nat.not_lt.mpr hlen, not_or.mpr ⟨Nat.not_lt.mpr hsum, hany⟩⟩
  simp only [State.answerSnapshot, if_neg hok]
  exact ⟨_, HstSt.respond_getLast _ _, rfl, rfl, rfl⟩

/-- R413: a snapshot is read, gone or not yet there. -/
theorem readSnapshot_reads (hm : s.sessionMay h 0) (beat : Long) (ext : List (Half × Half)) {new old : PubRec}
    (hnew : s.hst.snapshots.getLast? = some new) (hold : s.hst.snapshots.head? = some old) :
    ∃ t, exec (.readSnapshot h beat ext) s = .next t ∧ t = { s with hst := t.hst } ∧ t.hst.snapshots = s.hst.snapshots ∧
      (∀ r, ext.length ≤ 16 → (ext.map (fun e => e.2.toNat)).sum ≤ 1400 → (∀ e ∈ ext, e.1.toNat + e.2.toNat ≤ 4 * r.words.length) →
        (beat = 0 ∧ r = new) ∨ (beat ≠ 0 ∧ s.hst.snapshots.find? (fun q => decide (q.beat = beat)) = some r) →
        ∃ a ∈ t.hst.responses.getLast?, a.status = stOk ∧ a.beat = r.beat ∧ a.payload = packBytes (extentBytes r ext)) ∧
      (beat ≠ 0 → s.hst.snapshots.find? (fun q => decide (q.beat = beat)) = none →
        (new.beat.toNat < beat.toNat → t.lastAnswer 0x000D (lowOf new.beat)) ∧
        (beat.toNat < old.beat.toNat → old.beat.toNat ≤ new.beat.toNat → t.lastAnswer 0x000C (lowOf old.beat))) := by
  obtain ⟨honly, hkeep⟩ := s.answerSnapshot_only h ext (s.hst.snapshotOf beat)
  refine ⟨_, exec_readSnapshot hm beat ext, honly, hkeep, fun r hlen hsum hin hr => ?_, fun hb hnone => ⟨fun hlt => ?_, fun hlt hle => ?_⟩⟩
  · rcases hr with ⟨rfl, rfl⟩ | ⟨hb, hr⟩
    · rw [HstSt.snapshotOf_newest hnew hold]
      exact s.answerSnapshot_ok h hlen hsum hin
    · rw [HstSt.snapshotOf_kept hnew hold hb hr]
      exact s.answerSnapshot_ok h hlen hsum hin
  · rw [HstSt.snapshotOf_notYet hnew hold hb hnone hlt]
    exact State.reply_lastAnswer ..
  · rw [HstSt.snapshotOf_gone hnew hold hb hnone (by omega)]
    exact State.reply_lastAnswer ..

/-! READ_REG and READ_RECORDER (R414, R491). -/

theorem State.readRegs_length (s : State) (who : Who) (l : List Word) : (s.readRegs who l).2.length = l.length := by
  induction l generalizing s with
  | nil => rfl
  | cons x l ih => exact congrArg Nat.succ (ih _)

/-- R414: a word for each address, and none where one of them locks or releases. -/
theorem readReg_reads (hm : s.sessionMay h 0) (l : List Word) :
    ∃ t, exec (.readReg h l) s = .next t ∧
      (l.length ≤ 64 → l.any lockingReg = false → ∃ a ∈ t.hst.responses.getLast?, a.status = stOk ∧ a.payload.length = l.length) ∧
      (l.any lockingReg = true → t.lastAnswer stBadRequest 0 ∧ t = { s with hst := t.hst }) := by
  refine ⟨_, next_localCmd hm _, fun hlen hno => ?_, fun hlock => ?_⟩
  · have hok : ¬ (64 < l.length ∨ l.any lockingReg = true) := not_or.mpr ⟨Nat.not_lt.mpr hlen, by simp [hno]⟩
    simp only [if_neg hok]
    exact ⟨_, HstSt.respond_getLast _ _, rfl, State.readRegs_length _ _ _⟩
  · simp only [if_pos (Or.inr hlock : 64 < l.length ∨ l.any lockingReg = true)]
    exact ⟨State.reply_lastAnswer .., rfl⟩

/-- R491: the recorder's records are read, and the recorder is as it was. -/
theorem readRecorder_reads (hm : s.sessionMay h 0) (seq : Word) (n : Byte) :
    ∃ t, exec (.readRecorder h seq n) s = .next t ∧ t = { s with hst := t.hst } ∧
      (1 ≤ n.toNat → n.toNat ≤ 40 → ∃ a ∈ t.hst.responses.getLast?, a.status = stOk ∧ a.payload = s.rcd.response seq.toNat n.toNat) ∧
      (n = 0 ∨ 40 < n.toNat → t.lastAnswer stBadRequest 0) := by
  by_cases hbad : n = 0 ∨ 40 < n.toNat
  · refine ⟨_, (next_localCmd hm _).trans (congrArg Host.Outcome.next (if_pos hbad)), rfl, fun h1 h40 => ?_, fun _ => State.reply_lastAnswer ..⟩
    rcases hbad with rfl | hgt
    · cases h1
    · omega
  · exact ⟨_, (next_localCmd hm _).trans (congrArg Host.Outcome.next (if_neg hbad)), rfl,
      fun _ _ => ⟨_, HstSt.respond_getLast _ _, rfl, rfl⟩, fun hb => absurd hb hbad⟩

/-! RING_READ and RING_WRITE (R384 to R386). -/

/-- Without a STALE limit the consumer takes the oldest entries, and all are counted consumed. -/
theorem RingSt.consume_fresh (beat : Word) {fuel k : Nat} (hk : k < fuel) (r : RingSt) :
    (RingSt.consume 0 beat fuel k r).1 =
      { r with
        entries := r.entries.drop k
        ledger := { r.ledger with consumed := r.ledger.consumed + BitVec.ofNat 48 (min k r.entries.length) } } := by
  induction fuel generalizing k r with
  | zero => omega
  | succ fuel ih =>
    obtain ⟨es, sq, ep, led, sn, so⟩ := r
    cases es with
    | nil => simp [RingSt.consume]
    | cons e es =>
      cases k with
      | zero => simp [RingSt.consume]
      | succ k =>
        simp only [RingSt.consume, Nat.add_eq_zero_iff, one_ne_zero, and_false, if_false, staleEntry, ne_eq, not_true_eq_false,
          decide_false, Bool.false_and, Bool.false_eq_true, Nat.add_sub_cancel]
        rw [ih (by omega)]
        simp only [List.drop_succ_cons, List.length_cons, Nat.add_min_add_right, RingSt.mk.injEq, true_and, and_true]
        rw [Nat.add_comm (min k es.length) 1, BitVec.ofNat_add, BitVec.add_assoc]
        rfl

theorem FbuSt.takeRing_fresh {f : FbuSt} {rg k : Nat} {c : RingCfg} (hc : f.ringCfg rg = some c) (hs : c.stale = 0) (hk : k < 257) (beat : Word) :
    (f.takeRing rg k beat).1 = f.setRing rg
      { f.ring rg with
        entries := (f.ring rg).entries.drop k
        ledger := { (f.ring rg).ledger with
          consumed := (f.ring rg).ledger.consumed + BitVec.ofNat 48 (min k (f.ring rg).entries.length) } } := by
  simp only [FbuSt.takeRing, hc, hs]
  rw [RingSt.consume_fresh beat hk]

/-- R384, R386: a HOST ring's oldest entries go to the host. -/
theorem ringRead_reads (hm : s.sessionMay h 0) (ring n : Byte) {c : RingCfg} (hc : s.fbu.ringCfg ring.toNat = some c) :
    let R := s.fbu.ring ring.toNat
    (c.consumer = 3 → c.stale = 0 →
      let k := min n.toNat (1400 / c.entryBytes.toNat)
      ∃ t, exec (.ringRead h ring n) s = .next t ∧ (t.fbu.ring ring.toNat).entries = R.entries.drop k ∧
        (t.fbu.ring ring.toNat).ledger = { R.ledger with consumed := R.ledger.consumed + BitVec.ofNat 48 (min k R.entries.length) } ∧
        (∀ j, j ≠ ring.toNat → t.fbu.ring j = s.fbu.ring j) ∧ t.lastAnswer stOk 0) ∧
    (c.consumer ≠ 3 → ∃ t, exec (.ringRead h ring n) s = .next t ∧ t.fbu = s.fbu ∧ t.lastAnswer stBadRequest 0) := by
  refine ⟨fun hcons hstale => ?_, fun hcons => ?_⟩
  · have hk : min n.toNat (1400 / c.entryBytes.toNat) < 257 := by
      have := n.isLt
      omega
    refine ⟨_, next_localCmd hm _, ?_⟩
    simp only [hc, hcons, if_true, State.reply_fbu, FbuSt.takeRing_fresh hc hstale hk, FbuSt.ring_setRing, true_and]
    exact ⟨fun j hj => FbuSt.ring_setRing_other _ _ hj, State.reply_lastAnswer ..⟩
  · refine ⟨_, next_localCmd hm _, ?_⟩
    simp only [hc, hcons, if_false]
    exact ⟨rfl, State.reply_lastAnswer ..⟩

theorem FbuSt.offerRing_room {f : FbuSt} {rg : Nat} {c : RingCfg} (hc : f.ringCfg rg = some c) (hcons : c.consumer ≠ 4)
    (hroom : (f.ring rg).entries.length < c.depth.toNat) (beat : Word) (kind : Byte) (word : Word) (sideB : Bool) (data : List Byte) :
    (f.offerRing rg beat kind word sideB data).1.ring rg =
      { f.ring rg with
        entries := (f.ring rg).entries ++ [ringEntry c (f.ring rg) beat kind word sideB data]
        seq := (f.ring rg).seq + 1, epoch := false
        ledger := { (f.ring rg).ledger with produced := (f.ring rg).ledger.produced + 1 } } := by
  simp only [FbuSt.offerRing, hc, RingSt.produce, if_pos hroom, if_neg hcons]
  exact FbuSt.ring_setRing f rg _

/-- R384, R385: a write to a HOST ring adds an entry, or is refused RING_FULL. -/
theorem ringWrite_writes (hm : s.sessionMay h 1) (ring : Byte) (data : List Byte) {c : RingCfg} (hc : s.fbu.ringCfg ring.toNat = some c)
    (hprod : c.producer = 3) :
    let R := s.fbu.ring ring.toNat
    (c.consumer ≠ 4 → R.entries.length < c.depth.toNat →
      ∃ t e, exec (.ringWrite h ring data) s = .next t ∧ (t.fbu.ring ring.toNat).entries = R.entries ++ [e] ∧ e.seq = R.seq ∧
        e.payload = data.take (c.entryBytes.toNat - 16) ∧ (t.fbu.ring ring.toNat).seq = R.seq + 1 ∧ t.lastAnswer stApplied 0) ∧
    (c.depth.toNat ≤ R.entries.length → ∃ t, exec (.ringWrite h ring data) s = .next t ∧ t.fbu = s.fbu ∧ t.lastAnswer 0x0025 0) := by
  refine ⟨fun hcons hroom => ?_, fun hfull => ?_⟩
  · refine ⟨_, ringEntry c (s.fbu.ring ring.toNat) (lowOf s.beat.n) 3 (h.session.setWidth 32) s.pai.sideB data, next_localCmd hm _, ?_⟩
    simp only [hc, hprod, ne_eq, not_true_eq_false, if_false, if_neg (Nat.not_le.mpr hroom), State.reply_fbu, State.withFbu, State.raise_fbu,
      FbuSt.offerRing_room hc hcons hroom, true_and]
    exact ⟨rfl, rfl, State.reply_lastAnswer ..⟩
  · refine ⟨_, next_localCmd hm _, ?_⟩
    simp only [hc, hprod, ne_eq, not_true_eq_false, if_false, if_pos hfull]
    exact ⟨rfl, State.reply_lastAnswer ..⟩

/-! STREAM_CTRL (R416). -/

/-- R416: a destination is added up to four, and named only once. -/
theorem streamAdd_adds (hm : s.sessionMay h 0) (d : NetDest) :
    ∃ t, exec (.streamAdd h d) s = .next t ∧ t = { s with hst := t.hst } ∧
      (d.ports.toNat % 4 ≠ 0 → ttlOk d = true → s.hst.dests.length < 4 →
        (∀ x ∈ s.hst.dests, ¬(x.address = d.address ∧ x.port = destPort d.port)) →
        (∃ x, t.hst.dests = s.hst.dests ++ [x] ∧ x.session = h.session ∧ x.address = d.address ∧ x.port = destPort d.port) ∧
          t.lastAnswer stApplied 0) ∧
      (d.ports.toNat % 4 = 0 ∨ 4 ≤ s.hst.dests.length ∨ (∃ x ∈ s.hst.dests, x.address = d.address ∧ x.port = destPort d.port) →
        t.hst.dests = s.hst.dests ∧ t.lastAnswer stBadRequest 0) := by
  have hbad : (decide (d.ports.toNat % 4 = 0) || !ttlOk d || decide (4 ≤ s.hst.dests.length) ||
      s.hst.dests.any (fun x => decide (x.address = d.address) && decide (x.port = destPort d.port))) = true ↔
      d.ports.toNat % 4 = 0 ∨ ttlOk d = false ∨ 4 ≤ s.hst.dests.length ∨
        ∃ x ∈ s.hst.dests, x.address = d.address ∧ x.port = destPort d.port := by
    simp [or_assoc]
  refine ⟨_, next_localCmd hm _, rfl, fun hports httl hlen hnew => ?_, fun hor => ?_⟩
  · have hno := mt hbad.mp (by
      rintro (h0 | h0 | h0 | ⟨x, hx, h0⟩)
      · exact hports h0
      · rw [httl] at h0
        cases h0
      · omega
      · exact hnew x hx h0)
    simp only [HstSt.streamAdd, if_neg hno, if_true]
    exact ⟨⟨_, rfl, rfl, rfl, rfl⟩, State.reply_lastAnswer ..⟩
  · have hyes := hbad.mpr (hor.imp_right Or.inr)
    simp only [HstSt.streamAdd, if_pos hyes, Bool.false_eq_true, if_false]
    exact ⟨rfl, State.reply_lastAnswer ..⟩

/-- R416: a session removes only what it added. -/
theorem streamRemove_removes (hm : s.sessionMay h 0) (d : NetDest) :
    ∃ t, exec (.streamRemove h d) s = .next t ∧ t = { s with hst := t.hst } ∧
      (∀ x, x ∈ t.hst.dests ↔ x ∈ s.hst.dests ∧ ¬(x.session = h.session ∧ x.address = d.address ∧ x.port = destPort d.port)) ∧
      ((∃ x ∈ s.hst.dests, x.session = h.session ∧ x.address = d.address ∧ x.port = destPort d.port) → t.lastAnswer stApplied 0) ∧
      ((∀ x ∈ s.hst.dests, ¬(x.session = h.session ∧ x.address = d.address ∧ x.port = destPort d.port)) → t.lastAnswer stBadRequest 0) := by
  have hany : (s.hst.dests.any (fun x => decide (x.session = h.session) && decide (x.address = d.address) &&
      decide (x.port = destPort d.port))) = true ↔
      ∃ x ∈ s.hst.dests, x.session = h.session ∧ x.address = d.address ∧ x.port = destPort d.port := by
    simp [and_assoc]
  refine ⟨_, next_localCmd hm _, rfl, ?_⟩
  by_cases hmine : ∃ x ∈ s.hst.dests, x.session = h.session ∧ x.address = d.address ∧ x.port = destPort d.port
  · simp only [HstSt.streamRemove, if_pos (hany.mpr hmine), if_true]
    refine ⟨fun x => ?_, fun _ => State.reply_lastAnswer .., fun hno => ?_⟩
    · show x ∈ List.filter _ s.hst.dests ↔ _
      simp [-not_and, not_and_or, or_assoc]
    · obtain ⟨x, hx, hxm⟩ := hmine
      exact absurd hxm (hno x hx)
  · simp only [HstSt.streamRemove, if_neg (mt hany.mp hmine), Bool.false_eq_true, if_false]
    refine ⟨fun x => ?_, fun hyes => absurd hyes hmine, fun _ => State.reply_lastAnswer ..⟩
    exact ⟨fun hx => ⟨hx, fun hxm => hmine ⟨x, hx, hxm⟩⟩, And.left⟩
end

/-- Settles O47, read by read: snapshots, registers, the recorder, rings and stream destinations. -/
theorem hostReads : Obligations.HostReads := by
  unfold Obligations.HostReads
  intro s h hm
  refine ⟨fun beat ext new old hnew hold => readSnapshot_reads hm beat ext hnew hold, readReg_reads hm, readRecorder_reads hm, ?_, ?_, ?_⟩
  · exact fun ring n c hc => ringRead_reads hm ring n hc
  · exact fun ring data c hm1 hc hprod => ringWrite_writes hm1 ring data hc hprod
  · exact fun d => ⟨streamAdd_adds hm d, streamRemove_removes hm d⟩

/-! Admission of datagrams (R397, R402, R403). -/

section
variable {g : HstSt} {v : HostView} {address : Word} {b : List Byte}

/-- R397: no number of a session, a closed one, or a wrong TAG. -/
theorem HstSt.sessionRequest_badTag
    (h : ¬ (1 ≤ (xhpHeader b).session ∧ (xhpHeader b).session ≤ 16) ∨ (g.sess (xhpHeader b).session).isOpen = false ∨
      tagOk (g.sess (xhpHeader b).session).key b = false) : g.sessionRequest v address b = g.badTagFrom address := if_pos h

section
variable (hknown : ¬ (¬ (1 ≤ (xhpHeader b).session ∧ (xhpHeader b).session ≤ 16) ∨ (g.sess (xhpHeader b).session).isOpen = false ∨
  tagOk (g.sess (xhpHeader b).session).key b = false))
include hknown

theorem HstSt.sessionRequest_redundant
    (hcopy : (g.sess (xhpHeader b).session).accepted.contains ((xhpHeader b).reqId, tagPart b) = true) :
    g.sessionRequest v address b = { g with redundant := g.redundant + 1 } := (if_neg hknown).trans (if_pos hcopy)

section
variable (hnew : ¬ (g.sess (xhpHeader b).session).accepted.contains ((xhpHeader b).reqId, tagPart b) = true)
  (hphase : ¬ (v.phase = .noImage ∧ noImageServes (xhpHeader b).opcode = false))
include hnew hphase

theorem HstSt.sessionRequest_replay (hid : (xhpHeader b).reqId ≤ (g.sess (xhpHeader b).session).reqMax) :
    g.sessionRequest v address b = g.refuse (xhpHeader b) v.beat stReplay 0 := by
  simp only [HstSt.sessionRequest, if_neg hknown, if_neg hnew, if_neg hphase, if_pos hid]

section
variable (hid : ¬ (xhpHeader b).reqId ≤ (g.sess (xhpHeader b).session).reqMax)
include hid

theorem HstSt.sessionRequest_unknownOp (hop : leastRole (xhpHeader b).opcode = none) :
    g.sessionRequest v address b = g.refuse (xhpHeader b) v.beat stUnknownOp 0 := by
  simp only [HstSt.sessionRequest, if_neg hknown, if_neg hnew, if_neg hphase, if_neg hid, hop]

section
variable {least : Nat} (hop : leastRole (xhpHeader b).opcode = some least) (hne : (xhpHeader b).opcode ≠ 1)
include hop hne

theorem HstSt.sessionRequest_role (hrole : (g.sess (xhpHeader b).session).role.toNat < least) :
    g.sessionRequest v address b = g.refuse (xhpHeader b) v.beat stRole (wordN least) := by
  simp only [HstSt.sessionRequest, if_neg hknown, if_neg hnew, if_neg hphase, if_neg hid, hop, if_neg hne, if_pos hrole]

section
variable (hrole : least ≤ (g.sess (xhpHeader b).session).role.toNat)
include hrole

theorem HstSt.sessionRequest_badForm (hform : formatOk (xhpHeader b).opcode (xhpHeader b).hostSeq (payloadPart b) = false) :
    g.sessionRequest v address b = g.refuse (xhpHeader b) v.beat stBadRequest 0 := by
  simp only [HstSt.sessionRequest, if_neg hknown, if_neg hnew, if_neg hphase, if_neg hid, hop, if_neg hne, if_neg (Nat.not_lt.mpr hrole),
    hform, Bool.not_false, if_true]

section
variable (hform : formatOk (xhpHeader b).opcode (xhpHeader b).hostSeq (payloadPart b) = true)
include hform

theorem HstSt.sessionRequest_busy (hu : isUnion (xhpHeader b).opcode (payloadPart b) = true)
    (hfull : g.cmdQueue ≤ (g.sess (xhpHeader b).session).queue.length) :
    g.sessionRequest v address b = g.refuse (xhpHeader b) v.beat stBusy 0 := by
  simp only [HstSt.sessionRequest, if_neg hknown, if_neg hnew, if_neg hphase, if_neg hid, hop, if_neg hne, if_neg (Nat.not_lt.mpr hrole),
    hform, Bool.not_true, Bool.false_eq_true, if_false, hu, if_true, if_pos hfull]

theorem HstSt.sessionRequest_queued (hu : isUnion (xhpHeader b).opcode (payloadPart b) = true)
    (hroom : (g.sess (xhpHeader b).session).queue.length < g.cmdQueue) :
    g.sessionRequest v address b = g.setSess (xhpHeader b).session { g.sess (xhpHeader b).session with
      reqMax := (xhpHeader b).reqId
      accepted := ((xhpHeader b).reqId, tagPart b) :: (g.sess (xhpHeader b).session).accepted
      queue := (g.sess (xhpHeader b).session).queue ++ [hostCmdOf (xhpHeader b) (payloadPart b)] } := by
  simp only [HstSt.sessionRequest, if_neg hknown, if_neg hnew, if_neg hphase, if_neg hid, hop, if_neg hne, if_neg (Nat.not_lt.mpr hrole),
    hform, Bool.not_true, Bool.false_eq_true, if_false, hu, if_true, if_neg (Nat.not_le.mpr hroom)]

theorem HstSt.sessionRequest_local (hu : isUnion (xhpHeader b).opcode (payloadPart b) = false) :
    g.sessionRequest v address b = g.setSess (xhpHeader b).session { g.sess (xhpHeader b).session with
      reqMax := (xhpHeader b).reqId
      accepted := ((xhpHeader b).reqId, tagPart b) :: (g.sess (xhpHeader b).session).accepted } := by
  simp only [HstSt.sessionRequest, if_neg hknown, if_neg hnew, if_neg hphase, if_neg hid, hop, if_neg hne, if_neg (Nat.not_lt.mpr hrole),
    hform, Bool.not_true, Bool.false_eq_true, if_false, hu]
end
end
end
end
end
end

/-- R402: a refusal at admission is counted once and answered, and no session changes. -/
theorem HstSt.refuse_counts (g : HstSt) (x : XhpHeader) (beat : Long) (st : Half) (d : Word) :
    (g.refuse x beat st d).refusedAdm = g.refusedAdm + 1 ∧ (g.refuse x beat st d).sessions = g.sessions ∧
      ∃ r, (g.refuse x beat st d).responses = g.responses ++ [r] ∧ r.status = st ∧ r.detail = d ∧ r.reqId = x.reqId ∧ r.tagged = true :=
  ⟨rfl, rfl, _, rfl, rfl, rfl, rfl, rfl⟩
end

theorem HstSt.request_badFrame {q : XhpRequest} (h : frameOk q.bytes = false) (g : HstSt) (v : HostView) :
    g.request v q = { g with badFrame := g.badFrame + 1 } := by
  simp [HstSt.request, h]

theorem HstSt.request_starting {q : XhpRequest} (h : frameOk q.bytes = true) {v : HostView} (hr : v.phase ≠ .running) (hn : v.phase ≠ .noImage)
    (g : HstSt) : g.request v q = g.respond (bareResponse (xhpHeader q.bytes) v.beat stStarting) := by
  simp [HstSt.request, h, hr, hn]

theorem HstSt.request_session {q : XhpRequest} (h : frameOk q.bytes = true) {v : HostView} (hr : v.phase = .running)
    (hopen : ¬ ((xhpHeader q.bytes).session = 0 ∧ (xhpHeader q.bytes).opcode = 1)) (g : HstSt) :
    g.request v q = g.sessionRequest v q.address q.bytes := by
  simp [HstSt.request, h, hr, if_neg hopen]

section
variable {s : State} (hfio : s.fioOn = true)
include hfio

section
variable {q : XhpRequest} (hport : q.port.toNat < 2) (hup : (Tab.get PortSt.zero s.hst.ports q.port.toNat).up = true)
include hport hup

/-- A datagram on a port that is up is judged by the host block; before the first beat the power controller counts an order. -/
theorem exec_xhpRequest :
    exec (.xhpRequest q) s = .next (
      let a : State := { s with hst := s.hst.request s.hostView q }
      if frameOk q.bytes && decide (s.img.phase ≠ .running) && decide (s.img.phase ≠ .noImage) && decide ((xhpHeader q.bytes).opcode = 0x0052) then
        a.refuseStarting
      else a) :=
  congrArg Host.Outcome.next (if_pos (by simp [hfio, hport, hup]))

theorem exec_xhpRequest_badFrame (h : frameOk q.bytes = false) :
    exec (.xhpRequest q) s = .next { s with hst := { s.hst with badFrame := s.hst.badFrame + 1 } } := by
  rw [exec_xhpRequest hfio hport hup]
  simp only [h, Bool.false_and, Bool.false_eq_true, if_false, HstSt.request_badFrame h]

theorem exec_xhpRequest_running (hr : s.img.phase = .running) :
    exec (.xhpRequest q) s = .next { s with hst := s.hst.request s.hostView q } := by
  rw [exec_xhpRequest hfio hport hup]
  simp [hr]

/-- R96, R397: before the first beat a sound datagram is answered STARTING, by no session. -/
theorem xhpRequest_starting (h : frameOk q.bytes = true) (hr : s.img.phase ≠ .running) (hn : s.img.phase ≠ .noImage) :
    ∃ t r, exec (.xhpRequest q) s = .next t ∧ t.hst = { s.hst with responses := s.hst.responses ++ [r] } ∧
      r.status = 2 ∧ r.session = 0 ∧ r.tagged = false ∧ r.reqId = (xhpHeader q.bytes).reqId := by
  refine ⟨_, bareResponse (xhpHeader q.bytes) s.beat.n stStarting, exec_xhpRequest hfio hport hup, ?_, rfl, rfl, rfl, rfl⟩
  have hreq : s.hst.request s.hostView q = s.hst.respond (bareResponse (xhpHeader q.bytes) s.beat.n stStarting) :=
    HstSt.request_starting h (v := s.hostView) hr hn s.hst
  dsimp only
  split <;> exact hreq

/-- R402, R403: what admission does with a datagram of an open session whose TAG is right. -/
theorem xhpRequest_admission (h : frameOk q.bytes = true) (hr : s.img.phase = .running)
    (hopen : ¬ ((xhpHeader q.bytes).session = 0 ∧ (xhpHeader q.bytes).opcode = 1)) :
    ∃ t, exec (.xhpRequest q) s = .next t ∧ t = { s with hst := t.hst } ∧ t.hst = s.hst.sessionRequest s.hostView q.address q.bytes :=
  ⟨_, exec_xhpRequest_running hfio hport hup hr, rfl, HstSt.request_session (v := s.hostView) h hr hopen s.hst⟩
end

/-! Responses and links (R393, R407). -/

/-- A response that need not wait goes out first. -/
theorem exec_xhpResponse_first {r : Response} {l : List Response} (hl : s.hst.responses = r :: l) (hw : r.waits = false) :
    exec .xhpResponse s = .next { s with hst := { s.hst with responses := l, lastSent := some r } } := by
  refine congrArg Host.Outcome.next ((if_pos hfio).trans ?_)
  simp [hl, State.takeSendable, State.sendable, hw]

/-- A command's answer waits for its beat to be published. -/
theorem exec_xhpResponse_waits {r : Response} (hl : s.hst.responses = [r]) (hw : r.waits = true) (hb : r.beat = s.beat.n)
    (hn : s.img.phase ≠ .noImage) (hsnap : s.hst.snapshots = []) : exec .xhpResponse s = .next s := by
  refine congrArg Host.Outcome.next ((if_pos hfio).trans ?_)
  simp [hl, State.takeSendable, State.sendable, hw, hb, hn, hsnap]

/-- R393: a link takes its new state, and no session changes. -/
theorem ethLinkChange_port (port : BitVec 2) (up : Bool) (mbit : Half) :
    let p := Tab.get PortSt.zero s.hst.ports port.toNat
    ∃ t, exec (.ethLinkChange port up mbit) s = .next t ∧
      Tab.get PortSt.zero t.hst.ports port.toNat = { p with up := up, mbit := mbit } ∧
      (∀ j, j ≠ port.toNat → Tab.get PortSt.zero t.hst.ports j = Tab.get PortSt.zero s.hst.ports j) ∧
      (p.up = up → p.mbit = mbit → t = s) ∧ t.hst.sessions = s.hst.sessions := by
  intro p
  by_cases hsame : p.up = up ∧ p.mbit = mbit
  · obtain ⟨rfl, rfl⟩ := hsame
    exact ⟨s, congrArg Host.Outcome.next (if_neg (by simp [p])), rfl, fun _ _ => rfl, fun _ _ => rfl, rfl⟩
  · have hch : (s.fioOn && (p.up != up || decide (p.mbit ≠ mbit))) = true := by
      by_cases hu : p.up = up
      · simp [hfio, show p.mbit ≠ mbit from fun hm => hsame ⟨hu, hm⟩]
      · simp [hfio, hu]
    refine ⟨_, congrArg Host.Outcome.next (if_pos hch), ?_⟩
    have hhst : ∀ (c : Bool) (a : State), (if c then a.disqualify .ptp false else a).hst = a.hst := fun c a => by
      split
      · exact State.disqualify_hst a _ _
      · rfl
    simp only [hhst, State.raise_hst]
    exact ⟨Tab.get_set_same .., fun j hj => Tab.get_set_other _ _ _ hj, fun hu hm => absurd ⟨hu, hm⟩ hsame, trivial⟩

/-- R393: an echo or ARP request on a port that is up is answered. -/
theorem arpIcmpEcho_answers (port : BitVec 2) :
    let p := Tab.get PortSt.zero s.hst.ports port.toNat
    p.up = true → s.hst.netCfg.isSome = true →
      ∃ t, exec (.arpIcmpEcho port) s = .next t ∧ t = { s with hst := { s.hst with ports := t.hst.ports } } ∧
        Tab.get PortSt.zero t.hst.ports port.toNat = { p with echoed := p.echoed + 1 } ∧
        ∀ j, j ≠ port.toNat → Tab.get PortSt.zero t.hst.ports j = Tab.get PortSt.zero s.hst.ports j := by
  intro p hup hcfg
  exact ⟨_, congrArg Host.Outcome.next (if_pos (by simp [p, hfio, hup, hcfg] : (s.fioOn && p.up && s.hst.netCfg.isSome) = true)), rfl,
    Tab.get_set_same .., fun j hj => Tab.get_set_other _ _ _ hj⟩
end

/-- Settles O45: the datagram's form and phase, then the checks of admission in their order, then responses and links. -/
theorem hostAdmission : Obligations.HostAdmission := by
  unfold Obligations.HostAdmission
  intro s hfio
  refine ⟨?_, fun r l hl => ⟨exec_xhpResponse_first hfio hl, ?_⟩, ethLinkChange_port hfio, arpIcmpEcho_answers hfio⟩
  · intro q x p S hport hup
    refine ⟨exec_xhpRequest_badFrame hfio hport hup, xhpRequest_starting hfio hport hup, fun hok hr hopen => ?_⟩
    obtain ⟨t, hrun, hframe, hhst⟩ := xhpRequest_admission hfio hport hup hok hr hopen
    refine ⟨fun hbad => ?_, fun h1 h16 hopenS htag => ⟨fun hcopy => ?_, fun hnew => ⟨t, hrun, hframe, ?_⟩⟩⟩
    · rw [hrun, hframe, hhst, HstSt.sessionRequest_badTag hbad]
      rfl
    all_goals
      have hknown : ¬ (¬ (1 ≤ x.session ∧ x.session ≤ 16) ∨ S.isOpen = false ∨ tagOk S.key q.bytes = false) := by simp [h1, h16, hopenS, htag]
    · rw [hrun, hframe, hhst, HstSt.sessionRequest_redundant hknown hcopy]
    · have hnew' := Bool.eq_false_iff.mp hnew
      have hphase : ¬ (s.hostView.phase = .noImage ∧ noImageServes x.opcode = false) := fun hc => by
        have := hr.symm.trans hc.1
        cases this
      have hrefused : ∀ st d, t.hst = s.hst.refuse x s.hostView.beat st d → t.hst.refusedAdm = s.hst.refusedAdm + 1 ∧
          t.hst.sessions = s.hst.sessions ∧
          ∃ r, t.hst.responses = s.hst.responses ++ [r] ∧ r.status = st ∧ r.detail = d ∧ r.reqId = x.reqId ∧ r.tagged = true :=
        fun st d he => he ▸ HstSt.refuse_counts s.hst x s.hostView.beat st d
      intro refused
      refine ⟨fun hid => hrefused _ _ (hhst.trans (HstSt.sessionRequest_replay hknown hnew' hphase hid)), fun hid => ?_⟩
      have hid' := BitVec.not_le.mpr hid
      refine ⟨fun hop => hrefused _ _ (hhst.trans (HstSt.sessionRequest_unknownOp hknown hnew' hphase hid' hop)), fun least hop hne =>
        ⟨fun hrole => hrefused _ _ (hhst.trans (HstSt.sessionRequest_role hknown hnew' hphase hid' hop hne hrole)),
          fun hrole hform => hrefused _ _ (hhst.trans (HstSt.sessionRequest_badForm hknown hnew' hphase hid' hop hne hrole hform)),
          fun hrole hform => ⟨fun hu hfull =>
            hrefused _ _ (hhst.trans (HstSt.sessionRequest_busy hknown hnew' hphase hid' hop hne hrole hform hu hfull)), fun hu hroom => ?_, fun hu => ?_⟩⟩⟩
      · rw [hhst, HstSt.sessionRequest_queued hknown hnew' hphase hid' hop hne hrole hform hu hroom]
        exact ⟨rfl, rfl, congrArg SessionSt.reqMax (HstSt.sess_setSess ..), hostCmdOf x p,
          congrArg SessionSt.queue (HstSt.sess_setSess ..), rfl, rfl⟩
      · rw [hhst, HstSt.sessionRequest_local hknown hnew' hphase hid' hop hne hrole hform hu]
        exact ⟨rfl, rfl, congrArg SessionSt.reqMax (HstSt.sess_setSess ..), (congrArg SessionSt.queue (HstSt.sess_setSess s.hst x.session _) :)⟩
  · rintro rfl hw hb hn hsnap
    exact exec_xhpResponse_waits hfio hl hw hb hn hsnap

end Sys2Proof.Machine
end

section
/-! SUPPORT. Proofs of the field bus (13_field_bus.md): O42, O43. -/

namespace Sys2Proof.Machine

open Sys2Proof

/-! Reception on a bus, a port and a link (R353, R360, R379, R380, R382, R557). -/

@[simp] theorem State.reach_fbu (s : State) (t : Nat) : (s.reach t).fbu = s.fbu := rfl
@[simp] theorem State.reach_beat (s : State) (t : Nat) : (s.reach t).beat = s.beat := rfl
@[simp] theorem State.withFbu_fbu (s : State) (r : FbuSt × List Ev) : (s.withFbu r).fbu = r.1 := by simp [State.withFbu]
@[simp] theorem State.withFbu_beat (s : State) (r : FbuSt × List Ev) : (s.withFbu r).beat = s.beat := by simp [State.withFbu]
@[simp] theorem State.measure_fbu (s : State) (src : TimeSource) (theta : Int) (atOnce : Bool) : (s.measure src theta atOnce).fbu = s.fbu := by
  simp [State.measure]
@[simp] theorem State.measure_beat (s : State) (src : TimeSource) (theta : Int) (atOnce : Bool) : (s.measure src theta atOnce).beat = s.beat := by
  simp [State.measure]

/-- `d` is `c` but for what a reference frame notes of itself (R370). -/
def ChanSt.SameButReference (c d : ChanSt) : Prop := ∃ m q, d = { c with refMissing := m, refSilent := q }

theorem ChanSt.SameButReference.refl (c : ChanSt) : c.SameButReference c := ⟨c.refMissing, c.refSilent, rfl⟩

/-- A reference frame writes its channel's watch and nothing else of the buses or the beat. -/
theorem State.takeReference_only (s : State) (ch : Nat) (fr : CanFrame) (t : Nat) :
    (s.takeReference ch fr t).beat = s.beat ∧ (s.fbu.chan ch).SameButReference ((s.takeReference ch fr t).fbu.chan ch) ∧
      (∀ j, j ≠ ch → (s.takeReference ch fr t).fbu.chan j = s.fbu.chan j) ∧ (s.takeReference ch fr t).fbu.rings = s.fbu.rings ∧
      (s.takeReference ch fr t).fbu.buffers = s.fbu.buffers := by
  unfold State.takeReference
  split
  · exact ⟨rfl, .refl _, fun _ _ => rfl, rfl, rfl⟩
  · split
    · exact ⟨rfl, .refl _, fun _ _ => rfl, rfl, rfl⟩
    · split
      · refine ⟨rfl, ?_, fun j hj => FbuSt.chan_setChan_other _ _ hj, rfl, rfl⟩
        simp only [FbuSt.chan_setChan]
        exact ⟨_, _, rfl⟩
      · split
        · rw [State.measure_beat, State.measure_fbu]
          exact ⟨rfl, .refl _, fun _ _ => rfl, rfl, rfl⟩
        · exact ⟨rfl, .refl _, fun _ _ => rfl, rfl, rfl⟩

/-- Producing into a ring leaves the channels. -/
theorem FbuSt.takeRing_channels (f : FbuSt) (rg k : Nat) (beat : Word) : (f.takeRing rg k beat).1.channels = f.channels := by
  unfold FbuSt.takeRing
  split <;> rfl

theorem FbuSt.offerRing_channels (f : FbuSt) (rg : Nat) (beat : Word) (kind : Byte) (word : Word) (sideB : Bool) (payload : List Byte) :
    (f.offerRing rg beat kind word sideB payload).1.channels = f.channels := by
  unfold FbuSt.offerRing
  split
  · rfl
  · dsimp only
    split
    · exact FbuSt.takeRing_channels _ _ _ _
    · rfl

theorem FbuSt.chan_congr {f f' : FbuSt} (h : f'.channels = f.channels) (j : Nat) : f'.chan j = f.chan j := by rw [FbuSt.chan, FbuSt.chan, h]

/-- Delivery to a ring and a buffer leaves a channel's counts of reception; a lost locked frame is counted on its channel alone. -/
theorem FbuSt.deliver_chan (f : FbuSt) (ch idx : Nat) (e : MsgEntry) (fr : CanFrame) (t : Nat) (beat : Word) (sideB : Bool) :
    (∃ n, (f.deliver ch idx e fr t beat sideB).1.chan ch = { f.chan ch with lostLocked := n }) ∧
      ∀ j, j ≠ ch → (f.deliver ch idx e fr t beat sideB).1.chan j = f.chan j := by
  unfold FbuSt.deliver
  dsimp only
  generalize hr : (if e.ring = 0 then (f, []) else
    f.offerRing (e.ring.toNat - 1) beat 1 (wordN (idx + ch * 65536)) sideB (ringFramePayload fr t) : FbuSt × List Ev) = r
  have hch : ∀ j, r.1.chan j = f.chan j := fun j => FbuSt.chan_congr (by
    rw [← hr]
    split
    · rfl
    · exact FbuSt.offerRing_channels f _ _ _ _ _ _) j
  split
  · split
    · refine ⟨⟨_, (FbuSt.chan_setChan _ _ _).trans (congrArg (fun c : ChanSt => { c with lostLocked := (r.1.chan ch).lostLocked + 1 }) (hch ch))⟩,
        fun j hj => (FbuSt.chan_setChan_other _ _ hj).trans (hch j)⟩
    · exact ⟨⟨_, hch ch⟩, fun j _ => hch j⟩
  · exact ⟨⟨_, hch ch⟩, fun j _ => hch j⟩

/-- The channel after a frame that it received (R356, R353). -/
def State.receivedChan (s : State) (ch : Nat) : ChanSt :=
  { (s.fbu.chan ch).goodFrame (Config.freeInt 356 s.freeCtr) with rxFrames := (s.fbu.chan ch).rxFrames + 1 }

/-- The device after a frame was counted, before it is delivered. -/
def State.frameCounted (s : State) (ch : Nat) : State :=
  { (if (s.fbu.chan ch).rxErr ≤ 127 then s else s.fresh.2) with fbu := s.fbu.setChan ch (s.receivedChan ch) }

theorem State.frameCounted_beat (s : State) (ch : Nat) : (s.frameCounted ch).beat = s.beat := by
  unfold State.frameCounted
  split <;> rfl

@[simp] theorem FbuSt.isAmdun_setChan (f : FbuSt) (k : Nat) (x : ChanSt) (ch : Nat) (g : ChanCfg) (fr : CanFrame) :
    (f.setChan k x).isAmdun ch g fr = f.isAmdun ch g fr := rfl
@[simp] theorem FbuSt.matchRx_setChan (f : FbuSt) (k : Nat) (x : ChanSt) (ch : Nat) (fr : CanFrame) :
    (f.setChan k x).matchRx ch fr = f.matchRx ch fr := rfl

theorem State.freshened_fbu (s : State) (c : Prop) [Decidable c] : (if c then s else s.fresh.2).fbu = s.fbu := by split <;> rfl

section
variable {s : State} {ch : Nat} {g : ChanCfg} {fr : CanFrame} (time : Nat)

/-- A remote frame, or one of no entry and no answer identifier, is counted UNMATCHED. -/
theorem State.takeFrame_unmatched (h : fr.remote = true ∨ (s.fbu.isAmdun ch g fr = false ∧ s.fbu.matchRx ch fr = none)) :
    s.takeFrame ch g fr time = { s.frameCounted ch with
      fbu := (s.fbu.setChan ch (s.receivedChan ch)).setChan ch { s.receivedChan ch with rxUnmatched := (s.fbu.chan ch).rxUnmatched + 1 } } := by
  unfold State.takeFrame
  dsimp only
  rw [State.freshened_fbu, FbuSt.chan_setChan, FbuSt.isAmdun_setChan, FbuSt.matchRx_setChan]
  by_cases hrem : fr.remote = true
  · rw [if_pos hrem]
    rfl
  · obtain ⟨h1, h2⟩ := h.resolve_left hrem
    rw [if_neg hrem, h1, if_neg Bool.false_ne_true, h2]
    rfl

/-- R557: a frame of an answer identifier enters the capture set under 0x8000 and its channel. -/
theorem State.takeFrame_amdun (hrem : fr.remote = false) (ham : s.fbu.isAmdun ch g fr = true) :
    ∃ i, s.takeFrame ch g fr time = { s.frameCounted ch with beat := { s.beat with collecting := s.beat.collecting ++ [i] } } ∧
      i.kind = 5 ∧ i.channel = BitVec.ofNat 16 (0x8000 + ch) ∧ i.ident = fr.ident &&& 0x3FFFFFFF ∧ i.shared = g.shared := by
  refine ⟨s.frameItem (0x8000 + ch) g.shared 0 fr time, ?_, rfl, rfl, rfl, rfl⟩
  unfold State.takeFrame State.frameCounted
  dsimp only
  rw [State.freshened_fbu, if_neg (by simp [hrem]), FbuSt.isAmdun_setChan, ham, if_pos rfl]
  split <;> rfl

/-- R360, R361: a frame of an RX entry is offered where the entry asks for it, and delivered. -/
theorem State.takeFrame_matched {k : Nat} {e : MsgEntry} (hrem : fr.remote = false) (ham : s.fbu.isAmdun ch g fr = false)
    (hrx : s.fbu.matchRx ch fr = some (k, e)) :
    ∃ a : State, a.fbu = s.fbu.setChan ch (s.receivedChan ch) ∧ (e.capture ≠ 1 → a.beat = s.beat) ∧
      s.takeFrame ch g fr time = a.withFbu (a.fbu.deliver ch k e fr time (lowOf a.beat.n) a.pai.sideB) := by
  unfold State.takeFrame
  dsimp only
  rw [State.freshened_fbu, if_neg (by simp [hrem]), FbuSt.isAmdun_setChan, FbuSt.matchRx_setChan, ham, if_neg Bool.false_ne_true, hrx]
  dsimp only
  refine ⟨_, ?_, fun hcap => ?_, rfl⟩
  · split <;> rfl
  · rw [if_neg hcap]
    exact s.frameCounted_beat ch

theorem State.frameCounted_chan (s : State) (ch : Nat) : (s.frameCounted ch).fbu.chan ch = s.receivedChan ch := FbuSt.chan_setChan _ _ _

/-- Whatever a frame is, it is counted on its channel and leaves the others. -/
theorem State.takeFrame_counted (s : State) (ch : Nat) (g : ChanCfg) (fr : CanFrame) :
    ((s.takeFrame ch g fr time).fbu.chan ch).rxFrames = (s.fbu.chan ch).rxFrames + 1 ∧
      ∀ j, j ≠ ch → (s.takeFrame ch g fr time).fbu.chan j = s.fbu.chan j := by
  by_cases hun : fr.remote = true ∨ (s.fbu.isAmdun ch g fr = false ∧ s.fbu.matchRx ch fr = none)
  · rw [State.takeFrame_unmatched time hun]
    refine ⟨congrArg ChanSt.rxFrames (FbuSt.chan_setChan _ _ _), fun j hj => ?_⟩
    exact (FbuSt.chan_setChan_other _ _ hj).trans (FbuSt.chan_setChan_other _ _ hj)
  · obtain ⟨hrem, hmatch⟩ := not_or.mp hun
    have hrem' := Bool.eq_false_iff.mpr hrem
    by_cases ham : s.fbu.isAmdun ch g fr = true
    · obtain ⟨i, hi, -⟩ := State.takeFrame_amdun (s := s) (ch := ch) (g := g) time hrem' ham
      rw [hi]
      exact ⟨congrArg ChanSt.rxFrames (FbuSt.chan_setChan _ _ _), fun j hj => FbuSt.chan_setChan_other _ _ hj⟩
    · have ham' := Bool.eq_false_iff.mpr ham
      obtain ⟨⟨k, e⟩, hrx⟩ := Option.ne_none_iff_exists'.mp (fun hn => hmatch ⟨ham', hn⟩)
      obtain ⟨a, hfbu, -, ha⟩ := State.takeFrame_matched (s := s) (ch := ch) (g := g) time hrem' ham' hrx
      obtain ⟨⟨n, hn⟩, hother⟩ := a.fbu.deliver_chan ch k e fr time (lowOf a.beat.n) a.pai.sideB
      rw [ha, State.withFbu_fbu]
      refine ⟨?_, fun j hj => ?_⟩
      · rw [hn, hfbu, FbuSt.chan_setChan]
        rfl
      · rw [hother j hj, hfbu, FbuSt.chan_setChan_other _ _ hj]
end

section
variable {s : State} (hfio : s.fioOn = true)
include hfio

section
variable {channel : BitVec 4} {g : ChanCfg} (hcfg : s.fbu.cfg channel.toNat = some g)
include hcfg

omit hcfg in
/-- A channel in bus-off takes nothing (R356). -/
theorem canFrameReceive_busOff (fr : CanFrame) (time : Nat) (hm : (s.fbu.chan channel.toNat).mode = .busOff) :
    ∃ t, exec (.canFrameReceive channel fr time) s = .next t ∧ t.fbu = s.fbu ∧ t.beat = s.beat := by
  refine ⟨_, congrArg Host.Outcome.next (if_pos hfio), ?_⟩
  unfold State.canFrame
  simp only [State.reach_fbu, hm]
  exact ⟨trivial, rfl⟩

/-- A frame at an active channel's rates is taken. -/
theorem exec_canFrameReceive_active (fr : CanFrame) (time : Nat) (hm : (s.fbu.chan channel.toNat).mode = .active)
    (hnom : fr.nom = (s.fbu.chan channel.toNat).nom) (hdat : fr.brs = true → fr.dat = (s.fbu.chan channel.toNat).dat) :
    exec (.canFrameReceive channel fr time) s =
      .next (((s.reach time).takeFrame channel.toNat g fr time).takeReference channel.toNat fr time) := by
  refine congrArg Host.Outcome.next ((if_pos hfio).trans ?_)
  unfold State.canFrame
  simp only [State.reach_fbu, hm, hcfg]
  exact if_pos ⟨hnom, hdat⟩

/-- R353, R360, R557: what becomes of a frame at an active channel's rates. -/
theorem canFrameReceive_active (fr : CanFrame) (time : Nat) (hm : (s.fbu.chan channel.toNat).mode = .active)
    (hnom : fr.nom = (s.fbu.chan channel.toNat).nom) (hdat : fr.brs = true → fr.dat = (s.fbu.chan channel.toNat).dat) :
    let ch := channel.toNat
    let c := s.fbu.chan ch
    ∃ t, exec (.canFrameReceive channel fr time) s = .next t ∧ (t.fbu.chan ch).rxFrames = c.rxFrames + 1 ∧
      (∀ j, j ≠ ch → t.fbu.chan j = s.fbu.chan j) ∧
      (fr.remote = true ∨ (s.fbu.isAmdun ch g fr = false ∧ s.fbu.matchRx ch fr = none) →
        (t.fbu.chan ch).rxUnmatched = c.rxUnmatched + 1 ∧ t.beat.collecting = s.beat.collecting ∧ t.fbu.rings = s.fbu.rings ∧
          t.fbu.buffers = s.fbu.buffers) ∧
      (fr.remote = false → s.fbu.isAmdun ch g fr = true →
        (t.fbu.chan ch).rxUnmatched = c.rxUnmatched ∧
        ∃ i, t.beat.collecting = s.beat.collecting ++ [i] ∧ i.kind = 5 ∧ i.channel = BitVec.ofNat 16 (0x8000 + ch) ∧
          i.ident = fr.ident &&& 0x3FFFFFFF ∧ i.shared = g.shared) ∧
      (∀ k e, fr.remote = false → s.fbu.isAmdun ch g fr = false → s.fbu.matchRx ch fr = some (k, e) → e.capture = 0 →
        t.beat.collecting = s.beat.collecting ∧ (t.fbu.chan ch).rxUnmatched = c.rxUnmatched) := by
  intro ch c
  obtain ⟨hbeat, ⟨m, q, hch⟩, hother, hrings, hbufs⟩ := ((s.reach time).takeFrame ch g fr time).takeReference_only ch fr time
  obtain ⟨hcount, hothers⟩ := State.takeFrame_counted time (s.reach time) ch g fr
  refine ⟨_, exec_canFrameReceive_active hfio hcfg fr time hm hnom hdat, ?_, fun j hj => (hother j hj).trans (hothers j hj), fun hun => ?_,
    fun hrem ham => ?_, fun k e hrem ham hrx hcap => ?_⟩
  all_goals rw [hch]
  · exact hcount
  · rw [hbeat, hrings, hbufs, State.takeFrame_unmatched (s := s.reach time) time hun]
    exact ⟨congrArg ChanSt.rxUnmatched (FbuSt.chan_setChan _ _ _), congrArg BeatSt.collecting ((s.reach time).frameCounted_beat ch), rfl, rfl⟩
  · obtain ⟨i, hi, hfields⟩ := State.takeFrame_amdun (s := s.reach time) time hrem ham
    rw [hbeat, hi]
    exact ⟨(congrArg ChanSt.rxUnmatched ((s.reach time).frameCounted_chan ch) :), i, rfl, hfields⟩
  · obtain ⟨a, hfbu, hb, ha⟩ := State.takeFrame_matched (s := s.reach time) time hrem ham hrx
    obtain ⟨⟨n, hn⟩, -⟩ := a.fbu.deliver_chan ch k e fr time (lowOf a.beat.n) a.pai.sideB
    rw [hbeat, ha, State.withFbu_fbu, State.withFbu_beat, hn, hfbu, hb (by simp [hcap])]
    exact ⟨rfl, (congrArg ChanSt.rxUnmatched ((s.reach time).frameCounted_chan ch) :)⟩
end

/-- R379, R380: a broken sentence is counted BAD alone, one of no entry UNMATCHED. -/
theorem sentenceComplete_counts (port : BitVec 4) (text : List Byte) (time : Nat) :
    let v := Tab.get SerSt.zero s.fbu.serial port.toNat
    port.toNat < 12 → v.rate ≠ 0 →
      ∃ t, exec (.sentenceComplete port text time) s = .next t ∧
        (sentenceOk text = false → t.beat = s.beat ∧ Tab.get SerSt.zero t.fbu.serial port.toNat = { v with bad := v.bad + 1 }) ∧
        (sentenceOk text = true → s.img.phase = .running → s.fbu.matchSentence port.toNat text = none →
          t.beat = s.beat ∧
          Tab.get SerSt.zero t.fbu.serial port.toNat = { v with sentences := v.sentences + 1, unmatched := v.unmatched + 1 }) := by
  intro v hp hr
  refine ⟨_, congrArg Host.Outcome.next (if_pos (by simp [hfio, hp]; exact hr)), fun hbad => ?_, fun hok hrun hno => ?_⟩
  · simp only [hbad, Bool.not_false, if_true]
    exact ⟨rfl, Tab.get_set_same ..⟩
  · simp only [hok, Bool.not_true, Bool.false_eq_true, if_false, hrun, ne_eq, not_true_eq_false, hno]
    exact ⟨rfl, Tab.get_set_same ..⟩

/-- R379: a rate detected on an AUTO port is its rate. -/
theorem serialRateDetect_rate (port : BitVec 4) (rate : BitVec 3) :
    let v := Tab.get SerSt.zero s.fbu.serial port.toNat
    port.toNat < 12 → v.auto = true → rate.toNat ≤ 4 →
      ∃ t, exec (.serialRateDetect port rate) s = .next t ∧ Tab.get SerSt.zero t.fbu.serial port.toNat = { v with rate := rate } ∧
        t.beat = s.beat := by
  intro v hp hauto hrate
  refine ⟨_, congrArg Host.Outcome.next (if_pos (by simp [hfio, hp, hrate]; exact hauto)), ?_⟩
  rw [State.withFbu_fbu, State.withFbu_beat]
  exact ⟨Tab.get_set_same .., rfl⟩

/-- R382: a datagram to no entry's group and port is counted ignored. -/
theorem ethSensorDatagram_ignored (port : Bool) (group : Word) (udp : Half) (lines : List (List Byte)) (time : Nat)
    (hrun : s.img.phase = .running) (hup : (Tab.get PortSt.zero s.hst.ports (if port then 3 else 2)).up = true)
    (hno : ∀ x, s.fbu.table = some x →
      ∀ e ∈ x.sentences, ¬ (e.port.toNat = (if port then 0x11 else 0x10) ∧ e.group = group ∧ e.udpPort = udp)) :
    ∃ t, exec (.ethSensorDatagram port group udp lines time) s = .next t ∧ t.fbu = { s.fbu with ethIgnored := s.fbu.ethIgnored + 1 } ∧
      t.beat = s.beat := by
  refine ⟨_, congrArg Host.Outcome.next (if_pos (by simp [hfio, hrun, hup])), ?_⟩
  cases htab : s.fbu.table with
  | none =>
    simp only [State.reach_fbu, htab, Bool.not_false, Bool.true_or, if_true]
    exact ⟨trivial, rfl⟩
  | some x =>
    have hany : (x.sentences.any (fun e => decide (e.port.toNat = (if port then 0x11 else 0x10)) && decide (e.group = group) &&
        decide (e.udpPort = udp))) = false := by
      rw [List.any_eq_false]
      intro e he hc
      simp only [Bool.and_eq_true, decide_eq_true_eq, and_assoc] at hc
      exact hno x htab e he hc
    simp only [State.reach_fbu, htab, hany, Bool.not_false, Bool.true_or, if_true]
    exact ⟨trivial, rfl⟩
end

/-- Settles O42: frames by what they match, then sentences, rates and datagrams. -/
theorem busReception : Obligations.BusReception := by
  unfold Obligations.BusReception
  refine ⟨?_, ?_, ?_, ?_⟩
  · intro s channel fr time g ch c hfio hcfg
    exact ⟨canFrameReceive_busOff hfio fr time, canFrameReceive_active hfio hcfg fr time⟩
  · intro s port text time v hfio
    exact sentenceComplete_counts hfio port text time
  · intro s port rate v hfio
    exact serialRateDetect_rate hfio port rate
  · intro s port group udp lines time hfio hrun hup hno
    exact ethSensorDatagram_ignored hfio port group udp lines time hrun hup hno

/-! Windows, ends of frames and errors on a bus (R356, R363 to R366). -/

/-! The frames' ledger (R366). -/

theorem TxLedger.settle_sent (l : TxLedger) (r : AbortReason) : (l.settle (some r)).sent = l.sent := by cases r <;> rfl

/-- Settling frames alike writes the ledger alone. -/
theorem ChanSt.settleAll_eq (c : ChanSt) (l : List TxFrame) (why : Option AbortReason) :
    c.settleAll l why = { c with ledger := l.foldl (fun a _ => a.settle why) c.ledger } := by
  induction l generalizing c with
  | nil => rfl
  | cons x l ih => exact ih (c.settle why)

theorem TxLedger.settleAll_sent (r : AbortReason) (l : List TxFrame) (led : TxLedger) :
    (l.foldl (fun a _ => a.settle (some r)) led).sent = led.sent := by
  induction l generalizing led with
  | nil => rfl
  | cons x l ih => exact (ih _).trans (led.settle_sent r)

/-- Frames gated are each counted requested too. -/
theorem TxLedger.settleAll_gated (l : List TxFrame) (led : TxLedger) :
    l.foldl (fun a _ => a.settle (some .gated)) led =
      { led with requested := led.requested + BitVec.ofNat 48 l.length, gated := led.gated + BitVec.ofNat 48 l.length } := by
  induction l generalizing led with
  | nil => simp
  | cons x l ih =>
    rw [List.foldl_cons, ih]
    simp only [TxLedger.settle, List.length_cons, Nat.add_comm l.length 1, BitVec.ofNat_add, BitVec.add_assoc]
    rfl

/-! The next frame of a window (Table 13.2). -/

/-- The lower identifier of a frame found so far and another, the earlier of equal ones. -/
def lowerIdent (b : Option TxFrame) (x : TxFrame) : Option TxFrame :=
  match b with
  | none => some x
  | some y => if (x.frame.ident &&& 0x1FFFFFFF).toNat < (y.frame.ident &&& 0x1FFFFFFF).toNat then some x else some y

theorem nextFrame_eq (l : List TxFrame) (w : Nat) : nextFrame l w = (l.filter (fun x => decide (x.window = w))).foldl lowerIdent none := by
  unfold nextFrame lowerIdent
  congr 1

theorem foldl_lowerIdent (l : List TxFrame) (y : TxFrame) :
    ∃ z, l.foldl lowerIdent (some y) = some z ∧ z ∈ y :: l ∧
      ∀ x ∈ y :: l, (z.frame.ident &&& 0x1FFFFFFF).toNat ≤ (x.frame.ident &&& 0x1FFFFFFF).toNat := by
  induction l generalizing y with
  | nil => exact ⟨y, rfl, by simp, by simp⟩
  | cons x l ih =>
    rw [List.foldl_cons]
    by_cases hlt : (x.frame.ident &&& 0x1FFFFFFF).toNat < (y.frame.ident &&& 0x1FFFFFFF).toNat
    · obtain ⟨z, hz, hmem, hle⟩ := ih x
      refine ⟨z, by rw [lowerIdent, if_pos hlt, hz], List.mem_cons_of_mem y hmem, fun u hu => ?_⟩
      rcases List.mem_cons.mp hu with rfl | hu
      · exact (hle x List.mem_cons_self).trans hlt.le
      · exact hle u hu
    · obtain ⟨z, hz, hmem, hle⟩ := ih y
      refine ⟨z, by rw [lowerIdent, if_neg hlt, hz], ?_, fun u hu => ?_⟩
      · rcases List.mem_cons.mp hmem with rfl | hmem
        · exact List.mem_cons_self
        · exact List.mem_cons_of_mem _ (List.mem_cons_of_mem _ hmem)
      · rcases List.mem_cons.mp hu with rfl | hu
        · exact hle _ List.mem_cons_self
        · rcases List.mem_cons.mp hu with rfl | hu
          · exact (hle y List.mem_cons_self).trans (Nat.not_lt.mp hlt)
          · exact hle u (List.mem_cons_of_mem _ hu)

/-- The frame that starts in a window is one of its frames, and none of them has a lower identifier. -/
theorem nextFrame_lowest {l : List TxFrame} {w : Nat} {x : TxFrame} (hx : x ∈ l.filter (fun x => decide (x.window = w))) :
    ∃ z, nextFrame l w = some z ∧ z.window = w ∧
      ∀ u ∈ l.filter (fun x => decide (x.window = w)), (z.frame.ident &&& 0x1FFFFFFF).toNat ≤ (u.frame.ident &&& 0x1FFFFFFF).toNat := by
  rw [nextFrame_eq]
  generalize hm : l.filter (fun x => decide (x.window = w)) = m at hx
  have hwin : ∀ u ∈ m, u.window = w := by
    subst hm
    simp
  cases m with
  | nil => cases hx
  | cons y m =>
    obtain ⟨z, hz, hmem, hle⟩ := foldl_lowerIdent m y
    exact ⟨z, hz, hwin z hmem, hle⟩

theorem nextFrame_none {l : List TxFrame} {w : Nat} (h : l.filter (fun x => decide (x.window = w)) = []) : nextFrame l w = none := by
  rw [nextFrame_eq, h]
  rfl

/-! A window opens (R363 to R366, R368). -/

/-- `d` is `c` but for the frames of a window: none was sent, and with none waiting none is in progress. -/
def ChanSt.SameButWindow (c d : ChanSt) : Prop :=
  ∃ l p cur o r, d = { c with ledger := l, pending := p, current := cur, openWindow := o, refLate := r } ∧ l.sent = c.ledger.sent ∧
    (c.pending = [] → c.current = none → p = [] ∧ cur = none)

theorem ChanSt.SameButWindow.refl (c : ChanSt) : c.SameButWindow c :=
  ⟨c.ledger, c.pending, c.current, c.openWindow, c.refLate, rfl, rfl, fun hp hc => ⟨hp, hc⟩⟩

theorem ChanSt.SameButWindow.setOpen (c : ChanSt) (o : Option Nat) : c.SameButWindow { c with openWindow := o } :=
  ⟨c.ledger, c.pending, c.current, o, c.refLate, rfl, rfl, fun hp hc => ⟨hp, hc⟩⟩

/-- Aborting what waits in a window. -/
theorem ChanSt.SameButWindow.settle (c : ChanSt) (l : List TxFrame) (r : AbortReason) (q : TxFrame → Bool) (o : Option Nat) :
    c.SameButWindow { (c.settleAll l (some r)) with pending := c.pending.filter q, openWindow := o } := by
  rw [ChanSt.settleAll_eq]
  exact ⟨_, _, _, _, _, rfl, TxLedger.settleAll_sent r l _, fun hp hc => ⟨by rw [hp]; rfl, hc⟩⟩

theorem ChanSt.SameButWindow.lateRef {c d : ChanSt} (h : c.SameButWindow d) (n : Word) : c.SameButWindow { d with refLate := n } := by
  obtain ⟨l, p, cur, o, r, rfl, hs, hn⟩ := h
  exact ⟨l, p, cur, o, n, rfl, hs, hn⟩

/-- A window that opens writes the frames of its channel and nothing else. -/
theorem ChanSt.start_window (c : ChanSt) (w : Nat) (gate : Bool) (t : Nat) : c.SameButWindow (c.start w gate t) := by
  unfold ChanSt.start
  extract_lets mine rest _ _ _ bad aborted c1 _
  split
  · exact .settle c mine .listen _ _
  · exact .settle c mine .busOff _ _
  · exact .refl c
  · split
    · exact .settle c mine .gated _ _
    · have h1 : c.SameButWindow c1 := by
        simp only [c1, aborted, ChanSt.settleAll_eq]
        refine ⟨_, _, _, _, _, rfl, TxLedger.settleAll_sent _ bad _, fun hp hc => ⟨?_, hc⟩⟩
        split <;> simp [hp]
      split
      · exact h1
      · next hcur =>
        obtain ⟨l, p, cur, o, r, he, hs, hn⟩ := h1
        split
        · exact ⟨l, p, cur, o, r, he, hs, hn⟩
        · next x hx =>
          rw [he] at hx ⊢
          refine ⟨_, _, _, _, _, rfl, hs, fun hp hc => ?_⟩
          obtain ⟨rfl, -⟩ := hn hp hc
          cases hx

section
variable {c : ChanSt} {w t : Nat} (hm : c.mode = .active)
include hm

/-- With the gate closed every frame of the window is aborted. -/
theorem ChanSt.start_gated : c.start w false t =
    { (c.settleAll (c.pending.filter (fun x => decide (x.window = w))) (some .gated)) with
      pending := c.pending.filter (fun x => decide (x.window ≠ w)), openWindow := some w } := by
  simp [ChanSt.start, hm]

theorem ChanSt.start_open : (c.start w true t).openWindow = some w := by
  simp only [ChanSt.start, hm, Bool.not_true, Bool.false_eq_true, if_false]
  split
  · rfl
  · split <;> rfl

section
variable (hp : c.passive = false)
include hp

/-- A frame in progress stays. -/
theorem ChanSt.start_busy {x : TxFrame} (hc : c.current = some x) : c.start w true t = { c with openWindow := some w } := by
  simp [ChanSt.start, hm, hp, hc, ChanSt.settleAll]

theorem ChanSt.start_none (hc : c.current = none) (hn : nextFrame c.pending w = none) : c.start w true t = { c with openWindow := some w } := by
  simp [ChanSt.start, hm, hp, hc, hn, ChanSt.settleAll]

/-- The next frame starts; a reference frame takes its bus time. -/
theorem ChanSt.start_next {x : TxFrame} (hc : c.current = none) (hn : nextFrame c.pending w = some x) :
    ∃ fr, fr.ident = x.frame.ident ∧ c.start w true t =
      { c with current := some { x with frame := fr }, pending := dropFrame x c.pending, openWindow := some w } := by
  refine ⟨_, ?_, by simp only [ChanSt.start, hm, hp, hc, hn, ChanSt.settleAll, Bool.not_true, Bool.false_eq_true, if_false, List.foldl_nil]; rfl⟩
  split <;> rfl
end
end

section
variable {f : FbuSt} {ch : Nat} {g : ChanCfg} {w : Nat} {gate : Bool} {t edge : Nat} (hrole : g.role ≠ 0)
include hrole

/-- A window of a channel with a table opens; a reference frame that starts late is counted. -/
theorem FbuSt.openWindowAt_start (h0 : f.kindOf ch g w ≠ 0) (h4 : f.kindOf ch g w ≠ 4) :
    ∃ n, f.openWindowAt ch g w gate t edge = f.setChan ch { ((f.chan ch).start w gate t) with refLate := n } := by
  unfold FbuSt.openWindowAt
  simp only [if_neg hrole, if_neg (not_or.mpr ⟨h0, h4⟩)]
  generalize (f.chan ch).start w gate t = d
  split
  · split
    · exact ⟨_, rfl⟩
    · exact ⟨d.refLate, rfl⟩
  · exact ⟨d.refLate, rfl⟩

theorem State.nextInWindow_none {s : State} (ho : (s.fbu.chan ch).openWindow = none) : s.nextInWindow ch g = s := by
  unfold State.nextInWindow
  rw [ho]

theorem State.nextInWindow_other {s : State} (ho : (s.fbu.chan ch).openWindow = some w) (hk : s.fbu.kindOf ch g w ≠ 3) :
    s.nextInWindow ch g = s := by
  unfold State.nextInWindow
  rw [ho]
  exact if_neg hk

/-- The next frame of an open ARBITRATING window starts. -/
theorem State.nextInWindow_arbitrating {s : State} (ho : (s.fbu.chan ch).openWindow = some w) (hk : s.fbu.kindOf ch g w = 3) :
    ∃ n, s.nextInWindow ch g = { s with
      fbu := s.fbu.setChan ch { ((s.fbu.chan ch).start w (s.pai.gate s.tim.now) s.tim.now) with refLate := n } } := by
  obtain ⟨n, hn⟩ := FbuSt.openWindowAt_start (f := s.fbu) (ch := ch) (w := w) (gate := s.pai.gate s.tim.now) (t := s.tim.now)
    (edge := s.tim.now) hrole (by omega) (by omega)
  refine ⟨n, ?_⟩
  unfold State.nextInWindow
  rw [ho]
  simp only [if_pos hk, hn]

/-- The bus that is idle again changes the frames of its open window alone. -/
theorem State.nextInWindow_window (s : State) :
    (s.fbu.chan ch).SameButWindow ((s.nextInWindow ch g).fbu.chan ch) ∧ (s.nextInWindow ch g).fbu.flags = s.fbu.flags := by
  cases ho : (s.fbu.chan ch).openWindow with
  | none =>
    rw [State.nextInWindow_none hrole ho]
    exact ⟨.refl _, rfl⟩
  | some w =>
    by_cases hk : s.fbu.kindOf ch g w = 3
    · obtain ⟨n, hn⟩ := State.nextInWindow_arbitrating hrole ho hk
      rw [hn, FbuSt.chan_setChan]
      exact ⟨((s.fbu.chan ch).start_window _ _ _).lateRef n, rfl⟩
    · rw [State.nextInWindow_other hrole ho hk]
      exact ⟨.refl _, rfl⟩
end

/-! The ends of frames (R364, R366). -/

theorem ChanSt.abortCurrent_some {c : ChanSt} {x : TxFrame} (h : c.current = some x) (why : AbortReason) :
    c.abortCurrent why = { c with ledger := c.ledger.settle (some why), current := none } := by
  rw [ChanSt.abortCurrent, h]
  rfl

theorem ChanSt.abortWindow_some {c : ChanSt} {x : TxFrame} (h : c.current = some x) :
    c.abortWindow = { c with ledger := c.ledger.settle (some .window), current := none } := by
  simp only [ChanSt.abortWindow, h]
  exact c.abortCurrent_some h .window

theorem ChanSt.sent_some {c : ChanSt} {x : TxFrame} (h : c.current = some x) :
    c.sent.ledger = c.ledger.settle none ∧ c.sent.current = none ∧ c.sent.openWindow = c.openWindow := by
  rw [ChanSt.sent, h]
  exact ⟨rfl, rfl, rfl⟩

theorem ChanSt.arbLost_singleShot {c : ChanSt} {x : TxFrame} {kind : Nat} (h : c.current = some x) (hk : singleShot kind = true) (arbMax : Nat) :
    c.arbLost kind arbMax = { c with ledger := c.ledger.settle (some .arbLimit), current := none } := by
  simp only [ChanSt.arbLost, h, if_pos (Or.inl hk : singleShot kind = true ∨ x.arb + 1 > arbMax), ChanSt.abortCurrent_some h]

theorem ChanSt.arbLost_again {c : ChanSt} {x : TxFrame} {kind arbMax : Nat} (h : c.current = some x) (hk : singleShot kind = false)
    (hle : x.arb + 1 ≤ arbMax) : c.arbLost kind arbMax = { c with current := some { x with arb := x.arb + 1 } } := by
  simp only [ChanSt.arbLost, h, hk, Bool.false_eq_true, false_or, if_neg (Nat.not_lt.mpr hle)]

/-! Errors on the bus (R356). -/

/-- `d` is `c` with the counts of an error on it. -/
structure ChanSt.Counted (c d : ChanSt) (tec rxc : Nat) : Prop where
  txErr : d.txErr = tec
  rxErr : d.rxErr = rxc
  passive : d.passive = (decide (128 ≤ tec) || decide (128 ≤ rxc))
  rxErrors : d.rxErrors = c.rxErrors + 1

/-- The window's work leaves the counts. -/
theorem ChanSt.Counted.window {c d e : ChanSt} {tec rxc : Nat} (h : c.Counted d tec rxc) (hw : d.SameButWindow e) : c.Counted e tec rxc := by
  obtain ⟨l, p, cur, o, r, rfl, -, -⟩ := hw
  exact ⟨h.txErr, h.rxErr, h.passive, h.rxErrors⟩

/-- The channel with an error counted on it, before any abort. -/
def ChanSt.erred (c : ChanSt) (tec rxc : Nat) : ChanSt :=
  { c with txErr := tec, rxErr := rxc, passive := decide (128 ≤ tec) || decide (128 ≤ rxc), rxErrors := c.rxErrors + 1 }

/-- What an error aborts: the frame in progress at most. -/
def ChanSt.errorAborts (c : ChanSt) (kind : Nat) (passive : Bool) (tec : Nat) : ChanSt :=
  match c.current with
  | some x =>
    if singleShot kind then c.abortCurrent .window
    else if passive && !x.kind.passesPassive && decide (tec < 256) then c.abortCurrent .errorPassive
    else c
  | none => c

theorem ChanSt.errorAborts_eq (c : ChanSt) (kind : Nat) (passive : Bool) (tec : Nat) :
    ∃ l cur, c.errorAborts kind passive tec = { c with ledger := l, current := cur } := by
  unfold ChanSt.errorAborts
  split
  · next x hc =>
    split
    · exact ⟨_, _, c.abortCurrent_some hc .window⟩
    · split
      · exact ⟨_, _, c.abortCurrent_some hc .errorPassive⟩
      · exact ⟨c.ledger, c.current, rfl⟩
  · exact ⟨c.ledger, c.current, rfl⟩

/-- The channel after an error's aborts. -/
def ChanSt.afterError (c : ChanSt) (tec rxc kind : Nat) : ChanSt :=
  (c.erred tec rxc).errorAborts kind (decide (128 ≤ tec) || decide (128 ≤ rxc)) tec

theorem ChanSt.afterError_eq (c : ChanSt) (tec rxc kind : Nat) :
    ∃ l cur, c.afterError tec rxc kind = { c.erred tec rxc with ledger := l, current := cur } :=
  ChanSt.errorAborts_eq _ kind _ tec

section
variable {c : ChanSt} (ch : Nat) {tec : Nat} (rxc kind : Nat) (auto : Bool) (hm : c.mode = .active)
include hm

/-- Below 256 an active channel stays active. -/
theorem ChanSt.busError_active (ht : tec < 256) :
    c.Counted (c.busError ch tec rxc kind auto).1 tec rxc ∧ (c.busError ch tec rxc kind auto).1.mode = .active := by
  obtain ⟨l, cur, he⟩ := c.afterError_eq tec rxc kind
  have h1 : (c.busError ch tec rxc kind auto).1 = c.afterError tec rxc kind :=
    congrArg Prod.fst (if_neg (fun h => absurd h.1 (Nat.not_le.mpr ht)))
  rw [h1, he]
  exact ⟨⟨rfl, rfl, rfl, rfl⟩, hm⟩

/-- At 256 an active channel goes to bus-off with no frame left, and recovers at once up to three times in a round. -/
theorem ChanSt.busError_busOff (ht : 256 ≤ tec) :
    let r := c.busError ch tec rxc kind auto
    c.Counted r.1 tec rxc ∧ r.1.mode = .busOff ∧ r.1.staged = [] ∧ r.1.pending = [] ∧ r.1.current = none ∧ r.1.busOffs = c.busOffs + 1 ∧
      r.2.2.getLsbD 1 = true ∧ (r.1.recovering = some false ↔ auto = true ∧ c.recoveries < 3) := by
  obtain ⟨l, cur, he⟩ := c.afterError_eq tec rxc kind
  have hmode : (c.afterError tec rxc kind).mode = .active := by
    rw [he]
    exact hm
  have hbusy : ∃ ev p, c.busError ch tec rxc kind auto =
      (let d := (c.afterError tec rxc kind).enterBusOff
       let again := auto && decide (d.recoveries < 3)
       ({ d with recovering := if again then some false else none, recoveries := if again then d.recoveries + 1 else d.recoveries },
        ev, (if p = true then 4 else 0) ||| 2)) := ⟨_, _, if_pos ⟨ht, hmode⟩⟩
  obtain ⟨ev, p, hr⟩ := hbusy
  intro r
  have hflag : ((if p = true then 4 else 0) ||| 2 : BitVec 8).getLsbD 1 = true := by cases p <;> decide
  simp only [r, hr, he, ChanSt.enterBusOff, ChanSt.settleAll_eq, hflag, true_and]
  refine ⟨⟨rfl, rfl, rfl, rfl⟩, rfl, ?_⟩
  simp [ChanSt.erred]
  exact fun _ => decide_eq_true_iff
end

/-! The commands. -/

/-- The device with one channel of its buses rewritten. -/
def State.withChan (s : State) (ch : Nat) (d : ChanSt) : State := { s with fbu := s.fbu.setChan ch d }

@[simp] theorem State.withChan_chan (s : State) (ch : Nat) (d : ChanSt) : (s.withChan ch d).fbu.chan ch = d := FbuSt.chan_setChan _ _ _
@[simp] theorem State.withChan_kindOf (s : State) (ch : Nat) (d : ChanSt) (g : ChanCfg) (w : Nat) :
    (s.withChan ch d).fbu.kindOf ch g w = s.fbu.kindOf ch g w := rfl

/-- The kind of the window that is open on a channel, 0 when none is. -/
def FbuSt.openKind (f : FbuSt) (ch : Nat) (g : ChanCfg) : Nat :=
  match (f.chan ch).openWindow with
  | some w => f.kindOf ch g w
  | none => 0

/-- The device after an error on a channel: what the channel became, its flags and its events. -/
def State.erredOn (s : State) (ch : Nat) (r : ChanSt × List Ev × BitVec 8) : State :=
  ({ s.withChan ch r.1 with fbu := { (s.withChan ch r.1).fbu with flags := (s.withChan ch r.1).fbu.flags ||| r.2.2 } } : State).raise r.2.1

theorem State.erredOn_chan (s : State) (ch : Nat) (r : ChanSt × List Ev × BitVec 8) : (s.erredOn ch r).fbu.chan ch = r.1 := by
  rw [State.erredOn, State.raise_fbu]
  exact s.withChan_chan ch r.1

theorem State.erredOn_flag (s : State) (ch : Nat) (r : ChanSt × List Ev × BitVec 8) {k : Nat} (h : r.2.2.getLsbD k = true) :
    (s.erredOn ch r).fbu.flags.getLsbD k = true := by
  rw [State.erredOn, State.raise_fbu]
  exact getLsbD_or_of_right _ h

section
variable {s : State} {channel : BitVec 4} {g : ChanCfg} (hfio : s.fioOn = true) (hcfg : s.fbu.cfg channel.toNat = some g)
include hfio hcfg

/-- A command on an enabled channel is done under its configuration. -/
theorem next_busChan (f : ChanCfg → State) :
    Host.Outcome.next (s.busChan channel.toNat f) = (.next (f g) : Host.Outcome State Fault Refusal) := by
  unfold State.busChan
  rw [if_pos hfio, hcfg]

/-- Recovery ends with both counts 0 (R356). -/
theorem busOffRecovered_active {b : Bool} (hm : (s.fbu.chan channel.toNat).mode = .busOff) (hr : (s.fbu.chan channel.toNat).recovering = some b) :
    ∃ t, exec (.busOffRecovered channel) s = .next t ∧ (t.fbu.chan channel.toNat).mode = .active ∧ (t.fbu.chan channel.toNat).txErr = 0 ∧
      (t.fbu.chan channel.toNat).rxErr = 0 ∧ (t.fbu.chan channel.toNat).ledger = (s.fbu.chan channel.toNat).ledger := by
  refine ⟨_, next_busChan hfio hcfg _, ?_⟩
  simp only [State.withFbu, State.raise_fbu, FbuSt.chan_setChan, ChanSt.recovered, hr, hm, if_true, and_self]

section
variable (hrole : g.role ≠ 0)
include hrole

/-- R364, R365: the frames of a window that opens with the gate closed are gated; with it open the lowest identifier starts. -/
theorem transmitWindowOpen_window (w : BitVec 5) (time : Nat) (hm : (s.fbu.chan channel.toNat).mode = .active)
    (h1 : 1 ≤ s.fbu.kindOf channel.toNat g w.toNat) (h3 : s.fbu.kindOf channel.toNat g w.toNat ≤ 3) :
    let ch := channel.toNat
    let c := s.fbu.chan ch
    let mine := c.pending.filter (fun x => decide (x.window = w.toNat))
    ∃ t, exec (.transmitWindowOpen channel w time) s = .next t ∧ (t.fbu.chan ch).openWindow = some w.toNat ∧
      (s.pai.gate time = false →
        (t.fbu.chan ch).pending = c.pending.filter (fun x => decide (x.window ≠ w.toNat)) ∧
        (t.fbu.chan ch).ledger = { c.ledger with requested := c.ledger.requested + BitVec.ofNat 48 mine.length, gated := c.ledger.gated + BitVec.ofNat 48 mine.length }) ∧
      (s.pai.gate time = true → c.passive = false → c.current = none →
        (mine = [] → (t.fbu.chan ch).current = none) ∧
        (∀ x ∈ mine, ∃ y, (t.fbu.chan ch).current = some y ∧ y.window = w.toNat ∧
          (y.frame.ident &&& 0x1FFFFFFF).toNat ≤ (x.frame.ident &&& 0x1FFFFFFF).toNat ∧ (t.fbu.chan ch).ledger = c.ledger)) := by
  intro ch c mine
  obtain ⟨n, hn⟩ := FbuSt.openWindowAt_start (f := s.fbu) (ch := ch) (w := w.toNat) (gate := s.pai.gate time) (t := time)
    (edge := s.beat.n.toNat * 1000000) hrole (Nat.ne_of_gt h1) (ne_of_lt (Nat.lt_succ_of_le h3))
  have hrun : exec (.transmitWindowOpen channel w time) s =
      .next { s.reach time with fbu := s.fbu.setChan ch { (c.start w.toNat (s.pai.gate time) time) with refLate := n } } :=
    (next_busChan hfio hcfg _).trans (congrArg (fun f => Host.Outcome.next { s.reach time with fbu := f }) hn)
  refine ⟨_, hrun, ?_⟩
  rw [FbuSt.chan_setChan]
  cases hg : s.pai.gate time with
  | false =>
    rw [ChanSt.start_gated hm, ChanSt.settleAll_eq, TxLedger.settleAll_gated]
    exact ⟨rfl, fun _ => ⟨rfl, rfl⟩, fun h => absurd h Bool.false_ne_true⟩
  | true =>
    refine ⟨ChanSt.start_open hm, fun h => absurd h.symm Bool.false_ne_true, fun _ hp hc => ⟨fun hnone => ?_, fun x hx => ?_⟩⟩
    · rw [ChanSt.start_none hm hp hc (nextFrame_none hnone)]
      exact hc
    · obtain ⟨z, hz, hw, hle⟩ := nextFrame_lowest hx
      obtain ⟨fr, hid, hst⟩ := ChanSt.start_next (t := time) hm hp hc hz
      rw [hst]
      exact ⟨_, rfl, hw, (congrArg (fun i => (i &&& 0x1FFFFFFF).toNat) hid).trans_le (hle x hx), rfl⟩

/-- R366: a frame sent is counted SENT. -/
theorem frameSent_counts {x : TxFrame} (hc : (s.fbu.chan channel.toNat).current = some x) :
    let ch := channel.toNat
    let c := s.fbu.chan ch
    ∃ t, exec (.frameSent channel) s = .next t ∧ (t.fbu.chan ch).ledger.sent = c.ledger.sent + 1 ∧
      (c.openWindow = none → (t.fbu.chan ch).current = none ∧
        (t.fbu.chan ch).ledger = { c.ledger with requested := c.ledger.requested + 1, sent := c.ledger.sent + 1 }) := by
  intro ch c
  obtain ⟨hled, hcur, hopen⟩ := ChanSt.sent_some hc
  refine ⟨(s.withChan ch c.sent).nextInWindow ch g, next_busChan hfio hcfg _, ?_, fun ho => ?_⟩
  · obtain ⟨⟨l, p, cur, o, r, he, hs, -⟩, -⟩ := State.nextInWindow_window (g := g) (ch := ch) hrole (s.withChan ch c.sent)
    rw [he]
    exact hs.trans (congrArg TxLedger.sent ((congrArg ChanSt.ledger (s.withChan_chan ch _)).trans hled))
  · rw [State.nextInWindow_none hrole (by rw [State.withChan_chan, hopen]; exact ho), State.withChan_chan, hled]
    exact ⟨hcur, rfl⟩

/-- R364: a frame that loses arbitration is aborted in a single-shot window and tries again in an ARBITRATING one. -/
theorem arbitrationLost_window {x : TxFrame} (hc : (s.fbu.chan channel.toNat).current = some x) {w : Nat}
    (ho : (s.fbu.chan channel.toNat).openWindow = some w) :
    let ch := channel.toNat
    let c := s.fbu.chan ch
    (singleShot (s.fbu.kindOf ch g w) = true →
      ∃ t, exec (.arbitrationLost channel) s = .next t ∧ (t.fbu.chan ch).current = none ∧
        (t.fbu.chan ch).ledger = { c.ledger with requested := c.ledger.requested + 1, arbLimit := c.ledger.arbLimit + 1 }) ∧
    (s.fbu.kindOf ch g w = 3 → c.mode = .active → s.pai.gate s.tim.now = true → c.passive = false → x.arb + 1 ≤ g.arbMax.toNat →
      ∃ t, exec (.arbitrationLost channel) s = .next t ∧ (t.fbu.chan ch).current = some { x with arb := x.arb + 1 } ∧
        (t.fbu.chan ch).ledger = c.ledger) := by
  intro ch c
  have hrun : exec (.arbitrationLost channel) s =
      .next ((s.withChan ch (c.arbLost (s.fbu.kindOf ch g w) g.arbMax.toNat)).nextInWindow ch g) := by
    refine (next_busChan hfio hcfg _).trans ?_
    simp only [ho]
    rfl
  refine ⟨fun hk => ⟨_, hrun, ?_⟩, fun hk hm hg hp hle => ⟨_, hrun, ?_⟩⟩
  · have hk3 : s.fbu.kindOf ch g w ≠ 3 := fun h3 => by
      rw [h3] at hk
      exact absurd hk (by decide)
    rw [ChanSt.arbLost_singleShot hc hk, State.nextInWindow_other (s := s.withChan ch _) (w := w) hrole (by rw [State.withChan_chan]; exact ho) hk3, State.withChan_chan]
    exact ⟨rfl, rfl⟩
  · rw [ChanSt.arbLost_again hc (by rw [hk]; decide) hle]
    obtain ⟨n, hn⟩ := State.nextInWindow_arbitrating (s := s.withChan ch { c with current := some { x with arb := x.arb + 1 } }) (ch := ch)
      (g := g) (w := w) hrole (by rw [State.withChan_chan]; exact ho) hk
    rw [hn, FbuSt.chan_setChan, State.withChan_chan]
    show (ChanSt.start _ w (s.pai.gate s.tim.now) s.tim.now).current = _ ∧ (ChanSt.start _ w (s.pai.gate s.tim.now) s.tim.now).ledger = _
    rw [hg, ChanSt.start_busy (c := { c with current := some { x with arb := x.arb + 1 } }) hm hp rfl]
    exact ⟨rfl, rfl⟩

/-- R364: a frame that cannot complete counts WINDOW. -/
theorem windowAbort_counts {x : TxFrame} (hc : (s.fbu.chan channel.toNat).current = some x)
    (ho : (s.fbu.chan channel.toNat).openWindow = none) :
    let ch := channel.toNat
    let c := s.fbu.chan ch
    ∃ t, exec (.windowAbort channel) s = .next t ∧ (t.fbu.chan ch).current = none ∧
      (t.fbu.chan ch).ledger = { c.ledger with requested := c.ledger.requested + 1, window := c.ledger.window + 1 } := by
  intro ch c
  refine ⟨(s.withChan ch c.abortWindow).nextInWindow ch g, next_busChan hfio hcfg _, ?_⟩
  rw [ChanSt.abortWindow_some hc, State.nextInWindow_none hrole (by rw [State.withChan_chan]; exact ho), State.withChan_chan]
  exact ⟨rfl, rfl⟩

/-- R356: an error's counts, and bus-off at 256. -/
theorem busError_counts (tec rxc : Half) (hm : (s.fbu.chan channel.toNat).mode = .active) :
    let ch := channel.toNat
    let c := s.fbu.chan ch
    ∃ t, exec (.busError channel tec rxc) s = .next t ∧ (t.fbu.chan ch).txErr = tec.toNat ∧ (t.fbu.chan ch).rxErr = rxc.toNat ∧
      ((t.fbu.chan ch).passive = true ↔ 128 ≤ tec.toNat ∨ 128 ≤ rxc.toNat) ∧ (t.fbu.chan ch).rxErrors = c.rxErrors + 1 ∧
      (256 ≤ tec.toNat → (t.fbu.chan ch).mode = .busOff ∧ (t.fbu.chan ch).staged = [] ∧ (t.fbu.chan ch).pending = [] ∧
        (t.fbu.chan ch).current = none ∧ (t.fbu.chan ch).busOffs = c.busOffs + 1 ∧ t.fbu.flags.getLsbD 1 = true ∧
        ((t.fbu.chan ch).recovering = some false ↔ g.autoRecover = true ∧ c.recoveries < 3)) ∧
      (tec.toNat < 256 → (t.fbu.chan ch).mode = .active) := by
  intro ch c
  generalize hkind : s.fbu.openKind ch g = kind
  have hrun : exec (.busError channel tec rxc) s =
      .next ((s.erredOn ch (c.busError ch tec.toNat rxc.toNat kind g.autoRecover)).nextInWindow ch g) := by
    refine (next_busChan hfio hcfg _).trans ?_
    simp only [hm, ← hkind]
    rfl
  obtain ⟨hwin, hflags⟩ := State.nextInWindow_window (g := g) (ch := ch) hrole (s.erredOn ch (c.busError ch tec.toNat rxc.toNat kind g.autoRecover))
  rw [State.erredOn_chan] at hwin
  have hpassive : ∀ {d : ChanSt}, c.Counted d tec.toNat rxc.toNat → (d.passive = true ↔ 128 ≤ tec.toNat ∨ 128 ≤ rxc.toNat) := fun h => by
    simp [h.passive]
  refine ⟨_, hrun, ?_⟩
  rcases Nat.lt_or_ge tec.toNat 256 with hlt | hge
  · obtain ⟨hcounts, hmode⟩ := ChanSt.busError_active ch rxc.toNat kind g.autoRecover hm hlt
    have hw := hcounts.window hwin
    obtain ⟨l, p, cur, o, r, he, -, -⟩ := hwin
    exact ⟨hw.txErr, hw.rxErr, hpassive hw, hw.rxErrors, fun h => absurd h (Nat.not_le.mpr hlt), fun _ => by rw [he]; exact hmode⟩
  · obtain ⟨hcounts, hmode, hstaged, hpend, hcur, hoffs, hflag, hrec⟩ := ChanSt.busError_busOff ch rxc.toNat kind g.autoRecover hm hge
    have hw := hcounts.window hwin
    obtain ⟨l, p, cur, o, r, he, -, hnone⟩ := hwin
    obtain ⟨hp0, hc0⟩ := hnone hpend hcur
    refine ⟨hw.txErr, hw.rxErr, hpassive hw, hw.rxErrors, fun _ => ?_, fun h => absurd h (Nat.not_lt.mpr hge)⟩
    rw [he, hflags]
    exact ⟨hmode, hstaged, hp0, hc0, hoffs, s.erredOn_flag ch _ hflag, hrec⟩
end
end

/-- Settles O43: each command from the one lemma on what an open window does with its frames. -/
theorem busTransmission : Obligations.BusTransmission := by
  unfold Obligations.BusTransmission
  intro s channel g ch c hfio hcfg hrole
  refine ⟨fun w time => transmitWindowOpen_window hfio hcfg hrole w time, fun x hx => ⟨frameSent_counts hfio hcfg hrole hx,
    fun w ho => arbitrationLost_window hfio hcfg hrole hx ho, windowAbort_counts hfio hcfg hrole hx⟩,
    fun tec rxc => busError_counts hfio hcfg hrole tec rxc, fun b => busOffRecovered_active hfio hcfg⟩

end Sys2Proof.Machine
end

section
/-! SUPPORT. Proofs of the pair (15_swallowtail_pairing.md): O49, O50, O51. -/

namespace Sys2Proof.Machine

open Sys2Proof

/-! What the pair's actions leave of the device (R365, R428, R429). -/

/-- An action of the pair block changes it, perhaps the buses' frames at a gate that closes, and raises events. -/
theorem State.withPai_frame (s : State) (r : PaiR) : ∃ f l v, s.withPai r = { s with pai := r.1, fbu := f, rcd := l, svc := v } := by
  obtain ⟨f, hf⟩ := ({ s with pai := r.1 } : State).closeGate_frame (s.pai.gate s.tim.now)
  obtain ⟨l, v, h⟩ := (({ s with pai := r.1 } : State).closeGate (s.pai.gate s.tim.now)).raise_frame r.2
  exact ⟨f, l, v, by rw [State.withPai, h, hf]⟩

@[simp] theorem State.withPai_pai (s : State) (r : PaiR) : (s.withPai r).pai = r.1 := by
  obtain ⟨f, l, v, h⟩ := s.withPai_frame r
  rw [h]
@[simp] theorem State.withPai_ctl (s : State) (r : PaiR) : (s.withPai r).ctl = s.ctl := by
  obtain ⟨f, l, v, h⟩ := s.withPai_frame r
  rw [h]
@[simp] theorem State.withPai_hst (s : State) (r : PaiR) : (s.withPai r).hst = s.hst := by
  obtain ⟨f, l, v, h⟩ := s.withPai_frame r
  rw [h]
@[simp] theorem State.withPai_est (s : State) (r : PaiR) : (s.withPai r).est = s.est := by
  obtain ⟨f, l, v, h⟩ := s.withPai_frame r
  rw [h]
@[simp] theorem State.withPai_beat (s : State) (r : PaiR) : (s.withPai r).beat = s.beat := by
  obtain ⟨f, l, v, h⟩ := s.withPai_frame r
  rw [h]

/-- A partner lost leaves the loop alone, but for a Joining device that has adopted nothing. -/
theorem State.partnerLost_idle {s : State} {r : PaiR} (h : ¬ (s.pai.lossStandby = true ∧ r.1.claimNext = .solo)) :
    s.partnerLost r = s.withPai r := by
  unfold State.partnerLost
  exact if_neg (by simpa using h)

theorem CtlSt.watchStandby_mode (c : CtlSt) : c.watchStandby.1.mode = .standby := by
  unfold CtlSt.watchStandby
  split
  · assumption
  · rfl

/-- A Joining device that has adopted nothing goes to STANDBY as it loses its partner (Table 15.6). -/
theorem State.partnerLost_standby {s : State} {r : PaiR} (h1 : s.pai.lossStandby = true) (h2 : r.1.claimNext = .solo) :
    (s.partnerLost r).pai = r.1 ∧ (s.partnerLost r).ctl.mode = .standby := by
  have h : (s.pai.lossStandby && decide (r.1.claimNext = .solo)) = true := by simp [h1, h2]
  simp only [State.partnerLost, h, if_true, State.raise_pai, State.raise_ctl, State.withPai_pai, State.withPai_ctl]
  exact ⟨trivial, CtlSt.watchStandby_mode _⟩

@[simp] theorem State.partnerLost_pai (s : State) (r : PaiR) : (s.partnerLost r).pai = r.1 := by
  by_cases h : s.pai.lossStandby = true ∧ r.1.claimNext = .solo
  · exact (State.partnerLost_standby h.1 h.2).1
  · rw [State.partnerLost_idle h, State.withPai_pai]

@[simp] theorem State.partnerLost_beat (s : State) (r : PaiR) : (s.partnerLost r).beat = s.beat := by
  unfold State.partnerLost
  split <;> simp

/-! Frames (R428, R429). -/

/-- `q` is `p` but for the frames it has sent. -/
def PaiSt.Sends (p q : PaiSt) : Prop := ∃ n b u, q = { p with txSeq := n, sentBytes := b, unacked := u }

theorem PaiSt.Sends.refl (p : PaiSt) : p.Sends p := ⟨p.txSeq, p.sentBytes, p.unacked, rfl⟩

theorem PaiSt.send_sends (p : PaiSt) (n : Nat) (b : LinkBody) : p.Sends (p.send n b) := by
  unfold PaiSt.send
  split
  · exact ⟨_, _, _, rfl⟩
  · exact .refl p

theorem PaiSt.idleIfDue_sends (p : PaiSt) (before : Half) (n : Nat) : p.Sends (p.idleIfDue before n) := by
  unfold PaiSt.idleIfDue
  split
  · exact p.send_sends n .idle
  · exact .refl p

/-- The block after a frame in order: its SEQ is taken and what it acknowledges is done with. -/
def PaiSt.received (p : PaiSt) (h : LinkHdr) : PaiSt := ({ p with rxSeq := h.seq } : PaiSt).acknowledge h.ack

theorem PaiSt.accept_down {p : PaiSt} (h : p.link ≠ .up) (hdr : LinkHdr) : p.accept hdr = (false, p) := if_pos h

section
variable {p : PaiSt} {hdr : LinkHdr} (hup : p.link = .up)
include hup

theorem PaiSt.accept_broken (hok : hdr.ok = false) : p.accept hdr = (false, { p with linkCrc := p.linkCrc + 1 }) := by
  simp [PaiSt.accept, hup, hok]

theorem PaiSt.accept_misplaced (hok : hdr.ok = true) (hseq : hdr.seq ≠ p.rxSeq + 1) : p.accept hdr = (false, p) := by
  simp only [PaiSt.accept, hup, hok, ne_eq, not_true_eq_false, if_false, Bool.not_true, Bool.false_eq_true, hseq, not_false_eq_true, if_true]

theorem PaiSt.accept_inOrder (hok : hdr.ok = true) (hseq : hdr.seq = p.rxSeq + 1) : p.accept hdr = (true, p.received hdr) := by
  simp [PaiSt.accept, hup, hok, hseq, PaiSt.received]
end

/-- A frame is acted on after it was received, and IDLE acknowledges it where nothing else was sent. -/
theorem State.linkFrame_inOrder {s : State} {hdr : LinkHdr} (h : s.awake = true) (hup : s.pai.link = .up) (hok : hdr.ok = true)
    (hseq : hdr.seq = s.pai.rxSeq + 1) (f : State → State) :
    ∃ q, (f { s with pai := s.pai.received hdr }).pai.Sends q ∧
      s.linkFrame hdr f = { f { s with pai := s.pai.received hdr } with pai := q } := by
  refine ⟨_, (f { s with pai := s.pai.received hdr }).pai.idleIfDue_sends s.pai.txSeq (f { s with pai := s.pai.received hdr }).beatNo, ?_⟩
  simp only [State.linkFrame, h, if_true, PaiSt.accept_inOrder hup hok hseq]

theorem setBit_getLsbD_same {w : Nat} (m : BitVec w) {k : Nat} (hk : k < w) : (setBit m k).getLsbD k = true := by
  simp [setBit_getLsbD m k hk]

theorem setBit_getLsbD_keep {w : Nat} {m : BitVec w} {k : Nat} (h : m.getLsbD k = true) (j : Nat) : (setBit m j).getLsbD k = true := by
  rw [setBit, BitVec.getLsbD_or, h, Bool.true_or]

/-! Claims and the link (R422 to R429, R438, R439, R446). -/

section
variable {p : PaiSt} (now : Nat)

theorem PaiSt.gate_stopped (h : p.toggling = false) : p.gate now = false := by simp [PaiSt.gate, h]

/-- An edge has just shown the partner's claim. -/
theorem PaiSt.gate_edge (p : PaiSt) : ({ p with lastIn := some now } : PaiSt).gate now = false := by
  simp [PaiSt.gate, PaiSt.claimed]

/-- A withdrawal stops the toggling and sends a Solo or Active device to Joining (R425). -/
theorem PaiSt.withdraw_role (p : PaiSt) (cause : Nat) :
    (p.withdraw cause).1.toggling = false ∧ (p.withdraw cause).1.lastIn = p.lastIn ∧ (p.withdraw cause).1.flags.getLsbD 1 = true ∧
      ((p.role = .solo ∨ p.role = .active) → (p.withdraw cause).1.role = .joining ∧ (p.withdraw cause).1.adopted = false) ∧
      (p.role ≠ .solo → p.role ≠ .active → (p.withdraw cause).1.role = p.role) := by
  unfold PaiSt.withdraw
  dsimp only
  split
  · next h => exact ⟨rfl, rfl, setBit_getLsbD_same _ (by decide), fun _ => ⟨rfl, rfl⟩, fun h1 h2 => absurd h (not_or.mpr ⟨h1, h2⟩)⟩
  · next h => exact ⟨rfl, rfl, setBit_getLsbD_same _ (by decide), fun h' => absurd h' h, fun _ _ => rfl⟩

theorem PaiSt.actEdge_withdraws (ht : p.toggling = true) (hb : p.sideB = true) (hs : p.sameSide = false) :
    p.actEdge now = ({ p with lastIn := some now } : PaiSt).withdraw 1 := by
  have h1 : ¬ (!p.toggling) = true := by simp [ht]
  have h2 : ¬ ({ p with lastIn := some now } : PaiSt).sameSide = true := Bool.eq_false_iff.mp hs
  exact (if_neg h1).trans ((if_neg h2).trans (if_pos hb))

theorem PaiSt.actEdge_stays (h : p.toggling = false ∨ (p.sideB = false ∧ p.sameSide = false)) :
    p.actEdge now = ({ p with lastIn := some now }, []) := by
  by_cases ht : p.toggling = true
  · obtain ⟨hb, hs⟩ := h.resolve_left (by simp [ht])
    have h1 : ¬ (!p.toggling) = true := by simp [ht]
    have h2 : ¬ ({ p with lastIn := some now } : PaiSt).sameSide = true := Bool.eq_false_iff.mp hs
    exact (if_neg h1).trans ((if_neg h2).trans (if_neg (Bool.eq_false_iff.mp hb)))
  · exact if_pos (show (!p.toggling) = true by simpa using ht)

theorem PaiSt.actEdge_lastIn (p : PaiSt) : (p.actEdge now).1.lastIn = some now := by
  unfold PaiSt.actEdge
  dsimp only
  split
  · rfl
  · split
    · rfl
    · split
      · exact (PaiSt.withdraw_role _ 1).2.1
      · rfl
end

/-! The partner lost (R438, R439). -/

section
variable {p : PaiSt} (cause beat : Nat)

theorem PaiSt.lost_follows (h : p.follows = true) : p.lost cause beat = p.takeOver cause beat := if_pos h

/-- One that follows takes the Active role, keeps PAIR_ID and claims at the next edge. -/
theorem PaiSt.takeOver_active (p : PaiSt) (cause beat : Nat) :
    let q := (p.takeOver cause beat).1
    q.role = .active ∧ q.partner = none ∧ q.claimNext = .takeover ∧ q.takeovers = p.takeovers + 1 ∧ q.pairId = p.pairId ∧
      q.lastLoss = BitVec.ofNat 2 cause ∧ q.flags.getLsbD 0 = true :=
  ⟨rfl, rfl, rfl, rfl, rfl, rfl, setBit_getLsbD_same _ (by decide)⟩

theorem PaiSt.not_follows_of_unadopted (hr : p.role = .joining) (ha : p.adopted = false) : p.follows = false := by simp [PaiSt.follows, hr, ha]

theorem PaiSt.follows_role (h : p.follows = true) : p.role ≠ .solo ∧ p.role ≠ .active ∧ p.lossStandby = false := by
  cases hr : p.role <;> simp [PaiSt.follows, PaiSt.lossStandby, hr] at h ⊢
  exact h

theorem PaiSt.lost_joining (hr : p.role = .joining) (ha : p.adopted = false) :
    p.lost cause beat = ({ p with claimNext := .solo, join := .none, lastLoss := BitVec.ofNat 2 cause, lossBeat := wordN beat },
      [(0x0E03, [wordN cause, wordN beat])]) := by
  rw [PaiSt.lost, PaiSt.not_follows_of_unadopted hr ha, if_neg Bool.false_ne_true, if_pos hr]

theorem PaiSt.lost_alone (hr : p.role = .solo ∨ p.role = .active) : p.lost cause beat = (p, []) := by
  rcases hr with hr | hr <;> simp [PaiSt.lost, PaiSt.follows, hr]
end

/-! The link's training and loss (R427, R429, R446). -/

/-- What a loss of the link leaves: its frames are gone, an Active has no partner and a join starts again. -/
theorem PaiSt.linkLost_up {p : PaiSt} (beat : Nat) (h : p.link = .up) :
    let q := (p.linkLost beat).1
    q.link = .training ∧ q.lanes = 0 ∧ q.unacked = [] ∧ q.linkRetry = p.linkRetry ∧ q.flags.getLsbD 6 = true ∧ q.role = p.role ∧
      (p.role = .active → q.partner = none) ∧
      (p.role = .joining → q.join = .none ∧ (p.join ≠ .none → q.adopted = false ∧ q.flags.getLsbD 5 = true)) := by
  have h6 : (setBit p.flags 6).getLsbD 6 = true := setBit_getLsbD_same _ (by decide)
  unfold PaiSt.linkLost
  rw [if_pos h]
  dsimp only
  split
  · next hr =>
    have hna : p.role ≠ .active := fun ha => absurd (hr.symm.trans ha) (by decide)
    split
    · next hj => exact ⟨rfl, rfl, rfl, rfl, h6, rfl, fun ha => absurd ha hna, fun _ => ⟨hj, fun hne => absurd hj hne⟩⟩
    · exact ⟨rfl, rfl, rfl, rfl, setBit_getLsbD_keep h6 5, hr.symm, fun ha => absurd ha hna,
        fun _ => ⟨rfl, fun _ => ⟨rfl, setBit_getLsbD_same _ (by decide)⟩⟩⟩
  · next hr =>
    have hnj : p.role ≠ .joining := fun hj => absurd (hr.symm.trans hj) (by decide)
    split
    · next hp => exact ⟨rfl, rfl, rfl, rfl, h6, rfl, fun _ => Option.isNone_iff_eq_none.mp hp, fun hj => absurd hj hnj⟩
    · exact ⟨rfl, rfl, rfl, rfl, h6, rfl, fun _ => rfl, fun hj => absurd hj hnj⟩
  · next hj ha => exact ⟨rfl, rfl, rfl, rfl, h6, rfl, fun hr => absurd hr ha, fun hr => absurd hr hj⟩

theorem PaiSt.linkLost_down {p : PaiSt} (beat : Nat) (h : p.link ≠ .up) : p.linkLost beat = (p, []) := if_neg h

theorem PaiSt.pairState_alone {p : PaiSt} (hr : p.role = .active) (hp : p.partner = none) : p.pairState = 0 := by
  simp [PaiSt.pairState, hr, hp]

/-- The block with every unacknowledged frame sent again (R429). -/
def PaiSt.resent (p : PaiSt) : PaiSt :=
  { p with
    linkRetry := p.linkRetry + 1, passes := p.passes + 1
    sentBytes := p.sentBytes + (p.unacked.map (fun r => frameBytes p.lanes.toNat r.body)).sum
    unacked := p.unacked.map (fun r => { r with retry := true }) }

theorem PaiSt.goBack_up {p : PaiSt} (beat : Nat) (hup : p.link = .up) (hu : p.unacked ≠ []) :
    p.goBack beat = if 3 ≤ p.passes + 1 then p.resent.linkLost beat else (p.resent, []) :=
  if_neg (not_or.mpr ⟨not_not.mpr hup, hu⟩)

/-! The commands. -/

section
variable {s : State} (h : s.awake = true)
include h

/-- R422, R425: an edge of the partner's claim. -/
theorem pairActInEdge_claim (τ : Nat) :
    ∃ t, exec (.pairActInEdge τ) s = .next t ∧ t.pai.lastIn = some τ ∧
      (s.pai.toggling = true → s.pai.sideB = true → s.pai.sameSide = false →
        t.pai.toggling = false ∧ t.pai.flags.getLsbD 1 = true ∧
          ((s.pai.role = .solo ∨ s.pai.role = .active) → t.pai.role = .joining ∧ t.pai.adopted = false) ∧
          (s.pai.role ≠ .solo → s.pai.role ≠ .active → t.pai.role = s.pai.role)) ∧
      (s.pai.toggling = false ∨ (s.pai.sideB = false ∧ s.pai.sameSide = false) → t.pai = { s.pai with lastIn := some τ } ∧ t.pai.gate τ = false) := by
  refine ⟨(s.reach τ).withPai (s.pai.actEdge τ), next_if_awake h, ?_⟩
  rw [State.withPai_pai]
  refine ⟨s.pai.actEdge_lastIn τ, fun ht hb hs => ?_, fun hstay => ?_⟩
  · obtain ⟨htog, -, hflag, hjoin, hkeep⟩ := PaiSt.withdraw_role { s.pai with lastIn := some τ } 1
    rw [PaiSt.actEdge_withdraws τ ht hb hs]
    exact ⟨htog, hflag, hjoin, hkeep⟩
  · rw [PaiSt.actEdge_stays τ hstay]
    exact ⟨rfl, PaiSt.gate_edge τ s.pai⟩

theorem exec_pairActInSilent (τ : Nat) (hsilent : ∀ x, s.pai.lastIn = some x → x + 20000 ≤ τ) :
    exec (.pairActInSilent τ) s = .next ((s.reach τ).partnerLost (s.pai.lost 1 s.beatNo)) := by
  have hs : (match s.pai.lastIn with | some x => decide (x + 20000 ≤ τ) | none => true) = true := by
    cases hl : s.pai.lastIn with
    | none => rfl
    | some x => simp [hsilent x hl]
  exact congrArg Host.Outcome.next (if_pos (by rw [h]; exact hs))

/-- R438, R439: 20 µs without an edge. -/
theorem pairActInSilent_loss (τ : Nat) :
    ((∀ x, s.pai.lastIn = some x → x + 20000 ≤ τ) →
      ∃ t, exec (.pairActInSilent τ) s = .next t ∧
        (s.pai.follows = true →
          t.pai.role = .active ∧ t.pai.partner = none ∧ t.pai.claimNext = .takeover ∧ t.pai.takeovers = s.pai.takeovers + 1 ∧
            t.pai.pairId = s.pai.pairId ∧ t.pai.lastLoss = 1 ∧ t.pai.flags.getLsbD 0 = true ∧ t.hst = s.hst) ∧
        (s.pai.role = .joining → s.pai.adopted = false → t.pai.claimNext = .solo ∧ t.pai.role = .joining ∧ t.ctl.mode = .standby) ∧
        ((s.pai.role = .solo ∨ s.pai.role = .active) → t.pai = s.pai ∧ t.ctl = s.ctl)) ∧
    (∀ x, s.pai.lastIn = some x → τ < x + 20000 → exec (.pairActInSilent τ) s = .next s) := by
  refine ⟨fun hsilent => ⟨_, exec_pairActInSilent h τ hsilent, fun hf => ?_, fun hr ha => ?_, fun hr => ?_⟩, fun x hx hlt => ?_⟩
  · obtain ⟨hrole, hpartner, hclaim, hcount, hid, hloss, hflag⟩ := s.pai.takeOver_active 1 s.beatNo
    rw [PaiSt.lost_follows 1 _ hf, State.partnerLost_idle (fun hc => by rw [hclaim] at hc; cases hc.2), State.withPai_pai, State.withPai_hst]
    exact ⟨hrole, hpartner, hclaim, hcount, hid, hloss, hflag, rfl⟩
  · have hl : (s.reach τ).pai.lossStandby = true := by simp [PaiSt.lossStandby, State.reach, hr, ha]
    have hj := PaiSt.lost_joining 1 s.beatNo hr ha
    obtain ⟨hpai, hmode⟩ := State.partnerLost_standby (r := s.pai.lost 1 s.beatNo) hl (by rw [hj])
    refine ⟨?_, ?_, hmode⟩ <;> rw [hpai, hj]
    exact hr
  · have hl : (s.reach τ).pai.lossStandby = false := by
      rcases hr with hr | hr <;> simp [PaiSt.lossStandby, State.reach, hr]
    rw [PaiSt.lost_alone 1 _ hr, State.partnerLost_idle (by simp [hl]), State.withPai_pai, State.withPai_ctl]
    exact ⟨rfl, rfl⟩
  · exact congrArg Host.Outcome.next (if_neg (by simp [hx, Nat.not_le.mpr hlt]))

/-- R427: the link trains. -/
theorem linkTrained_up (lanes : BitVec 3) (hl : lanes = 2 ∨ lanes = 4) (hdown : s.pai.link ≠ .up) :
    ∃ t, exec (.linkTrained lanes) s = .next t ∧ t.pai.link = .up ∧ t.pai.lanes = lanes ∧ t.pai.txSeq = 0 ∧ t.pai.rxSeq = 0 ∧
      t.pai.unacked = [] ∧ t.pai.role = s.pai.role := by
  have ht : s.pai.trained lanes = ({ s.pai with link := .up, lanes := lanes, txSeq := 0, rxSeq := 0, unacked := [], passes := 0 },
      [(0x0E0C, [2, wordN lanes.toNat])]) := if_neg (not_or.mpr ⟨hdown, not_not.mpr hl⟩)
  refine ⟨_, next_if_awake h, ?_⟩
  rw [State.withPai_pai, ht]
  exact ⟨rfl, rfl, rfl, rfl, rfl, rfl⟩

/-- R427, R446: the link goes down. -/
theorem linkDown_loss :
    ∃ t, exec .linkDown s = .next t ∧
      (s.pai.link ≠ .up → t.pai = s.pai) ∧
      (s.pai.link = .up →
        t.pai.link = .training ∧ t.pai.lanes = 0 ∧ t.pai.unacked = [] ∧ t.pai.flags.getLsbD 6 = true ∧ t.pai.role = s.pai.role ∧
          (s.pai.role = .active → t.pai.partner = none ∧ t.pai.pairState = 0) ∧
          (s.pai.role = .joining → t.pai.join = .none ∧ (s.pai.join ≠ .none → t.pai.adopted = false ∧ t.pai.flags.getLsbD 5 = true))) := by
  refine ⟨_, next_if_awake h, ?_⟩
  rw [State.withPai_pai]
  refine ⟨fun hdown => by rw [PaiSt.linkLost_down _ hdown], fun hup => ?_⟩
  obtain ⟨hlink, hlanes, hun, -, hflag, hrole, hact, hjoin⟩ := PaiSt.linkLost_up s.beatNo hup
  exact ⟨hlink, hlanes, hun, hflag, hrole, fun ha => ⟨hact ha, PaiSt.pairState_alone (hrole.trans ha) (hact ha)⟩, hjoin⟩

/-- R429: the unacknowledged frames go again, and the third pass takes the link down. -/
theorem linkRetry_goesBack (hup : s.pai.link = .up) (hu : s.pai.unacked ≠ []) :
    ∃ t, exec .linkRetry s = .next t ∧ t.pai.linkRetry = s.pai.linkRetry + 1 ∧
      (s.pai.passes < 2 → t.pai.link = .up ∧ t.pai.passes = s.pai.passes + 1 ∧
        t.pai.unacked.map (fun r => r.seq) = s.pai.unacked.map (fun r => r.seq) ∧ (∀ r ∈ t.pai.unacked, r.retry = true)) ∧
      (2 ≤ s.pai.passes → t.pai.link = .training ∧ t.pai.unacked = []) := by
  refine ⟨_, next_if_awake h, ?_⟩
  rw [State.withPai_pai, PaiSt.goBack_up _ hup hu]
  rcases Nat.lt_or_ge s.pai.passes 2 with hlt | hge
  · rw [if_neg (by omega)]
    refine ⟨rfl, fun _ => ⟨hup, rfl, ?_, fun r hr => ?_⟩, fun h2 => absurd h2 (Nat.not_le.mpr hlt)⟩
    · simp [PaiSt.resent, Function.comp_def]
    · obtain ⟨x, -, rfl⟩ := List.mem_map.mp hr
      rfl
  · rw [if_pos (by omega)]
    obtain ⟨hlink, -, hun, hretry, -⟩ := PaiSt.linkLost_up (p := s.pai.resent) s.beatNo hup
    exact ⟨hretry, fun h2 => absurd h2 (Nat.not_lt.mpr hge), fun _ => ⟨hlink, hun⟩⟩
end

/-- R423: an arm not renewed stops the toggling. -/
theorem claimArmExpire_stops (s : State) :
    ∃ t, exec .claimArmExpire s = .next t ∧
      (s.pai.armed = false → t.pai = { s.pai with toggling := false }) ∧ (s.pai.armed = true → t = s) := by
  by_cases hc : (s.pai.toggling && !s.pai.armed) = true
  · obtain ⟨-, ha⟩ := Bool.and_eq_true_iff.mp hc
    refine ⟨_, congrArg Host.Outcome.next (if_pos hc), fun _ => ?_, fun ha' => ?_⟩
    · rw [State.withPai_pai]
      rfl
    · rw [ha'] at ha
      cases ha
  · refine ⟨s, congrArg Host.Outcome.next (if_neg hc), fun ha => ?_, fun _ => rfl⟩
    have ht : s.pai.toggling = false := by simpa [ha] using hc
    rw [← ht]

/-- Settles O49: each command from what its action does to the pair block. -/
theorem pairClaims : Obligations.PairClaims := by
  unfold Obligations.PairClaims
  exact fun s h => ⟨fun τ => ⟨pairActInEdge_claim h τ, pairActInSilent_loss h τ⟩, claimArmExpire_stops s, linkTrained_up h, linkDown_loss h,
    linkRetry_goesBack h⟩

/-! Joins, pair commands and swaps (R437, R442 to R449). -/

/-! JOIN_REQ (R442). -/

section
variable {p : PaiSt} {v : JoinView} {r : JoinReq} (n : Nat)

theorem PaiSt.joinReq_refused (hr : p.role = .solo) (hc : p.joinRefusal v r ≠ 0) :
    ∃ q, p.Sends q ∧ p.joinReq v r n = q.refuse (p.joinRefusal v r) r.deviceId :=
  ⟨_, p.send_sends n _, (if_pos (Or.inl hr)).trans (if_pos hc)⟩

/-- A refusal sets its flag and leaves the role and the partner. -/
theorem PaiSt.refuse_keeps (p : PaiSt) (cause : Nat) (id : Long) :
    (p.refuse cause id).1.role = p.role ∧ (p.refuse cause id).1.partner = p.partner ∧ (p.refuse cause id).1.flags.getLsbD 4 = true :=
  ⟨rfl, rfl, setBit_getLsbD_same _ (by decide)⟩

theorem PaiSt.joinReq_keeps (hr : p.role = .solo) (hc : p.joinRefusal v r ≠ 0) :
    (p.joinReq v r n).1.role = .solo ∧ (p.joinReq v r n).1.partner = p.partner ∧ (p.joinReq v r n).1.flags.getLsbD 4 = true := by
  obtain ⟨q, ⟨a, b, u, rfl⟩, hq⟩ := PaiSt.joinReq_refused n hr hc
  rw [hq]
  obtain ⟨hrole, hpartner, hflag⟩ := PaiSt.refuse_keeps { p with txSeq := a, sentBytes := b, unacked := u } (p.joinRefusal v r) r.deviceId
  exact ⟨hrole.trans hr, hpartner, hflag⟩

theorem PaiSt.joinReq_accepts (hr : p.role = .solo) (hc : p.joinRefusal v r = 0) :
    let q := (p.joinReq v r n).1
    q.role = .active ∧ q.partner = some .joining ∧ q.join = .copy ∧ q.kind = joinKind v r ∧ q.partnerId = r.deviceId ∧
      q.pairId = some (p.pairIdOf v.deviceId) := by
  have hj : (p.joinReq v r n).1 = { ((p.send n (.joinAccept (BitVec.ofNat 8 (joinKind v r)) (p.pairIdOf v.deviceId))).allDirty) with
      role := .active, partner := some .joining, partnerAdopted := false, partnerKind := joinKind v r, kind := joinKind v r,
      partnerId := r.deviceId, joinedId := r.deviceId, pairId := some (p.pairIdOf v.deviceId), join := .copy } :=
    congrArg Prod.fst ((if_pos (Or.inl hr)).trans (if_neg (not_not.mpr hc)))
  rw [hj]
  exact ⟨rfl, rfl, rfl, rfl, rfl, rfl⟩

theorem PaiSt.joinRefusal_sameSide (h : r.sideB = p.sideB) : p.joinRefusal v r = 1 := if_pos h

theorem joinKind_normal (h1 : r.imageId = v.imageId) (h2 : r.layoutSig = v.layoutSig) (h3 : r.compat = v.compat) : joinKind v r = 1 :=
  if_pos ⟨h1, h2, h3⟩

/-- A sound device of the other side with this image is refused for JOIN_BLOCK, a PENDING bank or WATCH alone. -/
theorem PaiSt.joinRefusal_fit (hside : r.sideB ≠ p.sideB) (hkind : joinKind v r ≠ 0) (hstep : r.stepUsed = false)
    (hhealth : healthBad r.health = false) (hlanes : p.lanes = 4) :
    p.joinRefusal v r = if p.joinBlock then 6 else if v.bankPending then 7 else if v.watch then 8 else 0 := by
  simp only [PaiSt.joinRefusal, if_neg hside, if_neg hkind, hstep, hhealth, Bool.false_eq_true, false_and, if_false, hlanes, ne_eq,
    not_true_eq_false]
end

/-! What the joiner does with the frames of its join (R442 to R444). -/

section
variable {p : PaiSt} (hr : p.role = .joining)
include hr

theorem PaiSt.joinRefused_requested (hj : p.join = .requested) : p.joinRefused = { p.flag 4 with join := .none } := if_pos ⟨hr, hj⟩

theorem PaiSt.adoptEnded_named {a : Long} (hj : p.join = .adopting) (hb : p.adoptBeat = some a) (n : Word) :
    p.adoptEnded a n = { p with adoptEnd := some (a, n) } := if_pos ⟨hj, hb, hr⟩

section
variable (ha : p.adopted = false)
include ha

theorem PaiSt.unadopted : p.role = .joining ∧ (!p.adopted) = true := ⟨hr, by simp [ha]⟩

theorem PaiSt.joinAccept_requested (hj : p.join = .requested) (own : Long) (kind : Byte) (id : Long) :
    (p.joinAccept own kind id).1.join = .copy ∧ (p.joinAccept own kind id).1.kind = kind.toNat ∧
      (p.joinAccept own kind id).1.pairId = some id := by
  rw [PaiSt.joinAccept, if_pos ⟨hr, by simp [ha], hj⟩]
  exact ⟨rfl, rfl, rfl⟩

theorem PaiSt.holdPage_heldPages (k : Word) (d : List Byte) : (p.holdPage k d).heldPages = Tab.set [] p.heldPages k.toNat d := by
  rw [PaiSt.holdPage, if_pos (PaiSt.unadopted hr ha)]

theorem PaiSt.holdFast_heldFast (k : Word) (d : List Byte) : (p.holdFast k d).heldFast = Tab.set [] p.heldFast k.toNat d := by
  rw [PaiSt.holdFast, if_pos (PaiSt.unadopted hr ha)]

theorem PaiSt.adoptNamed_copy (hj : p.join = .copy) (a : Long) :
    p.adoptNamed a = { p with join := .adopting, adoptBeat := some a, adoptEnd := none } := if_pos ⟨hr, by simp [ha], hj⟩
end

/-- At the deadline one with the whole transfer adopts. -/
theorem PaiSt.adoptsNow_whole {a : Long} {k : Word} {n : Nat} (hj : p.join = .adopting) (hb : p.adoptBeat = some a)
    (he : p.adoptEnd = some (a, k)) (hn : n = a.toNat + 1) : p.adoptsNow n = true := by
  simp [PaiSt.adoptsNow, hr, hj, hb, he, hn]

/-- One without it is late. -/
theorem PaiSt.adoptMissed_late {a : Long} {n : Nat} (hj : p.join = .adopting) (hb : p.adoptBeat = some a) (he : p.adoptEnd = none)
    (hn : n = a.toNat + 1) : p.adoptsNow n = false ∧ p.adoptMissed n = true := by
  subst hn
  have h0 : p.adoptsNow (a.toNat + 1) = false := by simp [PaiSt.adoptsNow, hb, he]
  exact ⟨h0, by simp [PaiSt.adoptMissed, h0, hr, hj, hb]⟩
end

/-- An adoption counts a join; a NORMAL one goes on to its checking round, another to Shadow (R444, R445, R447). -/
theorem PaiSt.adoptDone_role (p : PaiSt) (boundary : Bool) :
    let q := (p.adoptDone boundary).1
    q.joins = p.joins + 1 ∧ q.partner = some .active ∧ (p.kind = 1 → q.role = p.role ∧ q.adopted = true ∧ q.join = .checking) ∧
      (p.kind ≠ 1 → q.role = .shadow ∧ q.join = .proving) := by
  unfold PaiSt.adoptDone
  dsimp only
  split
  · next hk => exact ⟨rfl, rfl, fun _ => ⟨rfl, rfl, rfl⟩, fun hne => absurd hk hne⟩
  · next hk => exact ⟨rfl, rfl, fun he => absurd he hk, fun _ => ⟨rfl, rfl⟩⟩

/-- A join that resumes has adopted nothing and holds no page. -/
theorem PaiSt.abandon_resume (p : PaiSt) (cause : Nat) :
    let q := (p.abandon cause true).1
    q.role = .joining ∧ q.adopted = false ∧ q.join = .copy ∧ q.heldPages = [] := ⟨rfl, rfl, rfl, rfl⟩

/-! Proving, swaps and claims (R437, R447 to R449). -/

theorem PaiSt.proveEnd_proved {p : PaiSt} {cfg : PairTable} (hr : p.role = .shadow) (hp : p.proved = false) (h1 : cfg.proveRounds ≠ 0)
    (hle : cfg.proveRounds.toNat ≤ p.proveDone) : (p.proveEnd cfg).1 = { p with proved := true, join := .none, checkLeft := none } :=
  congrArg Prod.fst (if_pos ⟨by simp [PaiSt.proves, hp, hr], h1, hle⟩)

theorem PaiSt.proveEnd_early {p : PaiSt} {cfg : PairTable} (hlt : p.proveDone < cfg.proveRounds.toNat) : p.proveEnd cfg = (p, []) :=
  if_neg (fun h => absurd h.2.2 (Nat.not_le.mpr hlt))

theorem PaiSt.sendDemote_active {p : PaiSt} (n : Nat) (hr : p.role = .active) :
    let q := (p.sendDemote n).1
    q.role = .active ∧ q.partner = some .joining ∧ q.join = .copy ∧ q.partnerAdopted = false := by
  obtain ⟨a, b, u, hs⟩ := p.send_sends n (.demote 2)
  unfold PaiSt.sendDemote
  rw [if_pos hr, hs]
  exact ⟨hr, rfl, rfl, rfl⟩

section
variable {p : PaiSt} {c : Long} {n : Nat}

/-- The Active of a swap stops toggling in the beat before the swap edge. -/
theorem PaiSt.activeStop_swap (hr : p.role = .active) (ht : p.toggling = true) (hs : p.swap = some c) (hn : n = c.toNat + 1) :
    (p.activeStop n).1 = { p.stopToggle.flag 1 with armed := false } := by
  have hany : (p.swap.any (fun c => decide (n = c.toNat + 1))) = true := by simp [hs, hn]
  exact congrArg Prod.fst ((if_pos ⟨hr, ht⟩).trans (if_pos hany))

/-- An Active that asks for takeover withdraws. -/
theorem PaiSt.activeStop_request (hr : p.role = .active) (ht : p.toggling = true) (hs : p.swap = none) (hq : p.takeoverReq = true) :
    p.activeStop n = p.withdraw 3 := by
  have hany : ¬ (p.swap.any (fun c => decide (n = c.toNat + 1))) = true := by simp [hs]
  exact (if_pos ⟨hr, ht⟩).trans ((if_neg hany).trans (if_pos hq))

section
variable (now : Nat) (hf : p.follows = true) (hs : p.swap = some c) (hn : n = c.toNat + 1)
include hf hs hn

/-- A swap whose Active still claims is cancelled. -/
theorem PaiSt.swapClaim_claimed (hc : p.claimed now = true) : (p.swapClaim n now).1 = { p with swap := none } := by
  have hany : (p.swap.any (fun c => decide (n = c.toNat + 1))) = true := by simp [hs, hn]
  exact congrArg Prod.fst ((if_pos ⟨hf, hany⟩).trans (if_pos hc))

theorem PaiSt.swapClaim_free (hc : p.claimed now = false) : (p.swapClaim n now).1 = { p with toggling := true, armed := true } := by
  have hany : (p.swap.any (fun c => decide (n = c.toNat + 1))) = true := by simp [hs, hn]
  exact congrArg Prod.fst ((if_pos ⟨hf, hany⟩).trans (if_neg (Bool.eq_false_iff.mp hc)))
end
end

/-! The Active's health (R437, R438). -/

theorem PaiSt.healthFrame_loss {p : PaiSt} {w : Word} {n : Nat} (hf : p.follows = true) (hb : bitOf w 0 = true) :
    p.healthFrame w n = ({ p with partnerHealth := w } : PaiSt).takeOver 3 n := (if_pos ⟨hf, hb⟩).trans (if_pos hf)

theorem PaiSt.healthFrame_sound {p : PaiSt} {w : Word} {n : Nat} (hb : bitOf w 0 = false) :
    p.healthFrame w n = ({ p with partnerHealth := w }, []) := if_neg (fun hc => absurd (hb.symm.trans hc.2) Bool.false_ne_true)

/-! The commands of the link. -/

section
variable {s : State} (h : s.awake = true) {hdr : LinkHdr} (hup : s.pai.link = .up) (hok : hdr.ok = true) (hseq : hdr.seq = s.pai.rxSeq + 1)
include h hup hok hseq

/-- A frame in order whose work is `f` leaves the pair block that `f` left, but for what was sent. -/
theorem next_linkFrame (f : State → State) {p : PaiSt} (hp : (f { s with pai := s.pai.received hdr }).pai = p) :
    ∃ t, (Host.Outcome.next (s.linkFrame hdr f) : Host.Outcome State Fault Refusal) = .next t ∧
      ∃ a b u, t.pai = { p with txSeq := a, sentBytes := b, unacked := u } := by
  obtain ⟨q, ⟨a, b, u, hq⟩, he⟩ := State.linkFrame_inOrder h hup hok hseq f
  refine ⟨_, rfl, a, b, u, ?_⟩
  rw [he, ← hp]
  exact hq

/-- R442: a Solo device that is asked to join. -/
theorem joinReq_solo (r : JoinReq) (hr : s.pai.role = .solo) :
    ∃ t, exec (.joinReq hdr r) s = .next t ∧
      (r.sideB = s.pai.sideB → t.pai.role = .solo ∧ t.pai.partner = s.pai.partner ∧ t.pai.flags.getLsbD 4 = true) ∧
      (r.sideB ≠ s.pai.sideB → r.imageId = s.imageId → r.layoutSig = s.layoutSig → r.compat = s.compat → r.stepUsed = false →
        healthBad r.health = false → s.pai.lanes = 4 →
        (s.pai.joinBlock = true → t.pai.role = .solo ∧ t.pai.flags.getLsbD 4 = true) ∧
        (s.pai.joinBlock = false → s.sch.inactive.phase ≠ .pending → s.sch.watch = false →
          t.pai.role = .active ∧ t.pai.partner = some .joining ∧ t.pai.join = .copy ∧ t.pai.kind = 1 ∧ t.pai.partnerId = r.deviceId ∧
            t.pai.pairId = some s.pairId)) := by
  obtain ⟨t, ht, a, b, u, hpai⟩ := next_linkFrame h hup hok hseq (fun a => a.withPai (a.pai.joinReq a.joinView r a.beatNo))
    (p := ((s.pai.received hdr).joinReq s.joinView r s.beatNo).1) (State.withPai_pai _ _)
  refine ⟨t, ht, fun hside => ?_, fun hside himg hlay hcomp hstep hhealth hlanes => ?_⟩
  · obtain ⟨hrole, hpartner, hflag⟩ := PaiSt.joinReq_keeps (p := s.pai.received hdr) (v := s.joinView) (r := r) s.beatNo hr
      ((PaiSt.joinRefusal_sameSide (p := s.pai.received hdr) hside).trans_ne (by decide))
    rw [hpai]
    exact ⟨hrole, hpartner, hflag⟩
  · have hkind : joinKind s.joinView r = 1 := joinKind_normal himg hlay hcomp
    have hfit := PaiSt.joinRefusal_fit (p := s.pai.received hdr) (v := s.joinView) hside (by rw [hkind]; decide) hstep hhealth hlanes
    refine ⟨fun hblock => ?_, fun hblock hpend hwatch => ?_⟩
    · have h6 : (s.pai.received hdr).joinRefusal s.joinView r = 6 := hfit.trans (if_pos hblock)
      obtain ⟨hrole, -, hflag⟩ := PaiSt.joinReq_keeps (p := s.pai.received hdr) s.beatNo hr (by rw [h6]; decide)
      rw [hpai]
      exact ⟨hrole, hflag⟩
    · have h0 : (s.pai.received hdr).joinRefusal s.joinView r = 0 := by
        have hb : s.joinView.bankPending = false := decide_eq_false hpend
        have hw : s.joinView.watch = false := hwatch
        rw [hfit, hb, hw]
        exact if_neg (Bool.eq_false_iff.mp hblock)
      obtain ⟨hrole, hpartner, hjoin, hk, hid, hpid⟩ := PaiSt.joinReq_accepts (p := s.pai.received hdr) s.beatNo hr h0
      rw [hpai]
      exact ⟨hrole, hpartner, hjoin, hk.trans hkind, hid, hpid⟩

/-- R442 to R444: the frames of a join at a device that has adopted nothing. -/
theorem joiner_frames (hr : s.pai.role = .joining) (ha : s.pai.adopted = false) :
    (∀ (kind : Byte) (id : Long), s.pai.join = .requested →
      (∃ t, exec (.joinAccept hdr kind id) s = .next t ∧ t.pai.join = .copy ∧ t.pai.kind = kind.toNat ∧ t.pai.pairId = some id) ∧
      ∃ t, exec (.joinRefuse hdr kind) s = .next t ∧ t.pai.join = .none ∧ t.pai.role = .joining ∧ t.pai.flags.getLsbD 4 = true) ∧
    (∀ (k : Word) (d : List Byte),
      (∃ t, exec (.linkPage hdr k d) s = .next t ∧ Tab.get [] t.pai.heldPages k.toNat = d ∧
        ∀ j, j ≠ k.toNat → Tab.get [] t.pai.heldPages j = Tab.get [] s.pai.heldPages j) ∧
      ∃ t, exec (.linkFast hdr k d) s = .next t ∧ Tab.get [] t.pai.heldFast k.toNat = d) ∧
    (∀ a : Long, s.pai.join = .copy → ∃ t, exec (.linkAdopt hdr a) s = .next t ∧ t.pai.join = .adopting ∧ t.pai.adoptBeat = some a) ∧
    (∀ (a : Long) (n : Word), s.pai.join = .adopting → s.pai.adoptBeat = some a →
      ∃ t, exec (.adoptEnd hdr a n) s = .next t ∧ t.pai.adoptEnd = some (a, n)) := by
  have hr' : (s.pai.received hdr).role = .joining := hr
  have ha' : (s.pai.received hdr).adopted = false := ha
  refine ⟨fun kind id hj => ⟨?_, ?_⟩, fun k d => ⟨?_, ?_⟩, fun a hj => ?_, fun a n hj hb => ?_⟩
  · obtain ⟨t, ht, x, y, z, hpai⟩ := next_linkFrame h hup hok hseq (fun a => a.withPai (a.pai.joinAccept a.img.otp.deviceId kind id))
      (State.withPai_pai _ _)
    obtain ⟨h1, h2, h3⟩ := PaiSt.joinAccept_requested hr' ha' hj s.img.otp.deviceId kind id
    exact ⟨t, ht, by rw [hpai]; exact h1, by rw [hpai]; exact h2, by rw [hpai]; exact h3⟩
  · obtain ⟨t, ht, x, y, z, hpai⟩ := next_linkFrame h hup hok hseq (fun a => { a with pai := a.pai.joinRefused })
      (PaiSt.joinRefused_requested hr' hj)
    exact ⟨t, ht, by rw [hpai], by rw [hpai]; exact hr, by rw [hpai]; exact setBit_getLsbD_same _ (by decide)⟩
  · obtain ⟨t, ht, x, y, z, hpai⟩ := next_linkFrame h hup hok hseq (fun a => { a with pai := a.pai.holdPage k d }) rfl
    have hheld : t.pai.heldPages = Tab.set [] s.pai.heldPages k.toNat d := by
      rw [hpai]
      exact PaiSt.holdPage_heldPages hr' ha' k d
    exact ⟨t, ht, by rw [hheld, Tab.get_set_same], fun j hj => by rw [hheld, Tab.get_set_other _ _ _ hj]⟩
  · obtain ⟨t, ht, x, y, z, hpai⟩ := next_linkFrame h hup hok hseq (fun a => { a with pai := a.pai.holdFast k d }) rfl
    have hheld : t.pai.heldFast = Tab.set [] s.pai.heldFast k.toNat d := by
      rw [hpai]
      exact PaiSt.holdFast_heldFast hr' ha' k d
    exact ⟨t, ht, by rw [hheld, Tab.get_set_same]⟩
  · obtain ⟨t, ht, x, y, z, hpai⟩ := next_linkFrame h hup hok hseq (fun b => { b with pai := b.pai.adoptNamed a })
      (PaiSt.adoptNamed_copy hr' ha' hj a)
    exact ⟨t, ht, by rw [hpai], by rw [hpai]⟩
  · obtain ⟨t, ht, x, y, z, hpai⟩ := next_linkFrame h hup hok hseq (fun b => { b with pai := b.pai.adoptEnded a n })
      (PaiSt.adoptEnded_named hr' hj hb n)
    exact ⟨t, ht, by rw [hpai]⟩

/-- R437, R438, R446: DEMOTE and the Active's health at a follower. -/
theorem follower_frames (hf : s.pai.follows = true) :
    (∀ c : Byte, ∃ t, exec (.linkDemote hdr c) s = .next t ∧ t.pai.role = .joining ∧ t.pai.adopted = false ∧ t.pai.join = .copy ∧
      t.pai.heldPages = []) ∧
    (∀ w : Word, ∃ t, exec (.linkHealth hdr w) s = .next t ∧ t.pai.partnerHealth = w ∧
      (bitOf w 0 = true → t.pai.role = .active ∧ t.pai.lastLoss = 3) ∧ (bitOf w 0 = false → t.pai.role = s.pai.role)) := by
  have hf' : (s.pai.received hdr).follows = true := hf
  refine ⟨fun c => ?_, fun w => ?_⟩
  · obtain ⟨t, ht, x, y, z, hpai⟩ := next_linkFrame h hup hok hseq (fun a => a.withPai a.pai.demoted) (State.withPai_pai _ _)
    have hd : (s.pai.received hdr).demoted = (s.pai.received hdr).abandon 6 true := if_pos hf'
    refine ⟨t, ht, ?_⟩
    rw [hpai]
    dsimp only
    rw [hd]
    exact PaiSt.abandon_resume _ 6
  · obtain ⟨t, ht, x, y, z, hpai⟩ := next_linkFrame h hup hok hseq (fun a => a.partnerLost (a.pai.healthFrame w a.beatNo))
      (State.partnerLost_pai _ _)
    refine ⟨t, ht, ?_⟩
    rw [hpai]
    dsimp only
    cases hb : bitOf w 0 with
    | true =>
      rw [PaiSt.healthFrame_loss hf' hb]
      exact ⟨rfl, fun _ => ⟨rfl, rfl⟩, fun hc => absurd hc.symm Bool.false_ne_true⟩
    | false =>
      rw [PaiSt.healthFrame_sound hb]
      exact ⟨rfl, fun hc => absurd hc Bool.false_ne_true, fun _ => rfl⟩
end

/-! Adoption, proving and the commands of the pair. -/

section
variable {s : State}

/-- R444, R446: the deadline of the adoption beat. -/
theorem adoptionDeadline_adopts {a : Long} (he : s.exchanging = true) (hr : s.pai.role = .joining) (hj : s.pai.join = .adopting)
    (hb : s.pai.adoptBeat = some a) (hn : s.beat.n.toNat = a.toNat + 1) :
    ∃ t, exec .adoptionDeadline s = .next t ∧
      (∀ n, s.pai.adoptEnd = some (a, n) →
        t.pai.joins = s.pai.joins + 1 ∧ t.pai.partner = some .active ∧
          (s.pai.kind = 1 → t.pai.role = .joining ∧ t.pai.adopted = true ∧ t.pai.join = .checking) ∧
          (s.pai.kind ≠ 1 → t.pai.role = .shadow ∧ t.pai.join = .proving)) ∧
      (s.pai.adoptEnd = none → t.pai.role = .joining ∧ t.pai.adopted = false ∧ t.pai.join = .copy ∧ t.est = s.est) := by
  have hne : ¬ (!s.exchanging) = true := by simp [he]
  refine ⟨_, congrArg Host.Outcome.next (if_neg hne), fun n hend => ?_, fun hend => ?_⟩
  · obtain ⟨hjoins, hpartner, hnormal, hother⟩ := PaiSt.adoptDone_role (s.setPairDom s.heldState).pai s.beat.boundary
    rw [if_pos (PaiSt.adoptsNow_whole hr hj hb hend hn : s.pai.adoptsNow s.beatNo = true), State.withPai_pai]
    exact ⟨hjoins, hpartner, fun hk => ⟨(hnormal hk).1.trans hr, (hnormal hk).2⟩, hother⟩
  · obtain ⟨hnow, hmissed⟩ := PaiSt.adoptMissed_late hr hj hb hend (n := s.beatNo) hn
    obtain ⟨hrole, hadopted, hjoin, -⟩ := s.pai.abandon_resume 2
    rw [if_neg (Bool.eq_false_iff.mp hnow), if_pos hmissed, State.withPai_pai, State.withPai_est]
    exact ⟨hrole, hadopted, hjoin, rfl⟩

/-- R447: a clean proving period sets PROVED. -/
theorem provingComplete_proves (hr : s.pai.role = .shadow) (hp : s.pai.proved = false) :
    ∃ t, exec .provingComplete s = .next t ∧
      (1 ≤ s.pairCfg.proveRounds.toNat → s.pairCfg.proveRounds.toNat ≤ s.pai.proveDone → t.pai.proved = true ∧ t.pai.join = .none) ∧
      (s.pai.proveDone < s.pairCfg.proveRounds.toNat → t.pai = s.pai) := by
  refine ⟨_, rfl, fun h1 hle => ?_, fun hlt => ?_⟩
  · have h0 : s.pairCfg.proveRounds ≠ 0 := fun hz => absurd h1 (by rw [hz]; decide)
    rw [State.withPai_pai, PaiSt.proveEnd_proved hr hp h0 hle]
    exact ⟨rfl, rfl⟩
  · rw [State.withPai_pai, PaiSt.proveEnd_early hlt]

/-- A union command in its turn leaves the pair block and the image block that its judgement left, and is answered. -/
theorem State.unionCmd_pair {s' : State} {h : HostRef} (ht : s.unionTurn h) {f : State → CmdR} {st : Half} {d : Word}
    (hf : f (s.taken h) = (s', st, d)) (op : Half) :
    (s.unionCmd h op f).pai = s'.pai ∧ (s.unionCmd h op f).img = s'.img ∧ (h ∈ s'.hst.heard → (s.unionCmd h op f).lastAnswer st d) := by
  refine ⟨?_, ?_, (State.unionCmd_judged ht hf op).2⟩ <;> rw [State.unionCmd_turn ht, ← State.taken, hf]

section
variable {h : HostRef} (ht : s.unionTurn h)
include ht

/-- R448: a Solo device refuses SWAP and DEMOTE. -/
theorem pairCommands_solo (hr : s.pai.role = .solo) :
    (∃ t, exec (.pairSwap h) s = .next t ∧ t.pai = s.pai ∧ (h ∈ s.hst.heard → t.lastAnswer stRefused 0x00000E0B)) ∧
    ∃ t, exec (.pairDemote h) s = .next t ∧ t.pai = s.pai ∧ (h ∈ s.hst.heard → t.lastAnswer stRefused 0x00000E0B) := by
  have hswap : ¬ (s.taken h).pai.swapOk = true := by simp [PaiSt.swapOk, State.taken, hr]
  have hdemote : ¬ (s.taken h).pai.demoteOk = true := by simp [PaiSt.demoteOk, PaiSt.follows, State.taken, hr]
  obtain ⟨hp1, -, ha1⟩ := State.unionCmd_pair (f := fun a =>
    if a.pai.swapOk then applied { a with pai := { a.pai with swap := some a.beat.n } } else a.refusePair) ht (if_neg hswap) opPairCmd
  obtain ⟨hp2, -, ha2⟩ := State.unionCmd_pair (f := fun a =>
    if a.pai.demoteOk then applied (a.withPai (a.pai.sendDemote a.beatNo)) else a.refusePair) ht (if_neg hdemote) opPairCmd
  rw [State.raise_pai] at hp1 hp2
  rw [State.raise_hst] at ha1 ha2
  exact ⟨⟨_, rfl, hp1, ha1⟩, ⟨_, rfl, hp2, ha2⟩⟩

/-- R448, R449: the Active of a Standby partner marks a swap's beat, and demotes. -/
theorem pairCommands_active (hr : s.pai.role = .active) (hp : s.pai.partner = some .standby) :
    (∃ t, exec (.pairSwap h) s = .next t ∧ t.pai = { s.pai with swap := some s.beat.n } ∧ (h ∈ s.hst.heard → t.lastAnswer stApplied 0)) ∧
    ∃ t, exec (.pairDemote h) s = .next t ∧ t.pai.role = .active ∧ t.pai.partner = some .joining ∧ t.pai.join = .copy ∧
      t.pai.partnerAdopted = false := by
  have hswap : (s.taken h).pai.swapOk = true := by simp [PaiSt.swapOk, State.taken, hr, hp]
  have hdemote : (s.taken h).pai.demoteOk = true := by simp [PaiSt.demoteOk, PaiSt.inPair, State.taken, hr, hp]
  obtain ⟨hp1, -, ha1⟩ := State.unionCmd_pair (f := fun a =>
    if a.pai.swapOk then applied { a with pai := { a.pai with swap := some a.beat.n } } else a.refusePair) ht (if_pos hswap) opPairCmd
  obtain ⟨hp2, -, -⟩ := State.unionCmd_pair (f := fun a =>
    if a.pai.demoteOk then applied (a.withPai (a.pai.sendDemote a.beatNo)) else a.refusePair) ht (if_pos hdemote) opPairCmd
  refine ⟨⟨_, rfl, hp1, ha1⟩, ⟨_, rfl, ?_⟩⟩
  rw [hp2, State.withPai_pai]
  exact PaiSt.sendDemote_active _ hr

/-- R112, R448: JOIN_BLOCK is a runtime change and stands until JOIN_ALLOW. -/
theorem joinBlock_joinAllow :
    (∃ t, exec (.joinBlock h) s = .next t ∧ t.pai = { s.pai with joinBlock := true } ∧ t.img.changes.regions = s.img.changes.regions + 1) ∧
    ∃ t, exec (.joinAllow h) s = .next t ∧ t.pai = { s.pai with joinBlock := false } ∧ t.img = s.img := by
  obtain ⟨hp1, hi1, -⟩ := State.unionCmd_pair
    (f := fun a => applied (({ a with pai := { a.pai with joinBlock := true } } : State).countRegion 1)) ht rfl opPairCmd
  obtain ⟨hp2, hi2, -⟩ := State.unionCmd_pair (f := fun a => applied { a with pai := { a.pai with joinBlock := false } }) ht rfl opPairCmd
  exact ⟨⟨_, rfl, hp1, congrArg (fun i => i.changes.regions) hi1⟩, ⟨_, rfl, hp2, hi2⟩⟩
end

section
variable {c : Long} (he : s.exchanging = true) (hn : s.beat.n.toNat = c.toNat + 1)
include he hn

/-- R437, R449: at 980 µs. -/
theorem activeClaimStop_stops (hr : s.pai.role = .active) (ht : s.pai.toggling = true)
    (hs : s.pai.swap = some c ∨ (s.pai.swap = none ∧ s.pai.takeoverReq = true)) :
    ∃ t, exec .activeClaimStop s = .next t ∧ t.pai.toggling = false ∧ t.pai.flags.getLsbD 1 = true ∧
      t.pai.role = (if s.pai.swap = some c then .active else .joining) := by
  refine ⟨_, congrArg Host.Outcome.next (if_pos he), ?_⟩
  rw [State.withPai_pai]
  rcases hs with hs | ⟨hs, hq⟩
  · rw [PaiSt.activeStop_swap (n := s.beatNo) hr ht hs hn, if_pos hs]
    exact ⟨rfl, setBit_getLsbD_same _ (by decide), hr⟩
  · obtain ⟨htog, -, hflag, hjoin, -⟩ := s.pai.withdraw_role 3
    rw [PaiSt.activeStop_request (n := s.beatNo) hr ht hs hq, if_neg (by simp [hs])]
    exact ⟨htog, hflag, (hjoin (Or.inr hr)).1⟩

/-- R449: at 990 µs. -/
theorem swapClaim_starts (τ : Nat) (hf : s.pai.follows = true) (hs : s.pai.swap = some c) :
    ∃ t, exec (.swapClaim τ) s = .next t ∧ t.pai.role = s.pai.role ∧
      (s.pai.claimed τ = false → t.pai.toggling = true ∧ t.pai.swap = some c) ∧
      (s.pai.claimed τ = true → t.pai.toggling = s.pai.toggling ∧ t.pai.swap = none) := by
  refine ⟨(s.reach τ).withPai (s.pai.swapClaim s.beatNo τ), congrArg Host.Outcome.next (if_pos he), ?_⟩
  rw [State.withPai_pai]
  cases hc : s.pai.claimed τ with
  | true =>
    rw [PaiSt.swapClaim_claimed (n := s.beatNo) τ hf hs hn hc]
    exact ⟨rfl, fun h => absurd h.symm Bool.false_ne_true, fun _ => ⟨rfl, rfl⟩⟩
  | false =>
    rw [PaiSt.swapClaim_free (n := s.beatNo) τ hf hs hn hc]
    exact ⟨rfl, fun _ => ⟨rfl, hs⟩, fun h => absurd h Bool.false_ne_true⟩
end
end

/-- Settles O51: the join's frames, its deadline and proving, then the commands of the pair and the swap's instants. -/
theorem pairJoins : Obligations.PairJoins := by
  unfold Obligations.PairJoins
  refine fun s h => ⟨fun hdr hup hok hseq => ⟨joinReq_solo h hup hok hseq, joiner_frames h hup hok hseq, follower_frames h hup hok hseq⟩,
    fun a => adoptionDeadline_adopts, provingComplete_proves, fun r ht => ⟨pairCommands_solo ht, pairCommands_active ht, joinBlock_joinAllow ht⟩,
    fun c he hn => ⟨activeClaimStop_stops he hn, fun τ => swapClaim_starts he hn τ⟩⟩

/-! The exchange of a beat (R429, R430, R432 to R434, R438, R439, R441, R447). -/

/-! A TOKEN (R433, R438, R446). -/

@[simp] theorem State.measure_pai (s : State) (src : TimeSource) (theta : Int) (atOnce : Bool) : (s.measure src theta atOnce).pai = s.pai := by
  simp [State.measure]

/-- `q` holds what `p` holds of the partner's last frame. -/
structure PaiSt.SameWord (p q : PaiSt) : Prop where
  rxSeq : q.rxSeq = p.rxSeq
  partnerRole : q.partnerRole = p.partnerRole
  partnerHealth : q.partnerHealth = p.partnerHealth
  theta : q.theta = p.theta

theorem PaiSt.SameWord.refl (p : PaiSt) : p.SameWord p := ⟨rfl, rfl, rfl, rfl⟩

theorem PaiSt.SameWord.trans {p q r : PaiSt} (h1 : p.SameWord q) (h2 : q.SameWord r) : p.SameWord r :=
  ⟨h2.rxSeq.trans h1.rxSeq, h2.partnerRole.trans h1.partnerRole, h2.partnerHealth.trans h1.partnerHealth, h2.theta.trans h1.theta⟩

theorem PaiSt.followJoiner_sameWord (p : PaiSt) (t : Token) (n : Nat) : p.SameWord (p.followJoiner t n).1 := by
  unfold PaiSt.followJoiner
  split
  · exact ⟨rfl, rfl, rfl, rfl⟩
  · split
    · exact ⟨rfl, rfl, rfl, rfl⟩
    · exact .refl p

theorem PaiSt.lost_sameWord (p : PaiSt) (cause n : Nat) : p.SameWord (p.lost cause n).1 := by
  unfold PaiSt.lost
  split
  · exact ⟨rfl, rfl, rfl, rfl⟩
  · split
    · exact ⟨rfl, rfl, rfl, rfl⟩
    · exact .refl p

theorem PaiSt.withdraw_sameWord (p : PaiSt) (cause : Nat) : p.SameWord (p.withdraw cause).1 := by
  unfold PaiSt.withdraw
  dsimp only
  split <;> exact ⟨rfl, rfl, rfl, rfl⟩

theorem PaiSt.alignBeat_sameWord (p : PaiSt) (cfg : PairTable) : p.SameWord (p.alignBeat cfg).1 := by
  unfold PaiSt.alignBeat
  split
  · split
    · split <;> exact ⟨rfl, rfl, rfl, rfl⟩
    · exact ⟨rfl, rfl, rfl, rfl⟩
  · exact .refl p

/-- The block that has noted a TOKEN's word and measured its offset, before it acts on it. -/
def PaiSt.noted (p : PaiSt) (t : Token) (n now : Nat) : PaiSt :=
  let q := { p with
    theta := tokenTheta t now, delay := tokenDelay t now, tokenLast := some (t, now), partnerRole := t.role, partnerHealth := t.health
    tokenNow := if t.beat.toNat = n then some (t, now) else p.tokenNow }
  if t.echoTx = 0 then { q with theta := p.theta, delay := p.delay } else q

theorem PaiSt.noted_word (p : PaiSt) (t : Token) (n now : Nat) :
    (p.noted t n now).rxSeq = p.rxSeq ∧ (p.noted t n now).partnerRole = t.role ∧ (p.noted t n now).partnerHealth = t.health ∧
      (t.echoTx ≠ 0 → (p.noted t n now).theta = tokenTheta t now) ∧ (p.noted t n now).role = p.role ∧
      (p.noted t n now).follows = p.follows := by
  unfold PaiSt.noted
  dsimp only
  split
  · next h => exact ⟨rfl, rfl, rfl, fun hne => absurd h hne, rfl, rfl⟩
  · exact ⟨rfl, rfl, rfl, fun _ => rfl, rfl, rfl⟩

/-- The block that has followed its joiner after a TOKEN's word (R442 to R447). -/
def PaiSt.afterWord (p : PaiSt) (t : Token) (n now : Nat) : PaiSt :=
  let f := (p.noted t n now).followJoiner t n
  if f.1.role = .active ∧ f.1.partner = some .shadow ∧ healthBad t.health then { f.1 with roundClean := false } else f.1

/-- A TOKEN is acted on by its word: a takeover asked for, a claim to withdraw, or nothing more. -/
theorem PaiSt.token_eq (p : PaiSt) (t : Token) (n now : Nat) :
    p.token t n now =
      (let q := p.afterWord t n now
       let ev := ((p.noted t n now).followJoiner t n).2
       if q.follows ∧ bitOf t.health 0 then q.lost 3 n
       else if t.gateOpen ∧ t.beat.toNat = n ∧ q.gate now ∧ q.sideB ∧ t.sideB ≠ q.sideB then ((q.withdraw 2).1, ev ++ (q.withdraw 2).2)
       else (q, ev)) := rfl

theorem PaiSt.afterWord_sameWord (p : PaiSt) (t : Token) (n now : Nat) : (p.noted t n now).SameWord (p.afterWord t n now) := by
  have hf := (p.noted t n now).followJoiner_sameWord t n
  unfold PaiSt.afterWord
  dsimp only
  split
  · exact ⟨hf.rxSeq, hf.partnerRole, hf.partnerHealth, hf.theta⟩
  · exact hf

/-- Whatever a TOKEN leads to, its word stays noted. -/
theorem PaiSt.token_sameWord (p : PaiSt) (t : Token) (n now : Nat) : (p.noted t n now).SameWord (p.token t n now).1 := by
  refine (p.afterWord_sameWord t n now).trans ?_
  rw [PaiSt.token_eq]
  dsimp only
  split
  · exact PaiSt.lost_sameWord _ 3 n
  · split
    · exact PaiSt.withdraw_sameWord _ 2
    · exact .refl _

/-- A follower whose partner asks for takeover takes over (R438). -/
theorem PaiSt.token_takeover {p : PaiSt} (hf : p.follows = true) {t : Token} (ht : bitOf t.health 0 = true) (n now : Nat) :
    p.token t n now = (p.noted t n now).takeOver 3 n := by
  obtain ⟨-, -, -, -, hrole, hfol⟩ := p.noted_word t n now
  have hfol' : (p.noted t n now).follows = true := hfol.trans hf
  have hna : (p.noted t n now).role ≠ .active := (PaiSt.follows_role hfol').2.1
  have hfj : (p.noted t n now).followJoiner t n = (p.noted t n now, []) :=
    (if_neg (fun h => hna h.1)).trans (if_neg (fun h => hna h.1))
  have hafter : p.afterWord t n now = p.noted t n now := by
    unfold PaiSt.afterWord
    rw [hfj]
    exact if_neg (fun h => hna h.1)
  rw [PaiSt.token_eq, hafter]
  exact (if_pos ⟨hfol', ht⟩).trans (if_pos hfol')

/-- The offset is the mean of the two differences, to the nearest. -/
theorem tokenTheta_half (t : Token) (now : Nat) :
    (2 * tokenTheta t now - ((t.echoRx.toNat - t.echoTx.toNat : Int) + (t.txTime.toNat - now : Int))).natAbs ≤ 1 := by
  unfold tokenTheta rndDiv
  generalize (t.echoRx.toNat - t.echoTx.toNat : Int) + (t.txTime.toNat - now : Int) = a
  rw [if_neg (by decide)]
  split <;> push_cast <;> omega

/-! INCLUDE and COMMIT (R432, R438, R439). -/

/-- The cause that keeps the partner out of the union at 60 µs: 0 none, 1 no TOKEN in time, 2 a TOKEN that does not agree. -/
def PaiSt.outCause (p : PaiSt) (edge : Nat) : Nat :=
  match p.tokenNow with
  | none => 1
  | some (t, at_) => if edge + 60000 < at_ then 1 else if p.tokenAgrees t then 0 else 2

theorem PaiSt.outCause_none {p : PaiSt} (h : p.tokenNow = none) (edge : Nat) : p.outCause edge = 1 := by rw [PaiSt.outCause, h]

theorem PaiSt.outCause_agrees {p : PaiSt} {t : Token} {now edge : Nat} (ht : p.tokenNow = some (t, now)) (hle : now ≤ edge + 60000)
    (hag : p.tokenAgrees t = true) : p.outCause edge = 0 := by
  rw [PaiSt.outCause, ht]
  exact (if_neg (Nat.not_lt.mpr hle)).trans (if_pos hag)

/-- The block that has decided INCLUDE and sent COMMIT. -/
def PaiSt.committed (p : PaiSt) (n edge : Nat) : PaiSt :=
  let incl := p.inPair && decide (p.outCause edge = 0)
  let check : Word := match p.tokenNow with | some (t, _) => if incl then t.setCheck else 0 | none => 0
  ({ p with included := incl } : PaiSt).send n (.commit (BitVec.ofNat 64 n) incl check)

theorem PaiSt.committed_sends (p : PaiSt) (n edge : Nat) :
    ({ p with included := p.inPair && decide (p.outCause edge = 0) } : PaiSt).Sends (p.committed n edge) := PaiSt.send_sends _ _ _

/-- One more exclusion of the partner. -/
def PaiSt.excludedOnce (q : PaiSt) : PaiSt := { q.flag 2 with excluded := q.excluded + 1, exclRun := q.exclRun + 1, exclNow := true }

/-- The partner sent back to its copy. -/
def PaiSt.sendsBack (q : PaiSt) (n : Nat) : PaiSt :=
  { (q.send n (.demote 1)).allDirty with partner := some .joining, partnerAdopted := false, join := .copy, exclRun := 0, swap := none }

section
variable {p : PaiSt} {cfg : PairTable} {n edge : Nat} (hr : p.role = .active) (hin : p.inPair = true)
include hr hin

/-- What the Active decides at 60 µs. -/
theorem PaiSt.decide_active : (p.decide_ cfg n edge).1 =
    if p.outCause edge = 0 then { p.committed n edge with exclRun := 0 }
    else if cfg.exclLimit.toNat ≤ (p.committed n edge).excludedOnce.exclRun.toNat then (p.committed n edge).excludedOnce.sendsBack n
    else (p.committed n edge).excludedOnce := by
  have h0 : p.decide_ cfg n edge =
      if !p.inPair ∨ (p.inPair && decide (p.outCause edge = 0)) then ({ p.committed n edge with exclRun := 0 }, [])
      else if cfg.exclLimit.toNat ≤ (p.committed n edge).excludedOnce.exclRun.toNat then
        ((p.committed n edge).excludedOnce.sendsBack n, [(0x0E04, [wordN n, wordN (p.outCause edge)])] ++ p.swapCancelled .active)
      else ((p.committed n edge).excludedOnce, [(0x0E04, [wordN n, wordN (p.outCause edge)])]) := if_neg (not_not.mpr hr)
  rw [h0, hin]
  by_cases hc : p.outCause edge = 0
  · rw [if_pos hc, if_pos (Or.inr (by simp [hc]))]
  · rw [if_neg hc, if_neg (by simp [hc])]
    split <;> rfl

/-- A partner whose TOKEN came in time and agrees is included. -/
theorem PaiSt.decide_included {t : Token} {now : Nat} (ht : p.tokenNow = some (t, now)) (hle : now ≤ edge + 60000)
    (hag : p.tokenAgrees t = true) :
    let q := (p.decide_ cfg n edge).1
    q.included = true ∧ q.exclRun = 0 ∧ q.excluded = p.excluded ∧ q.partner = p.partner := by
  have hc := PaiSt.outCause_agrees ht hle hag
  obtain ⟨a, b, u, hs⟩ := p.committed_sends n edge
  rw [PaiSt.decide_active hr hin, if_pos hc, hs]
  exact ⟨by simp [hin, hc], rfl, rfl, rfl⟩

/-- A partner without a TOKEN is counted excluded, and sent back to its copy at the limit. -/
theorem PaiSt.decide_missing (ht : p.tokenNow = none) :
    let q := (p.decide_ cfg n edge).1
    q.included = false ∧ q.excluded = p.excluded + 1 ∧ q.flags.getLsbD 2 = true ∧
      ((p.exclRun + 1).toNat < cfg.exclLimit.toNat → q.exclRun = p.exclRun + 1 ∧ q.partner = p.partner) ∧
      (cfg.exclLimit.toNat ≤ (p.exclRun + 1).toNat → q.partner = some .joining ∧ q.partnerAdopted = false ∧ q.join = .copy) := by
  have hc : ¬ p.outCause edge = 0 := by
    rw [PaiSt.outCause_none ht]
    decide
  have hincl : (p.inPair && decide (p.outCause edge = 0)) = false := by simp [hc]
  have hflag : (setBit p.flags 2).getLsbD 2 = true := setBit_getLsbD_same _ (by decide)
  obtain ⟨a, b, u, hs⟩ := p.committed_sends n edge
  rw [PaiSt.decide_active hr hin, if_neg hc, hs]
  split
  · next hle =>
    obtain ⟨a', b', u', hs'⟩ := PaiSt.send_sends (PaiSt.excludedOnce { p with
      included := p.inPair && decide (p.outCause edge = 0), txSeq := a, sentBytes := b, unacked := u }) n (.demote 1)
    rw [PaiSt.sendsBack, hs']
    exact ⟨hincl, rfl, hflag, fun hlt => absurd hle (Nat.not_le.mpr hlt), fun _ => ⟨rfl, rfl, rfl⟩⟩
  · next hlt => exact ⟨hincl, rfl, hflag, fun _ => ⟨rfl, rfl⟩, fun hle => absurd hle hlt⟩

/-- The decision leaves the role. -/
theorem PaiSt.decide_role : (p.decide_ cfg n edge).1.role = .active := by
  obtain ⟨a, b, u, hs⟩ := p.committed_sends n edge
  rw [PaiSt.decide_active hr hin, hs]
  split
  · exact hr
  · split
    · obtain ⟨a', b', u', hs'⟩ := PaiSt.send_sends (PaiSt.excludedOnce { p with
        included := p.inPair && decide (p.outCause edge = 0), txSeq := a, sentBytes := b, unacked := u }) n (.demote 1)
      rw [PaiSt.sendsBack, hs']
      exact hr
    · exact hr
end

/-- A follower that holds its COMMIT in time goes on (R438). -/
theorem PaiSt.commitDeadline_inTime {p : PaiSt} {n edge now : Nat} {t : Token} {c : Bool × Word} (ht : p.tokenNow = some (t, now))
    (hle : now ≤ edge + 90000) (hc : p.commitNow = some c) : p.commitDeadline n edge = (p, []) := by
  simp [PaiSt.commitDeadline, ht, hc, Nat.not_lt.mpr hle]

/-- One with no COMMIT takes over and uses its own set (R438, R439). -/
theorem PaiSt.commitDeadline_missing {p : PaiSt} {n edge : Nat} (hf : p.follows = true) (hc : p.commitNow = none) :
    p.commitDeadline n edge = p.takeOver 2 n := by
  have hlost : p.commitDeadline n edge = p.lost 2 n := if_pos ⟨hf, Or.inr (by simp [hc])⟩
  rw [hlost, PaiSt.lost_follows 2 n hf]

theorem PaiSt.takeOver_setsUsed {p : PaiSt} (hc : p.commitNow = none) (cause n : Nat) : (p.takeOver cause n).1.setsUsed = (true, false) := by
  have hcom : (p.takeOver cause n).1.commitNow = none := hc
  have htake : ((p.takeOver cause n).1.follows || (decide ((p.takeOver cause n).1.role = .active) &&
      decide ((p.takeOver cause n).1.claimNext = .takeover))) = true := by simp [PaiSt.takeOver]
  unfold PaiSt.setsUsed
  rw [if_pos htake, hcom]

/-! Signatures (R434, R441, R447). -/

theorem PaiSt.askTakeover_sends (p : PaiSt) (n : Nat) :
    ({ p with takeoverReq := true, health := setBit p.health 0 } : PaiSt).Sends (p.askTakeover n) := PaiSt.send_sends _ _ _

/-- Is the fault the Active's alone, as this device knows the two healths? -/
def PaiSt.activeAtFault (p : PaiSt) : Bool :=
  if p.role = .active then healthBad p.health && !healthBad p.partnerHealth else healthBad p.partnerHealth && !healthBad p.health

/-- The block that has counted a mismatch. -/
def PaiSt.mismatched (p : PaiSt) : PaiSt := { p.flag 3 with mismatches := p.mismatches + 1, sigMiss := 0 }

section
variable {p : PaiSt} (n : Nat) (a b : Long)

theorem PaiSt.mismatch_active (hr : p.role = .active) :
    (p.mismatch n a b).1 = if p.activeAtFault then p.mismatched.askTakeover n
      else { p.mismatched.allDirty with partner := some .joining, partnerAdopted := false, join := .copy, swap := none } := by
  have h0 : p.mismatch n a b = if p.activeAtFault then (p.mismatched.askTakeover n, [(0x0E05, [wordN n, lowOf a, lowOf b])])
      else ({ p.mismatched.allDirty with partner := some .joining, partnerAdopted := false, join := .copy, swap := none },
        [(0x0E05, [wordN n, lowOf a, lowOf b])] ++ p.swapCancelled .active) := if_pos hr
  rw [h0]
  split <;> rfl

theorem PaiSt.mismatch_follower (hr : p.role ≠ .active) :
    (p.mismatch n a b).1 = if p.activeAtFault then p.mismatched
      else if p.role = .joining then (p.mismatched.abandon 1 true).1
      else { p.mismatched.flag 5 with toJoining := true, swap := none } := by
  have h0 : p.mismatch n a b = if p.activeAtFault then (p.mismatched, [(0x0E05, [wordN n, lowOf a, lowOf b])])
      else if p.role = .joining then ((p.mismatched.abandon 1 true).1, [(0x0E05, [wordN n, lowOf a, lowOf b])] ++ (p.mismatched.abandon 1 true).2)
      else ({ p.mismatched.flag 5 with toJoining := true, swap := none },
        [(0x0E05, [wordN n, lowOf a, lowOf b])] ++ (0x0E0A, [1]) :: p.swapCancelled .joining) := if_neg hr
  rw [h0]
  split
  · rfl
  · split <;> rfl

/-- A Standby that differs goes to Joining next, unless the Active alone is at fault (R441). -/
theorem PaiSt.mismatch_standby (hr : p.role = .standby) (hj : p.toJoining = false) :
    let q := (p.mismatch n a b).1
    q.mismatches = p.mismatches + 1 ∧ q.flags.getLsbD 3 = true ∧
      (q.toJoining = true ↔ ¬(healthBad p.partnerHealth = true ∧ healthBad p.health = false)) := by
  have hflag : (setBit p.flags 3).getLsbD 3 = true := setBit_getLsbD_same _ (by decide)
  have hfault : p.activeAtFault = true ↔ healthBad p.partnerHealth = true ∧ healthBad p.health = false := by simp [PaiSt.activeAtFault, hr]
  rw [PaiSt.mismatch_follower n a b (by rw [hr]; decide)]
  split
  · next hc => exact ⟨rfl, hflag, fun ht => absurd (hj.symm.trans ht) Bool.false_ne_true, fun hn => absurd (hfault.mp hc) hn⟩
  · next hc =>
    rw [if_neg (by rw [hr]; decide)]
    exact ⟨rfl, setBit_getLsbD_keep hflag 5, fun _ hn => hc (hfault.mpr hn), fun _ => rfl⟩

/-- An Active at fault asks for takeover, another sends its partner back to its copy (R437, R441). -/
theorem PaiSt.mismatch_partner (hr : p.role = .active) (hp : p.partner = some .standby) :
    let q := (p.mismatch n a b).1
    q.mismatches = p.mismatches + 1 ∧
      (healthBad p.health = true → healthBad p.partnerHealth = false → q.takeoverReq = true ∧ q.partner = some .standby) ∧
      (healthBad p.health = false → q.partner = some .joining ∧ q.join = .copy) := by
  have hfault : p.activeAtFault = true ↔ healthBad p.health = true ∧ healthBad p.partnerHealth = false := by simp [PaiSt.activeAtFault, hr]
  rw [PaiSt.mismatch_active n a b hr]
  split
  · next hc =>
    obtain ⟨x, y, z, hs⟩ := p.mismatched.askTakeover_sends n
    rw [hs]
    exact ⟨rfl, fun _ _ => ⟨rfl, hp⟩, fun h0 => absurd (h0.symm.trans (hfault.mp hc).1) Bool.false_ne_true⟩
  · next hc => exact ⟨rfl, fun h1 h2 => absurd (hfault.mpr ⟨h1, h2⟩) hc, fun _ => ⟨rfl, rfl⟩⟩

/-- A mismatch leaves the role of the beat. -/
theorem PaiSt.mismatch_role (p : PaiSt) : (p.mismatch n a b).1.role = p.role := by
  by_cases hr : p.role = .active
  · rw [PaiSt.mismatch_active n a b hr]
    split
    · obtain ⟨x, y, z, hs⟩ := p.mismatched.askTakeover_sends n
      rw [hs]
      rfl
    · rfl
  · rw [PaiSt.mismatch_follower n a b hr]
    split
    · rfl
    · split
      · next hj => exact hj.symm
      · rfl
end

section
variable {p : PaiSt} {cfg : PairTable} {n : Nat} {a b : Long} (ha : p.sigOwn = some a) (hb : p.sigPartner = some b)
include ha hb

theorem PaiSt.compare_eq : p.compare cfg n =
    if p.role = .shadow then ({ p with shadowDiff := if a = b then p.shadowDiff else p.shadowDiff + 1 }, [])
    else if !p.compares then (p, [])
    else if a = b then ({ p with sigMiss := 0 }, [])
    else p.mismatch n a b := by
  unfold PaiSt.compare
  split
  · next x y hx hy =>
    obtain rfl := Option.some.inj (hx.symm.trans ha)
    obtain rfl := Option.some.inj (hy.symm.trans hb)
    rfl
  · next hx => cases hx.symm.trans hb
  · next hx _ => cases hx.symm.trans ha

theorem PaiSt.compare_equal (hab : a = b) :
    let q := (p.compare cfg n).1
    q.mismatches = p.mismatches ∧ q.shadowDiff = p.shadowDiff ∧ q.toJoining = p.toJoining := by
  rw [PaiSt.compare_eq ha hb]
  by_cases hr : p.role = .shadow
  · rw [if_pos hr, if_pos hab]
    exact ⟨rfl, rfl, rfl⟩
  · rw [if_neg hr, if_pos hab]
    split <;> exact ⟨rfl, rfl, rfl⟩

theorem PaiSt.compare_shadow (hab : a ≠ b) (hr : p.role = .shadow) : (p.compare cfg n).1 = { p with shadowDiff := p.shadowDiff + 1 } := by
  rw [PaiSt.compare_eq ha hb, if_pos hr, if_neg hab]

theorem PaiSt.compare_differ (hab : a ≠ b) (hr : p.role ≠ .shadow) (hc : p.compares = true) : p.compare cfg n = p.mismatch n a b := by
  rw [PaiSt.compare_eq ha hb, if_neg hr, if_neg (by simp [hc]), if_neg hab]

theorem PaiSt.compare_role : (p.compare cfg n).1.role = p.role := by
  rw [PaiSt.compare_eq ha hb]
  split
  · rfl
  · split
    · rfl
    · split
      · rfl
      · exact p.mismatch_role n a b
end

/-! The commands. -/

/-- What the device does with a TOKEN: its word, the offset it measures and the alignment of an adopted joiner. -/
def State.takeToken (s : State) (token : Token) (τ : Nat) : State :=
  let b := s.reach τ
  let c := b.partnerLost (b.pai.token token b.beatNo τ)
  let d := if token.echoTx ≠ 0 ∧ c.partnerOk then c.measure .partner c.pai.theta true else c
  if token.beat = d.beat.n then d.withPai (d.pai.alignBeat d.pairCfg) else d

theorem State.takeToken_pai (s : State) (token : Token) (τ : Nat) :
    (s.takeToken token τ).pai = (s.pai.token token s.beatNo τ).1 ∨
      ∃ cfg, (s.takeToken token τ).pai = ((s.pai.token token s.beatNo τ).1.alignBeat cfg).1 := by
  unfold State.takeToken
  extract_lets b c d
  have hc : c.pai = (s.pai.token token s.beatNo τ).1 := State.partnerLost_pai _ _
  have hd : d.pai = c.pai := by
    simp only [d]
    split
    · exact State.measure_pai _ _ _ _
    · rfl
  split
  · rw [State.withPai_pai, hd, hc]
    exact Or.inr ⟨_, rfl⟩
  · exact Or.inl (hd.trans hc)

section
variable {s : State} (h : s.awake = true) (hdr : LinkHdr)
include h

/-- R429: IDLE's acknowledgement alone counts. -/
theorem linkIdle_acknowledges :
    ∃ t, exec (.linkIdle hdr) s = .next t ∧ t = { s with pai := t.pai } ∧ t.pai.role = s.pai.role ∧
      (s.pai.link ≠ .up → t.pai = s.pai) ∧
      (s.pai.link = .up → hdr.ok = false → t.pai = { s.pai with linkCrc := s.pai.linkCrc + 1 }) ∧
      (s.pai.link = .up → hdr.ok = true → hdr.seq ≠ s.pai.rxSeq + 1 → t.pai = s.pai) ∧
      (s.pai.link = .up → hdr.ok = true → hdr.seq = s.pai.rxSeq + 1 → t.pai.rxSeq = hdr.seq ∧ ∀ r ∈ t.pai.unacked, r ∈ s.pai.unacked) := by
  have hrole : (s.pai.accept hdr).2.role = s.pai.role := by
    unfold PaiSt.accept
    split
    · rfl
    · split
      · rfl
      · split <;> rfl
  refine ⟨_, next_if_awake h, rfl, hrole, fun hdown => ?_, fun hup hbad => ?_, fun hup hok hseq => ?_, fun hup hok hseq => ?_⟩
  · rw [PaiSt.accept_down hdown]
  · rw [PaiSt.accept_broken hup hbad]
  · rw [PaiSt.accept_misplaced hup hok hseq]
  · rw [PaiSt.accept_inOrder hup hok hseq]
    exact ⟨rfl, fun r hr => (List.mem_filter.mp hr).1⟩

section
variable {hdr : LinkHdr} (hup : s.pai.link = .up) (hok : hdr.ok = true) (hseq : hdr.seq = s.pai.rxSeq + 1)
include hup hok hseq

/-- R430: CAPTURE adds its items under the beat it names. -/
theorem linkCapture_adds (items : List Item) :
    ∃ t, exec (.linkCapture hdr items) s = .next t ∧ t.pai.rxSeq = hdr.seq ∧
      t.pai.rxItems = s.pai.rxItems ++ items.map (fun i => (hdr.beat, i)) ∧ t.pai.role = s.pai.role := by
  obtain ⟨t, ht, a, b, u, hpai⟩ := next_linkFrame h hup hok hseq (fun a =>
    { a with pai := { a.pai with rxItems := a.pai.rxItems ++ items.map (fun (i : Item) => (hdr.beat, i)) } }) rfl
  refine ⟨t, ht, ?_⟩
  rw [hpai]
  exact ⟨rfl, rfl, rfl⟩

/-- What a TOKEN in order leaves: its own work, and the alignment of an adopted joiner. -/
theorem exec_linkToken (token : Token) (τ : Nat) :
    ∃ t, exec (.linkToken hdr token τ) s = .next t ∧ ∃ q a b u, t.pai = { q with txSeq := a, sentBytes := b, unacked := u } ∧
      (q = ((s.pai.received hdr).token token s.beatNo τ).1 ∨
        ∃ cfg, q = (((s.pai.received hdr).token token s.beatNo τ).1.alignBeat cfg).1) := by
  obtain ⟨q, ⟨a, b, u, hq⟩, he⟩ := State.linkFrame_inOrder h hup hok hseq (fun a => a.takeToken token τ)
  exact ⟨_, congrArg Host.Outcome.next he, _, a, b, u, hq, State.takeToken_pai _ token τ⟩

/-- R433, R438: a TOKEN's word and offset, and the takeover that it asks for. -/
theorem linkToken_word (token : Token) (τ : Nat) :
    ∃ t, exec (.linkToken hdr token τ) s = .next t ∧ t.pai.rxSeq = hdr.seq ∧ t.pai.partnerRole = token.role ∧
      t.pai.partnerHealth = token.health ∧
      (token.echoTx ≠ 0 →
        (2 * t.pai.theta - ((token.echoRx.toNat - token.echoTx.toNat : Int) + (token.txTime.toNat - τ : Int))).natAbs ≤ 1) ∧
      (s.pai.follows = true → bitOf token.health 0 = true → t.pai.role = .active ∧ t.pai.lastLoss = 3 ∧ t.pai.claimNext = .takeover) := by
  obtain ⟨t, ht, q, a, b, u, hpai, hq⟩ := exec_linkToken h hup hok hseq token τ
  obtain ⟨hseq', hrole, hhealth, htheta, -, -⟩ := (s.pai.received hdr).noted_word token s.beatNo τ
  have hword : ((s.pai.received hdr).noted token s.beatNo τ).SameWord q := by
    refine ((s.pai.received hdr).token_sameWord token s.beatNo τ).trans ?_
    rcases hq with rfl | ⟨cfg, rfl⟩
    · exact .refl _
    · exact PaiSt.alignBeat_sameWord _ cfg
  refine ⟨t, ht, ?_⟩
  rw [hpai]
  refine ⟨hword.rxSeq.trans hseq', hword.partnerRole.trans hrole, hword.partnerHealth.trans hhealth, fun hne => ?_, fun hf hb => ?_⟩
  · show (2 * q.theta - _).natAbs ≤ 1
    rw [hword.theta, htheta hne]
    exact tokenTheta_half token τ
  · have hf' : (s.pai.received hdr).follows = true := hf
    rw [PaiSt.token_takeover hf' hb] at hq
    rcases hq with rfl | ⟨cfg, rfl⟩
    · exact ⟨rfl, rfl, rfl⟩
    · exact ⟨rfl, rfl, rfl⟩

/-- R432: COMMIT of this beat. -/
theorem linkCommit_notes (incl : Bool) (check : Word) :
    ∃ t, exec (.linkCommit hdr s.beat.n incl check) s = .next t ∧ t.pai.commitNow = some (incl, check) ∧ t.pai.role = s.pai.role := by
  obtain ⟨t, ht, a, b, u, hpai⟩ := next_linkFrame h hup hok hseq (fun a => { a with pai := a.pai.commit s.beat.n incl check a.beatNo })
    (if_pos rfl)
  refine ⟨t, ht, ?_⟩
  rw [hpai]
  exact ⟨rfl, rfl⟩

/-- R434: SIGNATURE of this beat. -/
theorem linkSignature_notes (sig : Long) :
    ∃ t, exec (.linkSignature hdr s.beat.n sig) s = .next t ∧ t.pai.sigPartner = some sig ∧ t.pai.role = s.pai.role := by
  obtain ⟨t, ht, a, b, u, hpai⟩ := next_linkFrame h hup hok hseq (fun a =>
    if s.beat.n = a.beat.n then { a with pai := { a.pai with sigPartner := some sig } } else a) (congrArg State.pai (if_pos rfl))
  refine ⟨t, ht, ?_⟩
  rw [hpai]
  exact ⟨rfl, rfl⟩
end
end

section
variable {s : State} (he : s.exchanging = true)
include he

/-- R432: INCLUDE at 60 µs. -/
theorem tokenDeadline_decides (hr : s.pai.role = .active) (hin : s.pai.inPair = true) :
    ∃ t, exec .tokenDeadline s = .next t ∧ t.pai.role = .active ∧
      (∀ token τ, s.pai.tokenNow = some (token, τ) → τ ≤ s.edgeAt + 60000 → s.pai.tokenAgrees token = true →
        t.pai.included = true ∧ t.pai.exclRun = 0 ∧ t.pai.excluded = s.pai.excluded ∧ t.pai.partner = s.pai.partner) ∧
      (s.pai.tokenNow = none →
        t.pai.included = false ∧ t.pai.excluded = s.pai.excluded + 1 ∧ t.pai.flags.getLsbD 2 = true ∧
          ((s.pai.exclRun + 1).toNat < s.pairCfg.exclLimit.toNat → t.pai.exclRun = s.pai.exclRun + 1 ∧ t.pai.partner = s.pai.partner) ∧
          (s.pairCfg.exclLimit.toNat ≤ (s.pai.exclRun + 1).toNat → t.pai.partner = some .joining ∧ t.pai.partnerAdopted = false ∧ t.pai.join = .copy)) := by
  refine ⟨_, congrArg Host.Outcome.next (if_pos he), ?_⟩
  rw [State.withPai_pai]
  exact ⟨PaiSt.decide_role hr hin, fun token τ ht hle hag => PaiSt.decide_included hr hin ht hle hag, PaiSt.decide_missing hr hin⟩

/-- R438, R439: COMMIT's deadline. -/
theorem commitDeadline_takesOver (hf : s.pai.follows = true) :
    ∃ t, exec .commitDeadline s = .next t ∧
      (s.pai.commitNow = none → t.pai.role = .active ∧ t.pai.lastLoss = 2 ∧ t.pai.setsUsed = (true, false)) ∧
      (∀ token τ c, s.pai.tokenNow = some (token, τ) → τ ≤ s.edgeAt + 90000 → s.pai.commitNow = some c → t.pai = s.pai) := by
  refine ⟨_, congrArg Host.Outcome.next (if_pos he), ?_⟩
  rw [State.partnerLost_pai]
  refine ⟨fun hc => ?_, fun token τ c ht hle hc => ?_⟩
  · rw [PaiSt.commitDeadline_missing hf hc]
    exact ⟨rfl, rfl, PaiSt.takeOver_setsUsed hc 2 _⟩
  · rw [PaiSt.commitDeadline_inTime ht hle hc]

/-- R434, R441, R447: the signatures at 920 µs. -/
theorem signatureCompare_compares (a b : Long) (ha : s.pai.sigOwn = some a) (hb : s.pai.sigPartner = some b) :
    ∃ t, exec .signatureCompare s = .next t ∧ t.pai.role = s.pai.role ∧
      (a = b → t.pai.mismatches = s.pai.mismatches ∧ t.pai.shadowDiff = s.pai.shadowDiff ∧ t.pai.toJoining = s.pai.toJoining) ∧
      (a ≠ b → s.pai.role = .shadow → t.pai = { s.pai with shadowDiff := s.pai.shadowDiff + 1 }) ∧
      (a ≠ b → s.pai.role = .standby → s.pai.toJoining = false →
        t.pai.mismatches = s.pai.mismatches + 1 ∧ t.pai.flags.getLsbD 3 = true ∧
          (t.pai.toJoining = true ↔ ¬(healthBad s.pai.partnerHealth = true ∧ healthBad s.pai.health = false))) ∧
      (a ≠ b → s.pai.role = .active → s.pai.partner = some .standby → s.pai.toJoining = false →
        t.pai.mismatches = s.pai.mismatches + 1 ∧
          (healthBad s.pai.health = true → healthBad s.pai.partnerHealth = false → t.pai.takeoverReq = true ∧ t.pai.partner = some .standby) ∧
          (healthBad s.pai.health = false → t.pai.partner = some .joining ∧ t.pai.join = .copy)) := by
  refine ⟨_, congrArg Host.Outcome.next (if_pos he), ?_⟩
  rw [State.withPai_pai]
  refine ⟨PaiSt.compare_role ha hb, PaiSt.compare_equal ha hb, PaiSt.compare_shadow ha hb, fun hab hr hj => ?_, fun hab hr hp hj => ?_⟩
  · have hc : s.pai.compares = true := by simp [PaiSt.compares, hr, hj]
    rw [PaiSt.compare_differ ha hb hab (by rw [hr]; decide) hc]
    exact PaiSt.mismatch_standby _ a b hr hj
  · have hc : s.pai.compares = true := by simp [PaiSt.compares, hr, hj, hp]
    rw [PaiSt.compare_differ ha hb hab (by rw [hr]; decide) hc]
    exact PaiSt.mismatch_partner _ a b hr hp
end

/-- Settles O50: the frames of the exchange, then the instants at 60, 90 and 920 µs. -/
theorem pairExchange : Obligations.PairExchange := by
  unfold Obligations.PairExchange
  exact fun s h => ⟨fun hdr => ⟨linkIdle_acknowledges h hdr, fun hup hok hseq => ⟨linkCapture_adds h hup hok hseq, linkToken_word h hup hok hseq,
    linkCommit_notes h hup hok hseq, linkSignature_notes h hup hok hseq⟩⟩,
    fun he => ⟨tokenDeadline_decides he, commitDeadline_takesOver he, signatureCompare_compares he⟩⟩

end Sys2Proof.Machine
end

section
/-! SUPPORT. The recorder: admission, records, refills, the scan, held events and the window (17_event_recorder.md). -/

namespace Sys2Proof.Machine

open Sys2Proof

/-! The recorder (R481 to R489, R492). -/

/-! What the recorder keeps of a code. -/

@[simp] theorem RecSt.codeOf_setCode (r : RecSt) (code : Half) (c : CodeSt) : (r.setCode code c).codeOf code = c := Tab.get_set_same _ _ _ _

theorem RecSt.codeOf_setCode_other (r : RecSt) {code d : Half} (c : CodeSt) (h : d ≠ code) : (r.setCode code c).codeOf d = r.codeOf d :=
  Tab.get_set_other _ _ _ (fun he => h (BitVec.eq_of_toNat_eq he))

/-- An event is counted raised before it is judged (R487). -/
def RecSt.counted (r : RecSt) (code : Half) : RecSt := r.setCode code { r.codeOf code with raised := (r.codeOf code).raised + 1 }

theorem RecSt.counted_tokens (r : RecSt) (code : Half) : (r.counted code).tokens code = r.tokens code := by
  simp only [RecSt.tokens, RecSt.counted, RecSt.codeOf_setCode]
  rfl

/-! Admission (R487 to R489). -/

/-- Suppression leaves the queue and the buckets, and is charged to its reason. -/
theorem RecSt.suppress_charges (r : RecSt) (code : Half) (why : SuppWhy) :
    let q := r.suppress code why
    q.queue = r.queue ∧ q.tokens code = r.tokens code ∧ q.globalTokens = r.globalTokens ∧ q.flSuppressed = true ∧
      q.ledger.raised = r.ledger.raised + 1 ∧ q.ledger.suppressed = r.ledger.suppressed + 1 ∧
      q.suppOther = (if why = .other then r.suppOther + 1 else r.suppOther) ∧
      q.suppGlobal = (if why = .global then r.suppGlobal + 1 else r.suppGlobal) ∧
      q.suppQueue = (if why = .queue then r.suppQueue + 1 else r.suppQueue) := by
  refine ⟨rfl, ?_, rfl, rfl, rfl, rfl, rfl, rfl, rfl⟩
  show (r.rate code).1 - ((r.setCode code _).codeOf code).spent = _
  rw [RecSt.codeOf_setCode]
  rfl

/-- The first condition of R487 that an event fails, none when it is admitted. -/
def RecSt.fails (r : RecSt) (code : Half) : Option SuppWhy :=
  if r.final then some .other
  else if r.tokens code = 0 then some .bucket
  else if ¬ (r.rate code).2.2 ∧ r.globalTokens = 0 then some .global
  else if queueMax ≤ r.queue.length then some .queue
  else none

theorem RecSt.fails_none_iff (r : RecSt) (code : Half) :
    r.fails code = none ↔ r.final = false ∧ r.tokens code ≠ 0 ∧ ((r.rate code).2.2 = true ∨ r.globalTokens ≠ 0) ∧ r.queue.length < 128 := by
  unfold RecSt.fails queueMax
  split
  · next h => simp [h]
  · split
    · next h => simp [h]
    · split
      · next h => simp [h]
      · next h1 h2 h3 =>
        have hg : (r.rate code).2.2 = true ∨ r.globalTokens ≠ 0 := by
          by_cases hn : (r.rate code).2.2 = true
          · exact Or.inl hn
          · exact Or.inr (fun h0 => h3 ⟨hn, h0⟩)
        simp [h1, h2, hg]

/-- The recorder after an admitted event. -/
def RecSt.accept (r : RecSt) (code : Half) (params : List Word) (beat : BitVec 10) (deferred : Bool) : RecSt :=
  let c := r.codeOf code
  let q := r.setCode code { c with spent := c.spent + 1, pending := 0 }
  { q with
    globalTokens := if (r.rate code).2.2 then q.globalTokens else q.globalTokens - 1
    queue := q.queue ++ [{ code := code, params := params.take 4, beat := beat, deferred := deferred,
                           supp := BitVec.ofNat 6 (min 63 c.pending.toNat) }] }

section
variable {r : RecSt} {code : Half} (params : List Word) (beat : BitVec 10) (deferred : Bool)

theorem RecSt.counted_fails (r : RecSt) (code : Half) : (r.counted code).fails code = r.fails code := by
  unfold RecSt.fails
  rw [RecSt.counted_tokens]
  rfl

/-- An event is admitted, or suppressed for the first condition that it fails. -/
theorem RecSt.takeEvent_eq (r : RecSt) :
    r.takeEvent code params beat deferred =
      ((r.fails code).map ((r.counted code).suppress code)).getD ((r.counted code).accept code params beat deferred) := by
  rw [← RecSt.counted_fails]
  have hjudged : r.takeEvent code params beat deferred =
      if (r.counted code).final then (r.counted code).suppress code .other
      else if (r.counted code).tokens code = 0 then (r.counted code).suppress code .bucket
      else if ¬ ((r.counted code).rate code).2.2 ∧ (r.counted code).globalTokens = 0 then (r.counted code).suppress code .global
      else if queueMax ≤ (r.counted code).queue.length then (r.counted code).suppress code .queue
      else (r.counted code).accept code params beat deferred := rfl
  rw [hjudged]
  generalize r.counted code = q
  unfold RecSt.fails
  by_cases h1 : q.final = true
  · rw [if_pos h1, if_pos h1]
    rfl
  rw [if_neg h1, if_neg h1]
  by_cases h2 : q.tokens code = 0
  · rw [if_pos h2, if_pos h2]
    rfl
  rw [if_neg h2, if_neg h2]
  by_cases h3 : ¬ (q.rate code).2.2 ∧ q.globalTokens = 0
  · rw [if_pos h3, if_pos h3]
    rfl
  rw [if_neg h3, if_neg h3]
  split <;> rfl

theorem RecSt.takeEvent_admitted (h : r.fails code = none) :
    r.takeEvent code params beat deferred = (r.counted code).accept code params beat deferred := by
  rw [RecSt.takeEvent_eq, h]
  rfl

theorem RecSt.takeEvent_suppressed {why : SuppWhy} (h : r.fails code = some why) :
    r.takeEvent code params beat deferred = (r.counted code).suppress code why := by
  rw [RecSt.takeEvent_eq, h]
  rfl

theorem RecSt.accept_codeOf (r : RecSt) : (r.accept code params beat deferred).codeOf code =
    { r.codeOf code with spent := (r.codeOf code).spent + 1, pending := 0 } :=
  show (r.setCode code { r.codeOf code with spent := (r.codeOf code).spent + 1, pending := 0 }).codeOf code = _ from RecSt.codeOf_setCode _ _ _

theorem RecSt.accept_codeOf_other (r : RecSt) {d : Half} (hd : d ≠ code) : (r.accept code params beat deferred).codeOf d = r.codeOf d :=
  show (r.setCode code { r.codeOf code with spent := (r.codeOf code).spent + 1, pending := 0 }).codeOf d = _ from RecSt.codeOf_setCode_other _ _ hd

/-- An admitted event joins the queue with the pending count, and takes its tokens. -/
theorem RecSt.accept_counted (r : RecSt) :
    let q := (r.counted code).accept code params beat deferred
    q.queue = r.queue ++ [{ code := code, params := params.take 4, beat := beat, deferred := deferred,
                            supp := BitVec.ofNat 6 (min 63 (r.codeOf code).pending.toNat) }] ∧
      (q.codeOf code).pending = 0 ∧ (q.codeOf code).spent = (r.codeOf code).spent + 1 ∧ (∀ d, d ≠ code → q.codeOf d = r.codeOf d) ∧
      q.ledger = r.ledger ∧ q.globalTokens = (if (r.rate code).2.2 then r.globalTokens else r.globalTokens - 1) := by
  have hc : (r.counted code).codeOf code = { r.codeOf code with raised := (r.codeOf code).raised + 1 } := RecSt.codeOf_setCode _ _ _
  have hq := RecSt.accept_codeOf (code := code) params beat deferred (r.counted code)
  refine ⟨?_, ?_, ?_, fun d hd => ?_, rfl, rfl⟩
  · show r.queue ++ [QEvent.mk code (params.take 4) beat deferred (BitVec.ofNat 6 (min 63 ((r.counted code).codeOf code).pending.toNat))] = _
    rw [hc]
  · rw [hq]
  · rw [hq, hc]
  · exact (RecSt.accept_codeOf_other params beat deferred _ hd).trans (RecSt.codeOf_setCode_other _ _ hd)
end

/-! What leaves the records (R484). -/

/-- `q` holds the records of `r`, its scan and its snapshot of the ledger. -/
structure RecSt.SameRecords (r q : RecSt) : Prop where
  slots : q.slots = r.slots
  newest : q.newest = r.newest
  ready : q.ready = r.ready
  opsecBase : q.opsecBase = r.opsecBase
  ledgerSnap : q.ledgerSnap = r.ledgerSnap

theorem RecSt.SameRecords.refl (r : RecSt) : r.SameRecords r := ⟨rfl, rfl, rfl, rfl, rfl⟩

theorem RecSt.SameRecords.trans {r q p : RecSt} (h1 : r.SameRecords q) (h2 : q.SameRecords p) : r.SameRecords p :=
  ⟨h2.slots.trans h1.slots, h2.newest.trans h1.newest, h2.ready.trans h1.ready, h2.opsecBase.trans h1.opsecBase,
    h2.ledgerSnap.trans h1.ledgerSnap⟩

theorem RecSt.suppress_sameRecords (r : RecSt) (code : Half) (why : SuppWhy) : r.SameRecords (r.suppress code why) := ⟨rfl, rfl, rfl, rfl, rfl⟩

theorem RecSt.takeEvent_sameRecords (r : RecSt) (code : Half) (params : List Word) (beat : BitVec 10) (deferred : Bool) :
    r.SameRecords (r.takeEvent code params beat deferred) := by
  cases hf : r.fails code with
  | none =>
    rw [RecSt.takeEvent_admitted params beat deferred hf]
    exact ⟨rfl, rfl, rfl, rfl, rfl⟩
  | some why =>
    rw [RecSt.takeEvent_suppressed params beat deferred hf]
    exact ⟨rfl, rfl, rfl, rfl, rfl⟩

theorem RecSt.hold_sameRecords (r : RecSt) (code : Half) (params : List Word) (beat : BitVec 10) (now : Nat) :
    r.SameRecords (r.hold code params beat now) := by
  unfold RecSt.hold
  dsimp only
  split <;> exact ⟨rfl, rfl, rfl, rfl, rfl⟩

theorem State.raise_sameRecords (s : State) (l : List Ev) : s.rcd.SameRecords (s.raise l).rcd := by
  induction l generalizing s with
  | nil => exact .refl _
  | cons e l ih =>
    refine RecSt.SameRecords.trans ?_ (ih (s.raiseOne e))
    unfold State.raiseOne
    dsimp only
    split
    · exact RecSt.hold_sameRecords _ _ _ _ _
    · exact RecSt.takeEvent_sameRecords _ _ _ _ _

theorem RecSt.setTable_sameRecords (r : RecSt) (t : List RateEntry) : r.SameRecords (r.setTable t) := by
  unfold RecSt.setTable
  dsimp only
  refine List.foldlRecOn (motive := fun q => r.SameRecords q) _ _ ⟨rfl, rfl, rfl, rfl, rfl⟩ (fun q hq c _ => ?_)
  split
  · exact hq
  · exact ⟨hq.slots, hq.newest, hq.ready, hq.opsecBase, hq.ledgerSnap⟩

theorem State.startRates_sameRecords (s : State) : s.rcd.SameRecords s.startRates.rcd := by
  unfold State.startRates
  split
  · dsimp only
    exact (RecSt.setTable_sameRecords s.rcd _).trans (State.raise_sameRecords { s with rcd := s.rcd.setTable _ } _)
  · exact .refl _

/-! Events raised (R483, R487). -/

/-- While a block holds eight events it holds no more. -/
theorem RecSt.hold_room {r : RecSt} {code : Half} (params : List Word) (beat : BitVec 10) (now : Nat)
    (h : (r.held.filter (fun e => decide (e.code.toNat / 256 = code.toNat / 256))).length < 8) :
    r.hold code params beat now = { r with held := r.held ++ [{ code := code, params := params, beat := beat, instant := now }] } :=
  if_neg (Nat.not_le.mpr h)

theorem RecSt.hold_full {r : RecSt} {code : Half} (params : List Word) (beat : BitVec 10) (now : Nat)
    (h : 8 ≤ (r.held.filter (fun e => decide (e.code.toNat / 256 = code.toNat / 256))).length) :
    r.hold code params beat now = (r.counted code).suppress code .other := if_pos h

theorem RecSt.hold_queue (r : RecSt) (code : Half) (params : List Word) (beat : BitVec 10) (now : Nat) :
    (r.hold code params beat now).queue = r.queue := by
  unfold RecSt.hold
  dsimp only
  split <;> rfl

/-- The reason an event is charged to is the first condition that it fails. -/
theorem RecSt.fails_reason {r : RecSt} {code : Half} {why : SuppWhy} (h : r.fails code = some why) :
    (why = .other ↔ r.final = true) ∧
      (why = .global ↔ r.final = false ∧ r.tokens code ≠ 0 ∧ (r.rate code).2.2 = false ∧ r.globalTokens = 0) ∧
      (why = .queue ↔ r.final = false ∧ r.tokens code ≠ 0 ∧ ((r.rate code).2.2 = true ∨ r.globalTokens ≠ 0)) := by
  unfold RecSt.fails at h
  split at h
  · next h1 =>
    obtain rfl := Option.some.inj h
    simp [h1]
  · next h1 =>
    split at h
    · next h2 =>
      obtain rfl := Option.some.inj h
      simp [h1, h2]
    · next h2 =>
      split at h
      · next h3 =>
        obtain rfl := Option.some.inj h
        simp [h1, h2, Bool.eq_false_iff.mpr h3.1, h3.2]
      · next h3 =>
        split at h
        · obtain rfl := Option.some.inj h
          have hg : (r.rate code).2.2 = true ∨ r.globalTokens ≠ 0 := by
            by_cases hn : (r.rate code).2.2 = true
            · exact Or.inl hn
            · exact Or.inr (fun h0 => h3 ⟨hn, h0⟩)
          have hng : ¬ ((r.rate code).2.2 = false ∧ r.globalTokens = 0) := fun hb => h3 ⟨Bool.eq_false_iff.mp hb.1, hb.2⟩
          simp only [reduceCtorEq, Bool.eq_false_iff.mpr h1, Bool.false_eq_true, hng, and_false, hg, ne_eq, h2, not_false_eq_true, and_self]
        · cases h

/-- What a suppressed event leaves and where it is charged (R489). -/
theorem RecSt.suppressed_counts {r : RecSt} {code : Half} {why : SuppWhy} (hw : r.fails code = some why) :
    let q := (r.counted code).suppress code why
    q.queue = r.queue ∧ q.tokens code = r.tokens code ∧ q.globalTokens = r.globalTokens ∧ q.flSuppressed = true ∧
      q.ledger.raised = r.ledger.raised + 1 ∧ q.ledger.suppressed = r.ledger.suppressed + 1 ∧
      q.suppOther = (if r.final then r.suppOther + 1 else r.suppOther) ∧
      q.suppGlobal = (if r.final = false ∧ r.tokens code ≠ 0 ∧ (r.rate code).2.2 = false ∧ r.globalTokens = 0
        then r.suppGlobal + 1 else r.suppGlobal) ∧
      q.suppQueue = (if r.final = false ∧ r.tokens code ≠ 0 ∧ ((r.rate code).2.2 = true ∨ r.globalTokens ≠ 0)
        then r.suppQueue + 1 else r.suppQueue) := by
  obtain ⟨hother, hglobal, hqueue⟩ := RecSt.fails_reason hw
  obtain ⟨h1, h2, h3, h4, h5, h6, h7, h8, h9⟩ := (r.counted code).suppress_charges code why
  exact ⟨h1, h2.trans (r.counted_tokens code), h3, h4, h5, h6, h7.trans (if_congr hother rfl rfl), h8.trans (if_congr hglobal rfl rfl),
    h9.trans (if_congr hqueue rfl rfl)⟩

/-- R483, R487, R489: an event raised. -/
theorem eventRaise_judged {s : State} {code : Half} (hp : s.img.powered = true) (hc : code.toNat % 256 ≠ 0) (params : List Word) :
    ∃ t, exec (.eventRaise code params) s = .next t ∧ t.rcd.slots = s.rcd.slots ∧ t.rcd.newest = s.rcd.newest ∧
      (s.svcDown = false → s.admitsEvent code →
        t.rcd.queue = s.rcd.queue ++ [QEvent.mk code (params.take 4) s.eventBeat false (BitVec.ofNat 6 (min 63 (s.rcd.codeOf code).pending.toNat))] ∧
        (t.rcd.codeOf code).pending = 0 ∧ t.rcd.tokens code = s.rcd.tokens code - 1 ∧ t.rcd.ledger = s.rcd.ledger ∧
        t.rcd.globalTokens = if (s.rcd.rate code).2.2 then s.rcd.globalTokens else s.rcd.globalTokens - 1) ∧
      (s.svcDown = false → ¬ s.admitsEvent code →
        t.rcd.queue = s.rcd.queue ∧ t.rcd.tokens code = s.rcd.tokens code ∧ t.rcd.globalTokens = s.rcd.globalTokens ∧ t.rcd.flSuppressed = true ∧
        t.rcd.ledger.raised = s.rcd.ledger.raised + 1 ∧ t.rcd.ledger.suppressed = s.rcd.ledger.suppressed + 1 ∧
        t.rcd.suppOther = (if s.rcd.final then s.rcd.suppOther + 1 else s.rcd.suppOther) ∧
        t.rcd.suppGlobal = (if s.rcd.final = false ∧ s.rcd.tokens code ≠ 0 ∧ (s.rcd.rate code).2.2 = false ∧ s.rcd.globalTokens = 0
          then s.rcd.suppGlobal + 1 else s.rcd.suppGlobal) ∧
        t.rcd.suppQueue = (if s.rcd.final = false ∧ s.rcd.tokens code ≠ 0 ∧ ((s.rcd.rate code).2.2 = true ∨ s.rcd.globalTokens ≠ 0)
          then s.rcd.suppQueue + 1 else s.rcd.suppQueue)) ∧
      (s.svcDown = true →
        let mine := s.rcd.held.filter (fun e => decide (e.code.toNat / 256 = code.toNat / 256))
        t.rcd.queue = s.rcd.queue ∧
        (mine.length < 8 → t.rcd.held = s.rcd.held ++ [{ code := code, params := params.take 4, beat := s.eventBeat, instant := s.tim.now }]) ∧
        (8 ≤ mine.length → t.rcd.held = s.rcd.held ∧ t.rcd.suppOther = s.rcd.suppOther + 1)) := by
  have hkeep := State.raise_sameRecords s [(code, params.take 4)]
  have hup : s.svcDown = false → (s.raise [(code, params.take 4)]).rcd = s.rcd.takeEvent code (params.take 4) s.eventBeat false :=
    fun hd => if_neg (Bool.eq_false_iff.mp hd)
  have hdown : s.svcDown = true → (s.raise [(code, params.take 4)]).rcd = s.rcd.hold code (params.take 4) s.eventBeat s.tim.now :=
    fun hd => if_pos hd
  refine ⟨s.raise [(code, params.take 4)], congrArg Host.Outcome.next (if_pos (by simp [hp, hc])), hkeep.slots, hkeep.newest,
    fun hd hadm => ?_, fun hd hadm => ?_, fun hd => ?_⟩
  · rw [hup hd, RecSt.takeEvent_admitted _ _ _ ((s.rcd.fails_none_iff code).mpr hadm)]
    obtain ⟨hq, hpend, hspent, -, hled, hglob⟩ := RecSt.accept_counted (code := code) (params.take 4) s.eventBeat false s.rcd
    refine ⟨?_, hpend, ?_, hled, hglob⟩
    · rw [hq, List.take_take]
      rfl
    · show (s.rcd.rate code).1 - (RecSt.codeOf _ code).spent = _
      rw [hspent, ← Nat.sub_sub]
      rfl
  · obtain ⟨why, hw⟩ := Option.ne_none_iff_exists'.mp (fun hn => hadm ((s.rcd.fails_none_iff code).mp hn))
    rw [hup hd, RecSt.takeEvent_suppressed _ _ _ hw]
    exact RecSt.suppressed_counts hw
  · rw [hdown hd]
    refine ⟨RecSt.hold_queue _ _ _ _ _, fun hroom => ?_, fun hfull => ?_⟩
    · rw [RecSt.hold_room _ _ _ hroom]
    · rw [RecSt.hold_full _ _ _ hfull]
      exact ⟨rfl, rfl⟩

/-! The write of the queue's first event (R484 to R486). -/

/-- What ends the recorder takes its queue (R485): the events that stay are suppressed. -/
theorem RecSt.suppressAll_keeps (r : RecSt) (l : List QEvent) :
    let q := l.foldl (fun a y => a.suppress y.code .other) r
    r.SameRecords q ∧ q.queue = r.queue ∧ q.final = r.final := by
  refine List.foldlRecOn (motive := fun q => r.SameRecords q ∧ q.queue = r.queue ∧ q.final = r.final) l _ ⟨.refl r, rfl, rfl⟩ ?_
  intro q ⟨hsame, hqueue, hfinal⟩ y _
  exact ⟨hsame.trans (q.suppress_sameRecords y.code .other), hqueue, hfinal⟩

/-- The recorder after its record `x` of the next sequence number, `rest` still queued. -/
def RecSt.commit (r : RecSt) (x : Record) (rest : List QEvent) : RecSt :=
  { r with
    queue := rest, slots := Tab.set none r.slots (slotOfSeq (r.newest + 1).toNat) (some x), newest := r.newest + 1, opsec := x.opsec,
    ledger := { r.ledger with raised := r.ledger.raised + 1, written := r.ledger.written + 1 } }

/-- The record committed is found under its sequence number. -/
theorem RecSt.record_of_slot {r q : RecSt} {x : Record} (hx : x.seq = r.newest + 1)
    (hs : q.slots = Tab.set none r.slots (slotOfSeq (r.newest + 1).toNat) (some x)) : q.record (r.newest + 1).toNat = some x := by
  unfold RecSt.record
  rw [hs, Tab.get_set_same, Option.filter_some, if_pos (by rw [hx]; exact decide_eq_true rfl)]

theorem RecSt.commit_slot_other (r : RecSt) (x : Record) (rest : List QEvent) {k : Nat} (hk : k ≠ slotOfSeq (r.newest + 1).toNat) :
    Tab.get none (r.commit x rest).slots k = Tab.get none r.slots k :=
  show Tab.get none (Tab.set none r.slots (slotOfSeq (r.newest + 1).toNat) (some x)) k = _ from Tab.get_set_other none r.slots _ hk

/-- The last record of all, event 0x1002 (R485). -/
def RecSt.finalRecord (r : RecSt) (secs : Word) (pwrcyc : BitVec 22) (now : BitVec 10) : Record :=
  { seq := r.newest + 1, code := 0x1002, supp := 0, deferred := false, final := true, nParam := 0, opsec := r.opsecBase + secs,
    pwrcyc := pwrcyc, beat := now, params := [] }

/-- The record of a queued event. -/
def RecSt.recordOf (r : RecSt) (e : QEvent) (secs : Word) (pwrcyc : BitVec 22) : Record :=
  { seq := r.newest + 1, code := e.code, supp := e.supp, deferred := e.deferred, final := false, nParam := BitVec.ofNat 8 e.params.length,
    opsec := r.opsecBase + secs, pwrcyc := pwrcyc, beat := e.beat, params := e.params }

/-- The recorder as event 0x1002 ends it, before its queue is suppressed. -/
def RecSt.closed (q : RecSt) : RecSt :=
  { q.setCode 0x1002 { q.codeOf 0x1002 with raised := (q.codeOf 0x1002).raised + 1 } with final := true, queue := [] }

section
variable {r : RecSt} {e : QEvent} {rest : List QEvent} (secs : Word) (pwrcyc : BitVec 22) (now : BitVec 10)

theorem RecSt.write_queued (hf : r.final = false) (hq : r.queue = e :: rest) (hseq : r.newest + 1 ≠ 0xFFFFFFFE) :
    r.write secs pwrcyc now = r.commit (r.recordOf e secs pwrcyc) rest := by
  have hlast : decide ((r.newest + 1).toNat = 0xFFFFFFFE) = false := decide_eq_false fun h => hseq (BitVec.eq_of_toNat_eq h)
  unfold RecSt.write
  rw [hq]
  simp only [hlast, hf, Bool.false_eq_true, if_false, RecSt.commit, RecSt.recordOf]

theorem RecSt.write_last (hf : r.final = false) (hq : r.queue = e :: rest) (hseq : r.newest + 1 = 0xFFFFFFFE) :
    r.write secs pwrcyc now =
      (e :: rest).foldl (fun a y => a.suppress y.code .other) (r.commit (r.finalRecord secs pwrcyc now) rest).closed := by
  have hlast : decide ((r.newest + 1).toNat = 0xFFFFFFFE) = true := decide_eq_true (congrArg BitVec.toNat hseq)
  unfold RecSt.write
  rw [hq]
  simp only [hf, hlast, Bool.false_eq_true, if_false, if_true]
  rfl
end

/-- R484 to R486: the write of a record. -/
theorem recordWrite_commits {s : State} {e : QEvent} {rest : List QEvent} (secs : Word) (ha : s.awake = true) (hr : s.rcd.ready = true)
    (hf : s.rcd.final = false) (hq : s.rcd.queue = e :: rest) :
    let seq := s.rcd.newest + 1
    ∃ t, exec (.recordWrite secs) s = .next t ∧ t.rcd.newest = seq ∧
      (∀ k, k ≠ slotOfSeq seq.toNat → Tab.get none t.rcd.slots k = Tab.get none s.rcd.slots k) ∧
      (seq ≠ 0xFFFFFFFE → t.rcd.queue = rest ∧ t.rcd.ledger.written = s.rcd.ledger.written + 1 ∧
        t.rcd.record seq.toNat = some (Record.mk seq e.code e.supp e.deferred false (BitVec.ofNat 8 e.params.length) (s.rcd.opsecBase + secs) s.img.pwrcyc e.beat e.params)) ∧
      (seq = 0xFFFFFFFE → t.rcd.final = true ∧ t.rcd.queue = [] ∧
        t.rcd.record seq.toNat = some (Record.mk seq 0x1002 0 false true 0 (s.rcd.opsecBase + secs) s.img.pwrcyc s.eventBeat [])) := by
  intro seq
  refine ⟨{ s with rcd := s.rcd.write secs s.img.pwrcyc s.eventBeat }, congrArg Host.Outcome.next (if_pos (by simp [ha, hr])), ?_⟩
  dsimp only
  by_cases hseq : seq = 0xFFFFFFFE
  · rw [RecSt.write_last secs _ _ hf hq hseq]
    obtain ⟨⟨hslots, hnewest, -, -, -⟩, hqueue, hfinal⟩ :=
      RecSt.suppressAll_keeps (s.rcd.commit (s.rcd.finalRecord secs s.img.pwrcyc s.eventBeat) rest).closed (e :: rest)
    refine ⟨hnewest, fun k hk => ?_, fun hne => absurd hseq hne, fun _ => ⟨hfinal, hqueue, ?_⟩⟩
    · rw [hslots]
      exact s.rcd.commit_slot_other _ rest hk
    · exact RecSt.record_of_slot (x := s.rcd.finalRecord secs s.img.pwrcyc s.eventBeat) rfl hslots
  · rw [RecSt.write_queued secs _ _ hf hq hseq]
    exact ⟨rfl, fun k hk => s.rcd.commit_slot_other _ rest hk,
      fun _ => ⟨rfl, rfl, RecSt.record_of_slot (x := s.rcd.recordOf e secs s.img.pwrcyc) rfl rfl⟩, fun he => absurd he hseq⟩

/-! Refills (R488). -/

/-- R488: a refill of a code's bucket adds a token up to its BURST. -/
theorem RecSt.refill_tokens {r : RecSt} {code : Half} (h : (r.codeOf code).spent ≤ (r.rate code).1) :
    (r.refill (some code)).tokens code = min (r.rate code).1 (r.tokens code + 1) := by
  have hs : ((r.refill (some code)).codeOf code).spent = (r.codeOf code).spent - 1 :=
    congrArg CodeSt.spent (r.codeOf_setCode code { r.codeOf code with spent := (r.codeOf code).spent - 1 })
  show (r.rate code).1 - ((r.refill (some code)).codeOf code).spent = min (r.rate code).1 ((r.rate code).1 - (r.codeOf code).spent + 1)
  rw [hs]
  omega

/-! The start scan (R481, R486). -/

/-- The sequence number of a slot, 0 of an empty one. -/
def slotSeq (p : Nat × Option Record) : Nat := (p.2.map (fun x => x.seq.toNat)).getD 0

theorem RecSt.scanNewest_eq (r : RecSt) : r.scanNewest = (r.slots.map slotSeq).foldl max 0 := by
  unfold RecSt.scanNewest
  rw [List.foldl_map]
  congr 1
  funext m p
  obtain ⟨k, _ | x⟩ := p
  · exact (Nat.max_zero m).symm
  · rfl

theorem slotSeq_lt (p : Nat × Option Record) : slotSeq p < 2 ^ 32 := by
  obtain ⟨k, _ | x⟩ := p
  · exact Nat.two_pow_pos 32
  · exact x.seq.isLt

theorem RecSt.scanNewest_lt (r : RecSt) : r.scanNewest < 2 ^ 32 := by
  rw [RecSt.scanNewest_eq]
  refine List.foldlRecOn (motive := fun m => m < 2 ^ 32) _ _ (by decide) (fun m hm n hn => ?_)
  obtain ⟨p, -, rfl⟩ := List.mem_map.mp hn
  exact Nat.max_lt.mpr ⟨hm, slotSeq_lt p⟩

theorem List.le_foldl_max_of_mem {l : List Nat} {n : Nat} (m : Nat) (h : n ∈ l) : n ≤ l.foldl max m := by
  induction l generalizing m with
  | nil => cases h
  | cons a l ih =>
    obtain rfl | hmem := List.mem_cons.mp h
    · exact List.foldlRecOn (motive := fun b => n ≤ b) l max (Nat.le_max_right m n) (fun b hb c _ => Nat.le_trans hb (Nat.le_max_left b c))
    · exact ih _ hmem

/-- No slot holds a sequence number above the one that the scan finds. -/
theorem RecSt.le_scanNewest {r : RecSt} {p : Nat × Option Record} {x : Record} (hp : p ∈ r.slots) (hx : p.2 = some x) :
    x.seq.toNat ≤ r.scanNewest := by
  have hseq : slotSeq p = x.seq.toNat := by rw [slotSeq, hx]; rfl
  rw [RecSt.scanNewest_eq, ← hseq]
  exact List.le_foldl_max_of_mem 0 (List.mem_map_of_mem hp)

theorem RecSt.scan_newest (r : RecSt) : r.scan.1.newest.toNat = r.scanNewest := by
  show (wordN r.scanNewest).toNat = _
  simp only [wordN, BitVec.toNat_ofNat]
  exact Nat.mod_eq_of_lt r.scanNewest_lt

/-- The operating seconds start at the larger of the saved ones and those of the newest record (R481). -/
theorem RecSt.scan_opsecBase {r : RecSt} {x : Record} (h : r.record r.scanNewest = some x) :
    r.scan.1.opsecBase.toNat = max r.opsecSaved.toNat x.opsec.toNat := by
  have hb : r.scan.1.opsecBase = if r.opsecSaved.toNat < x.opsec.toNat then x.opsec else r.opsecSaved := by
    simp only [RecSt.scan, h]
  rw [hb]
  split
  · next hlt => exact (Nat.max_eq_right (Nat.le_of_lt hlt)).symm
  · next hge => exact (Nat.max_eq_left (Nat.le_of_not_lt hge)).symm

/-- R481, R486: the start scan. -/
theorem recorderScan_finds {s : State} (ha : s.awake = true) (hr : s.rcd.ready = false) :
    ∃ t, exec .recorderScan s = .next t ∧ t.rcd.ready = true ∧ t.rcd.slots = s.rcd.slots ∧
      (∀ p ∈ s.rcd.slots, ∀ x, p.2 = some x → x.seq.toNat ≤ t.rcd.newest.toNat) ∧
      ∀ x, s.rcd.record t.rcd.newest.toNat = some x → t.rcd.opsecBase.toNat = max s.rcd.opsecSaved.toNat x.opsec.toNat := by
  have hsame : s.rcd.scan.1.SameRecords ({ s with rcd := s.rcd.scan.1 }.raise s.rcd.scan.2).startRates.rcd :=
    (State.raise_sameRecords { s with rcd := s.rcd.scan.1 } _).trans (State.startRates_sameRecords _)
  have hnew := (congrArg BitVec.toNat hsame.newest).trans s.rcd.scan_newest
  refine ⟨({ s with rcd := s.rcd.scan.1 }.raise s.rcd.scan.2).startRates, congrArg Host.Outcome.next (if_pos (by simp [ha, hr])),
    hsame.ready, hsame.slots, fun p hp x hx => ?_, fun x hx => ?_⟩
  · rw [hnew]
    exact RecSt.le_scanNewest hp hx
  · rw [hnew] at hx
    rw [hsame.opsecBase]
    exact RecSt.scan_opsecBase hx

/-! Held events (R483, R487). -/

theorem insertBy_perm {α : Type} (key : α → Nat) (x : α) (l : List α) : (insertBy key x l).Perm (x :: l) := by
  induction l with
  | nil => exact .refl _
  | cons y l ih =>
    rw [insertBy]
    split
    · exact .refl _
    · exact (ih.cons y).trans (.swap x y l)

theorem insertBy_sorted {α : Type} {key : α → Nat} (x : α) {l : List α} (h : l.Pairwise (fun a b => key a ≤ key b)) :
    (insertBy key x l).Pairwise (fun a b => key a ≤ key b) := by
  induction l with
  | nil => exact List.pairwise_singleton _ _
  | cons y l ih =>
    obtain ⟨hy, hl⟩ := List.pairwise_cons.mp h
    rw [insertBy]
    split
    · next hlt =>
      refine List.pairwise_cons.mpr ⟨fun z hz => ?_, h⟩
      obtain rfl | hz := List.mem_cons.mp hz
      · exact Nat.le_of_lt hlt
      · exact Nat.le_trans (Nat.le_of_lt hlt) (hy z hz)
    · next hge =>
      refine List.pairwise_cons.mpr ⟨fun z hz => ?_, ih hl⟩
      obtain rfl | hz := List.mem_cons.mp ((insertBy_perm key x l).mem_iff.mp hz)
      · exact Nat.le_of_not_lt hge
      · exact hy z hz

/-- The stable sort keeps the elements and puts them in the order of their keys. -/
theorem sortBy_perm_sorted {α : Type} (key : α → Nat) (l : List α) :
    (sortBy key l).Perm l ∧ (sortBy key l).Pairwise (fun a b => key a ≤ key b) := by
  suffices h : ∀ acc : List α, acc.Pairwise (fun a b => key a ≤ key b) →
      (l.foldl (fun acc x => insertBy key x acc) acc).Perm (l ++ acc) ∧
        (l.foldl (fun acc x => insertBy key x acc) acc).Pairwise (fun a b => key a ≤ key b) by
    obtain ⟨hp, hs⟩ := h [] .nil
    exact ⟨hp.trans (.of_eq (List.append_nil l)), hs⟩
  induction l with
  | nil => exact fun acc hacc => ⟨.refl _, hacc⟩
  | cons x l ih =>
    intro acc hacc
    obtain ⟨hp, hs⟩ := ih (insertBy key x acc) (insertBy_sorted x hacc)
    exact ⟨hp.trans (((insertBy_perm key x acc).append_left l).trans List.perm_middle), hs⟩

theorem RecSt.heldInOrder_sorted (r : RecSt) :
    r.heldInOrder.Perm r.held ∧
      r.heldInOrder.Pairwise (fun a b => a.instant < b.instant ∨ (a.instant = b.instant ∧ a.code.toNat ≤ b.code.toNat)) := by
  obtain ⟨hp, hs⟩ := sortBy_perm_sorted (fun e : HeldEvent => e.instant * 65536 + e.code.toNat) r.held
  refine ⟨hp, hs.imp fun {a b} hab => ?_⟩
  have ha := a.code.isLt
  have hb := b.code.isLt
  omega

/-- The recorder without a rate table admits `n` more events of any code but 0x0D07, and none is suppressed yet. -/
structure RecSt.Admits (r : RecSt) (n : Nat) : Prop where
  table : r.table = []
  final : r.final = false
  room : r.queue.length + n ≤ 128
  global : n ≤ r.globalTokens
  bucket : ∀ code, (r.codeOf code).pending = 0 ∧ (r.codeOf code).spent + n ≤ 16

theorem RecSt.rate_default {r : RecSt} {code : Half} (ht : r.table = []) (hc : code ≠ 0x0D07) : (r.rate code).1 = 16 := by
  unfold RecSt.rate
  dsimp only
  rw [if_neg hc, ht]
  rfl

theorem RecSt.Admits.admitted {r : RecSt} {n : Nat} (h : r.Admits (n + 1)) {code : Half} (hc : code ≠ 0x0D07) : r.fails code = none := by
  obtain ⟨ht, hf, hroom, hglob, hb⟩ := h
  refine (r.fails_none_iff code).mpr ⟨hf, ?_, Or.inr (by omega), by omega⟩
  show (r.rate code).1 - (r.codeOf code).spent ≠ 0
  have hspent := (hb code).2
  rw [RecSt.rate_default ht hc]
  omega

theorem RecSt.Admits.takeEvent {r : RecSt} {n : Nat} (h : r.Admits (n + 1)) {code : Half} (hc : code ≠ 0x0D07) (params : List Word)
    (beat : BitVec 10) :
    (r.takeEvent code params beat true).Admits n ∧ (r.takeEvent code params beat true).held = r.held ∧
      (r.takeEvent code params beat true).queue = r.queue ++ [QEvent.mk code (params.take 4) beat true 0] := by
  rw [RecSt.takeEvent_admitted params beat true (h.admitted hc)]
  obtain ⟨ht, hf, hroom, hglob, hb⟩ := h
  obtain ⟨hq, hpend, hspent, hother, -, hg⟩ := RecSt.accept_counted (code := code) params beat true r
  rw [(hb code).1] at hq
  refine ⟨⟨ht, hf, ?_, ?_, fun d => ?_⟩, rfl, hq⟩
  · rw [hq, List.length_append, List.length_singleton]
    omega
  · rw [hg]
    split <;> omega
  · by_cases hd : d = code
    · subst hd
      have hspare := (hb d).2
      exact ⟨hpend, by omega⟩
    · have hspare := (hb d).2
      rw [hother d hd]
      exact ⟨(hb d).1, by omega⟩

/-- R487: the held events all enter the queue in their order. -/
theorem RecSt.Admits.all {l : List HeldEvent} {r : RecSt} (h : r.Admits l.length) (hl : ∀ e ∈ l, e.code ≠ 0x0D07) :
    let q := l.foldl (fun q e => q.takeEvent e.code e.params e.beat true) r
    q.held = r.held ∧ q.queue = r.queue ++ l.map (fun e => QEvent.mk e.code (e.params.take 4) e.beat true 0) := by
  induction l generalizing r with
  | nil => exact ⟨rfl, (List.append_nil _).symm⟩
  | cons e l ih =>
    obtain ⟨hnext, hheld, hqueue⟩ := RecSt.Admits.takeEvent h (hl e List.mem_cons_self) e.params e.beat
    obtain ⟨hh, hq⟩ := ih hnext (fun x hx => hl x (List.mem_cons_of_mem e hx))
    exact ⟨hh.trans hheld, hq.trans (by rw [hqueue, List.append_assoc]; rfl)⟩

/-- R483, R487: the held events are raised. -/
theorem deferredEventRelease_inOrder {s : State} (ha : s.awake = true) (hcodes : s.rcd.codes = []) (ht : s.rcd.table = [])
    (hf : s.rcd.final = false) (hg : s.rcd.globalTokens = 256) (hheld : s.rcd.held.length ≤ 16)
    (hroom : s.rcd.queue.length + s.rcd.held.length ≤ 128) (hall : ∀ e ∈ s.rcd.held, e.code ≠ 0x0D07) :
    ∃ (t : State) (l : List HeldEvent), exec .deferredEventRelease s = .next t ∧ t.rcd.held = [] ∧ l.Perm s.rcd.held ∧
      l.Pairwise (fun a b => a.instant < b.instant ∨ (a.instant = b.instant ∧ a.code.toNat ≤ b.code.toNat)) ∧
      t.rcd.queue = s.rcd.queue ++ l.map (fun e => QEvent.mk e.code (e.params.take 4) e.beat true 0) := by
  obtain ⟨hp, hs⟩ := s.rcd.heldInOrder_sorted
  have hlen := hp.length_eq
  have hzero : ∀ code, s.rcd.codeOf code = CodeSt.zero := fun code => by rw [RecSt.codeOf, hcodes]; rfl
  have hadm : { s.rcd with held := [] }.Admits s.rcd.heldInOrder.length := by
    refine ⟨ht, hf, ?_, ?_, fun code => ?_⟩
    · rw [hlen]
      exact hroom
    · rw [hlen]
      exact Nat.le_trans hheld (by rw [hg]; decide)
    · show (s.rcd.codeOf code).pending = 0 ∧ (s.rcd.codeOf code).spent + _ ≤ 16
      rw [hzero code, hlen]
      exact ⟨rfl, Nat.le_trans (Nat.le_of_eq (Nat.zero_add _)) hheld⟩
  obtain ⟨hh, hq⟩ := hadm.all (fun e he => hall e (hp.mem_iff.mp he))
  exact ⟨{ s with rcd := s.rcd.release }, s.rcd.heldInOrder, next_if_awake ha, hh, hp, hs, hq⟩

/-! The record window (R492). -/

/-- A read of a register that locks or releases, and holds no pair. -/
theorem State.readReg_locks {s : State} {who : Who} {a v : Word} (hv : s.peek who a = some v)
    (hp : isPairLow (a.toNat / 65536) (a.toNat % 65536) = false) (hl : lockingReg a = true) :
    s.readReg who a =
      ({ s with svc := s.svc.countAccess who (a.toNat / 65536) (a.toNat % 65536) false true }.dropPair who a).lockRead who a := by
  unfold State.readReg
  dsimp only
  rw [hv]
  simp only [hp, hl, Bool.false_eq_true, if_false, if_true]

theorem State.dropPair_rcd (s : State) (who : Who) (a : Word) : (s.dropPair who a).rcd = s.rcd := rfl

theorem State.lockRead_recordLock (s : State) (who : Who) : (s.lockRead who 0x00109000).1.rcd = (s.rcd.lockWindow who.input).1 := rfl

theorem State.lockRead_recordRelease (s : State) (who : Who) : (s.lockRead who 0x0010901C).1.rcd = s.rcd.releaseWindow who.input := rfl

theorem State.readReg_recordLock (s : State) (who : Who) : (s.readReg who 0x00109000).1.rcd = (s.rcd.lockWindow who.input).1 := by
  obtain ⟨v, hv⟩ : ∃ v, s.peek who 0x00109000 = some v := ⟨_, rfl⟩
  rw [State.readReg_locks hv (by decide) (by decide)]
  rw [State.lockRead_recordLock, State.dropPair_rcd]

theorem State.readReg_recordRelease (s : State) (who : Who) : (s.readReg who 0x0010901C).1.rcd = s.rcd.releaseWindow who.input := by
  obtain ⟨v, hv⟩ : ∃ v, s.peek who 0x0010901C = some v := ⟨_, rfl⟩
  rw [State.readReg_locks hv (by decide) (by decide)]
  rw [State.lockRead_recordRelease, State.dropPair_rcd]

theorem RecSt.lockWindow_free {r : RecSt} (h : r.window = none) (input : BitVec 4) :
    (r.lockWindow input).1 = { r with window := some (input, r.record r.seqSel.toNat) } := by
  unfold RecSt.lockWindow
  rw [h]

theorem RecSt.releaseWindow_held {r : RecSt} {input : BitVec 4} {x : Option Record} (h : r.window = some (input, x)) :
    r.releaseWindow input = { r with window := none } := by
  unfold RecSt.releaseWindow
  rw [h]
  exact if_pos rfl

/-- Settles O56: each command's effect on the recorder is a law of its own; the release of held events rests on room for all of them. -/
theorem recorderCommands : Obligations.RecorderCommands := by
  refine ⟨fun s code params hp hc => eventRaise_judged hp hc params,
    fun s secs e rest ha hr hf hq => recordWrite_commits secs ha hr hf hq,
    fun s ha => ⟨⟨_, next_if_awake ha, rfl⟩, fun code hspent => ⟨_, next_if_awake ha, RecSt.refill_tokens hspent, rfl, rfl⟩,
      recorderScan_finds ha, deferredEventRelease_inOrder ha, fun who hw => ?_, fun who x hw => ?_⟩,
    fun s secs hp hm hr => ?_⟩
  · exact ⟨_, next_if_awake ha, (s.readReg_recordLock who).trans (RecSt.lockWindow_free hw who.input)⟩
  · exact ⟨_, next_if_awake ha, (s.readReg_recordRelease who).trans (RecSt.releaseWindow_held hw)⟩
  · exact ⟨_, congrArg Host.Outcome.next (if_pos (by simp [State.islandOn, hp, hm, hr])), rfl⟩

end Sys2Proof.Machine
end

section
/-! SUPPORT. The power controller: orders, handshake, entry, wake and pads (18_power_states.md). -/

namespace Sys2Proof.Machine

open Sys2Proof

/-! A program order (R501, R505). -/

/-- The power controller once an order has cancelled a pending entry. -/
def PwrSt.cancelled (p : PwrSt) : PwrSt := (p.entry.map (fun e => (p.drop.refuse e.mode.op 0x11 9).1)).getD p

/-- The program of an order is staged unless it is in force. -/
def PwrSt.staged (q : PwrSt) (toWatch : Bool) (w : WakeCfg) (wake : Nat) : PwrSt :=
  let inForce := decide ((q.mode = .watch) = (toWatch = true))
  let q2 : PwrSt := if inForce then q else { q with prog := some { toWatch := toWatch, age := 0, wake := wake, cfg := w } }
  if wake = 0 ∧ ¬ inForce then { q2 with wakeCfg := w } else q2

theorem PwrSt.cancelled_mode (p : PwrSt) : p.cancelled.mode = p.mode := by
  unfold PwrSt.cancelled
  cases p.entry <;> rfl

theorem PwrSt.cancelled_entry (p : PwrSt) : p.cancelled.entry = none := by
  unfold PwrSt.cancelled
  cases h : p.entry with
  | none => exact h
  | some e => rfl

section
variable (p : PwrSt) (toWatch : Bool) (w : WakeCfg) (wake : Nat)

theorem PwrSt.program_eq : (p.program toWatch w wake).1 = p.cancelled.staged toWatch w wake := by
  unfold PwrSt.program PwrSt.cancelled
  cases p.entry <;> rfl

theorem PwrSt.staged_mode : (p.staged toWatch w wake).mode = p.mode := by
  unfold PwrSt.staged
  dsimp only
  split <;> split <;> rfl

theorem PwrSt.staged_entry : (p.staged toWatch w wake).entry = p.entry := by
  unfold PwrSt.staged
  dsimp only
  split <;> split <;> rfl

theorem PwrSt.program_mode : (p.program toWatch w wake).1.mode = p.mode := by
  rw [PwrSt.program_eq, PwrSt.staged_mode, PwrSt.cancelled_mode]

theorem PwrSt.program_entry : (p.program toWatch w wake).1.entry = none := by
  rw [PwrSt.program_eq, PwrSt.staged_entry, PwrSt.cancelled_entry]
end

theorem PwrSt.program_staged {p : PwrSt} {toWatch : Bool} (h : ¬ (p.mode = .watch) = (toWatch = true)) (w : WakeCfg) (wake : Nat) :
    (p.program toWatch w wake).1.prog = some { toWatch := toWatch, age := 0, wake := wake, cfg := w } := by
  have hnot : decide ((p.cancelled.mode = .watch) = (toWatch = true)) = false := decide_eq_false (by rw [PwrSt.cancelled_mode]; exact h)
  rw [PwrSt.program_eq]
  unfold PwrSt.staged
  dsimp only
  rw [hnot]
  split <;> rfl

theorem PwrSt.program_watch {p : PwrSt} (h : p.mode ≠ .watch) (w : WakeCfg) (wake : Nat) :
    (p.program true w wake).1.prog = some { toWatch := true, age := 0, wake := wake, cfg := w } :=
  PwrSt.program_staged (fun he => h (he.mpr rfl)) w wake

theorem PwrSt.program_run {p : PwrSt} (h : p.mode = .watch) (w : WakeCfg) (wake : Nat) :
    (p.program false w wake).1.prog = some { toWatch := false, age := 0, wake := wake, cfg := w } :=
  PwrSt.program_staged (fun he => Bool.false_ne_true (he.mp h)) w wake

/-! The power controller (R496 to R512). -/

/-! Frames: what the operations around the power controller leave. -/

/-- Refreshing the idle conditions changes the domains alone. -/
theorem PwrSt.refresh_frame (p : PwrSt) (idle : Nat → Bool) : ∃ d, (p.refresh idle).1 = { p with domains := d } := by
  unfold PwrSt.refresh
  refine List.foldlRecOn (motive := fun r : PwrR => ∃ d, r.1 = { p with domains := d }) _ _ ⟨p.domains, rfl⟩ (fun r ⟨d, hr⟩ k _ => ?_)
  dsimp only
  rw [hr]
  split
  · exact ⟨_, rfl⟩
  · unfold PwrSt.power
    dsimp only
    split <;> exact ⟨_, rfl⟩

theorem State.powerUp_pwr (s : State) : ∃ d, s.powerUp.pwr = { s.pwr with domains := d } := by
  obtain ⟨d, hd⟩ := s.pwr.refresh_frame s.idle
  exact ⟨d, (State.raise_pwr _ _).trans hd⟩

theorem State.discardLocal_pwr (s : State) (d : Nat) : (s.discardLocal d).pwr = s.pwr := by
  unfold State.discardLocal
  split <;> rfl

/-- Starting the channels changes the baseband alone. -/
theorem State.burstChannels_frame (s : State) : ∃ g, s.burstChannels = { s with gns := g } := by
  refine List.foldlRecOn (motive := fun a : State => ∃ g, a = { s with gns := g }) _ _ ⟨s.gns, rfl⟩ (fun a ⟨g, ha⟩ c _ => ?_)
  subst ha
  split
  · exact ⟨_, rfl⟩
  · split
    · unfold State.gnsCh
      split
      · split
        · exact ⟨_, rfl⟩
        · dsimp only
          split <;> exact ⟨_, rfl⟩
      · exact ⟨_, rfl⟩
    · exact ⟨_, rfl⟩

/-- The blocks at a first beat after Chrysalis start again; the beat and the power controller are none of them. -/
theorem State.wakeBlocks_frame (s : State) :
    s.wakeBlocks.pwr = s.pwr ∧ s.wakeBlocks.beat = s.beat ∧ s.wakeBlocks.sch = { s.sch with running := true } := by
  have hsearch : ∀ (a : State) (l : List Nat), ∃ g,
      l.foldl (fun (x : State) c => if (x.gns.ch c).state = .idle then x else x.research c) a = { a with gns := g } := fun a l => by
    refine List.foldlRecOn (motive := fun x : State => ∃ g, x = { a with gns := g }) _ _ ⟨a.gns, rfl⟩ (fun x ⟨g, hx⟩ c _ => ?_)
    subst hx
    split <;> exact ⟨_, rfl⟩
  unfold State.wakeBlocks
  dsimp only
  obtain ⟨g, hg⟩ := hsearch { s with
      sch := { s.sch with running := true }, cnd := s.cnd.wake, ctl := { s.ctl with prevSlack := none, joyMiss := none }
      gns := { s.gns with queue := [], recording := none, recorded := [], searching := none, burst := false, powered := !s.sch.watch } }
    (List.range 384)
  rw [hg]
  obtain ⟨f, r, v, h⟩ := State.leaveListen_frame _
  rw [h]
  exact ⟨rfl, rfl, rfl⟩

theorem State.unionCmd_pwr {s : State} {h : HostRef} (ht : s.unionTurn h) (op : Half) (f : State → CmdR) :
    (s.unionCmd h op f).pwr = (f (s.taken h)).1.pwr := by
  rw [State.unionCmd_turn ht]
  rfl

/-! Orders (R499 to R501, R504). -/

section
variable {s : State} {op : Nat} {flags addr : Byte} {alarm : Long} {f : WakeCfg → PwrSt → PwrR}

/-- An order that Table 18.4 refuses is refused by the power controller alone. -/
theorem State.powerOrder_refused (hok : orderOk op flags addr alarm s.tim.now = true) {block cause : Nat}
    (hr : orderRefusal s.pwrView op (flags.getLsbD 0) = some (block, cause)) :
    (s.powerOrder op flags addr alarm f).1.pwr = (s.pwr.refuse op block cause).1 := by
  unfold State.powerOrder
  rw [hok, hr]
  exact State.raise_pwr _ _

/-- An accepted order takes effect, and powers the domains that it needs. -/
theorem State.powerOrder_accepted (hok : orderOk op flags addr alarm s.tim.now = true)
    (hr : orderRefusal s.pwrView op (flags.getLsbD 0) = none) :
    ∃ d, (s.powerOrder op flags addr alarm f).1.pwr = { (f (wakeOf flags addr alarm) s.pwr).1 with domains := d } := by
  obtain ⟨d, hd⟩ := (State.raise { s with pwr := (f (wakeOf flags addr alarm) s.pwr).1 } (f (wakeOf flags addr alarm) s.pwr).2).powerUp_pwr
  refine ⟨d, ?_⟩
  unfold State.powerOrder
  rw [hok, hr]
  exact hd.trans (by rw [State.raise_pwr])
end

/-- The entry checks of an order for Chrysalis or Cocoon (Table 18.4). -/
theorem orderRefusal_entry_none {v : PwrView} {op : Nat} (h : 3 ≤ op) {both : Bool} (hpend : v.switchPending = false) (hsolo : v.solo = true)
    (hjoin : v.joining = false) (hrest : v.atRest = true) (hbusy : v.timeBusy = false) : orderRefusal v op both = none := by
  unfold orderRefusal
  rw [if_neg (by omega), if_neg (by omega), hpend, hsolo, hjoin, hrest, hbusy]
  simp [Nat.not_lt.mpr h]

theorem orderRefusal_pending {v : PwrView} {op : Nat} (h : 3 ≤ op) {both : Bool} (hpend : v.switchPending = true) :
    orderRefusal v op both = some (1, 2) := by
  unfold orderRefusal
  rw [if_neg (by omega), if_neg (by omega), if_pos hpend]

/-- One condition missing refuses the order. -/
theorem orderRefusal_entry_some {v : PwrView} {op : Nat} (h : 3 ≤ op) {both : Bool}
    (hmiss : v.switchPending = true ∨ (v.solo = false ∧ both = false) ∨ v.joining = true ∨ v.atRest = false ∨ v.timeBusy = true) :
    ∃ block cause, orderRefusal v op both = some (block, cause) := by
  unfold orderRefusal
  rw [if_neg (by omega), if_neg (by omega), if_neg (c := op < 3) (by omega)]
  split
  · exact ⟨_, _, rfl⟩
  · next hpend =>
    split
    · exact ⟨_, _, rfl⟩
    · next hsolo =>
      split
      · exact ⟨_, _, rfl⟩
      · next hjoin =>
        split
        · exact ⟨_, _, rfl⟩
        · next hrest =>
          refine ⟨_, _, if_pos ?_⟩
          obtain h1 | ⟨h1, h2⟩ | h1 | h1 | h1 := hmiss
          · exact absurd h1 hpend
          · exact absurd ⟨by simp [h1], by simp [h2]⟩ hsolo
          · exact absurd h1 hjoin
          · exact absurd (by simp [h1]) hrest
          · exact h1

theorem orderRefusal_watch {v : PwrView} {both : Bool} (hpend : v.switchPending = false) (hsolo : v.solo = true) (hjoin : v.joining = false) :
    orderRefusal v 2 both = if v.watchPresent then none else some (1, 1) := by
  unfold orderRefusal
  rw [hpend, hsolo, hjoin]
  cases v.watchPresent <;> rfl

theorem orderRefusal_run (v : PwrView) (both : Bool) : orderRefusal v 1 both = none := rfl

/-- What an entry check finds at rest. -/
theorem State.pwrView_atRest (s : State) :
    s.pwrView.atRest = true ↔ ¬ (s.ctl.mode ≠ .standby ∨ ∃ p ∈ s.ctl.winches, p.2.mode ≠ .stop) := by
  simp only [State.pwrView, Bool.and_eq_true, decide_eq_true_eq, List.all_eq_true, not_or, not_not, not_exists, not_and, ne_eq]

theorem State.pwrView_watchPresent {s : State} {x : Schedule} (h : s.sch.sched = some x) :
    s.pwrView.watchPresent = x.header.flags.getLsbD 0 := by
  unfold State.pwrView
  rw [h]

theorem State.pwrView_joining {s : State} (hr : s.pai.role = .solo) (hj : s.pai.join = .none) : s.pwrView.joining = false := by
  simp [State.pwrView, hr, hj]

section
variable {s : State} {h : HostRef} (ht : s.unionTurn h) {flags addr : Byte} {alarm : Long}
include ht

/-- An order for Chrysalis or Cocoon in its union (R500, R504). -/
theorem State.entryOrder_judged (m : PwrMode) {op : Nat} (hop : 3 ≤ op) (hok : orderOk op flags addr alarm s.tim.now = true) :
    let t := s.unionCmd h opPowerCmd (fun a =>
      a.powerOrder op flags addr alarm (fun w p => p.order m h.session w a.beat.n.toNat))
    t.pwr.mode = s.pwr.mode ∧ t.pwr.prog = s.pwr.prog ∧
      let busy := s.tim.pending.isSome ∨ s.tim.arm.isSome
      let moving := s.ctl.mode ≠ .standby ∨ ∃ p ∈ s.ctl.winches, p.2.mode ≠ .stop
      (s.sch.inactive.phase ≠ .pending → s.pai.role = .solo → s.pai.join = .none → ¬ moving → ¬ busy →
        t.pwr.entry = some (PendEntry.mk m h.session (wakeOf flags addr alarm) 0 0 false false) ∧ t.pwr.refusals = s.pwr.refusals) ∧
      (s.sch.inactive.phase = .pending ∨ (s.pai.role ≠ .solo ∧ flags.getLsbD 0 = false) ∨ s.pai.join ≠ .none ∨ moving ∨ busy →
        t.pwr.entry = s.pwr.entry ∧ t.pwr.refusals = s.pwr.refusals + 1 ∧ t.pwr.flags = setBit s.pwr.flags 0 ∧
        (s.sch.inactive.phase = .pending → t.pwr.refBlock = 1 ∧ t.pwr.refCause = 2)) := by
  intro t
  have hpwr : t.pwr = _ := State.unionCmd_pwr ht opPowerCmd _
  cases hr : orderRefusal s.pwrView op (flags.getLsbD 0) with
  | none =>
    obtain ⟨d, hd⟩ := State.powerOrder_accepted (s := s.taken h) (f := fun w p => p.order m h.session w (s.taken h).beat.n.toNat) hok hr
    rw [hpwr, hd]
    refine ⟨rfl, rfl, fun _ _ _ _ _ => ⟨rfl, rfl⟩, fun hmiss => ?_⟩
    obtain ⟨block, cause, hsome⟩ := orderRefusal_entry_some (v := s.pwrView) hop (both := flags.getLsbD 0) (by
      obtain h1 | ⟨h1, h2⟩ | h1 | h1 | h1 := hmiss
      · exact Or.inl (decide_eq_true h1)
      · exact Or.inr (Or.inl ⟨decide_eq_false h1, h2⟩)
      · exact Or.inr (Or.inr (Or.inl (by simp [State.pwrView, h1])))
      · exact Or.inr (Or.inr (Or.inr (Or.inl (Bool.eq_false_iff.mpr (fun hrest => s.pwrView_atRest.mp hrest h1)))))
      · exact Or.inr (Or.inr (Or.inr (Or.inr (Bool.or_eq_true _ _ |>.mpr h1)))))
    rw [hr] at hsome
    cases hsome
  | some bc =>
    obtain ⟨block, cause⟩ := bc
    have hd := State.powerOrder_refused (s := s.taken h) (f := fun w p => p.order m h.session w (s.taken h).beat.n.toNat) hok hr
    rw [hpwr, hd]
    refine ⟨rfl, rfl, fun hpend hsolo hjoin hrest hbusy => ?_, fun _ => ⟨rfl, rfl, rfl, fun hpend => ?_⟩⟩
    · rw [orderRefusal_entry_none hop (decide_eq_false hpend) (decide_eq_true hsolo) (State.pwrView_joining hsolo hjoin)
        (s.pwrView_atRest.mpr hrest) (Bool.eq_false_iff.mpr (fun hb => hbusy ((Bool.or_eq_true _ _).mp hb)))] at hr
      cases hr
    · rw [orderRefusal_pending hop (decide_eq_true hpend)] at hr
      cases hr
      exact ⟨rfl, rfl⟩

/-- R501: a WATCH order in its union. -/
theorem powerWatch_judged (hok : orderOk 2 flags addr alarm s.tim.now = true) (hpend : s.sch.inactive.phase ≠ .pending)
    (hsolo : s.pai.role = .solo) (hjoin : s.pai.join = .none) :
    ∃ t, exec (.powerWatch h flags addr alarm) s = .next t ∧ t.pwr.mode = s.pwr.mode ∧
      ∀ x, s.sch.sched = some x →
        (x.header.flags.getLsbD 0 = true → s.pwr.mode ≠ .watch →
          t.pwr.prog = some { toWatch := true, age := 0, wake := 0, cfg := wakeOf flags addr alarm }) ∧
        (x.header.flags.getLsbD 0 = false → t.pwr.prog = s.pwr.prog ∧ t.pwr.refBlock = 1 ∧ t.pwr.refCause = 1) := by
  refine ⟨_, rfl, ?_⟩
  have hpwr := State.unionCmd_pwr ht opPowerCmd (fun a => a.powerOrder 2 flags addr alarm (fun w p => p.program true w 0))
  have hrow := orderRefusal_watch (v := s.pwrView) (both := flags.getLsbD 0) (decide_eq_false hpend) (decide_eq_true hsolo)
    (State.pwrView_joining hsolo hjoin)
  rw [hpwr]
  cases hw : s.pwrView.watchPresent with
  | true =>
    obtain ⟨d, hd⟩ := State.powerOrder_accepted (s := s.taken h) (f := fun w p => p.program true w 0) hok (hrow.trans (if_pos hw))
    rw [hd]
    refine ⟨PwrSt.program_mode _ _ _ _, fun x hx => ⟨fun _ hm => PwrSt.program_watch (p := (s.taken h).pwr) hm _ _, fun hno => ?_⟩⟩
    rw [State.pwrView_watchPresent hx, hno] at hw
    cases hw
  | false =>
    have hd := State.powerOrder_refused (s := s.taken h) (f := fun w p => p.program true w 0) hok
      (hrow.trans (if_neg (Bool.eq_false_iff.mp hw)))
    rw [hd]
    refine ⟨rfl, fun x hx => ⟨fun hyes _ => ?_, fun _ => ⟨rfl, rfl, rfl⟩⟩⟩
    rw [State.pwrView_watchPresent hx, hyes] at hw
    cases hw

/-- R501, R505: a RUN order in its union. -/
theorem powerRun_judged (hok : orderOk 1 flags addr alarm s.tim.now = true) :
    ∃ t, exec (.powerRun h flags addr alarm) s = .next t ∧ t.pwr.mode = s.pwr.mode ∧ t.pwr.entry = none ∧
      (s.pwr.mode = .watch → t.pwr.prog = some { toWatch := false, age := 0, wake := 0, cfg := wakeOf flags addr alarm }) := by
  refine ⟨_, rfl, ?_⟩
  have hpwr := State.unionCmd_pwr ht opPowerCmd (fun a => a.powerOrder 1 flags addr alarm (fun w p => p.program false w 0))
  obtain ⟨d, hd⟩ := State.powerOrder_accepted (s := s.taken h) (f := fun w p => p.program false w 0) hok (orderRefusal_run _ _)
  rw [hpwr, hd]
  exact ⟨PwrSt.program_mode _ _ _ _, PwrSt.program_entry _ _ _ _, fun hm => PwrSt.program_run (p := (s.taken h).pwr) hm _ _⟩
end

/-! The order of every kind of low-power state. -/

/-- R500, R504: an order for Chrysalis or Cocoon. -/
theorem entryOrder_answered {s : State} {h : HostRef} (ht : s.unionTurn h) {flags addr : Byte} {alarm : Long} (cocoon : Bool)
    (hok : orderOk (if cocoon then 4 else 3) flags addr alarm s.tim.now = true) :
    ∃ t, exec (if cocoon then .powerCocoon h flags addr alarm else .powerChrysalis h flags addr alarm) s = .next t ∧
      t.pwr.mode = s.pwr.mode ∧ t.pwr.prog = s.pwr.prog ∧
      let busy := s.tim.pending.isSome ∨ s.tim.arm.isSome
      let moving := s.ctl.mode ≠ .standby ∨ ∃ p ∈ s.ctl.winches, p.2.mode ≠ .stop
      (s.sch.inactive.phase ≠ .pending → s.pai.role = .solo → s.pai.join = .none → ¬ moving → ¬ busy →
        t.pwr.entry = some (PendEntry.mk (if cocoon then .cocoon else .chrysalis) h.session (wakeOf flags addr alarm) 0 0 false false) ∧ t.pwr.refusals = s.pwr.refusals) ∧
      (s.sch.inactive.phase = .pending ∨ (s.pai.role ≠ .solo ∧ flags.getLsbD 0 = false) ∨ s.pai.join ≠ .none ∨ moving ∨ busy →
        t.pwr.entry = s.pwr.entry ∧ t.pwr.refusals = s.pwr.refusals + 1 ∧ t.pwr.flags = setBit s.pwr.flags 0 ∧
        (s.sch.inactive.phase = .pending → t.pwr.refBlock = 1 ∧ t.pwr.refCause = 2)) := by
  cases cocoon with
  | true => exact ⟨_, rfl, State.entryOrder_judged ht .cocoon (by decide) hok⟩
  | false => exact ⟨_, rfl, State.entryOrder_judged ht .chrysalis (by decide) hok⟩

/-! Idle gating (R496). -/

/-- A domain that is due is gated and counted. -/
theorem domainIdleExpire_gates {s : State} {d : BitVec 4} (hrun : s.edgesRun = true) (hdue : s.pwr.due d.toNat = true) :
    ∃ t, exec (.domainIdleExpire d) s = .next t ∧ (t.pwr.dom d.toNat).state = .gated ∧
      (t.pwr.dom d.toNat).gates = (s.pwr.dom d.toNat).gates + 1 ∧ ∀ k, k ≠ d.toNat → t.pwr.dom k = s.pwr.dom k := by
  refine ⟨_, congrArg Host.Outcome.next (if_pos (by rw [hrun, hdue]; rfl)), ?_⟩
  dsimp only
  rw [State.raise_pwr, State.discardLocal_pwr]
  have hdom : (s.pwr.gate d.toNat).1.dom d.toNat = { s.pwr.dom d.toNat with state := .gated, gates := (s.pwr.dom d.toNat).gates + 1 } :=
    PwrSt.dom_setDom _ _ _
  exact ⟨congrArg DomSt.state hdom, congrArg DomSt.gates hdom, fun k hk => PwrSt.dom_setDom_other _ _ hk⟩

/-! The handshake (R504, Table 18.5). -/

section
variable {p : PwrSt} {e : PendEntry} (he : p.entry = some e) (hs : e.started = true) (hb : e.block < 19)
include he hs hb

theorem PwrSt.answer_ack : (p.answer .ack).1.entry = some { e with block := e.block + 1, delaying := false } := by
  unfold PwrSt.answer
  rw [he]
  dsimp only
  rw [if_neg (by simp [hs, hb])]

theorem PwrSt.answer_delay : (p.answer .delay).1.entry = some { e with delaying := true } := by
  unfold PwrSt.answer
  rw [he]
  dsimp only
  rw [if_neg (by simp [hs, hb])]

theorem PwrSt.answer_refuse (cause : Nat) : p.answer (.refuse cause) = p.drop.refuse e.mode.op e.block cause := by
  unfold PwrSt.answer
  rw [he]
  dsimp only
  rw [if_neg (by simp [hs, hb])]
end

/-- Only four blocks have a rule of their own. -/
theorem State.handshakeOf_plain (s : State) {block : Nat} (h : block ∉ [0x02, 0x08, 0x10, 0x12]) (cal : Bool) : s.handshakeOf block cal = .ack := by
  simp only [List.mem_cons, List.not_mem_nil, or_false, not_or] at h
  obtain ⟨h1, h2, h3, h4⟩ := h
  unfold State.handshakeOf
  split
  · exact absurd rfl h1
  · exact absurd rfl h2
  · exact absurd rfl h3
  · exact absurd rfl h4
  · rfl

theorem State.handshakeOf_nvm {s : State} (h : s.hst.nvmBusy = true) (cal : Bool) : s.handshakeOf 0x02 cal = .refuse 8 := by
  simp [State.handshakeOf, h]

theorem State.handshakeOf_records {s : State} (h : s.rcd.queue ≠ []) (cal : Bool) : s.handshakeOf 0x10 cal = .delay := if_neg h

theorem handshakeAnswer_next {s : State} {e : PendEntry} (ha : s.awake = true) (he : s.pwr.entry = some e) (cal : Bool) :
    exec (.handshakeAnswer cal) s =
      .next (State.raise { s with pwr := (s.pwr.answer (s.handshakeOf e.block cal)).1 } (s.pwr.answer (s.handshakeOf e.block cal)).2) := by
  show execHandshakeAnswer cal s = _
  unfold execHandshakeAnswer
  rw [he]
  exact congrArg Host.Outcome.next (if_pos ha)

/-- R504: the block under question answers. -/
theorem handshakeAnswer_judged {s : State} {e : PendEntry} (ha : s.awake = true) (he : s.pwr.entry = some e) (hs : e.started = true)
    (cal : Bool) (hb : e.block < 19) :
    ∃ t, exec (.handshakeAnswer cal) s = .next t ∧
      (e.block ∉ [0x02, 0x08, 0x10, 0x12] → t.pwr.entry = some { e with block := e.block + 1, delaying := false }) ∧
      (e.block = 0x02 → s.hst.nvmBusy = true → t.pwr.entry = none ∧ t.pwr.refBlock = 2 ∧ t.pwr.refCause = 8) ∧
      (e.block = 0x08 → cal = true → t.pwr.entry = some { e with delaying := true }) ∧
      (e.block = 0x10 → s.rcd.queue ≠ [] → t.pwr.entry = some { e with delaying := true }) := by
  refine ⟨_, handshakeAnswer_next ha he cal, ?_⟩
  rw [State.raise_pwr]
  refine ⟨fun hplain => ?_, fun hblock hnvm => ?_, fun hblock hcal => ?_, fun hblock hq => ?_⟩
  · rw [s.handshakeOf_plain hplain]
    exact PwrSt.answer_ack he hs hb
  · rw [hblock, State.handshakeOf_nvm hnvm, PwrSt.answer_refuse he hs hb, hblock]
    exact ⟨rfl, rfl, rfl⟩
  · have hdelay : s.handshakeOf e.block cal = .delay := by rw [hblock, hcal]; rfl
    rw [hdelay]
    exact PwrSt.answer_delay he hs hb
  · have hdelay : s.handshakeOf e.block cal = .delay := by rw [hblock, State.handshakeOf_records hq]
    rw [hdelay]
    exact PwrSt.answer_delay he hs hb

/-- R504: the delays together reach 10 ms. -/
theorem handshakeTimeout_judged {s : State} {e : PendEntry} (ha : s.awake = true) (he : s.pwr.entry = some e) :
    ∃ t, exec .handshakeTimeout s = .next t ∧ (e.delaying = false → t.pwr = s.pwr) ∧
      (e.delaying = true → t.pwr.entry = none ∧ t.pwr.refBlock.toNat = e.block % 256 ∧ t.pwr.refCause = 7) := by
  have htimeout : s.pwr.timeout = if e.delaying then s.pwr.drop.refuse e.mode.op e.block 7 else (s.pwr, []) := by
    unfold PwrSt.timeout
    rw [he]
  refine ⟨_, next_if_awake ha, ?_⟩
  dsimp only
  rw [State.raise_pwr, htimeout]
  refine ⟨fun hd => ?_, fun hd => ?_⟩
  · rw [if_neg (Bool.eq_false_iff.mp hd)]
  · rw [if_pos hd]
    exact ⟨rfl, BitVec.toNat_ofNat _ _, rfl⟩

/-! Programs (R501). -/

/-- The change to WATCH (R501). -/
theorem State.enterWatch_changes (s : State) :
    s.enterWatch.sch.watch = true ∧ s.enterWatch.pwr = s.pwr ∧ s.enterWatch.ctl.mode = .standby ∧ s.enterWatch.alc.zero = true := by
  unfold State.enterWatch
  dsimp only
  rw [State.raise_sch, State.raise_pwr, State.raise_ctl, State.raise_alc]
  exact ⟨rfl, rfl, s.ctl.watchStandby_mode, rfl⟩

/-- The change to RUN (R501). -/
theorem State.enterRun_changes (s : State) : s.enterRun.sch.watch = false ∧ s.enterRun.pwr = s.pwr ∧ s.enterRun.ctl = s.ctl := by
  unfold State.enterRun
  obtain ⟨g, hg⟩ := State.burstChannels_frame { s with
    sch := { s.sch with watch := false }
    gns := { s.gns with powered := true, burst := false, queue := [], recording := none, recorded := [], searching := none } }
  rw [hg]
  exact ⟨rfl, rfl, rfl⟩

theorem PwrSt.switch_watch {p : PwrSt} {x : PendProg} (h : x.toWatch = true) (beat : Nat) :
    (p.switch x beat).1 = { p with prog := none, mode := .watch, entries := p.entries + 1, armed := x.cfg } := by
  unfold PwrSt.switch
  rw [if_pos h]

theorem PwrSt.switch_run {p : PwrSt} {x : PendProg} (h : x.toWatch = false) (beat : Nat) :
    (p.switch x beat).1.prog = none ∧ (p.switch x beat).1.mode = .run ∧ (p.switch x beat).1.lastState = 2 := by
  unfold PwrSt.switch
  rw [if_neg (Bool.eq_false_iff.mp h)]
  dsimp only
  by_cases hw : x.wake = 0
  · rw [if_pos hw]
    exact ⟨rfl, rfl, rfl⟩
  · rw [if_neg hw]
    exact ⟨rfl, rfl, rfl⟩

/-- The device with a program order taken. -/
def State.switched (s : State) (x : PendProg) : State := State.raise { s with pwr := (s.pwr.switch x s.beatNo).1 } (s.pwr.switch x s.beatNo).2

theorem State.switched_pwr (s : State) (x : PendProg) : (s.switched x).pwr = (s.pwr.switch x s.beatNo).1 := State.raise_pwr _ _

theorem State.switched_ctl (s : State) (x : PendProg) : (s.switched x).ctl = s.ctl := State.raise_ctl _ _

/-- R501: the program switch at its boundary. -/
theorem programSwitch_changes {s : State} {x : PendProg} (hb : s.atBoundary = true) (hx : s.pwr.prog = some x) (hage : 2 ≤ x.age) :
    ∃ t, exec .programSwitch s = .next t ∧ t.sch.watch = x.toWatch ∧ t.pwr.prog = none ∧
      (x.toWatch = true → t.pwr.mode = .watch ∧ t.ctl.mode = .standby ∧ t.pwr.entries = s.pwr.entries + 1 ∧ t.pwr.armed = x.cfg ∧ t.alc.zero = true) ∧
      (x.toWatch = false → t.pwr.mode = .run ∧ t.ctl.mode = s.ctl.mode ∧ t.pwr.lastState = 2) := by
  have hdue : s.pwr.progDue = some x := by
    unfold PwrSt.progDue
    rw [hx, Option.filter_some, if_pos (decide_eq_true hage)]
  have hexec : exec .programSwitch s = .next (if x.toWatch then (s.switched x).enterWatch else (s.switched x).enterRun) := by
    show execProgramSwitch s = _
    unfold execProgramSwitch
    rw [if_pos hb, hdue]
    rfl
  refine ⟨_, hexec, ?_⟩
  cases hw : x.toWatch with
  | true =>
    rw [if_pos rfl]
    obtain ⟨hwatch, hpwr, hmode, hzero⟩ := (s.switched x).enterWatch_changes
    rw [hpwr, State.switched_pwr, PwrSt.switch_watch hw]
    exact ⟨hwatch, rfl, fun _ => ⟨rfl, hmode, rfl, rfl, hzero⟩, fun hno => absurd hno (by decide)⟩
  | false =>
    rw [if_neg Bool.false_ne_true]
    obtain ⟨hwatch, hpwr, hctl⟩ := (s.switched x).enterRun_changes
    obtain ⟨hprog, hmode, hlast⟩ := PwrSt.switch_run hw s.beatNo (p := s.pwr)
    rw [hpwr, hctl, State.switched_pwr, State.switched_ctl]
    exact ⟨hwatch, hprog, fun hno => absurd hno (by decide), fun _ => ⟨hmode, rfl, hlast⟩⟩

/-! Entry (R505, R511). -/

theorem HstSt.dropRegion_sess_other (g : HstSt) {j k : Nat} (h : j ≠ k) (f : CmdFate) (st : Half) (beat : Long) :
    (g.dropRegion k f st beat).sess j = g.sess j := by
  unfold HstSt.dropRegion
  dsimp only
  split
  · rfl
  · refine List.foldlRecOn (motive := fun a : HstSt => a.sess j = g.sess j) _ _ (HstSt.sess_setSess_other g _ h) (fun a ha p _ => ?_)
    split <;> exact ha

/-- A session that closes is closed. -/
theorem HstSt.closeSession_closed (g : HstSt) (k cause : Nat) (beat : Long) : ((g.closeSession k cause beat).1.sess k).isOpen = false := by
  unfold HstSt.closeSession
  dsimp only
  split
  · exact congrArg SessionSt.isOpen (HstSt.sess_setSess (g.dropRegion k .refused stRefused beat) k _)
  · next h => exact Bool.eq_false_iff.mpr h

theorem HstSt.closeSession_other (g : HstSt) {j k : Nat} (h : j ≠ k) (cause : Nat) (beat : Long) :
    (g.closeSession k cause beat).1.sess j = g.sess j := by
  unfold HstSt.closeSession
  dsimp only
  split
  · exact (HstSt.sess_setSess_other (g.dropRegion k .refused stRefused beat) _ h).trans (g.dropRegion_sess_other h _ _ _)
  · exact g.dropRegion_sess_other h _ _ _

theorem State.closeSession_closed (s : State) (k cause : Nat) : ((s.closeSession k cause).hst.sess k).isOpen = false := by
  unfold State.closeSession
  split
  · dsimp only
    rw [State.raise_hst]
    exact HstSt.closeSession_closed _ _ _ _
  · next h => exact Bool.eq_false_iff.mpr h

theorem State.closeSession_other (s : State) {j k : Nat} (h : j ≠ k) (cause : Nat) : (s.closeSession k cause).hst.sess j = s.hst.sess j := by
  unfold State.closeSession
  split
  · dsimp only
    rw [State.raise_hst]
    exact HstSt.closeSession_other _ h _ _
  · rfl

/-- Closing a session leaves what an entry has done. -/
theorem State.closeSession_keeps (s : State) (k cause : Nat) :
    (s.closeSession k cause).pwr = s.pwr ∧ (s.closeSession k cause).rcd.ledgerSnap = s.rcd.ledgerSnap := by
  unfold State.closeSession
  split
  · dsimp only
    exact ⟨State.raise_pwr _ _, (State.raise_sameRecords _ _).ledgerSnap⟩
  · exact ⟨rfl, rfl⟩

/-- The sessions 1 to `n` close. -/
def State.closeUpTo (s : State) (n : Nat) : State := (List.range n).foldl (fun (x : State) k => x.closeSession (k + 1) 3) s

theorem State.closeUpTo_succ (s : State) (n : Nat) : s.closeUpTo (n + 1) = (s.closeUpTo n).closeSession (n + 1) 3 := by
  unfold State.closeUpTo
  rw [List.range_succ, List.foldl_append]
  rfl

theorem State.closeUpTo_closed (s : State) {k n : Nat} (h1 : 1 ≤ k) (hn : k ≤ n) : ((s.closeUpTo n).hst.sess k).isOpen = false := by
  induction n with
  | zero => omega
  | succ n ih =>
    rw [State.closeUpTo_succ]
    by_cases hk : k = n + 1
    · rw [hk]
      exact State.closeSession_closed _ _ _
    · rw [State.closeSession_other _ hk]
      exact ih (by omega)

theorem State.closeUpTo_keeps (s : State) (n : Nat) : (s.closeUpTo n).pwr = s.pwr ∧ (s.closeUpTo n).rcd.ledgerSnap = s.rcd.ledgerSnap := by
  induction n with
  | zero => exact ⟨rfl, rfl⟩
  | succ n ih =>
    obtain ⟨hpwr, hsnap⟩ := (s.closeUpTo n).closeSession_keeps (n + 1) 3
    rw [State.closeUpTo_succ, hpwr, hsnap]
    exact ih

theorem State.closeSessions_eq (s : State) :
    s.closeSessions = { s.closeUpTo 16 with hst := { (s.closeUpTo 16).hst with openQueue := [], toApply := [] } } := by
  unfold State.closeSessions State.closeUpTo
  rfl

theorem State.closeSessions_keeps (s : State) : s.closeSessions.pwr = s.pwr ∧ s.closeSessions.rcd.ledgerSnap = s.rcd.ledgerSnap := by
  have hkeep := s.closeUpTo_keeps 16
  rw [State.closeSessions_eq]
  generalize s.closeUpTo 16 = a at hkeep ⊢
  exact hkeep

theorem State.closeSessions_closed (s : State) {k : Nat} (h1 : 1 ≤ k) (h16 : k ≤ 16) : (s.closeSessions.hst.sess k).isOpen = false := by
  have hclosed := s.closeUpTo_closed h1 h16
  rw [State.closeSessions_eq]
  generalize s.closeUpTo 16 = a at hclosed ⊢
  exact hclosed

/-- Steps 1 and 2 of an entry at edge E: the snapshot, then the fail values and the safe pairs (R505). -/
def State.entryOff (s : State) : State :=
  let n := s.beatNo + 1
  let a := ({ s with beat := { s.beat with n := BitVec.ofNat 64 n } }.reach (n * 1000000)).roundSnapshot
  let o := a.out.withdraw.lowPower
  ({ a with out := o.1 }.raise o.2).applySaf a.saf.lowPower

/-- Step 3: the claim stops, and the gate closes (R505). -/
def State.entryGate (s : State) : State := { s.entryOff with pai := s.entryOff.pai.stopToggle }.closeGate (s.pai.gate s.tim.now)

theorem State.applySaf_keeps_recorder (s : State) (r : SafR) : s.rcd.SameRecords (s.applySaf r).rcd := by
  unfold State.applySaf
  extract_lets o
  exact State.raise_sameRecords { s with saf := r.saf, out := o.1.tripClear (~~~r.saf.tripLine) } _

theorem State.applySaf_pwr (s : State) (r : SafR) : (s.applySaf r).pwr = s.pwr := by simp [State.applySaf]

theorem State.applySaf_saf_eq (s : State) (r : SafR) : (s.applySaf r).saf = r.saf := by simp [State.applySaf]

/-- What the first steps of an entry have done. -/
theorem State.entryOff_changes (s : State) :
    s.entryOff.pwr = s.pwr ∧ s.entryOff.saf = s.saf.lowPower.saf ∧ s.entryOff.rcd.ledgerSnap = s.rcd.ledger := by
  unfold State.entryOff
  dsimp only
  exact ⟨(State.applySaf_pwr _ _).trans (State.raise_pwr _ _), State.applySaf_saf_eq _ _,
    (State.applySaf_keeps_recorder _ _).ledgerSnap.trans (State.raise_sameRecords _ _).ledgerSnap⟩

theorem State.entryGate_changes (s : State) :
    s.entryGate.pwr = s.pwr ∧ s.entryGate.saf = s.saf.lowPower.saf ∧ s.entryGate.rcd.ledgerSnap = s.rcd.ledger := by
  unfold State.entryGate
  obtain ⟨f, hf⟩ := State.closeGate_frame { s.entryOff with pai := s.entryOff.pai.stopToggle } (s.pai.gate s.tim.now)
  rw [hf]
  exact s.entryOff_changes

theorem SafSt.flush_idle {v : SafSt} (hs : v.started = false) (hr : v.released = false) : v.flush.saf.released = false := by
  unfold SafSt.flush SafSt.switch
  dsimp only [SafR.of_saf]
  rw [SafSt.last_eq]
  change (v.released || (decide (v.island = .run) && v.started && _)) = false
  rw [hs, hr, Bool.and_false, Bool.false_and, Bool.or_false]

/-- Entering a low-power state switches every safe pair off, cancels the arm and latches nothing (R505). -/
theorem SafSt.lowPower_off (v : SafSt) : v.lowPower.saf.soOn = 0 ∧ v.lowPower.saf.arm = none ∧ v.lowPower.saf.latched = v.latched := by
  refine ⟨?_, ?_, ?_⟩
  · unfold SafSt.lowPower
    rw [SafSt.flush_soOn]
    exact if_neg (fun h => absurd h.2 (by rw [SafSt.flush_idle rfl rfl]; decide))
  · unfold SafSt.lowPower
    rw [SafSt.flush_eq]
  · unfold SafSt.lowPower
    rw [SafSt.flush_latched]
    rfl

/-- Steps 5 and 6: the state is entered with the pads as latched, and the clocks stop (R505, R511). -/
def State.entered (d : State) (e : PendEntry) (n : Nat) (pads : Tab PinVal) (pps : Bool) : State :=
  { d.raise (d.pwr.enter e n pads pps).2 with pwr := (d.pwr.enter e n pads pps).1 }.stopClocks

theorem State.entered_changes (d : State) (e : PendEntry) (n : Nat) (pads : Tab PinVal) (pps : Bool) :
    let t := d.entered e n pads pps
    t.pwr.mode = e.mode ∧ t.pwr.entry = none ∧ t.pwr.armed = e.wake ∧ t.pwr.latched = 3 ∧
      t.pwr.entries = d.pwr.entries + 1 ∧ t.sch.running = false ∧ t.beat.live = false ∧ t.saf = d.saf ∧
      t.rcd.ledgerSnap = d.rcd.ledgerSnap ∧ t.hst = d.hst :=
  ⟨rfl, rfl, rfl, rfl, rfl, rfl, rfl, State.raise_saf _ _, (State.raise_sameRecords _ _).ledgerSnap, State.raise_hst _ _⟩

/-- Steps 4 to 6: the sessions close before the state is entered (R505). -/
def State.entryEnd (s : State) (e : PendEntry) : State :=
  let c := s.entryGate
  c.closeSessions.entered e (s.beatNo + 1) (c.out.padLevels (c.pai.gate c.tim.now)) c.tim.ppsOut.isSome

theorem State.enterLowPower_eq (s : State) (e : PendEntry) :
    s.enterLowPower e = if e.mode = .cocoon then { s.entryEnd e with out := (s.entryEnd e).out.floatAout } else s.entryEnd e := by
  unfold State.enterLowPower State.entryEnd State.entered State.entryGate State.entryOff
  rfl

theorem State.entryEnd_changes (s : State) (e : PendEntry) :
    let t := s.entryEnd e
    t.pwr.mode = e.mode ∧ t.pwr.entry = none ∧ t.pwr.armed = e.wake ∧ t.pwr.latched = 3 ∧
      t.pwr.entries = s.pwr.entries + 1 ∧ t.sch.running = false ∧ t.beat.live = false ∧ t.saf.soOn = 0 ∧ t.saf.arm = none ∧
      t.saf.latched = s.saf.latched ∧ t.rcd.ledgerSnap = s.rcd.ledger ∧ ∀ k, 1 ≤ k → k ≤ 16 → (t.hst.sess k).isOpen = false := by
  intro t
  obtain ⟨hpwr, hsaf, hsnap⟩ := s.entryGate_changes
  obtain ⟨hpwr', hsnap'⟩ := s.entryGate.closeSessions_keeps
  obtain ⟨hoff, harm, hlatched⟩ := s.saf.lowPower_off
  obtain ⟨hmode, hentry, harmed, hpads, hcount, hrun, hlive, htsaf, htsnap, hthst⟩ := s.entryGate.closeSessions.entered_changes e (s.beatNo + 1)
    (s.entryGate.out.padLevels (s.entryGate.pai.gate s.entryGate.tim.now)) s.entryGate.tim.ppsOut.isSome
  rw [hpwr', hpwr] at hcount
  rw [State.closeSessions_saf, hsaf] at htsaf
  rw [hsnap', hsnap] at htsnap
  refine ⟨hmode, hentry, harmed, hpads, hcount, hrun, hlive, (congrArg SafSt.soOn htsaf).trans hoff, (congrArg SafSt.arm htsaf).trans harm,
    (congrArg SafSt.latched htsaf).trans hlatched, htsnap, fun k h1 h16 => ?_⟩
  exact (congrArg (fun g : HstSt => (g.sess k).isOpen) hthst).trans (s.entryGate.closeSessions_closed h1 h16)

/-- R505, R511: the entry at edge E. -/
theorem lowPowerEntry_enters {s : State} {e : PendEntry} (hrun : s.edgesRun = true) (hlive : s.beat.live = true)
    (hclose : s.beat.closes (s.beatNo + 1) = true) (he : s.pwr.entry = some e) (hage : 11 ≤ e.age) (hblock : 19 ≤ e.block) :
    ∃ t, exec .lowPowerEntry s = .next t ∧ t.pwr.mode = e.mode ∧ t.pwr.entry = none ∧ t.pwr.armed = e.wake ∧ t.pwr.latched = 3 ∧
      t.pwr.entries = s.pwr.entries + 1 ∧ t.sch.running = false ∧ t.beat.live = false ∧ t.saf.soOn = 0 ∧ t.saf.arm = none ∧
      t.saf.latched = s.saf.latched ∧ t.rcd.ledgerSnap = s.rcd.ledger ∧ ∀ k, 1 ≤ k → k ≤ 16 → (t.hst.sess k).isOpen = false := by
  have hdue : s.pwr.entryDue = some e := by
    unfold PwrSt.entryDue
    rw [he, Option.filter_some, if_pos (by simp [hage, hblock])]
  have hexec : exec .lowPowerEntry s = .next (s.enterLowPower e) := by
    show execLowPowerEntry s = _
    unfold execLowPowerEntry
    rw [if_pos (by simp [hrun, hlive, hclose]), hdue]
  refine ⟨s.enterLowPower e, hexec, ?_⟩
  have hchanges := s.entryEnd_changes e
  rw [State.enterLowPower_eq]
  generalize s.entryEnd e = a at hchanges ⊢
  split <;> exact hchanges

/-! Wake (R503, R507, R509). -/

theorem PwrMode.last_lt (m : PwrMode) : m.last < 8 := by cases m <;> decide

section
variable {p : PwrSt} (h : p.wakeAt = none) (source t : Nat)
include h

/-- The first wake event wakes (R507). -/
theorem PwrSt.wakeSleep_first : p.wakeSleep source t =
    { p with wakeAt := some t, lastState := BitVec.ofNat 3 p.mode.last, lastSource := BitVec.ofNat 3 source } := by
  unfold PwrSt.wakeSleep
  rw [h]
  rfl
end

/-- The wake settings of a source. -/
def WakeCfg.arms (w : WakeCfg) (source : Nat) : Bool := match source with | 1 => w.port | 2 => w.pin | 3 => w.alarm | _ => false

theorem PwrSt.armedFor_run {p : PwrSt} (h : p.mode = .run) (source : Nat) : p.armedFor source = false := by
  unfold PwrSt.armedFor
  rw [h]
  rfl

section
variable {s : State} (hp : s.img.powered = true) {source : Nat} (harm : s.pwr.armedFor source = true) (t0 : Nat)

theorem State.wake_unarmed {s : State} {source : Nat} (h : s.pwr.armedFor source = false) (t0 : Nat) : s.wake source t0 = s := by
  unfold State.wake
  exact if_neg (by simp [h])

include hp harm

/-- A wake source in Chrysalis or Cocoon (R507). -/
theorem State.wake_asleep (hm : s.pwr.mode = .chrysalis ∨ s.pwr.mode = .cocoon) : (s.wake source t0).pwr = s.pwr.wakeSleep source t0 := by
  unfold State.wake
  rw [if_pos (by rw [hp, harm]; rfl)]
  obtain hm | hm := hm
  · rw [hm]
    exact State.raise_pwr _ _
  · rw [hm]

/-- A wake source in Watch on a Solo device stages RUN (R503). -/
theorem State.wake_watching (hm : s.pwr.mode = .watch) (hr : s.pai.role = .solo) (hprog : s.pwr.prog = none) :
    (s.wake source t0).pwr.prog = some { toWatch := false, age := 0, wake := source, cfg := WakeCfg.zero } ∧ (s.wake source t0).pwr.entry = none := by
  have hwake : s.wake source t0 = (State.raise { s with pwr := (s.pwr.wakeWatch source).1 } (s.pwr.wakeWatch source).2).powerUp := by
    unfold State.wake
    rw [if_pos (by rw [hp, harm]; rfl), hm]
    exact if_pos (by simp [hr, hprog])
  obtain ⟨d, hd⟩ := (State.raise { s with pwr := (s.pwr.wakeWatch source).1 } (s.pwr.wakeWatch source).2).powerUp_pwr
  rw [State.raise_pwr] at hd
  rw [hwake, hd]
  exact ⟨PwrSt.program_run hm _ _, PwrSt.program_entry _ _ _ _⟩
end

theorem PwrSt.armedFor_pin {p : PwrSt} (hm : p.mode ≠ .run) : p.armedFor 2 = p.armed.pin := by
  unfold PwrSt.armedFor
  cases hmode : p.mode with
  | run => exact absurd hmode hm
  | watch => rfl
  | chrysalis => rfl
  | cocoon => rfl

theorem PwrSt.armedFor_port {p : PwrSt} (hm : p.mode ≠ .run) : p.armedFor 1 = p.armed.port := by
  unfold PwrSt.armedFor
  cases hmode : p.mode with
  | run => exact absurd hmode hm
  | watch => rfl
  | chrysalis => rfl
  | cocoon => rfl

theorem PwrMode.ne_run_of_asleep {m : PwrMode} (h : m = .chrysalis ∨ m = .cocoon) : m ≠ .run := by
  obtain rfl | rfl := h <;> decide

/-- A first wake event in Chrysalis or Cocoon is the one reported. -/
theorem State.wake_reports {s : State} (hp : s.img.powered = true) {source : Nat} (hs : source < 8) (harm : s.pwr.armedFor source = true)
    (t0 : Nat) (hm : s.pwr.mode = .chrysalis ∨ s.pwr.mode = .cocoon) (hw : s.pwr.wakeAt = none) :
    let t := s.wake source t0
    t.pwr.wakeAt = some t0 ∧ t.pwr.lastSource.toNat = source ∧ t.pwr.lastState.toNat = s.pwr.mode.last := by
  intro t
  have hpwr : t.pwr = _ := (State.wake_asleep hp harm t0 hm).trans (PwrSt.wakeSleep_first hw source t0)
  rw [hpwr]
  exact ⟨rfl, (BitVec.toNat_ofNat _ _).trans (Nat.mod_eq_of_lt hs), (BitVec.toNat_ofNat _ _).trans (Nat.mod_eq_of_lt (PwrMode.last_lt _))⟩

section
variable {s : State} (hp : s.img.powered = true) (t0 : Nat)
include hp

/-- R507: the wake pin. -/
theorem wakePin_judged (low : Bool) :
    (s.pwr.mode = .chrysalis ∨ s.pwr.mode = .cocoon → s.pwr.armed.pin = true → low = s.pwr.armed.pinLow → s.pwr.wakeAt = none →
      ∃ t, exec (.wakePin low t0) s = .next t ∧ t.pwr.wakeAt = some t0 ∧ t.pwr.lastSource = 2 ∧ t.pwr.lastState.toNat = s.pwr.mode.last) ∧
    (s.pwr.mode = .watch → s.pai.role = .solo → s.pwr.prog = none → s.pwr.armed.pin = true → low = s.pwr.armed.pinLow →
      ∃ t p, exec (.wakePin low t0) s = .next t ∧ t.pwr.prog = some p ∧ p.toWatch = false ∧ p.wake = 2 ∧ t.pwr.entry = none) ∧
    (s.pwr.mode = .run ∨ s.pwr.armed.pin = false ∨ low ≠ s.pwr.armed.pinLow → exec (.wakePin low t0) s = .next s) := by
  refine ⟨fun hm hpin hlow hw => ?_, fun hm hr hprog hpin hlow => ?_, fun hno => ?_⟩
  · have harm : s.pwr.armedFor 2 = true := (PwrSt.armedFor_pin (PwrMode.ne_run_of_asleep hm)).trans hpin
    obtain ⟨hat, hsource, hstate⟩ := State.wake_reports hp (by decide) harm t0 hm hw
    exact ⟨s.wake 2 t0, congrArg Host.Outcome.next (if_pos hlow), hat, BitVec.eq_of_toNat_eq hsource, hstate⟩
  · have harm : s.pwr.armedFor 2 = true := (PwrSt.armedFor_pin (by rw [hm]; decide)).trans hpin
    obtain ⟨hstaged, hentry⟩ := State.wake_watching hp harm t0 hm hr hprog
    exact ⟨s.wake 2 t0, _, congrArg Host.Outcome.next (if_pos hlow), hstaged, rfl, rfl, hentry⟩
  · by_cases hlow : low = s.pwr.armed.pinLow
    · refine (congrArg Host.Outcome.next (if_pos hlow)).trans (congrArg Host.Outcome.next (State.wake_unarmed ?_ t0))
      by_cases hm : s.pwr.mode = .run
      · exact PwrSt.armedFor_run hm 2
      · rw [PwrSt.armedFor_pin hm]
        obtain h | h | h := hno
        · exact absurd h hm
        · exact h
        · exact absurd hlow h
    · exact congrArg Host.Outcome.next (if_neg hlow)

/-- R507, R508: an address on the wake port. -/
theorem wakePortMatch_judged (addr : BitVec 7) :
    (s.pwr.mode = .chrysalis ∨ s.pwr.mode = .cocoon → s.pwr.armed.port = true → addr = s.pwr.armed.addr → s.pwr.wakeAt = none →
      ∃ t, exec (.wakePortMatch addr t0) s = .next t ∧ t.pwr.wakeAt = some t0 ∧ t.pwr.lastSource = 1 ∧ t.pwr.lastState.toNat = s.pwr.mode.last) ∧
    (s.pwr.mode = .run ∨ s.pwr.armed.port = false ∨ addr ≠ s.pwr.armed.addr → exec (.wakePortMatch addr t0) s = .next s) := by
  refine ⟨fun hm hport haddr hw => ?_, fun hno => ?_⟩
  · have harm : s.pwr.armedFor 1 = true := (PwrSt.armedFor_port (PwrMode.ne_run_of_asleep hm)).trans hport
    obtain ⟨hat, hsource, hstate⟩ := State.wake_reports hp (by decide) harm t0 hm hw
    exact ⟨s.wake 1 t0, congrArg Host.Outcome.next (if_pos haddr), hat, BitVec.eq_of_toNat_eq hsource, hstate⟩
  · by_cases haddr : addr = s.pwr.armed.addr
    · refine (congrArg Host.Outcome.next (if_pos haddr)).trans (congrArg Host.Outcome.next (State.wake_unarmed ?_ t0))
      by_cases hm : s.pwr.mode = .run
      · exact PwrSt.armedFor_run hm 1
      · rw [PwrSt.armedFor_port hm]
        obtain h | h | h := hno
        · exact absurd h hm
        · exact h
        · exact absurd haddr h
    · exact congrArg Host.Outcome.next (if_neg haddr)
end

/-! The first beat after Chrysalis (R509). -/

/-- The first edge is the one edge from 2 ms to 3 ms after the wake event. -/
theorem eq_firstEdge_iff {t w : Nat} (ht : t % 1000000 = 0) : t = firstEdge w ↔ w + 2000000 ≤ t ∧ t < w + 3000000 := by
  unfold firstEdge
  omega

theorem firstEdge_bounds (w : Nat) : w + 2000000 ≤ firstEdge w ∧ firstEdge w < w + 3000000 := by
  unfold firstEdge
  omega

/-- The device at its first edge after Chrysalis, before its blocks start. -/
def State.wakeEdge (s : State) (t : Nat) : State :=
  { s.reach t with
    pwr := (s.pwr.woken t s.sch.watch).1
    beat := { (s.reach t).beat.prepare t with n := BitVec.ofNat 64 (t / 1000000) } }

theorem chrysalisFirstBeat_next {s : State} {w t0 : Nat} (hp : s.img.powered = true) (hm : s.pwr.mode = .chrysalis) (hw : s.pwr.wakeAt = some w)
    (ht : t0 = firstEdge w) :
    exec (.chrysalisFirstBeat t0) s =
      .next (let c := ((s.wakeEdge t0).raise (s.pwr.woken t0 s.sch.watch).2).wakeBlocks
             { c with beat := { c.beat with n := c.beat.n - 1 } }) := by
  show execChrysalisFirstBeat t0 s = _
  unfold execChrysalisFirstBeat State.wakeEdge
  rw [hm, hw]
  dsimp only
  rw [if_pos (by rw [hp, decide_eq_true ht]; rfl)]

theorem chrysalisFirstBeat_not {s : State} {w t0 : Nat} (hm : s.pwr.mode = .chrysalis) (hw : s.pwr.wakeAt = some w) (ht : t0 ≠ firstEdge w) :
    exec (.chrysalisFirstBeat t0) s = .next s := by
  show execChrysalisFirstBeat t0 s = _
  unfold execChrysalisFirstBeat
  rw [hm, hw]
  exact congrArg Host.Outcome.next (if_neg (by rw [decide_eq_false ht, Bool.and_false]; decide))

theorem PwrSt.woken_eq {p : PwrSt} {w : Nat} (h : p.wakeAt = some w) (t : Nat) (watch : Bool) :
    (p.woken t watch).1 = { p with
      mode := if watch then .watch else .run, wakeAt := none, armed := WakeCfg.zero, wakeUs := satWordU ((t - w) / 1000)
      flags := setBit p.flags 1 } := by
  unfold PwrSt.woken
  rw [h]

theorem satWordU_toNat {n : Nat} (h : n < 2 ^ 32) : (satWordU n).toNat = n := by
  unfold satWordU
  rw [if_neg (Nat.not_le.mpr h), BitVec.toNat_ofNat, Nat.mod_eq_of_lt h]

/-- R509: the first beat. -/
theorem chrysalisFirstBeat_judged {s : State} (hp : s.img.powered = true) (t0 : Nat) {w : Nat} (hm : s.pwr.mode = .chrysalis)
    (hw : s.pwr.wakeAt = some w) :
    (t0 % 1000000 = 0 → w + 2000000 ≤ t0 → t0 < w + 3000000 →
      ∃ t, exec (.chrysalisFirstBeat t0) s = .next t ∧ t.pwr.mode = (if s.sch.watch then .watch else .run) ∧ t.sch.running = true ∧
        t.beat.n + 1 = BitVec.ofNat 64 (t0 / 1000000) ∧ t.pwr.flags.getLsbD 1 = true ∧ t.pwr.latched = s.pwr.latched ∧ t.pwr.wakeAt = none ∧
        ((t0 - w) / 1000 < 2 ^ 32 → t.pwr.wakeUs.toNat = (t0 - w) / 1000)) ∧
    (t0 < w + 2000000 ∨ w + 3000000 ≤ t0 → exec (.chrysalisFirstBeat t0) s = .next s) := by
  refine ⟨fun hedge hlo hhi => ⟨_, chrysalisFirstBeat_next hp hm hw ((eq_firstEdge_iff hedge).mpr ⟨hlo, hhi⟩), ?_⟩, fun hout => ?_⟩
  · obtain ⟨hpwr, hbeat, hsch⟩ := ((s.wakeEdge t0).raise (s.pwr.woken t0 s.sch.watch).2).wakeBlocks_frame
    rw [State.raise_pwr] at hpwr
    rw [State.raise_beat] at hbeat
    have hwoken : (s.wakeEdge t0).pwr = _ := PwrSt.woken_eq hw t0 s.sch.watch
    dsimp only
    rw [hpwr, hbeat, hsch, hwoken]
    exact ⟨rfl, rfl, BitVec.sub_add_cancel _ _, setBit_getLsbD_same _ (by decide), rfl, rfl, satWordU_toNat⟩
  · have hbounds := firstEdge_bounds w
    exact chrysalisFirstBeat_not hm hw (by omega)

/-! Pad releases (R512). -/

/-- A release of the pad group `k` waits for an edge, and before the first beat is refused. -/
theorem PwrSt.padRelease_judged (p : PwrSt) (k : Nat) (session : Word) (running : Bool) :
    let q := p.padRelease k session running
    q.latched = p.latched ∧ (running = true → q.release = setBit p.release k ∧ q.flags = p.flags) ∧
      (running = false → q.release = p.release ∧ q.flags = setBit p.flags 2) := by
  cases running with
  | true => exact ⟨rfl, fun _ => ⟨rfl, rfl⟩, fun h => absurd h (by decide)⟩
  | false => exact ⟨rfl, fun h => absurd h (by decide), fun _ => ⟨rfl, rfl⟩⟩

theorem State.ignoredIf_pwr (s : State) (refused : Bool) (block : Nat) : (s.ignoredIf refused block).pwr = s.pwr := by
  unfold State.ignoredIf
  split <;> rfl

theorem State.padRelease_direct (s : State) (who : Who) :
    (s.padRelease who 1).pwr = s.pwr.padRelease 0 (Who.sessionWord who) (decide (s.img.phase = .running)) := State.ignoredIf_pwr _ _ _

theorem State.padRelease_ann (s : State) (who : Who) :
    (s.padRelease who 2).pwr = s.pwr.padRelease 1 (Who.sessionWord who) (decide (s.img.phase = .running)) := State.ignoredIf_pwr _ _ _

/-- R512: a write of PWR_PADREL releases pads at the next edge. -/
theorem State.padRelease_judged (s : State) {t : State} {k : Nat} {session : Word}
    (h : t.pwr = s.pwr.padRelease k session (decide (s.img.phase = .running))) :
    t.pwr.latched = s.pwr.latched ∧
      (s.img.phase = .running → t.pwr.release = setBit s.pwr.release k ∧ t.pwr.flags = s.pwr.flags) ∧
      (s.img.phase ≠ .running → t.pwr.release = s.pwr.release ∧ t.pwr.flags = setBit s.pwr.flags 2) := by
  obtain ⟨hlatched, hrun, hnot⟩ := s.pwr.padRelease_judged k session (decide (s.img.phase = .running))
  rw [h]
  exact ⟨hlatched, fun hphase => hrun (decide_eq_true hphase), fun hphase => hnot (decide_eq_false hphase)⟩

theorem State.accessed_pwr (s : State) (who : Who) (block ofs : Nat) : (s.accessed who block ofs).pwr = s.pwr := rfl

theorem State.accessed_img (s : State) (who : Who) (block ofs : Nat) : (s.accessed who block ofs).img = s.img := rfl

theorem padReleaseDirect_judged {s : State} (ha : s.awake = true) (who : Who) :
    ∃ t, exec (.padReleaseDirect who) s = .next t ∧ t.pwr.latched = s.pwr.latched ∧
      (s.img.phase = .running → t.pwr.release = setBit s.pwr.release 0 ∧ t.pwr.flags = s.pwr.flags) ∧
      (s.img.phase ≠ .running → t.pwr.release = s.pwr.release ∧ t.pwr.flags = setBit s.pwr.flags 2) := by
  have h := (s.accessed who 0x11 0x24).padRelease_direct who
  rw [State.accessed_pwr, State.accessed_img] at h
  exact ⟨_, next_if_awake ha, s.padRelease_judged h⟩

theorem padReleaseAnn_judged {s : State} (ha : s.awake = true) (who : Who) :
    ∃ t, exec (.padReleaseAnn who) s = .next t ∧ t.pwr.latched = s.pwr.latched ∧
      (s.img.phase = .running → t.pwr.release = setBit s.pwr.release 1 ∧ t.pwr.flags = s.pwr.flags) ∧
      (s.img.phase ≠ .running → t.pwr.release = s.pwr.release ∧ t.pwr.flags = setBit s.pwr.flags 2) := by
  have h := (s.accessed who 0x11 0x24).padRelease_ann who
  rw [State.accessed_pwr, State.accessed_img] at h
  exact ⟨_, next_if_awake ha, s.padRelease_judged h⟩

/-- Settles O58: each command of the power controller has a law of its own; the entry at edge E goes step by step through R505. -/
theorem powerStates : Obligations.PowerStates := by
  refine ⟨fun s h flags addr alarm ht => ⟨fun cocoon hok => entryOrder_answered ht cocoon hok, powerWatch_judged ht, powerRun_judged ht⟩,
    fun s d => ⟨domainIdleExpire_gates, fun hdue => ?_⟩,
    fun s e ha he hs => ⟨handshakeAnswer_judged ha he hs, handshakeTimeout_judged ha he⟩,
    fun s x hb hx hage => programSwitch_changes hb hx hage,
    fun s e hrun hlive hclose he hage hblock => lowPowerEntry_enters hrun hlive hclose he hage hblock,
    fun s t0 hp => ⟨wakePin_judged hp t0, wakePortMatch_judged hp t0, fun w hm hw => chrysalisFirstBeat_judged hp t0 hm hw⟩,
    fun s who ha => ⟨padReleaseDirect_judged ha who, padReleaseAnn_judged ha who⟩⟩
  exact congrArg Host.Outcome.next (if_neg (by simp [hdue]))

end Sys2Proof.Machine
end
